-- ==== Sys2Proof/Word.lean ====
section
/-! DEFINITION. The words and bounded numbers of the TL-4: five-unit characters, bytes of frames and of the image, and the numbers the manual gives a range. -/

namespace Sys2Proof

/-- A byte of a highway frame or of the configuration image (chapter 12). -/
abbrev Byte := BitVec 8

/-- A five-unit character: bit k − 1 is unit k, set when the unit is marking (R4). -/
abbrev Code := BitVec 5

/-- A line of the card, 0 to 3. -/
abbrev Line := Fin 4

/-- A card's position on the shelf, 0 to 15 (R166). -/
abbrev Slot := Fin 16

/-- A send or take context of the highway port, 0 to 3 (R83). -/
abbrev CtxIx := Fin 4

/-- A message record of the store, 0 to 31 (section 3.4). -/
abbrev RecIx := Fin 32

/-- A copy within its record, 0 to 5 (R54). -/
abbrev CopyIx := Fin 6

/-- The generation of a record, 0 to 7, advancing from 7 to 0 (R53). -/
abbrev Gen := Fin 8

/-- A block of the pool, 0 to 191 (section 3.1). -/
abbrev BlockNo := Fin 192

/-- A station code: four characters (R64). -/
abbrev StationCode := List Code

/-- The state of a loop: current flowing or not. -/
inductive Level where
  | marking
  | spacing
  deriving DecidableEq, Repr

/-- The two inputs of a line that are read for its conditions (R10). -/
inductive LoopPin where
  /-- LOOPn_IN -/
  | loopIn
  /-- SENSEn -/
  | sense
  deriving DecidableEq, Repr

end Sys2Proof
end

