-- ==== Sys2Proof/Syntax.lean ====
section
/-! DEFINITION. The commands of the TL-4: one constructor for each row of spec/opcode_table.json, with the model's operands (the table gives the rows no operand bits). -/

namespace Sys2Proof

/-- A command: an operation or event of the part, whole and indivisible (95_what_each_step_holds.md).
DESIGN CHOICE (log 4): the operands. -/
inductive Instr where
  /-- RESET goes low (R166). -/
  | resetAsserted
  /-- RESET goes high; bit k of `straps` is SLOTk (R166). -/
  | resetReleased (straps : BitVec 4)
  /-- The last image byte arrives (R167); `busy` says whether the highway is BUSY at that moment (R79). -/
  | imageReadComplete (image : List Byte) (busy : Bool)
  /-- RESTART has read low for 20 ms (R172). -/
  | restartKeyPress
  /-- 500 ms of a lamp phase have passed (R173). -/
  | lampFlashToggle
  /-- The receiver reads LOOPn_IN marking (R5). -/
  | receiverMarkReading (line : Line)
  /-- LOOPn_IN goes from marking to spacing at a receiver (R5). -/
  | startTransition (line : Line)
  /-- The half-unit sample reads marking (R5). -/
  | falseStart (line : Line)
  /-- The stop sample of a character is read: `framing` when it reads spacing (R6, R7). -/
  | characterReceived (line : Line) (code : Code) (framing : Bool)
  /-- The silence timer runs out (R36). -/
  | silenceTimerExpiry (line : Line)
  /-- The spacing timer of the condition that reads `pin` runs out (R9). -/
  | spacingTimerExpiry (line : Line) (pin : LoopPin)
  /-- The marking timer of the condition that reads `pin` runs out (R9). -/
  | markingTimerExpiry (line : Line) (pin : LoopPin)
  /-- The open timer of the condition that reads `pin` runs out (R9). -/
  | openTimerExpiry (line : Line) (pin : LoopPin)
  /-- LOOPn_IN reads spacing at the middle of a unit of the card's own character: `unit` 0 to 4 for
  code units 1 to 5, 5 for the stop (R17). -/
  | breakHeard (line : Line) (unit : Fin 6)
  /-- The idle shift stage takes the held character (R13). -/
  | shiftStageBegin (line : Line)
  /-- A character's stop completes (R13). `shiftFirst` says which side of R12 is taken first when the
  end of the character brings an interruption: the shift stage's next take, or the withdrawal. -/
  | characterSent (line : Line) (shiftFirst : Bool)
  /-- A fill character's stop completes (R15). -/
  | fillSent (line : Line)
  /-- The run-up time ends (R19). -/
  | runUpTimerExpiry (line : Line)
  /-- The idle-stop countdown ends (R20). -/
  | idleStopExpiry (line : Line)
  /-- The turnaround hold-off ends (R149). -/
  | turnaroundTimerExpiry (line : Line)
  /-- A round begins; `rivals` are the keys the other contending cards present (R84). -/
  | arbitrationRound (rivals : List Nat)
  /-- The last byte of an OFFER of this card is driven (R98). -/
  | offerSent
  /-- The last byte of a CLAIM of this card is driven (R102). -/
  | claimSent
  /-- The last byte of a TEXT of this card is driven (R111). -/
  | textSent
  /-- The last byte of a CLOSE of this card is driven (R112). -/
  | closeSent
  /-- The last byte of a take context's RECEIPT or ABANDON is driven (R123). -/
  | takerAnswerSent
  /-- The last byte of an answer of the answer list is driven (R89). -/
  | answerSent
  /-- The last byte of this card's RESTART is driven (R92). -/
  | restartSent
  /-- An OFFER frame ends at this card (R99). -/
  | offerReceived (bytes : List Byte)
  /-- A CLAIM frame ends at this card (R103, R106). -/
  | claimReceived (bytes : List Byte)
  /-- A TEXT frame ends at this card (R119). -/
  | textReceived (bytes : List Byte)
  /-- A CLOSE frame ends at this card (R121). -/
  | closeReceived (bytes : List Byte)
  /-- A RECEIPT frame ends at this card (R114). -/
  | receiptReceived (bytes : List Byte)
  /-- An ABANDON frame of side TAKER ends at this card (R114). -/
  | abandonTakerReceived (bytes : List Byte)
  /-- An ABANDON frame of side ORIGIN ends at this card (R106). -/
  | abandonOriginReceived (bytes : List Byte)
  /-- A RESTART frame ends at this card (R93). -/
  | restartReceived (bytes : List Byte)
  /-- The 1 ms continuation window runs out (R87). -/
  | continuationWindowExpiry
  /-- The claim window of a send context runs out (R104). -/
  | claimWindowExpiry (ctx : CtxIx)
  /-- The backoff wait of a send context runs out (R74). -/
  | backoffWaitExpiry (ctx : CtxIx)
  /-- The receipt wait of a send context runs out (R116). -/
  | receiptWaitExpiry (ctx : CtxIx)
  /-- The stall timer of a take context runs out (R120). -/
  | stallTimerExpiry (ctx : CtxIx)
  /-- The restart hold-off runs out (R94). -/
  | holdOffExpiry
  /-- The idle supervisor shift stage takes the held character (R164). -/
  | supervisorShiftBegin
  /-- A supervisor character's stop completes (R161). -/
  | supervisorCharacterSent
  /-- A supervisor fill character's stop completes (R162). -/
  | supervisorFillSent
  /-- LOOPn_IN or SENSEn comes to read `level` (R9, R149). -/
  | loopTransition (line : Line) (pin : LoopPin) (level : Level)
  /-- RESTART has read high for 20 ms (R172). -/
  | restartKeyReleased
  deriving DecidableEq, Repr

end Sys2Proof
end

