-- ==== Sys2Proof/Config.lean ====
section
/-! DEFINITION. Sizes, limits and times the manual fixes for the part. The manual leaves no value of an effect unstated; what it leaves open is which of two things that meet is taken first, and those choices are the free values at the end. Times are in milliseconds. -/

namespace Sys2Proof.Config

/-- Character slots of a block (section 3.1). -/
def blockSize : Nat := 64
/-- Blocks of the pool (section 3.1). -/
def poolBlocks : Nat := 192
/-- Places of the supervisor queue (R157). -/
def supervisorPlaces : Nat := 16
/-- Entries of the answer list and of the ended-take list (R88, R89). -/
def portListMax : Nat := 8
/-- TEXT frames of one burst (R87). -/
def burstMax : Nat := 8
/-- The highest attempt of an offer (R71, R72). -/
def attemptMax : Nat := 15
/-- Heading characters after which an unfinished heading is malformed (R31). -/
def headingMax : Nat := 80
/-- Station codes a heading may collect (R32). -/
def codesMax : Nat := 6
/-- Characters after the last LF at which a preemption takes its boundary (R138). -/
def sinceLFMax : Nat := 72
/-- Saturation of a copy's fill count (R15). -/
def fillMax : Nat := 65535
/-- Saturation of a record's mutilated count (R23). -/
def mutilatedMax : Nat := 255
/-- Saturation of the lost-notice count (R158). -/
def lostMax : Nat := 255

/-- Continuous spacing that takes a CLOSED condition to OPEN (R9). -/
def spacingTime : Nat := 300
/-- Continuous marking that takes a condition to CLOSED (R9). -/
def markingTime : Nat := 200
/-- Time in OPEN after which a condition is FAILED (R9). -/
def openTime : Nat := 60000
/-- Silence that closes a message in HEADING (R36). -/
def headingSilence : Nat := 10000
/-- Silence that closes a message in TEXT (R36). -/
def textSilence : Nat := 60000
/-- The claim window (R98). -/
def claimWindow : Nat := 20
/-- The receipt wait (R112). -/
def receiptWait : Nat := 500
/-- The stall timer of a take context (R118). -/
def stallTime : Nat := 90000
/-- The hold-off of slot 1; slot n holds off n times as long (R94). -/
def holdOffStep : Nat := 50

/-! ### Choices the manual leaves open

The k-th choice a card makes is the value at k; nothing is known of it. -/

/-- Of a dead copy and a notice that seek one place at the same moment, the notice is taken first (R75, R160,
log 31). Where no notice seeks it, the dead copy takes it and no choice is made. -/
opaque noticeFirst : Nat → Bool
/-- Of the shift stage and the withdrawal of R150, the shift stage is taken first (R12, log 31). -/
opaque shiftFirst : Nat → Bool
/-- RESTART reads low when the card enters RUNNING (R172, log 25). -/
opaque keyLow : Nat → Bool

end Sys2Proof.Config
end

