-- ==== Sys2Proof/Machine/State.lean ====
section
/-! DEFINITION. The state of one TL-4 as plain data: every register, list, counter, mode and pin the manual gives the part, the queue of waiting commands, and the state right at reset. -/

namespace Sys2Proof.Machine

/-- A timer: stopped, or running with the time (ms) it was started with (log 2). -/
abbrev Timer := Option Nat

/-- Letters or figures: the shift state of a receiver or transmitter. -/
inductive Case where
  | letters
  | figures
  deriving DecidableEq, Repr

/-- The four precedence classes (section 1.1 of 00_scope.md). -/
inductive Precedence where
  | bulk
  | general
  | running
  | order
  deriving DecidableEq, Repr

/-! ### The configuration in force (R168 to R170) -/

/-- Line modes (R1). -/
inductive Mode where
  | full
  | half
  | send
  | recv
  deriving DecidableEq, Repr

/-- The resolved fields of one line (R168). -/
structure LineCfg where
  mode : Mode
  speed : Fin 4
  /-- Stop length: 2 units, else 1.5 (R3). -/
  stopTwo : Bool
  rest : Level
  /-- Run-up time in half-seconds (R19). -/
  runUp : Nat
  /-- Idle-stop time in tens of seconds, 0 for never (R20). -/
  idleStop : Nat
  inboundCheck : Bool
  numbering : Bool
  /-- Turnaround hold-off in seconds, HALF lines only (R148). -/
  turnaround : Nat
  deriving DecidableEq, Repr

/-- The code set (R169). -/
structure CodeSet where
  opening : Code
  closing : Code
  continuation : Code
  order : Code
  running : Code
  general : Code
  bulk : Code
  /-- The four codes of the incomplete group, in order of sending. -/
  incomplete : List Code
  deriving DecidableEq, Repr

/-- Preference of a station entry (R64). -/
inductive Preference where
  | primary
  | alternate
  deriving DecidableEq, Repr

/-- An entry of the station list (R64). -/
structure Station where
  code : StationCode
  line : Line
  preference : Preference
  deriving DecidableEq, Repr

/-- The configuration as resolved (R168 to R170). -/
structure Cfg where
  lines : Vector LineCfg 4
  codes : CodeSet
  stations : List Station
  /-- The intercept line, on a card that holds the intercept role (R65). -/
  intercept : Option Line
  threshold : Nat
  lcut : Nat
  runningCut : Bool
  supSpeed : Fin 4
  deriving DecidableEq, Repr

/-! ### Start-up unit -/

/-- Card states (R166, R167). -/
inductive CardState where
  | loading
  | running
  | unconfigured
  deriving DecidableEq, Repr

/-- What the start-up unit holds (chapter 11). -/
structure Boot where
  card : CardState
  /-- The RESET input is low (R166). -/
  resetLow : Bool
  slot : Slot
  /-- The image as read; empty until a read completes (R166). -/
  image : List Byte
  cfg : Cfg
  /-- A press of RESTART will be recognised (R172). -/
  keyArmed : Bool
  /-- The LAMP output is high (R173). -/
  lamp : Bool
  deriving DecidableEq, Repr

/-! ### Copies and records of the message store -/

/-- A copy: its record and its index in the copy table. -/
structure CopyRef where
  record : RecIx
  ix : CopyIx
  deriving DecidableEq, Repr

/-- The identity of a copy on the highway (R82). -/
structure Tag where
  slot : Slot
  record : RecIx
  gen : Gen
  ix : CopyIx
  deriving DecidableEq, Repr

/-- Copy states (R55). -/
inductive CopyState where
  | unrouted
  | queued
  | stacked
  | sending
  | offered
  | backoff
  | streaming
  | awaitReceipt
  | deadWaiting
  | deadQueued
  | settled
  deriving DecidableEq, Repr

/-- How a copy settled (R54). -/
inductive Settlement where
  | delivered
  | handed
  | printed
  deriving DecidableEq, Repr

/-- A place in a copy's text with the case in effect there. -/
structure TextPoint where
  index : Nat
  case : Case
  deriving DecidableEq, Repr

/-- One entry of a copy table (R54). A joined copy's own `state` field is not in use: its state is its
partner's (R56). -/
structure Copy where
  station : StationCode
  state : CopyState
  line : Option Line
  attempt : Nat
  spoil : Nat
  fill : Nat
  channel : Option Nat
  resume : Option TextPoint
  joinedWith : Option CopyIx
  outcome : Option Settlement
  deriving DecidableEq, Repr

/-- Record states (R51). -/
inductive RecState where
  | free
  | assembling
  | taking
  | stored
  | draining
  deriving DecidableEq, Repr

/-- Where a record's text comes from (section 3.4). -/
inductive Source where
  | none
  | originated (line : Line)
  | relayed (tag : Tag) (cpm : Nat)
  deriving DecidableEq, Repr

/-- A message record (section 3.4). -/
structure Record where
  state : RecState
  gen : Gen
  source : Source
  cls : Precedence
  count : Nat
  chain : List BlockNo
  complete : Bool
  overrun : Bool
  truncated : Bool
  sequenceGap : Bool
  headingDefaulted : Bool
  mutilated : Nat
  inbound : Option Nat
  copies : List Copy
  deriving DecidableEq, Repr

/-- The message store (chapter 3). `pool` is the block pool's character slots as a list of cells in
canonical form: address 64 × block + slot, rising, no cell holding 0 (log 8). -/
structure Store where
  pool : List Host.Cell
  freeList : List BlockNo
  reserved : Vector Nat 4
  pledges : Nat
  records : Vector Record 32
  deriving DecidableEq, Repr

/-- The router's ordered lists (R69, R75, R77). -/
structure Router where
  waitList : List CopyRef
  deadList : List CopyRef
  restartList : List CopyRef
  deriving DecidableEq, Repr

/-! ### Line units -/

/-- Receiver states (section 1.4). -/
inductive RxState where
  | waitMark
  | huntStart
  | inChar
  deriving DecidableEq, Repr

/-- The receiver (R5 to R8). -/
structure Receiver where
  state : RxState
  case : Case
  deriving DecidableEq, Repr

/-- Values of a line condition (R9). -/
inductive CondValue where
  | closed
  | open
  | failed
  deriving DecidableEq, Repr

/-- A line condition with its three timers (R9). -/
structure Cond where
  value : CondValue
  spacingTimer : Timer
  markingTimer : Timer
  openTimer : Timer
  deriving DecidableEq, Repr

/-- What a transmitter character was loaded for: stored text, a composed character, a case restore
(reported COMPOSED, R14), or fill (R15). -/
inductive Role where
  | text
  | composed
  | restore
  | fill
  deriving DecidableEq, Repr

/-- A character in a transmitter stage. `index` is the text index of a TEXT character; `last` marks
the last closing code of a transmission or interruption, or an item's last character. -/
structure TxChar where
  code : Code
  role : Role
  index : Nat
  last : Bool
  deriving DecidableEq, Repr

/-- A transmitter: holding stage, shift stage, line case and text case (R12 to R14, R164). -/
structure Tx where
  holding : Option TxChar
  shift : Option TxChar
  lineCase : Case
  textCase : Option Case
  deriving DecidableEq, Repr

/-- Motor states (section 1.9). -/
inductive MotorState where
  | stopped
  | runningUp
  | running
  deriving DecidableEq, Repr

/-- The motor control (R19, R20). -/
structure Motor where
  state : MotorState
  runUp : Timer
  idleStop : Timer
  deriving DecidableEq, Repr

/-- The turnaround of a HALF line (R148, R149). -/
structure Turnaround where
  waiting : Bool
  timer : Timer
  deriving DecidableEq, Repr

/-- Receive states of an assembler (section 2.1). -/
inductive AsmState where
  | hunt
  | heading
  | text
  | discard
  deriving DecidableEq, Repr

/-- Heading steps (section 2.1). -/
inductive HeadingStep where
  | group
  | designator
  | afterDesignator
  | code
  | afterCR
  deriving DecidableEq, Repr

/-- A character as handed to an assembler: value and receive case after it (R6). -/
structure Handed where
  code : Code
  case : Case
  deriving DecidableEq, Repr

/-- A message assembler (section 2.1). The group position is the length of `group`. -/
structure Assembler where
  state : AsmState
  openingCount : Nat
  closingCount : Nat
  step : HeadingStep
  group : List Handed
  currentCode : List Code
  collected : List StationCode
  headingChars : Nat
  silence : Timer
  record : Option RecIx
  expectation : Option Nat
  overrun : Bool
  deriving DecidableEq, Repr

/-- A composed character: `need` is the case it must be sent in, if it matters (R132, R161). -/
structure Composed where
  code : Code
  need : Option Case
  last : Bool
  deriving DecidableEq, Repr

/-- A copy with its lead (R127). -/
structure QEntry where
  copy : CopyRef
  lead : Nat
  deriving DecidableEq, Repr

/-- Start kinds (R130). -/
inductive StartKind where
  | fresh
  | resume
  deriving DecidableEq, Repr

/-- Phases of a scheduler (section 8.1). -/
inductive Phase where
  | head
  | text
  | tail
  | interrupt
  deriving DecidableEq, Repr

/-- An outbound scheduler (section 8.1). `stack` has its top first. -/
structure Sched where
  queue : List QEntry
  stack : List QEntry
  current : Option QEntry
  kind : StartKind
  phase : Phase
  composed : List Composed
  nextIndex : Nat
  lineStart : TextPoint
  sinceLF : Nat
  mark : Bool
  outstanding : Bool
  midText : Bool
  counter : Nat
  deriving DecidableEq, Repr

/-- One line of the card: its two inputs, line unit, assembler and scheduler. `condIn` is the
condition that reads LOOPn_IN, `condSense` the one that reads SENSEn (R10). -/
structure LineUnit where
  loopIn : Level
  sense : Level
  rx : Receiver
  condIn : Cond
  condSense : Cond
  tx : Tx
  motor : Motor
  turn : Option Turnaround
  asm : Assembler
  sched : Sched
  deriving DecidableEq, Repr

/-! ### Highway port -/

/-- Reasons of an ABANDON (R81). -/
inductive Reason where
  | late
  | claimedElsewhere
  | noTransfer
  | order
  | stall
  | claimLost
  deriving DecidableEq, Repr

/-- Frames of the highway (R81). `length = none` is OPEN; an ABANDON's side follows from its reason. -/
inductive Frame where
  | offer (tag : Tag) (cls : Precedence) (station : StationCode) (length : Option Nat) (cpm : Nat) (attempt : Nat)
  | claim (tag : Tag) (claimant : Slot)
  | text (tag : Tag) (sequence : Nat) (chars : List Code)
  | close (tag : Tag) (total : Nat) (check : Nat) (overrun : Bool) (truncated : Bool) (mutilated : Nat)
  | receipt (tag : Tag) (accepted : Bool)
  | abandon (tag : Tag) (reason : Reason)
  | restart (sender : Slot)
  deriving DecidableEq, Repr

/-- Frames a send context may have pending (R83). -/
inductive SendKind where
  | offer
  | text
  | close
  deriving DecidableEq, Repr

/-- Frames a take context may have pending (R83). -/
inductive TakeKind where
  | claim
  | accepted
  | spoiled
  | abandon (reason : Reason)
  deriving DecidableEq, Repr

/-- A pending frame of a send context, with its request number (R84, log 14). -/
structure SendPending where
  kind : SendKind
  stamp : Nat
  deriving DecidableEq, Repr

/-- A pending frame of a take context, with its request number (R84, log 14). -/
structure TakePending where
  kind : TakeKind
  stamp : Nat
  deriving DecidableEq, Repr

/-- A send context in use (sections 6.1 and 7.1). -/
structure Send where
  copy : CopyRef
  pending : Option SendPending
  window : Timer
  taken : Option Slot
  backoff : Timer
  blocksSent : Nat
  charsSent : Nat
  receiptWait : Timer
  deriving DecidableEq, Repr

/-- Phases of a take context in use (section 6.2). -/
inductive TakePhase where
  | claiming
  | taking
  deriving DecidableEq, Repr

/-- Steps of a TAKING context (section 7.3). -/
inductive TakeStep where
  | receiving
  | answering
  deriving DecidableEq, Repr

/-- A take context in use (sections 6.2 and 7.3). -/
structure Take where
  phase : TakePhase
  tag : Tag
  cls : Precedence
  station : StationCode
  length : Option Nat
  cpm : Nat
  attempt : Nat
  line : Line
  record : Option RecIx
  pending : Option TakePending
  step : TakeStep
  nextSeq : Nat
  lastCount : Nat
  received : Nat
  check : Nat
  overrun : Bool
  stall : Timer
  deriving DecidableEq, Repr

/-- An ABANDON of the answer list (R89). -/
structure Answer where
  tag : Tag
  reason : Reason
  cls : Precedence
  stamp : Nat
  deriving DecidableEq, Repr

/-- An entry of the ended-take list (R88). -/
structure Ended where
  tag : Tag
  cls : Precedence
  deriving DecidableEq, Repr

/-- Who asked for a frame (R83). -/
inductive FrameSource where
  | send (ctx : CtxIx)
  | take (ctx : CtxIx)
  | answer (tag : Tag) (reason : Reason)
  | restart
  deriving DecidableEq, Repr

/-- The frame being driven (R79). `live` is cleared when its source is freed or drops it: the frame is
completed and the report reaches no one. -/
structure Driven where
  source : FrameSource
  frame : Frame
  /-- It was won in a round, not sent in a continuation window (R86). -/
  byRound : Bool
  live : Bool
  deriving DecidableEq, Repr

/-- Tenure states (R84, R86); WINDOW names the context whose transfer it belongs to (R87). -/
inductive Tenure where
  | out
  | contending
  | sending
  | window (ctx : CtxIx)
  deriving DecidableEq, Repr

/-- The highway port (chapter 5). -/
structure Port where
  tenure : Tenure
  burst : Nat
  driven : Option Driven
  send : Vector (Option Send) 4
  take : Vector (Option Take) 4
  answers : List Answer
  ended : List Ended
  restartPending : Bool
  holdOff : Timer
  /-- The highway has not been seen IDLE since the card became RUNNING (R79, log 16). -/
  awaitIdle : Bool
  /-- The model's own: the number of the next request for a frame (log 14). -/
  stamp : Nat
  deriving DecidableEq, Repr

/-! ### Supervisor unit -/

/-- Which condition a line notice names (R155). -/
inductive CondName where
  | send
  | shared
  | receive
  deriving DecidableEq, Repr

/-- Causes of a TRUNCATED close (R38). -/
inductive TruncateCause where
  | headingSilence
  | textSilence
  | lineOpen
  deriving DecidableEq, Repr

/-- Fields of a line that a CONFIG notice may name (R177). -/
inductive LineField where
  | mode
  | speed
  | stop
  | rest
  | runUp
  | idle
  | turnaround
  deriving DecidableEq, Repr

/-- Items of a CONFIG notice (R177). -/
inductive ConfigItem where
  | line (line : Line) (field : LineField)
  | codes
  | station (position : Nat)
  | stationCount
  | intercept
  | threshold
  | lcut
  | supervisorSpeed
  deriving DecidableEq, Repr

/-- Actions of a CONFIG notice (section 11.2). -/
inductive ConfigAction where
  | clamped
  | rounded
  | defaulted
  | dropped
  | cleared
  deriving DecidableEq, Repr

/-- Notices with their fields (R159). -/
inductive Notice where
  | lineFailed (line : Line) (cond : CondName) (copies : Nat)
  | lineRestored (line : Line) (cond : CondName)
  | sequenceGap (line : Line) (expected received : Nat)
  | messageLost (line : Line)
  | overrunLine (line : Line) (channel : Option Nat)
  | overrunHighway (tag : Tag) (cls : Precedence)
  | truncated (line : Line) (cause : TruncateCause) (channel : Option Nat)
  | restartHeard (sender : Slot)
  | config (item : ConfigItem) (action : ConfigAction)
  | noticesLost (count : Nat)
  deriving DecidableEq, Repr

/-- Items of the supervisor queue (R157). -/
inductive Item where
  | notice (n : Notice)
  | dead (copy : CopyRef) (gen : Gen)
  deriving DecidableEq, Repr

/-- Print phases (R161, R162). -/
inductive PrintPhase where
  | idle
  | line
  | text
  | tail
  deriving DecidableEq, Repr

/-- The supervisor unit (chapter 10). -/
structure Supervisor where
  queue : List Item
  lost : Nat
  phase : PrintPhase
  composed : List Composed
  nextIndex : Nat
  outstanding : Bool
  midText : Bool
  /-- The head item's record was freed while it prints (R163, log 22). -/
  discarded : Bool
  tx : Tx
  deriving DecidableEq, Repr

/-! ### The whole card -/

/-- One TL-4. `pending` is the queue of commands that wait, first in, first out. -/
structure State where
  pending : List Instr
  /-- The model's own (log 31): how many of the choices that the spec leaves open have been made. -/
  choices : Nat
  boot : Boot
  lines : Vector LineUnit 4
  store : Store
  router : Router
  port : Port
  sup : Supervisor
  deriving DecidableEq, Repr

/-- What can stop the part with a fault: nothing (INVENTORY.md, Faults). -/
inductive Fault where
  deriving DecidableEq, Repr

/-- What the model turns away. -/
inductive Refusal where
  /-- Raised by `exec` for a command without a meaning: none is left. Safe: nothing is claimed of it. -/
  | notModelled (mnemonic : String)
  /-- Raised by a meaning for operands that `Instr.wellFormed` refuses: an image that is not 256 bytes,
  a key that is no key, the bytes of another row's frame (log 18). Safe: no such event exists. -/
  | illFormed
  deriving DecidableEq, Repr

/-! ### The values at reset -/

/-- A copy that does not exist; read in place of an index beyond a copy table. -/
def Copy.blank : Copy :=
  { station := [], state := .unrouted, line := none, attempt := 0, spoil := 0, fill := 0,
    channel := none, resume := none, joinedWith := none, outcome := none }

/-- A FREE record of generation `g` (R60, R62). DESIGN CHOICE (log 6): the class of a FREE record, and its
text_complete, which R60 does not name among what is cleared. -/
def Record.cleared (g : Gen) : Record :=
  { state := .free, gen := g, source := .none, cls := .bulk, count := 0, chain := [],
    complete := false, overrun := false, truncated := false, sequenceGap := false,
    headingDefaulted := false, mutilated := 0, inbound := none, copies := [] }

/-- The store at reset (R62). DESIGN CHOICE (log 8): the pool's slots hold nothing, also those that held
text before a RESET, of which R62 says nothing. -/
def Store.initial : Store :=
  { pool := [], freeList := List.finRange 192, reserved := Vector.replicate 4 0, pledges := 0,
    records := Vector.replicate 32 (Record.cleared 0) }

/-- The router's lists at reset (R78). -/
def Router.initial : Router := { waitList := [], deadList := [], restartList := [] }

/-- A transmitter with both stages empty (R22, R165). -/
def Tx.initial : Tx := { holding := none, shift := none, lineCase := .letters, textCase := none }

/-- A condition OPEN with its timers stopped (R22). -/
def Cond.atRest : Cond :=
  { value := .open, spacingTimer := none, markingTimer := none, openTimer := none }

/-- An assembler in HUNT (R42). -/
def Assembler.initial : Assembler :=
  { state := .hunt, openingCount := 0, closingCount := 0, step := .group, group := [],
    currentCode := [], collected := [], headingChars := 0, silence := none, record := none,
    expectation := none, overrun := false }

/-- A scheduler at rest (R143). DESIGN CHOICE (log 21): the items that belong to a current copy. -/
def Sched.initial : Sched :=
  { queue := [], stack := [], current := none, kind := .fresh, phase := .head, composed := [],
    nextIndex := 0, lineStart := ⟨0, .letters⟩, sinceLF := 0, mark := false, outstanding := false,
    midText := false, counter := 1 }

/-- A motor STOPPED with no timer running (R22). -/
def Motor.atRest : Motor := { state := .stopped, runUp := none, idleStop := none }

/-- A line as RESET holds it, with its two inputs reading `loopIn` and `sense` (R22, R42, R143, R156). -/
def LineUnit.held (loopIn sense : Level) : LineUnit :=
  { loopIn := loopIn, sense := sense, rx := ⟨.waitMark, .letters⟩, condIn := Cond.atRest,
    condSense := Cond.atRest, tx := Tx.initial, motor := Motor.atRest, turn := none,
    asm := Assembler.initial, sched := Sched.initial }

/-- The highway port as a cold start leaves it (R95, R108). -/
def Port.initial : Port :=
  { tenure := .out, burst := 0, driven := none, send := Vector.replicate 4 none,
    take := Vector.replicate 4 none, answers := [], ended := [], restartPending := false,
    holdOff := none, awaitIdle := false, stamp := 0 }

/-- The supervisor unit at reset (R165). -/
def Supervisor.initial : Supervisor :=
  { queue := [], lost := 0, phase := .idle, composed := [], nextIndex := 0, outstanding := false,
    midText := false, discarded := false, tx := Tx.initial }

/-- A line's configuration before an image is in force. DESIGN CHOICE (log 6). -/
def LineCfg.unset : LineCfg :=
  { mode := .recv, speed := 1, stopTwo := true, rest := .marking, runUp := 0, idleStop := 0,
    inboundCheck := false, numbering := false, turnaround := 0 }

/-- The default code set (R169). -/
def CodeSet.default : CodeSet :=
  { opening := 13, closing := 29, continuation := 12, order := 23, running := 5, general := 9,
    bulk := 3, incomplete := [14, 14, 14, 14] }

/-- The configuration before an image is in force (R78 for the router's part). DESIGN CHOICE (log 6). -/
def Cfg.unset : Cfg :=
  { lines := Vector.replicate 4 LineCfg.unset, codes := CodeSet.default, stations := [],
    intercept := none, threshold := 4, lcut := 1536, runningCut := false, supSpeed := 1 }

/-- The start-up unit with RESET held low (R166, R173). DESIGN CHOICE (log 6): slot, image, key. -/
def Boot.initial : Boot :=
  { card := .loading, resetLow := true, slot := 0, image := [], cfg := Cfg.unset, keyArmed := true,
    lamp := false }

/-- The card with RESET held low and no command waiting. DESIGN CHOICE: every loop reads marking (log 5),
and no choice has been made (log 31). -/
def State.reset : State :=
  { pending := [], choices := 0, boot := Boot.initial, lines := Vector.replicate 4 (LineUnit.held .marking .marking),
    store := Store.initial, router := Router.initial, port := Port.initial,
    sup := Supervisor.initial }

end Sys2Proof.Machine
end

