-- ==== Sys2Proof/Machine/Operands.lean ====
section
/-! DEFINITION. What the operands of commands and the outputs in fixed formats mean: the five-unit code tables, character rates, highway frames as bytes with their check, the arbitration key, and the configuration image. -/

namespace Sys2Proof.Machine

/-! ### The five-unit code (R4, R174) -/

/-- Letters shift (R4). -/
def lettersShift : Code := 31
/-- Figures shift (R4). -/
def figuresShift : Code := 27
/-- Space (R4). -/
def spaceCode : Code := 4
/-- Carriage return (R4). -/
def crCode : Code := 8
/-- Line feed (R4). -/
def lfCode : Code := 2
/-- Blank (R4). -/
def blankCode : Code := 0

/-- The case a character sets, when it is a shift character (R4). -/
def shiftOf (c : Code) : Option Case :=
  if c = lettersShift then some .letters
  else if c = figuresShift then some .figures
  else none

/-- The shift character of a case (R14). -/
def shiftCode : Case → Code
  | .letters => lettersShift
  | .figures => figuresShift

/-- The code character test of R31 on the value alone: none of the values the part acts on. -/
def isCodeValue (c : Code) : Bool :=
  c ≠ spaceCode && c ≠ crCode && c ≠ lfCode && c ≠ blankCode && c ≠ lettersShift && c ≠ figuresShift

/-- A code character as handed to an assembler (R31). -/
def isCodeChar (h : Handed) : Bool := h.case = .letters && isCodeValue h.code

/-- The digit table of R4; the last entry serves every number above 8. -/
def digitCode : Nat → Code
  | 0 => 22
  | 1 => 23
  | 2 => 19
  | 3 => 1
  | 4 => 10
  | 5 => 16
  | 6 => 21
  | 7 => 7
  | 8 => 6
  | _ => 24

/-- The digit a value stands for in figures case (R4). -/
def digitOf (c : Code) : Option Nat := (List.range 10).find? fun d => digitCode d = c

/-- Three decimal digits, hundreds first (R133, R177). -/
def threeDigits (n : Nat) : List Nat := [n / 100 % 10, n / 10 % 10, n % 10]

/-- The decimal digits of a number below 1,000, no leading zeros (R177). -/
def decimalDigits (n : Nat) : List Nat :=
  if n < 10 then [n] else if n < 100 then [n / 10, n % 10] else threeDigits n

/-- The letters of notice lines (R174). -/
inductive Letter where
  | A | B | C | D | E | F | G | H | I | J | K | L | M
  | N | O | P | Q | R | S | T | U | V | W | X | Y | Z
  deriving DecidableEq, Repr

/-- The letter table of R174. -/
def letterCode : Letter → Code
  | .A => 3 | .B => 25 | .C => 14 | .D => 9 | .E => 1 | .F => 13 | .G => 26
  | .H => 20 | .I => 6 | .J => 11 | .K => 15 | .L => 18 | .M => 28
  | .N => 12 | .O => 24 | .P => 22 | .Q => 23 | .R => 10 | .S => 5 | .T => 16
  | .U => 7 | .V => 30 | .W => 19 | .X => 29 | .Y => 21 | .Z => 17

/-! ### Speed and character rate (R2, R3) -/

/-- Baud times 100 by speed code (R2). -/
def baudCenti (speed : Fin 4) : Nat :=
  match speed with
  | 0 => 4545
  | 1 => 5000
  | 2 => 7500
  | 3 => 10000

/-- Characters per minute: floor(60 × baud / units per character), with 7.5 or 8 units (R3). -/
def cpmOf (speed : Fin 4) (stopTwo : Bool) : Nat :=
  60 * baudCenti speed * 2 / (100 * (if stopTwo then 16 else 15))

/-- The eight rates of the table of R3 (R175: the source cpm of an OFFER is one of them). -/
def cpmRates : List Nat := [363, 340, 400, 375, 600, 562, 800, 750]

/-! ### Precedence classes (R48) -/

/-- The value of a class (R48). -/
def Precedence.value : Precedence → Nat
  | .bulk => 0
  | .general => 1
  | .running => 2
  | .order => 3

/-- The class of a value (chapter 12). -/
def precedenceOf (n : Nat) : Option Precedence :=
  match n with
  | 0 => some .bulk
  | 1 => some .general
  | 2 => some .running
  | 3 => some .order
  | _ => none

/-- The floor of a class (R48). -/
def floorOf : Precedence → Nat
  | .order => 0
  | .running => 12
  | .general => 32
  | .bulk => 64

/-! ### The arbitration key (R84 and chapter 12) -/

/-- Kind rank (R84). -/
def Frame.rank : Frame → Nat
  | .restart _ => 7
  | .receipt _ _ => 6
  | .abandon _ _ => 6
  | .claim _ _ => 5
  | .close _ _ _ _ _ _ => 4
  | .text _ _ _ => 3
  | .offer _ _ _ _ _ _ => 2

/-- The key as one number: class × 128, plus kind rank × 16, plus 15 − slot (chapter 12). -/
def keyNumber (cls : Precedence) (rank : Nat) (slot : Slot) : Nat :=
  cls.value * 128 + rank * 16 + (15 - slot.val)

/-! ### Text check (R113) -/

/-- Adds the characters from text index `i` on to a running check. -/
def textCheckFrom (i acc : Nat) : List Code → Nat
  | [] => acc
  | c :: cs => textCheckFrom (i + 1) ((acc + c.toNat * (i % 7 + 1)) % 65536) cs

/-- The text check of a run of characters (R113). -/
def textCheck (cs : List Code) : Nat := textCheckFrom 0 0 cs

/-! ### Frames as bytes (chapter 12, R175) -/

/-- One bit into the CRC-16 remainder (R175, step 3). -/
def crcBit (r : BitVec 16) (bit : Bool) : BitVec 16 :=
  if bit ^^ r.msb then (r <<< 1) ^^^ 4129#16 else r <<< 1

/-- One byte into the remainder, most significant bit first (R175, step 2). -/
def crcByte (r : BitVec 16) (b : Byte) : BitVec 16 :=
  [7, 6, 5, 4, 3, 2, 1, 0].foldl (fun r k => crcBit r (b.getLsbD k)) r

/-- The frame check of a run of bytes (R175). -/
def crc16 (bs : List Byte) : BitVec 16 := bs.foldl crcByte 65535#16

/-- The check as sent: high byte first (R175, step 4). -/
def checkBytes (c : BitVec 16) : List Byte := [(c >>> 8).setWidth 8, c.setWidth 8]

/-- A number as one byte. -/
def byteOf (n : Nat) : Byte := BitVec.ofNat 8 n

/-- A number as two bytes, high byte first. -/
def wordBytes (n : Nat) : List Byte := [byteOf (n / 256), byteOf n]

/-- The number two bytes hold, high byte first. -/
def wordOf (hi lo : Byte) : Nat := hi.toNat * 256 + lo.toNat

/-- A tag's three bytes (section 12.2). -/
def Tag.bytes (t : Tag) : List Byte :=
  [byteOf t.slot.val, byteOf t.record.val, byteOf (t.gen.val * 8 + t.ix.val)]

/-- The tag three bytes name, if each is in range (R175). -/
def tagOf (a b c : Byte) : Option Tag :=
  if h : a.toNat < 16 ∧ b.toNat < 32 ∧ c.toNat / 8 < 8 ∧ c.toNat % 8 < 6 then
    some ⟨⟨a.toNat, h.1⟩, ⟨b.toNat, h.2.1⟩, ⟨c.toNat / 8, h.2.2.1⟩, ⟨c.toNat % 8, h.2.2.2⟩⟩
  else none

/-- The characters a run of bytes holds, if each is 0 to 31 (R175). -/
def codesOf : List Byte → Option (List Code)
  | [] => some []
  | b :: bs => if b.toNat < 32 then (codesOf bs).map (b.setWidth 5 :: ·) else none

/-- Characters one value per byte. -/
def codeBytes (cs : List Code) : List Byte := cs.map (·.setWidth 8)

/-- The side and reason bytes of an ABANDON (section 12.2); the pairs are those of R81. -/
def Reason.bytes : Reason → List Byte
  | .late => [1, 1]
  | .claimedElsewhere => [1, 2]
  | .noTransfer => [2, 3]
  | .order => [2, 4]
  | .stall => [2, 5]
  | .claimLost => [2, 6]

/-- The reason two bytes name, if they are a pair of R81 (R175). -/
def reasonOf (side reason : Byte) : Option Reason :=
  [Reason.late, .claimedElsewhere, .noTransfer, .order, .stall, .claimLost].find?
    fun r => r.bytes = [side, reason]

/-- The reason is one that the origin gives (R81). -/
def Reason.byOrigin : Reason → Bool
  | .late | .claimedElsewhere => true
  | .noTransfer | .order | .stall | .claimLost => false

/-- The flags byte of a CLOSE (section 12.2). -/
def flagsByte (overrun truncated : Bool) : Byte :=
  byteOf ((if overrun then 1 else 0) + (if truncated then 2 else 0))

/-- The bytes of a frame before its check, from the kind byte on (section 12.2). -/
def Frame.body : Frame → List Byte
  | .offer tag cls station length cpm attempt =>
    byteOf 1 :: tag.bytes ++ byteOf cls.value :: codeBytes station
      ++ wordBytes (length.getD 65535) ++ wordBytes cpm ++ [byteOf attempt]
  | .claim tag claimant => byteOf 2 :: tag.bytes ++ [byteOf claimant.val]
  | .text tag sequence chars =>
    byteOf 3 :: tag.bytes ++ byteOf sequence :: byteOf chars.length :: codeBytes chars
  | .close tag total check overrun truncated mutilated =>
    byteOf 4 :: tag.bytes ++ wordBytes total ++ wordBytes check
      ++ [flagsByte overrun truncated, byteOf mutilated]
  | .receipt tag accepted => byteOf 5 :: tag.bytes ++ [if accepted then 1 else 2]
  | .abandon tag reason => byteOf 6 :: tag.bytes ++ reason.bytes
  | .restart sender => [byteOf 7, byteOf sender.val]

/-- A frame as the port drives it: its bytes and their check (R175). -/
def Frame.encode (f : Frame) : List Byte := f.body ++ checkBytes (crc16 f.body)

/-- An OFFER's bytes after the kind byte. -/
def parseOffer : List Byte → Option Frame
  | [s, r, x, c, a, b, d, e, lh, ll, ch, cl, att] => do
    let tag ← tagOf s r x
    let cls ← precedenceOf c.toNat
    let station ← codesOf [a, b, d, e]
    let length := wordOf lh ll
    let cpm := wordOf ch cl
    if (length ≤ 12288 ∨ length = 65535) ∧ cpm ∈ cpmRates ∧ 1 ≤ att.toNat ∧ att.toNat ≤ 15 then
      some (.offer tag cls station (if length = 65535 then none else some length) cpm att.toNat)
    else none
  | _ => none

/-- A CLAIM's bytes after the kind byte. -/
def parseClaim : List Byte → Option Frame
  | [s, r, x, c] => do
    let tag ← tagOf s r x
    if h : c.toNat < 16 then some (.claim tag ⟨c.toNat, h⟩) else none
  | _ => none

/-- A TEXT's bytes after the kind byte. -/
def parseText : List Byte → Option Frame
  | s :: r :: x :: q :: n :: chars => do
    let tag ← tagOf s r x
    let codes ← codesOf chars
    if q.toNat ≤ 191 ∧ 1 ≤ n.toNat ∧ n.toNat ≤ 64 ∧ chars.length = n.toNat then
      some (.text tag q.toNat codes)
    else none
  | _ => none

/-- A CLOSE's bytes after the kind byte. -/
def parseClose : List Byte → Option Frame
  | [s, r, x, th, tl, ch, cl, f, m] => do
    let tag ← tagOf s r x
    if wordOf th tl ≤ 12288 ∧ f.toNat ≤ 3 then
      some (.close tag (wordOf th tl) (wordOf ch cl) (f.getLsbD 0) (f.getLsbD 1) m.toNat)
    else none
  | _ => none

/-- A RECEIPT's bytes after the kind byte. -/
def parseReceipt : List Byte → Option Frame
  | [s, r, x, o] => do
    let tag ← tagOf s r x
    if o = 1 then some (.receipt tag true) else if o = 2 then some (.receipt tag false) else none
  | _ => none

/-- An ABANDON's bytes after the kind byte. -/
def parseAbandon : List Byte → Option Frame
  | [s, r, x, side, reason] => do
    let tag ← tagOf s r x
    let why ← reasonOf side reason
    some (.abandon tag why)
  | _ => none

/-- A RESTART's bytes after the kind byte. -/
def parseRestart : List Byte → Option Frame
  | [s] => if h : s.toNat < 16 then some (.restart ⟨s.toNat, h⟩) else none
  | _ => none

/-- The frame a body holds, by its kind byte (R80, R175). -/
def parseBody : List Byte → Option Frame
  | [] => none
  | kind :: rest =>
    if kind = 1 then parseOffer rest
    else if kind = 2 then parseClaim rest
    else if kind = 3 then parseText rest
    else if kind = 4 then parseClose rest
    else if kind = 5 then parseReceipt rest
    else if kind = 6 then parseAbandon rest
    else if kind = 7 then parseRestart rest
    else none

/-- A received frame as R80 and R175 judge it; none is a frame the receiver ignores. -/
def parseFrame (bytes : List Byte) : Option Frame :=
  let body := bytes.take (bytes.length - 2)
  if bytes.drop (bytes.length - 2) = checkBytes (crc16 body) then parseBody body else none

/-- Every field lies in its range of R81. -/
def Frame.inRange : Frame → Bool
  | .offer _ _ station length cpm attempt =>
    station.length = 4 && decide (length.getD 0 ≤ 12288) && decide (cpm ∈ cpmRates)
      && decide (1 ≤ attempt) && decide (attempt ≤ 15)
  | .claim _ _ => true
  | .text _ sequence chars =>
    decide (sequence ≤ 191) && decide (1 ≤ chars.length) && decide (chars.length ≤ 64)
  | .close _ total check _ _ mutilated =>
    decide (total ≤ 12288) && decide (check < 65536) && decide (mutilated ≤ 255)
  | .receipt _ _ => true
  | .abandon _ _ => true
  | .restart _ => true

/-! ### The configuration image (R168 to R171, R176) -/

/-- The byte of the image at an index, as a number. -/
def imageAt (im : List Byte) (i : Nat) : Nat := ((im[i]?).getD 0).toNat

/-- The image passes its check: its bytes sum to 0 mod 256 (R167). -/
def imagePasses (im : List Byte) : Bool := (im.map (·.toNat)).sum % 256 = 0

/-- One CONFIG notice. -/
def configNotice (item : ConfigItem) (action : ConfigAction) : List Notice := [.config item action]

/-- A field that takes a default when its byte is out of range (R168). -/
def orDefault {α : Type} (read : Option α) (dflt : α) (item : ConfigItem) : α × List Notice :=
  match read with
  | some v => (v, [])
  | none => (dflt, configNotice item .defaulted)

/-- A field clamped to a maximum (R168). -/
def orClamp (v max : Nat) (item : ConfigItem) : Nat × List Notice :=
  if v ≤ max then (v, []) else (max, configNotice item .clamped)

/-- A mode byte (R176). -/
def modeOf (v : Nat) : Option Mode :=
  match v with
  | 0 => some .full
  | 1 => some .half
  | 2 => some .send
  | 3 => some .recv
  | _ => none

/-- A number 0 to 3. -/
def fourOf (v : Nat) : Option (Fin 4) := if h : v < 4 then some ⟨v, h⟩ else none

/-- A byte of two listed values (R176): 0 and 1. -/
def twoOf {α : Type} (zero one : α) (v : Nat) : Option α :=
  match v with
  | 0 => some zero
  | 1 => some one
  | _ => none

/-- The turnaround hold-off, read for a HALF line only (R168, log 27). -/
def turnaroundOf (mode : Mode) (v : Nat) (item : ConfigItem) : Nat × List Notice :=
  if mode = .half then
    if 1 ≤ v ∧ v ≤ 15 then (v, []) else (3, configNotice item .defaulted)
  else (0, [])

/-- The fields of line `n`, with the notices in the order of the table of R168. -/
def resolveLine (im : List Byte) (n : Line) : LineCfg × List Notice :=
  let at_ := fun k => imageAt im (9 * n.val + k)
  let mode := orDefault (modeOf (at_ 0)) .recv (.line n .mode)
  let speed := orDefault (fourOf (at_ 1)) 1 (.line n .speed)
  let stop := orDefault (twoOf false true (at_ 2)) true (.line n .stop)
  let rest := orDefault (twoOf Level.marking Level.spacing (at_ 3)) .marking (.line n .rest)
  let runUp := orClamp (at_ 4) 15 (.line n .runUp)
  let idle := orClamp (at_ 5) 60 (.line n .idle)
  let turn := turnaroundOf mode.1 (at_ 8) (.line n .turnaround)
  ({ mode := mode.1, speed := speed.1, stopTwo := stop.1, rest := rest.1, runUp := runUp.1,
     idleStop := idle.1, inboundCheck := at_ 6 ≠ 0, numbering := at_ 7 ≠ 0, turnaround := turn.1 },
   mode.2 ++ speed.2 ++ stop.2 ++ rest.2 ++ runUp.2 ++ idle.2 ++ turn.2)

/-- The values no opening, closing, continuation or designator code may take (R169). -/
def actedOn : List Nat := [0, 2, 4, 8, 27, 31]

/-- The four tests of R169 on the image's codes. -/
def codesStand (im : List Byte) : Bool :=
  let named := (List.range 7).map fun k => imageAt im (36 + k)
  let group := (List.range 4).map fun k => imageAt im (43 + k)
  let designators := (List.range 4).map fun k => imageAt im (39 + k)
  (named ++ group).all (· < 32) && named.all (fun v => v ∉ actedOn)
    && decide designators.Nodup && imageAt im 36 ≠ imageAt im 37

/-- The code set, resolved as a whole (R169). -/
def resolveCodes (im : List Byte) : CodeSet × List Notice :=
  let code := fun i => BitVec.ofNat 5 (imageAt im i)
  if codesStand im then
    ({ opening := code 36, closing := code 37, continuation := code 38, order := code 39,
       running := code 40, general := code 41, bulk := code 42,
       incomplete := [code 43, code 44, code 45, code 46] }, [])
  else (CodeSet.default, configNotice .codes .defaulted)

/-- The entry at position `p` (1 to 24), unless R170 drops it. -/
def resolveEntry (im : List Byte) (lines : Vector LineCfg 4) (kept : List Station) (p : Nat) :
    Option Station × List Notice :=
  let base := 55 + 6 * (p - 1)
  let raw := (List.range 4).map fun k => imageAt im (base + k)
  let code := raw.map (BitVec.ofNat 5 ·)
  if raw.all (· < 32) && code.all isCodeValue then
    match fourOf (imageAt im (base + 4)) with
    | none => (none, configNotice (.station p) .dropped)
    | some line =>
      if lines[line].mode = .recv ∨ kept.any (·.code = code) then
        (none, configNotice (.station p) .dropped)
      else
        match imageAt im (base + 5) with
        | 1 => (some ⟨code, line, .primary⟩, [])
        | 2 => (some ⟨code, line, .alternate⟩, [])
        | _ => (some ⟨code, line, .alternate⟩, configNotice (.station p) .defaulted)
  else (none, configNotice (.station p) .dropped)

/-- The entries at positions `p` on, `left` of them, after those already kept (R170, item 1). -/
def resolveEntries (im : List Byte) (lines : Vector LineCfg 4) :
    Nat → Nat → List Station → List Station × List Notice
  | 0, _, kept => (kept, [])
  | left + 1, p, kept =>
    let e := resolveEntry im lines kept p
    let rest := resolveEntries im lines left (p + 1) (kept ++ e.1.toList)
    (rest.1, e.2 ++ rest.2)

/-- The intercept role and line (R170, item 2). -/
def resolveIntercept (im : List Byte) (lines : Vector LineCfg 4) : Option Line × List Notice :=
  if imageAt im 51 = 0 then (none, [])
  else
    match fourOf (imageAt im 52) with
    | none => (none, configNotice .intercept .cleared)
    | some line =>
      if lines[line].mode = .recv then (none, configNotice .intercept .cleared) else (some line, [])

/-- The intercept threshold (R170, item 2). -/
def resolveThreshold (im : List Byte) : Nat × List Notice :=
  let v := imageAt im 53
  if 3 ≤ v ∧ v ≤ 15 then (v, []) else (4, configNotice .threshold .defaulted)

/-- Lcut (R170, item 3). -/
def resolveLcut (im : List Byte) : Nat × List Notice :=
  let v := imageAt im 49 * 256 + imageAt im 50
  let rounded := v - v % 64
  if v = 0 then (1536, configNotice .lcut .defaulted)
  else if rounded < 64 then (64, configNotice .lcut .clamped)
  else if 3072 < rounded then (3072, configNotice .lcut .clamped)
  else if rounded ≠ v then (rounded, configNotice .lcut .rounded)
  else (v, [])

/-- The configuration an image gives, with the CONFIG notices in the order of R171. -/
def resolveImage (im : List Byte) : Cfg × List Notice :=
  let l0 := resolveLine im 0
  let l1 := resolveLine im 1
  let l2 := resolveLine im 2
  let l3 := resolveLine im 3
  let lines : Vector LineCfg 4 := #v[l0.1, l1.1, l2.1, l3.1]
  let codes := resolveCodes im
  let count := orClamp (imageAt im 54) 24 .stationCount
  let stations := resolveEntries im lines count.1 1 []
  let intercept := resolveIntercept im lines
  let threshold := resolveThreshold im
  let lcut := resolveLcut im
  let speed := orDefault (fourOf (imageAt im 48)) 1 .supervisorSpeed
  ({ lines := lines, codes := codes.1, stations := stations.1, intercept := intercept.1,
     threshold := threshold.1, lcut := lcut.1, runningCut := imageAt im 47 ≠ 0,
     supSpeed := speed.1 },
   l0.2 ++ l1.2 ++ l2.2 ++ l3.2 ++ codes.2 ++ count.2 ++ stations.2 ++ intercept.2
     ++ threshold.2 ++ lcut.2 ++ speed.2)

end Sys2Proof.Machine
end

