-- ==== Sys2Proof/Machine/Ops.lean ====
section
/-! DEFINITION. The named operations over the card's state that every meaning shares: access to lines, records, copies and contexts; the block pool; the store's allocation, reservation and freeing. -/

namespace Sys2Proof.Machine

/-! ### Access -/

/-- Line unit `n`. -/
def State.line (s : State) (n : Line) : LineUnit := s.lines[n]

/-- The card with line unit `n` changed. -/
def State.modLine (s : State) (n : Line) (f : LineUnit → LineUnit) : State :=
  { s with lines := s.lines.set n (f (s.lines[n])) }

/-- The configuration of line `n`. -/
def State.lineCfg (s : State) (n : Line) : LineCfg := s.boot.cfg.lines[n]

/-- The card with the scheduler of line `n` changed. -/
def State.modSched (s : State) (n : Line) (f : Sched → Sched) : State :=
  s.modLine n fun l => { l with sched := f l.sched }

/-- The card with the assembler of line `n` changed. -/
def State.modAsm (s : State) (n : Line) (f : Assembler → Assembler) : State :=
  s.modLine n fun l => { l with asm := f l.asm }

/-- The card with the transmitter of line `n` changed. -/
def State.modTx (s : State) (n : Line) (f : Tx → Tx) : State :=
  s.modLine n fun l => { l with tx := f l.tx }

/-- The card with the motor control of line `n` changed. -/
def State.modMotor (s : State) (n : Line) (f : Motor → Motor) : State :=
  s.modLine n fun l => { l with motor := f l.motor }

/-- The card with its message store changed. -/
def State.modStore (s : State) (f : Store → Store) : State := { s with store := f s.store }

/-- The card with its router's lists changed. -/
def State.modRouter (s : State) (f : Router → Router) : State := { s with router := f s.router }

/-- The card with its highway port changed. -/
def State.modPort (s : State) (f : Port → Port) : State := { s with port := f s.port }

/-- The card with its supervisor unit changed. -/
def State.modSup (s : State) (f : Supervisor → Supervisor) : State := { s with sup := f s.sup }

/-- A choice that the spec leaves open has been made; the next one is another (log 31). -/
def State.chosen (s : State) : State := { s with choices := s.choices + 1 }

/-- Message record `r`. -/
def State.record (s : State) (r : RecIx) : Record := s.store.records[r]

/-- The card with record `r` changed. -/
def State.modRecord (s : State) (r : RecIx) (f : Record → Record) : State :=
  s.modStore fun st => { st with records := st.records.set r (f st.records[r]) }

/-- The entry of a record's copy table at an index. -/
def Record.copy (r : Record) (i : CopyIx) : Copy := (r.copies[i.val]?).getD Copy.blank

/-- The copy a reference names. -/
def State.copy (s : State) (ref : CopyRef) : Copy := (s.record ref.record).copy ref.ix

/-- The card with one copy changed. -/
def State.modCopy (s : State) (ref : CopyRef) (f : Copy → Copy) : State :=
  s.modRecord ref.record fun r => { r with copies := r.copies.modify ref.ix.val f }

/-- The card with one copy in another state; a change that leaves SETTLED is not made (R55). -/
def State.setCopyState (s : State) (ref : CopyRef) (st : CopyState) : State :=
  s.modCopy ref fun c => { c with state := if c.state = .settled then .settled else st }

/-- The state of a copy: a joined copy's is its partner's (R56). -/
def State.copyState (s : State) (ref : CopyRef) : CopyState :=
  match (s.copy ref).joinedWith with
  | some p => (s.copy ⟨ref.record, p⟩).state
  | none => (s.copy ref).state

/-- The class of a copy is its record's (section 3.4). -/
def State.classOf (s : State) (ref : CopyRef) : Precedence := (s.record ref.record).cls

/-- Raises a count by 1, holding at its maximum. -/
def saturate (max n : Nat) : Nat := if n < max then n + 1 else max

/-! ### The block pool (R43)

The pool's slots are cells (address, byte), address 64 × block + slot, addresses rising, no cell
holding what an unlisted slot reads as (log 8). -/

/-- The byte at an address; an unlisted slot reads as 0. DESIGN CHOICE (log 8). -/
def poolRead : List Host.Cell → Nat → Byte
  | [], _ => 0
  | (b, w) :: rest, a => if a = b then w else poolRead rest a

/-- The pool with a byte written, in canonical form. -/
def poolWrite : List Host.Cell → Nat → Byte → List Host.Cell
  | [], a, v => if v = 0 then [] else [(a, v)]
  | (b, w) :: rest, a, v =>
    if a < b then (if v = 0 then (b, w) :: rest else (a, v) :: (b, w) :: rest)
    else if a = b then (if v = 0 then rest else (a, v) :: rest)
    else (b, w) :: poolWrite rest a v

/-- The canonical form: addresses strictly rising, no cell holding 0. -/
def poolWf : List Host.Cell → Bool
  | [] => true
  | (a, v) :: rest => v ≠ 0 && rest.all (fun c => a < c.1) && poolWf rest

/-- The address of text index `i` of a record: block i / 64 of its chain, slot i mod 64 (R43). -/
def Record.address (r : Record) (i : Nat) : Option Nat :=
  (r.chain[i / Config.blockSize]?).map fun b => b.val * Config.blockSize + i % Config.blockSize

/-- The character at text index `i` of record `r`. -/
def State.charAt (s : State) (r : RecIx) (i : Nat) : Code :=
  match (s.record r).address i with
  | some a => (poolRead s.store.pool a).setWidth 5
  | none => 0

/-- `n` characters of record `r` from text index `start` on. -/
def State.textRun (s : State) (r : RecIx) (start n : Nat) : List Code :=
  (List.range n).map fun k => s.charAt r (start + k)

/-- The whole stored text of record `r`. -/
def State.text (s : State) (r : RecIx) : List Code := s.textRun r 0 (s.record r).count

/-- Writes a character into its slot, where the chain has one. -/
def State.writeChar (s : State) (r : RecIx) (i : Nat) (c : Code) : State :=
  match (s.record r).address i with
  | some a => s.modStore fun st => { st with pool := poolWrite st.pool a (c.setWidth 8) }
  | none => s

/-- Writes characters from text index `i` on. -/
def State.writeChars (s : State) (r : RecIx) (i : Nat) : List Code → State
  | [] => s
  | c :: cs => State.writeChars (s.writeChar r i c) r (i + 1) cs

/-! ### Admission, allocation and reservation (R44 to R49, R58, R59) -/

/-- The reservation count: the sum of the four entries (R45). -/
def Store.reservationCount (st : Store) : Nat :=
  st.reserved[0] + st.reserved[1] + st.reserved[2] + st.reserved[3]

/-- The available count (R45). -/
def Store.available (st : Store) : Nat := st.freeList.length - st.reservationCount

/-- The admission test for a request that lowers the available count by `cost` (R48). -/
def Store.admits (st : Store) (cls : Precedence) (cost : Nat) : Bool :=
  st.reservationCount + cost + floorOf cls ≤ st.freeList.length

/-- Blocks that `n` characters need: ceil(n / 64) (R46). -/
def blocksFor (n : Nat) : Nat := (n + (Config.blockSize - 1)) / Config.blockSize

/-- The head of the free list joins the end of record `r`'s chain (R43, R44); none if there is no block,
or for a FREE record, whose chain is empty (R51, R60). -/
def State.drawBlock (s : State) (r : RecIx) : Option State :=
  match s.store.freeList with
  | [] => none
  | b :: rest =>
    if (s.record r).state = .free then none
    else
      some ((s.modStore fun st => { st with freeList := rest }).modRecord r
        fun rec => { rec with chain := rec.chain ++ [b] })

/-- A block allocation outside a reservation (R58). -/
def State.allocateBlock (s : State) (r : RecIx) : Option State :=
  if s.store.admits (s.record r).cls 1 then s.drawBlock r else none

/-- The entry of take context `k` is set (R46, R47). -/
def State.setReserved (s : State) (k : CtxIx) (n : Nat) : State :=
  s.modStore fun st => { st with reserved := st.reserved.set k n }

/-- A release: the entry of take context `k` becomes 0 (R47). -/
def State.releaseReservation (s : State) (k : CtxIx) : State := s.setReserved k 0

/-- A block for a TEXT frame of take context `k`: from its reservation, else by the admission test (R59). -/
def State.relayedBlock (s : State) (k : CtxIx) (r : RecIx) : Option State :=
  let entry := s.store.reserved[k]
  if 0 < entry then (s.drawBlock r).map fun s' => s'.setReserved k (entry - 1)
  else s.allocateBlock r

/-- The pledge count rises by 1 (R52). -/
def State.pledge (s : State) : State := s.modStore fun st => { st with pledges := st.pledges + 1 }

/-- The pledge count falls by 1 (R52). -/
def State.unpledge (s : State) : State := s.modStore fun st => { st with pledges := st.pledges - 1 }

/-! ### Records (R50, R51, R60) -/

/-- The number of FREE records. -/
def Store.freeRecords (st : Store) : Nat :=
  ((List.finRange 32).filter fun r => st.records[r].state = .free).length

/-- A record may be given: the FREE records exceed the pledges (R50, R52). -/
def Store.recordAvailable (st : Store) : Bool := st.pledges < st.freeRecords

/-- The lowest-numbered FREE record (R50). -/
def Store.lowestFree (st : Store) : Option RecIx :=
  (List.finRange 32).find? fun r => st.records[r].state = .free

/-- A new copy for a station, UNROUTED with the starting values of R54. -/
def newCopy (station : StationCode) : Copy := { Copy.blank with station := station }

/-- The station code of an intercept copy: four blanks (R33). -/
def interceptCode : StationCode := [blankCode, blankCode, blankCode, blankCode]

/-- The record of a message begun on line `n` (R25). -/
def Record.originated (g : Gen) (n : Line) : Record :=
  { Record.cleared g with state := .assembling, source := .originated n, cls := .general }

/-- The record of a copy taken from the highway, its copy bound to line `n` (R50, R54). -/
def Record.relayed (g : Gen) (t : Take) : Record :=
  { Record.cleared g with
    state := .taking, source := .relayed t.tag t.cpm, cls := t.cls,
    copies := [{ newCopy t.station with line := some t.line }] }

/-- Freeing record `r`: its chain returns to the free list's tail, its fields are cleared, its
generation advances (R60). -/
def State.freeRecord (s : State) (r : RecIx) : State :=
  (s.modStore fun st => { st with freeList := st.freeList ++ (st.records[r]).chain }).modRecord r
    fun rec => Record.cleared (rec.gen + 1)

/-- Every copy of a record is SETTLED. -/
def Record.allSettled (r : Record) : Bool := r.copies.all fun c => c.state = .settled

/-- The freeing test of R60. -/
def Record.mayFree (r : Record) : Bool := r.state ≠ .free && r.complete && r.allSettled

/-- The record is freed if R60 allows. -/
def State.tryFree (s : State) (r : RecIx) : State :=
  if (s.record r).mayFree then s.freeRecord r else s

/-- A copy becomes SETTLED and takes its joined copies with it (R56, R57 items 1 and 2). -/
def settleCopies (ix : CopyIx) (how : Settlement) (copies : List Copy) : List Copy :=
  copies.mapIdx fun i c =>
    if c.state ≠ .settled ∧ (i = ix.val ∨ c.joinedWith = some ix) then
      { c with state := .settled, outcome := some how }
    else c

/-- A copy settles (R57). -/
def State.settle (s : State) (ref : CopyRef) (how : Settlement) : State :=
  (s.modRecord ref.record fun r =>
    { r with
      copies := settleCopies ref.ix how r.copies
      state := if r.state = .stored then .draining else r.state }).tryFree ref.record

/-- A tag with this card's slot names a live copy (R53). -/
def State.tagLive (s : State) (t : Tag) : Bool :=
  let r := s.record t.record
  r.state ≠ .free && r.gen = t.gen && t.ix.val < r.copies.length

/-- The tag of a copy of this card (R82). -/
def State.tagOfCopy (s : State) (ref : CopyRef) : Tag :=
  ⟨s.boot.slot, ref.record, (s.record ref.record).gen, ref.ix⟩

/-- The copy a tag names at its origin. -/
def Tag.copyRef (t : Tag) : CopyRef := ⟨t.record, t.ix⟩

/-- The rate at which a record's text arrives (R97, R127). -/
def State.sourceCpm (s : State) (r : RecIx) : Nat :=
  match (s.record r).source with
  | .originated n => cpmOf (s.lineCfg n).speed (s.lineCfg n).stopTwo
  | .relayed _ cpm => cpm
  | .none => 0

/-- The copy is an intercept copy (R33). -/
def State.isIntercept (s : State) (ref : CopyRef) : Bool := (s.copy ref).station = interceptCode

end Sys2Proof.Machine
end

