-- ==== Sys2Proof/Machine/Flags.lean ====
section
/-! DEFINITION. What is read off the state: which conditions a mode keeps, whether a line may send, the case ahead, readiness, the outbound state, and the part's outputs. -/

namespace Sys2Proof.Machine

/-- The card is RUNNING. -/
def State.running (s : State) : Bool := s.boot.card = .running

/-- The mode keeps a condition that reads `pin` (R1, R10). -/
def keepsCond (m : Mode) : LoopPin → Bool
  | .loopIn => m ≠ .send
  | .sense => m = .full || m = .send

/-- The condition that reads `pin` serves as a receive condition (R10). -/
def receiveSide : LoopPin → Bool
  | .loopIn => true
  | .sense => false

/-- The condition that reads `pin` serves as a send condition (R10). -/
def sendSide (m : Mode) : LoopPin → Bool
  | .loopIn => m = .half
  | .sense => m = .full || m = .send

/-- The name a notice gives the condition that reads `pin` (R155). -/
def condName (m : Mode) : LoopPin → CondName
  | .loopIn => if m = .half then .shared else .receive
  | .sense => .send

/-- The condition that reads `pin`. -/
def LineUnit.cond (l : LineUnit) : LoopPin → Cond
  | .loopIn => l.condIn
  | .sense => l.condSense

/-- The level of an input. -/
def LineUnit.level (l : LineUnit) : LoopPin → Level
  | .loopIn => l.loopIn
  | .sense => l.sense

/-- The mode of line `n`. -/
def State.mode (s : State) (n : Line) : Mode := (s.lineCfg n).mode

/-- The condition that reads `pin` of line `n`. -/
def State.cond (s : State) (n : Line) (pin : LoopPin) : Cond := (s.line n).cond pin

/-- The card is RUNNING and the line keeps the condition that reads `pin` (R1, R10). -/
def State.keeps (s : State) (n : Line) (pin : LoopPin) : Bool := s.running && keepsCond (s.mode n) pin

/-- The send condition of line `n`; a RECV line has none (R1). -/
def State.sendCond (s : State) (n : Line) : Option CondValue :=
  match (s.lineCfg n).mode with
  | .full | .send => some (s.line n).condSense.value
  | .half => some (s.line n).condIn.value
  | .recv => none

/-- The receive condition of line `n`; a SEND line has none (R1). -/
def State.recvCond (s : State) (n : Line) : Option CondValue :=
  match (s.lineCfg n).mode with
  | .full | .half | .recv => some (s.line n).condIn.value
  | .send => none

/-- The line can serve a copy: its send condition is not FAILED; a line without one cannot send (R1, R64). -/
def State.canSend (s : State) (n : Line) : Bool :=
  s.sendCond n = some .closed || s.sendCond n = some .open

/-- The receiver of a HALF line is suspended while the shift stage is BUSY (R8). -/
def State.suspended (s : State) (n : Line) : Bool :=
  (s.lineCfg n).mode = .half && (s.line n).tx.shift.isSome

/-- The receiver runs: the card is RUNNING, the receive condition CLOSED, the receiver not suspended (R8). -/
def State.receiving (s : State) (n : Line) : Bool :=
  s.running && s.recvCond n = some .closed && !s.suspended n

/-- The card drives the unit marking: code units 1 to 5, then the stop (R17). -/
def drivesMarking (c : TxChar) (unit : Fin 6) : Bool :=
  if unit.val = 5 then true else c.code.getLsbD unit.val

/-- A break can be heard at `unit`: a HALF line whose shift stage drives that unit marking (R17). -/
def State.comparesEcho (s : State) (n : Line) (unit : Fin 6) : Bool :=
  s.running && s.mode n = .half && (s.line n).condIn.value = .closed
    && (s.line n).tx.shift.any fun c => drivesMarking c unit

/-- Sending is withheld on a HALF line (R148). -/
def State.withheld (s : State) (n : Line) : Bool :=
  match (s.line n).turn with
  | some t => t.waiting || (s.line n).asm.state ≠ .hunt || (s.line n).condIn.value ≠ .closed
  | none => false

/-- The shift stage may drive characters of line `n` (R13). -/
def State.mayDrive (s : State) (n : Line) : Bool :=
  s.running && s.sendCond n = some .closed && (s.line n).motor.state = .running

/-- The case ahead (R132). -/
def Tx.caseAhead (t : Tx) : Case :=
  match t.shift with
  | some c => (shiftOf c.code).getD t.lineCase
  | none => t.lineCase

/-- A queued copy is ready (R128). -/
def State.ready (s : State) (e : QEntry) : Bool :=
  let r := s.record e.copy.record
  r.complete || e.lead ≤ r.count

/-- The line is empty: no copy sending, queued or stacked (R141). -/
def Sched.isEmpty (sc : Sched) : Bool := sc.current.isNone && sc.queue.isEmpty && sc.stack.isEmpty

/-- The line is free to start (R129). -/
def State.freeToStart (s : State) (n : Line) : Bool :=
  (s.line n).sched.current.isNone && s.mayDrive n && !s.withheld n

/-- The outbound rate of a line (R3). -/
def State.lineCpm (s : State) (n : Line) : Nat :=
  cpmOf (s.lineCfg n).speed (s.lineCfg n).stopTwo

/-- The lead of R127: 0, or ceil(Lcut × (r_out − r_in) / r_out). -/
def leadOf (lcut rIn rOut : Nat) : Nat :=
  if rOut ≤ rIn then 0 else (lcut * (rOut - rIn) + (rOut - 1)) / rOut

/-- Outbound states (R142). -/
inductive OutState where
  | outOfService
  | held
  | interrupting
  | sending
  | turnaround
  | runUp
  | leadWait
  | idle
  deriving DecidableEq, Repr

/-- Some copy of the line is ready: the stack's top, or a ready queue entry (R128). -/
def State.anyReady (s : State) (n : Line) : Bool :=
  !(s.line n).sched.stack.isEmpty || (s.line n).sched.queue.any s.ready

/-- The outbound state of a line, the first that applies (R142). -/
def State.outbound (s : State) (n : Line) : OutState :=
  let sc := (s.line n).sched
  if (s.lineCfg n).mode = .recv then .idle
  else if s.sendCond n = some .failed then .outOfService
  else if s.sendCond n = some .open then .held
  else if sc.current.isSome && sc.phase = .interrupt then .interrupting
  else if sc.current.isSome then .sending
  else if s.withheld n then .turnaround
  else if !sc.isEmpty && (s.line n).motor.state ≠ .running then .runUp
  else if !sc.isEmpty && !s.anyReady n then .leadWait
  else .idle

/-! ### Characters as an assembler reads them (R4, R23, R28, R30) -/

/-- A configured code is recognised in letters case (R4, R23). -/
def Handed.isCode (h : Handed) (c : Code) : Bool := h.case = .letters && h.code = c

/-- The class a designator gives, if it is one of the four (R30). -/
def CodeSet.designated (k : CodeSet) (h : Handed) : Option Precedence :=
  if h.isCode k.order then some .order
  else if h.isCode k.running then some .running
  else if h.isCode k.general then some .general
  else if h.isCode k.bulk then some .bulk
  else none

/-- The designator of the message has been taken (R30). -/
def Assembler.designatorTaken (a : Assembler) : Bool :=
  match a.state, a.step with
  | .text, _ => true
  | .heading, .afterDesignator => true
  | .heading, .code => true
  | .heading, .afterCR => true
  | _, _ => false

/-- The number of a digit handed in figures case (R28). -/
def Handed.digit (h : Handed) : Option Nat := if h.case = .figures then digitOf h.code else none

/-- The number a channel group gives, if it is well formed (R28). -/
def groupNumber : List Handed → Option Nat
  | [_, h2, h3, h4, h5, h6] =>
    match h2.digit, h3.digit, h4.digit with
    | some a, some b, some c =>
      let n := a * 100 + b * 10 + c
      if h5.code = lettersShift ∧ h6.code = spaceCode ∧ 1 ≤ n then some n else none
    | _, _, _ => none
  | _ => none

/-! ### Outputs -/

/-- The level of a unit of a character being driven: 0 the start, 1 to 5 the code units, 6 the stop (R3). -/
def unitLevel (c : Code) (unit : Fin 7) : Level :=
  if unit.val = 0 then .spacing
  else if unit.val = 6 then .marking
  else if c.getLsbD (unit.val - 1) then .marking else .spacing

/-- LOOPn_OUT, where `unit` is the unit the shift stage has reached if it is BUSY (R18, log 19). -/
def State.loopOut (s : State) (n : Line) (unit : Fin 7) : Level :=
  if !s.running then .marking
  else if (s.lineCfg n).mode = .recv then (s.lineCfg n).rest
  else if s.sendCond n ≠ some .closed then .marking
  else if (s.line n).motor.state ≠ .running then .marking
  else
    match (s.line n).tx.shift with
    | some c => unitLevel c.code unit
    | none => .marking

/-- MOTORn is asserted (section 1.9, R21). -/
def State.motorOut (s : State) (n : Line) : Bool :=
  s.running && (s.line n).motor.state ≠ .stopped

/-- SUP_OUT, where `unit` is the unit the supervisor shift stage has reached (R164, log 19). -/
def State.supOut (s : State) (unit : Fin 7) : Level :=
  if !s.running then .marking
  else
    match s.sup.tx.shift with
    | some c => unitLevel c.code unit
    | none => .marking

/-- The bytes the port is driving on the highway, if any (R79, R95, R175). -/
def State.highwayOut (s : State) : Option (List Byte) :=
  if s.running then s.port.driven.map fun d => d.frame.encode else none

end Sys2Proof.Machine
end

