-- ==== Sys2Proof/Machine/Port.lean ====
section
/-! DEFINITION. The highway port: the frames it takes, pending frames and their keys, the holding of the highway, the frames as composed, the contexts, the answer list and the ended-take list (chapters 5 to 7). -/

namespace Sys2Proof.Machine

/-! ### Access to contexts -/

/-- Send context `k`, if in use. -/
def State.sendCtx (s : State) (k : CtxIx) : Option Send := s.port.send[k]

/-- Take context `k`, if in use. -/
def State.takeCtx (s : State) (k : CtxIx) : Option Take := s.port.take[k]

/-- The card with send context `k` replaced. -/
def State.setSend (s : State) (k : CtxIx) (c : Option Send) : State :=
  s.modPort fun p => { p with send := p.send.set k c }

/-- The card with take context `k` replaced. -/
def State.setTake (s : State) (k : CtxIx) (t : Option Take) : State :=
  s.modPort fun p => { p with take := p.take.set k t }

/-- The card with send context `k` changed, if it is in use. -/
def State.modSend (s : State) (k : CtxIx) (f : Send → Send) : State := s.setSend k ((s.sendCtx k).map f)

/-- The card with take context `k` changed, if it is in use. -/
def State.modTake (s : State) (k : CtxIx) (f : Take → Take) : State := s.setTake k ((s.takeCtx k).map f)

/-- The lowest-numbered FREE send context (R69). -/
def State.freeSendCtx (s : State) : Option CtxIx :=
  (List.finRange 4).find? fun k => (s.sendCtx k).isNone

/-- The lowest-numbered FREE take context (R101). -/
def State.freeTakeCtx (s : State) : Option CtxIx :=
  (List.finRange 4).find? fun k => (s.takeCtx k).isNone

/-- The send context that holds a copy. -/
def State.sendOf (s : State) (ref : CopyRef) : Option CtxIx :=
  (List.finRange 4).find? fun k => (s.sendCtx k).any fun c => c.copy = ref

/-- The take context that holds a tag (R82: at most one). -/
def State.takeOf (s : State) (tag : Tag) : Option CtxIx :=
  (List.finRange 4).find? fun k => (s.takeCtx k).any fun t => t.tag = tag

/-! ### Frames that end at this card (R79, R80, R82, R119) -/

/-- The port takes frames: the card is RUNNING and has seen the highway IDLE (R79, R95). -/
def State.hears (s : State) : Bool := s.running && !s.port.awaitIdle

/-- A frame that ends at this card, if the card takes it (R79, R80, R175). -/
def State.heard (s : State) (bytes : List Byte) : Option Frame :=
  if s.hears then parseFrame bytes else none

/-- The tag names this card's slot (R82). -/
def State.owns (s : State) (tag : Tag) : Bool := tag.slot = s.boot.slot

/-- The TEXT is in sequence (R119). -/
def Take.accepts (t : Take) (sequence : Nat) : Bool :=
  sequence = t.nextSeq && (t.lastCount = 0 || t.lastCount = Config.blockSize)

/-! ### Pending frames (R83, R84) -/

/-- A pending frame with the parts of its key that its card compares (R84). -/
structure Waiting where
  source : FrameSource
  cls : Precedence
  rank : Nat
  stamp : Nat
  deriving DecidableEq, Repr

/-- Kind rank of a send context's frame (R84). -/
def SendKind.rank : SendKind → Nat
  | .offer => 2
  | .text => 3
  | .close => 4

/-- Kind rank of a take context's frame (R84). -/
def TakeKind.rank : TakeKind → Nat
  | .claim => 5
  | .accepted | .spoiled | .abandon _ => 6

/-- The pending frame of send context `k`. -/
def State.sendWaiting (s : State) (k : CtxIx) : List Waiting :=
  match s.sendCtx k with
  | some { copy := copy, pending := some p, .. } => [⟨.send k, s.classOf copy, p.kind.rank, p.stamp⟩]
  | _ => []

/-- The pending frame of take context `k`. -/
def State.takeWaiting (s : State) (k : CtxIx) : List Waiting :=
  match s.takeCtx k with
  | some { cls := cls, pending := some p, .. } => [⟨.take k, cls, p.kind.rank, p.stamp⟩]
  | _ => []

/-- The pending frame of an answer (R89). -/
def Answer.waiting (a : Answer) : Waiting := ⟨.answer a.tag a.reason, a.cls, 6, a.stamp⟩

/-- Every pending frame of the card (R83). -/
def State.waiting (s : State) : List Waiting :=
  (List.finRange 4).flatMap s.sendWaiting ++ (List.finRange 4).flatMap s.takeWaiting
    ++ s.port.answers.map Answer.waiting
    ++ (if s.port.restartPending then [⟨.restart, .order, 7, 0⟩] else [])

/-- Frame `a` is greater than frame `b` of the same card (R84). -/
def Waiting.above (a b : Waiting) : Bool :=
  let ka := a.cls.value * 8 + a.rank
  let kb := b.cls.value * 8 + b.rank
  kb < ka || (ka = kb && a.stamp < b.stamp)

/-- The greatest of a list of frames. -/
def greatestOf : List Waiting → Option Waiting
  | [] => none
  | w :: ws =>
    match greatestOf ws with
    | none => some w
    | some v => if v.above w then some v else some w

/-- The card's greatest pending frame (R84). -/
def State.greatest (s : State) : Option Waiting := greatestOf s.waiting

/-- The key the card presents (R84). -/
def State.keyOf (s : State) (w : Waiting) : Nat := keyNumber w.cls w.rank s.boot.slot

/-! ### Tenure (R84, R86) -/

/-- OUT or CONTENDING by the pending frames, for a port that does not hold the highway (R84). -/
def State.refreshTenure (s : State) : State :=
  if s.port.tenure = .out ∨ s.port.tenure = .contending then
    s.modPort fun p => { p with tenure := if s.waiting.isEmpty then .out else .contending }
  else s

/-- The tenure ends (R86). DESIGN CHOICE (log 20): the burst count falls to 0 with it. -/
def State.endTenure (s : State) : State :=
  State.refreshTenure (s.modPort fun p => { p with tenure := .out, burst := 0 })

/-- The next request number (log 14). -/
def State.nextStamp (s : State) : State := s.modPort fun p => { p with stamp := p.stamp + 1 }

/-! ### Frames as composed (R83, R97, R110, R112) -/

/-- The frame of a send context, from its state as it stands. -/
def State.composeSend (s : State) (c : Send) : SendKind → Frame
  | .offer =>
    let r := s.record c.copy.record
    let cp := s.copy c.copy
    .offer (s.tagOfCopy c.copy) r.cls cp.station (if r.complete then some r.count else none)
      (s.sourceCpm c.copy.record) cp.attempt
  | .text =>
    let r := s.record c.copy.record
    let start := Config.blockSize * c.blocksSent
    .text (s.tagOfCopy c.copy) c.blocksSent
      (s.textRun c.copy.record start (min Config.blockSize (r.count - start)))
  | .close =>
    let r := s.record c.copy.record
    .close (s.tagOfCopy c.copy) r.count (textCheck (s.text c.copy.record)) r.overrun r.truncated
      r.mutilated

/-- The frame of a take context (R101, R120 to R122). -/
def State.composeTake (s : State) (t : Take) : TakeKind → Frame
  | .claim => .claim t.tag s.boot.slot
  | .accepted => .receipt t.tag true
  | .spoiled => .receipt t.tag false
  | .abandon reason => .abandon t.tag reason

/-- The frame a source is to send, if it has one pending. -/
def State.compose (s : State) : FrameSource → Option Frame
  | .send k =>
    match s.sendCtx k with
    | some c => c.pending.map fun p => s.composeSend c p.kind
    | none => none
  | .take k =>
    match s.takeCtx k with
    | some t => t.pending.map fun p => s.composeTake t p.kind
    | none => none
  | .answer tag reason => some (.abandon tag reason)
  | .restart => some (.restart s.boot.slot)

/-- The port begins to drive the frame of a source (R84, R87). -/
def State.drive (s : State) (source : FrameSource) (byRound : Bool) : State :=
  match s.compose source with
  | some f =>
    s.modPort fun p =>
      { p with tenure := .sending, driven := some ⟨source, f, byRound, true⟩ }
  | none => s

/-- The frame being driven is one its source has dropped (R79, log 12). -/
def State.deaden (s : State) (source : FrameSource) : State :=
  s.modPort fun p =>
    { p with driven := p.driven.map fun d => if d.source = source then { d with live := false } else d }

/-- The window of send context `k` is open (R87). -/
def State.inWindow (s : State) (k : CtxIx) : Bool := s.port.tenure = .window k

/-- A pending frame that the open window of its context lets go at once (R87). -/
def State.windowAllows (s : State) (kind : SendKind) : Bool :=
  match kind with
  | .text => s.port.burst < Config.burstMax
  | .close => true
  | .offer => false

/-- Send context `k` asks for a frame (R83); in its own window it may go at once (R87). -/
def State.askSend (s : State) (k : CtxIx) (kind : SendKind) : State :=
  let s' := (((s.deaden (.send k)).modSend k fun c =>
    { c with pending := some ⟨kind, s.port.stamp⟩ }).nextStamp).refreshTenure
  if s'.inWindow k && s'.windowAllows kind then s'.drive (.send k) false else s'

/-- Take context `k` asks for a frame (R83). -/
def State.askTake (s : State) (k : CtxIx) (kind : TakeKind) : State :=
  (((s.deaden (.take k)).modTake k fun t =>
    { t with pending := some ⟨kind, s.port.stamp⟩ }).nextStamp).refreshTenure

/-- A context's window ends with its frame or its life (R87). -/
def State.closeWindow (s : State) (k : CtxIx) : State := if s.inWindow k then s.endTenure else s.refreshTenure

/-- Send context `k` drops its pending frame (R83, R87). -/
def State.dropSend (s : State) (k : CtxIx) : State :=
  ((s.deaden (.send k)).modSend k fun c => { c with pending := none }).closeWindow k

/-- Send context `k` becomes FREE (R83, R87). -/
def State.freeSend (s : State) (k : CtxIx) : State :=
  ((s.deaden (.send k)).setSend k none).closeWindow k

/-- Take context `k` becomes FREE, its pending frame dropped (R83). -/
def State.freeTake (s : State) (k : CtxIx) : State :=
  ((s.deaden (.take k)).setTake k none).refreshTenure

/-! ### Answer list and ended-take list (R88, R89) -/

/-- An ABANDON is owed (R89): not twice the same, and dropped when the list is full. -/
def State.addAnswer (s : State) (tag : Tag) (reason : Reason) (cls : Precedence) : State :=
  if (s.port.answers.any fun a => a.tag = tag ∧ a.reason = reason)
      || Config.portListMax ≤ s.port.answers.length then s
  else
    ((s.modPort fun p => { p with answers := p.answers ++ [⟨tag, reason, cls, p.stamp⟩] }).nextStamp).refreshTenure

/-- An ended take joins its list (R88): no tag twice, the oldest leaves a full list. -/
def State.addEnded (s : State) (tag : Tag) (cls : Precedence) : State :=
  if s.port.ended.any fun e => e.tag = tag then s
  else
    s.modPort fun p =>
      { p with
        ended := (if Config.portListMax ≤ p.ended.length then p.ended.drop 1 else p.ended) ++ [⟨tag, cls⟩] }

/-- The entry with a tag leaves the ended-take list (R88). -/
def State.dropEnded (s : State) (tag : Tag) : State :=
  s.modPort fun p => { p with ended := p.ended.filter fun e => e.tag ≠ tag }

/-! ### Offers and transfers at the origin -/

/-- A send context with a copy and nothing begun (R96, R108). -/
def Send.begun (ref : CopyRef) : Send :=
  { copy := ref, pending := none, window := none, taken := none, backoff := none, blocksSent := 0,
    charsSent := 0, receiptWait := none }

/-- Send context `k`, which holds a copy, asks for an OFFER (R96). -/
def State.askOffer (s : State) (k : CtxIx) : State :=
  match s.sendCtx k with
  | some c =>
    ((s.setSend k (some (Send.begun c.copy))).setCopyState c.copy .backoff).askSend k .offer
  | none => s

/-- The copy takes send context `k` and asks for its first OFFER (R69, R96). -/
def State.giveSend (s : State) (k : CtxIx) (ref : CopyRef) : State :=
  (s.setSend k (some (Send.begun ref))).askOffer k

/-- The next block of a transfer is ready (R110). -/
def blockReady (r : Record) (k : Nat) : Bool :=
  Config.blockSize * k + Config.blockSize ≤ r.count || (r.complete && Config.blockSize * k < r.count)

/-- Send context `k` looks for its next frame (R110). -/
def State.lookNext (s : State) (k : CtxIx) : State :=
  match s.sendCtx k with
  | some c =>
    let r := s.record c.copy.record
    if c.pending.isSome || (s.copy c.copy).state ≠ .streaming then s
    else if blockReady r c.blocksSent then s.askSend k .text
    else if r.complete && r.count = c.charsSent then s.askSend k .close
    else s
  | none => s

end Sys2Proof.Machine
end

