-- ==== Sys2Proof/Machine/Stages.lean ====
section
/-! DEFINITION. What a line transmitter and the supervisor transmitter share: the two stages (R12 to R15, R164), composed characters under the case rule (R132, R161), and the printed lines of R177. -/

namespace Sys2Proof.Machine

/-! ### The stages (R12 to R15) -/

/-- A character is loaded into the holding stage (R12). -/
def Tx.load (t : Tx) (c : TxChar) : Tx := { t with holding := some c }

/-- The shift character a TEXT character needs first, when line case and text case differ (R14). -/
def Tx.restoreFor (t : Tx) (c : TxChar) : Option Case :=
  match c.role, t.textCase with
  | .text, some k => if k = t.lineCase then none else some k
  | _, _ => none

/-- The shift stage begins the held character, or the case restore it needs first (R13, R14). -/
def Tx.begin (t : Tx) : Tx :=
  match t.holding with
  | none => t
  | some c =>
    match t.restoreFor c with
    | some k => { t with shift := some ⟨shiftCode k, .restore, 0, false⟩ }
    | none => { t with shift := some c, holding := none }

/-- The shift stage begins a fill character (R15). -/
def Tx.beginFill (t : Tx) : Tx := { t with shift := some ⟨lettersShift, .fill, 0, false⟩ }

/-- The text case after a character is sent: a TEXT shift character sets it (R14). -/
def Tx.textCaseAfter (t : Tx) (c : TxChar) : Option Case :=
  if c.role = .text then
    match shiftOf c.code with
    | some k => some k
    | none => t.textCase
  else t.textCase

/-- The stop of character `c` completes (R13, R14). -/
def Tx.finish (t : Tx) (c : TxChar) : Tx :=
  { t with shift := none, lineCase := (shiftOf c.code).getD t.lineCase, textCase := t.textCaseAfter c }

/-! ### Composed characters (R132, R161) -/

/-- A character sent in either case. -/
def plain (c : Code) : Composed := ⟨c, none, false⟩

/-- A character sent in letters case. -/
def inLetters (c : Code) : Composed := ⟨c, some .letters, false⟩

/-- A digit, sent in figures case. -/
def digit (d : Nat) : Composed := ⟨digitCode d, some .figures, false⟩

/-- The last character of a list is marked the last of its transmission. -/
def markLast : List Composed → List Composed
  | [] => []
  | [c] => [{ c with last := true }]
  | c :: cs => c :: markLast cs

/-- The character to load for the head of a composed list, and the list that is left: a shift first
when the case ahead is the wrong one (R132, R161). -/
def loadComposed (ahead : Case) : List Composed → Option (TxChar × List Composed)
  | [] => none
  | c :: rest =>
    match c.need with
    | some k =>
      if k = ahead then some (⟨c.code, .composed, 0, c.last⟩, rest)
      else some (⟨shiftCode k, .composed, 0, false⟩, c :: rest)
    | none => some (⟨c.code, .composed, 0, c.last⟩, rest)

/-- CR and LF. -/
def crLf : List Composed := [plain crCode, plain lfCode]

/-- The incomplete group of the code set (R136, R162), each of its codes one that is sent in letters case
(R132). R169 lets a code of the group be a figures shift, CR, LF or space: a letters shift is then loaded
inside the group too, before the code after a figures shift, also on the supervisor line and also before
a CR, LF or space of the group (DESIGN CHOICE, log 34). -/
def State.incompleteGroup (s : State) : List Composed := s.boot.cfg.codes.incomplete.map inLetters

/-! ### Printed lines (R177) -/

/-- A word. -/
def word (ls : List Letter) : List Composed := ls.map fun l => inLetters (letterCode l)

/-- A number without leading zeros. -/
def number (n : Nat) : List Composed := (decimalDigits n).map digit

/-- A channel number, or NONE. -/
def channelWord : Option Nat → List Composed
  | some n => (threeDigits n).map digit
  | none => word [.N, .O, .N, .E]

/-- A stored code value in letters case; CR, LF and space go without regard to case (R161). -/
def storedCode (c : Code) : Composed :=
  if c = spaceCode ∨ c = crCode ∨ c = lfCode then plain c else inLetters c

/-- A station code, or INTERCEPT. -/
def stationWord (code : StationCode) : List Composed :=
  if code = interceptCode then word [.I, .N, .T, .E, .R, .C, .E, .P, .T] else code.map storedCode

/-- The word LINE. -/
def wLine : List Composed := word [.L, .I, .N, .E]
/-- The word SLOT. -/
def wSlot : List Composed := word [.S, .L, .O, .T]
/-- The word RECORD. -/
def wRecord : List Composed := word [.R, .E, .C, .O, .R, .D]
/-- The word GEN. -/
def wGen : List Composed := word [.G, .E, .N]
/-- The word COPY. -/
def wCopy : List Composed := word [.C, .O, .P, .Y]
/-- The word CLASS. -/
def wClass : List Composed := word [.C, .L, .A, .S, .S]
/-- The word CHANNEL. -/
def wChannel : List Composed := word [.C, .H, .A, .N, .N, .E, .L]
/-- The word STATION. -/
def wStation : List Composed := word [.S, .T, .A, .T, .I, .O, .N]
/-- The word LOST. -/
def wLost : List Composed := word [.L, .O, .S, .T]
/-- The word OVERRUN. -/
def wOverrun : List Composed := word [.O, .V, .E, .R, .R, .U, .N]
/-- The word SPEED. -/
def wSpeed : List Composed := word [.S, .P, .E, .E, .D]
/-- The word COUNT. -/
def wCount : List Composed := word [.C, .O, .U, .N, .T]
/-- The word OPEN. -/
def wOpen : List Composed := word [.O, .P, .E, .N]
/-- The word SILENCE. -/
def wSilence : List Composed := word [.S, .I, .L, .E, .N, .C, .E]

/-- A class as a word. -/
def Precedence.word : Precedence → List Composed
  | .order => Machine.word [.O, .R, .D, .E, .R]
  | .running => Machine.word [.R, .U, .N, .N, .I, .N, .G]
  | .general => Machine.word [.G, .E, .N, .E, .R, .A, .L]
  | .bulk => Machine.word [.B, .U, .L, .K]

/-- A condition as a word. -/
def CondName.word : CondName → List Composed
  | .send => Machine.word [.S, .E, .N, .D]
  | .shared => Machine.word [.S, .H, .A, .R, .E, .D]
  | .receive => Machine.word [.R, .E, .C, .E, .I, .V, .E]

/-- The cause of a TRUNCATED close as words. -/
def TruncateCause.words : TruncateCause → List (List Composed)
  | .headingSilence => [word [.H, .E, .A, .D, .I, .N, .G], wSilence]
  | .textSilence => [word [.T, .E, .X, .T], wSilence]
  | .lineOpen => [wLine, wOpen]

/-- A field of a line as a word. -/
def LineField.word : LineField → List Composed
  | .mode => Machine.word [.M, .O, .D, .E]
  | .speed => wSpeed
  | .stop => Machine.word [.S, .T, .O, .P]
  | .rest => Machine.word [.R, .E, .S, .T]
  | .runUp => Machine.word [.R, .U, .N, .U, .P]
  | .idle => Machine.word [.I, .D, .L, .E]
  | .turnaround => Machine.word [.T, .U, .R, .N, .A, .R, .O, .U, .N, .D]

/-- The item of a CONFIG line as words. -/
def ConfigItem.words : ConfigItem → List (List Composed)
  | .line n f => [wLine, number n.val, f.word]
  | .codes => [word [.C, .O, .D, .E, .S]]
  | .station p => [wStation, number p]
  | .stationCount => [wStation, wCount]
  | .intercept => [word [.I, .N, .T, .E, .R, .C, .E, .P, .T]]
  | .threshold => [word [.T, .H, .R, .E, .S, .H, .O, .L, .D]]
  | .lcut => [word [.L, .C, .U, .T]]
  | .supervisorSpeed => [word [.S, .U, .P, .E, .R, .V, .I, .S, .O, .R], wSpeed]

/-- The action of a CONFIG line as a word. -/
def ConfigAction.word : ConfigAction → List Composed
  | .clamped => Machine.word [.C, .L, .A, .M, .P, .E, .D]
  | .rounded => Machine.word [.R, .O, .U, .N, .D, .E, .D]
  | .defaulted => Machine.word [.D, .E, .F, .A, .U, .L, .T, .E, .D]
  | .dropped => Machine.word [.D, .R, .O, .P, .P, .E, .D]
  | .cleared => Machine.word [.C, .L, .E, .A, .R, .E, .D]

/-- The words of a notice line (the table of R177). -/
def Notice.words : Notice → List (List Composed)
  | .lineFailed n cond copies =>
    [wLine, word [.F, .A, .I, .L, .E, .D], wLine, number n.val, cond.word,
     word [.C, .O, .P, .I, .E, .S], number copies]
  | .lineRestored n cond =>
    [wLine, word [.R, .E, .S, .T, .O, .R, .E, .D], wLine, number n.val, cond.word]
  | .sequenceGap n expected received =>
    [word [.S, .E, .Q, .U, .E, .N, .C, .E], word [.G, .A, .P], wLine, number n.val,
     word [.E, .X, .P, .E, .C, .T, .E, .D], channelWord (some expected),
     word [.R, .E, .C, .E, .I, .V, .E, .D], channelWord (some received)]
  | .messageLost n => [word [.M, .E, .S, .S, .A, .G, .E], wLost, wLine, number n.val]
  | .overrunLine n channel => [wOverrun, wLine, number n.val, wChannel, channelWord channel]
  | .overrunHighway tag cls =>
    [wOverrun, wSlot, number tag.slot.val, wRecord, number tag.record.val, wGen, number tag.gen.val,
     wCopy, number tag.ix.val, wClass, cls.word]
  | .truncated n cause channel =>
    [word [.T, .R, .U, .N, .C, .A, .T, .E, .D], wLine, number n.val] ++ cause.words
      ++ [wChannel, channelWord channel]
  | .restartHeard sender =>
    [word [.R, .E, .S, .T, .A, .R, .T], word [.H, .E, .A, .R, .D], wSlot, number sender.val]
  | .config item action => [word [.C, .O, .N, .F, .I, .G]] ++ item.words ++ [action.word]
  | .noticesLost count => [word [.N, .O, .T, .I, .C, .E, .S], wLost, number count]

/-- Words with single spaces between them, ended by CR and LF (R177). -/
def printedLine (ws : List (List Composed)) : List Composed :=
  List.intercalate [plain spaceCode] ws ++ crLf

/-- The source part of a DEAD COPY line (R162, R177). -/
def Source.words : Source → List (List Composed)
  | .originated n => [word [.F, .R, .O, .M], wLine, number n.val]
  | .relayed tag _ =>
    [word [.F, .R, .O, .M], wSlot, number tag.slot.val, wRecord, number tag.record.val, wGen,
     number tag.gen.val]
  | .none => []

/-- The words of a copy's DEAD COPY line (R162, R177). -/
def State.deadCopyWords (s : State) (ref : CopyRef) : List (List Composed) :=
  let c := s.copy ref
  [word [.D, .E, .A, .D], wCopy, wRecord, number ref.record.val, wCopy, number ref.ix.val, wStation,
   stationWord c.station, wClass, (s.classOf ref).word,
   word [.A, .T, .T, .E, .M, .P, .T], number c.attempt, word [.S, .P, .O, .I, .L], number c.spoil]
    ++ (s.record ref.record).source.words

end Sys2Proof.Machine
end

