-- ==== Sys2Proof/Machine/Scheduler.lean ====
section
/-! DEFINITION. The outbound scheduler with its transmitter and motor control: queue, readiness, choice, composing, preemption, put-back (chapter 8, and R19, R20, R144 of chapters 1 and 9). -/

namespace Sys2Proof.Machine

/-! ### Motor control (R19 to R21) -/

/-- The motor enters RUNNING_UP, or RUNNING when the run-up time is 0 (R19). -/
def startedMotor (runUp : Nat) : Motor :=
  if runUp = 0 then { state := .running, runUp := none, idleStop := none }
  else { state := .runningUp, runUp := some (runUp * 500), idleStop := none }

/-- An enqueue is reported to the motor control (R19, R20). -/
def State.motorEnqueue (s : State) (n : Line) : State :=
  s.modMotor n fun m =>
    match m.state with
    | .stopped => if s.canSend n then startedMotor (s.lineCfg n).runUp else m
    | .runningUp => m
    | .running => { m with idleStop := none }

/-- The idle-stop countdown starts on an empty line with its motor RUNNING; a time of 0 means never (R20). -/
def State.motorEmpty (s : State) (n : Line) : State :=
  if (s.line n).sched.isEmpty && (s.line n).motor.state = .running && (s.lineCfg n).idleStop ≠ 0 then
    s.modMotor n fun m => { m with idleStop := some (m.idleStop.getD ((s.lineCfg n).idleStop * 10000)) }
  else s

/-! ### Loading (R132 to R136) -/

/-- A character is loaded into the holding stage of line `n`. -/
def State.loadChar (s : State) (n : Line) (c : TxChar) : State := s.modTx n fun t => t.load c

/-- One character of the composed list is loaded, if any is left (R132). DESIGN CHOICE (log 33): with none
left in TAIL or INTERRUPT no request is left outstanding, a case R135 states for TEXT alone. -/
def State.loadNextComposed (s : State) (n : Line) : State :=
  match loadComposed (s.line n).tx.caseAhead (s.line n).sched.composed with
  | some (c, rest) =>
    (s.loadChar n c).modSched n fun sc => { sc with composed := rest, outstanding := false }
  | none => s

/-- Four opening codes (R133). -/
def State.openingRun (s : State) : List Composed :=
  List.replicate 4 (inLetters s.boot.cfg.codes.opening)

/-- Four closing codes (R136). -/
def State.closingRun (s : State) : List Composed :=
  List.replicate 4 (inLetters s.boot.cfg.codes.closing)

/-- The channel group of a channel number, when the line's numbering is on (R133). -/
def State.channelGroup (s : State) (n : Line) (channel : Nat) : List Composed :=
  if (s.lineCfg n).numbering then
    plain figuresShift :: (threeDigits channel).map (fun d => plain (digitCode d))
      ++ [plain lettersShift, plain spaceCode]
  else []

/-- The head of a FRESH start (R133). -/
def State.freshHead (s : State) (n : Line) (channel : Nat) : List Composed :=
  s.openingRun ++ s.channelGroup n channel

/-- The head of a RESUME start with resume case `c` (R134). -/
def State.resumeHead (s : State) (n : Line) (channel : Nat) (c : Case) : List Composed :=
  s.openingRun ++ s.channelGroup n channel ++ [inLetters s.boot.cfg.codes.continuation] ++ crLf
    ++ (if c = .figures then [plain figuresShift] else [])

/-- The tail of a copy of record `r` (R136). -/
def State.tailOf (s : State) (r : Record) : List Composed :=
  markLast ((if r.overrun || r.truncated then crLf ++ s.incompleteGroup else []) ++ crLf ++ s.closingRun)

/-- The interruption (R139). -/
def State.interruption (s : State) : List Composed := markLast (crLf ++ s.closingRun)

/-- A request in HEAD (R133, R134): with the last head character loaded the phase becomes TEXT. -/
def State.serveHead (s : State) (n : Line) : State :=
  let s' := s.loadNextComposed n
  if (s'.line n).sched.composed.isEmpty then s'.modSched n fun sc => { sc with phase := .text } else s'

/-- The phase becomes TAIL, with the tail composed from the record's flags (R136). -/
def State.enterTail (s : State) (n : Line) (r : Record) : State :=
  s.modSched n fun sc =>
    { sc with phase := .tail, composed := s.tailOf r, midText := false, mark := false,
              outstanding := false }

/-- A request in TEXT (R135). -/
def State.serveText (s : State) (n : Line) (ref : CopyRef) : State :=
  let r := s.record ref.record
  let i := (s.line n).sched.nextIndex
  if i < r.count then
    (s.loadChar n ⟨s.charAt ref.record i, .text, i, false⟩).modSched n fun sc =>
      { sc with nextIndex := i + 1, midText := true, outstanding := false }
  else if r.complete then (s.enterTail n r).loadNextComposed n
  else s.modSched n fun sc => { sc with outstanding := true }

/-- The transmitter of line `n` asks for the next character of the current copy (R12, R132). -/
def State.serveLine (s : State) (n : Line) : State :=
  if (s.line n).tx.holding.isSome then s
  else
    match (s.line n).sched.current with
    | none => s
    | some e =>
      match (s.line n).sched.phase with
      | .head => s.serveHead n
      | .text => s.serveText n e.copy
      | .tail | .interrupt => s.loadNextComposed n

/-! ### Choosing and starting (R128 to R131) -/

/-- The counter's next value (R131). -/
def nextChannel (n : Nat) : Nat := if n < 999 then n + 1 else 1

/-- The copy takes the line's next channel number if it has none (R130, R131). -/
def State.numberCopy (s : State) (n : Line) (ref : CopyRef) : State :=
  match (s.copy ref).channel with
  | some _ => s
  | none =>
    (s.modCopy ref fun c => { c with channel := some (s.line n).sched.counter }).modSched n fun sc =>
      { sc with counter := nextChannel sc.counter }

/-- The items of a start that R130 sets alike for both kinds. -/
def Sched.started (sc : Sched) (e : QEntry) (kind : StartKind) (at_ : TextPoint) (head : List Composed) : Sched :=
  { sc with current := some e, kind := kind, phase := .head, composed := head, nextIndex := at_.index,
            lineStart := at_, sinceLF := 0, mark := false, outstanding := false, midText := false }

/-- Entry `e` starts FRESH (R130); its place on the queue has been taken away. -/
def State.startFresh (s : State) (n : Line) (e : QEntry) : State :=
  let s1 := (s.numberCopy n e.copy).setCopyState e.copy .sending
  let s2 := s1.modSched n fun sc =>
    sc.started e .fresh ⟨0, .letters⟩ (s1.freshHead n ((s1.copy e.copy).channel.getD 0))
  (s2.modTx n fun t => { t with textCase := some .letters }).serveLine n

/-- Entry `e` starts RESUME (R130); its place on the stack has been taken away. -/
def State.startResume (s : State) (n : Line) (e : QEntry) : State :=
  let s1 := (s.numberCopy n e.copy).setCopyState e.copy .sending
  let at_ := (s1.copy e.copy).resume.getD ⟨0, .letters⟩
  let s2 := s1.modCopy e.copy fun c => { c with resume := none }
  let s3 := s2.modSched n fun sc =>
    sc.started e .resume at_ (s2.resumeHead n ((s2.copy e.copy).channel.getD 0) at_.case)
  (s3.modTx n fun t => { t with textCase := some at_.case }).serveLine n

/-- The class of a queue entry's copy, as its value. -/
def State.entryClass (s : State) (e : QEntry) : Nat := (s.classOf e.copy).value

/-- The choice of R129, made when the line is free to start. -/
def State.choose (s : State) (n : Line) : State :=
  if s.freeToStart n then
    let sc := (s.line n).sched
    match sc.queue.find? s.ready, sc.stack with
    | none, [] => s
    | some e, [] => (s.modSched n fun sc => { sc with queue := sc.queue.erase e }).startFresh n e
    | none, top :: rest => (s.modSched n fun sc => { sc with stack := rest }).startResume n top
    | some e, top :: rest =>
      if s.entryClass top < s.entryClass e then
        (s.modSched n fun sc => { sc with queue := sc.queue.erase e }).startFresh n e
      else (s.modSched n fun sc => { sc with stack := rest }).startResume n top
  else s

/-! ### Preemption (R137 to R139) -/

/-- The interruption of the current copy begins (R138). DEDUCED (log 10): the interruption's first
character is loaded at the withdrawal. DESIGN CHOICE (log 9): where one command starts a copy and interrupts
it, the withdrawal is taken before the idle shift stage takes the held character (R12). -/
def State.beginInterruption (s : State) (n : Line) : State :=
  State.serveLine
    ((s.modSched n fun sc =>
        { sc with mark := false, phase := .interrupt, midText := false, outstanding := false,
                  composed := s.interruption }).modTx n fun t => { t with holding := none }) n

/-- A ready queue entry of a class above `v` (R137). -/
def State.readyAbove (s : State) (n : Line) (v : Nat) : Bool :=
  (s.line n).sched.queue.any fun e => s.ready e && v < s.entryClass e

/-- The preemption test (R137). -/
def State.preemptTest (s : State) (n : Line) : State :=
  let sc := (s.line n).sched
  match sc.current with
  | none => s
  | some e =>
    if sc.phase = .head ∨ sc.phase = .text then
      if s.readyAbove n (max (s.entryClass e) Precedence.running.value) then s.beginInterruption n
      else if s.readyAbove n (s.entryClass e) then s.modSched n fun sc => { sc with mark := true }
      else s
    else s

/-- The mark is reconsidered after a queue entry is removed (R137). -/
def State.reconsiderMark (s : State) (n : Line) : State :=
  match (s.line n).sched.current with
  | some e =>
    if s.readyAbove n (s.entryClass e) then s else s.modSched n fun sc => { sc with mark := false }
  | none => s

/-- A copy became ready, or the line may have become free to start (R128, R129). -/
def State.lookAgain (s : State) (n : Line) : State := (s.preemptTest n).choose n

/-! ### The queue (R126, R127, R140, R144) -/

/-- A new entry stands after every entry of equal or higher class (R126). -/
def State.insertEntry (s : State) (e : QEntry) : List QEntry → List QEntry
  | [] => [e]
  | x :: xs => if s.entryClass e ≤ s.entryClass x then x :: State.insertEntry s e xs else e :: x :: xs

/-- A put-back stands after every entry of higher class (R126, R144). -/
def State.insertBack (s : State) (e : QEntry) : List QEntry → List QEntry
  | [] => [e]
  | x :: xs => if s.entryClass e < s.entryClass x then x :: State.insertBack s e xs else e :: x :: xs

/-- The lead of a copy on line `n` (R127). -/
def State.lead (s : State) (n : Line) (ref : CopyRef) : Nat :=
  leadOf s.boot.cfg.lcut (s.sourceCpm ref.record) (s.lineCpm n)

/-- The copy becomes QUEUED on line `n` (R126); a copy that is ready there is looked at (R128). -/
def State.enqueue (s : State) (n : Line) (ref : CopyRef) : State :=
  let e : QEntry := ⟨ref, s.lead n ref⟩
  let s1 := ((s.modSched n fun sc => { sc with queue := s.insertEntry e sc.queue }).setCopyState ref
    .queued).motorEnqueue n
  if s1.ready e then s1.lookAgain n else s1.choose n

/-- The current copy is none; the items that belonged to it rest (log 21). -/
def State.clearCurrent (s : State) (n : Line) : State :=
  (s.modSched n fun sc =>
    { sc with current := none, phase := .head, composed := [], mark := false, outstanding := false,
              midText := false }).modTx n fun t => { t with textCase := none }

/-- The current copy, if any, is put back on the queue (R144, items 1 to 4, and R141). -/
def State.putBack (s : State) (n : Line) : State :=
  match (s.line n).sched.current with
  | none => s
  | some e =>
    let s1 := (s.clearCurrent n).modCopy e.copy fun c => { c with resume := none }
    ((s1.modSched n fun sc => { sc with queue := s1.insertBack e sc.queue }).setCopyState e.copy
      .queued).motorEnqueue n

/-- A copy is withdrawn from the queue (R140). -/
def State.withdraw (s : State) (n : Line) (ref : CopyRef) : State :=
  ((s.modSched n fun sc => { sc with queue := sc.queue.filter fun e => e.copy ≠ ref }).reconsiderMark
    n).motorEmpty n

/-! ### Reports of the transmitter (R135, R136, R138, R139) -/

/-- The current copy's last closing code was sent: it settles DELIVERED (R136). -/
def State.delivered (s : State) (n : Line) (e : QEntry) : State :=
  (((s.settle e.copy .delivered).clearCurrent n).choose n).motorEmpty n

/-- The interruption's last closing code was sent: the copy goes on the stack (R139). -/
def State.pushCurrent (s : State) (n : Line) (e : QEntry) : State :=
  let at_ := (s.line n).sched.lineStart
  let s1 := s.modCopy e.copy fun c => { c with resume := some at_, state := .stacked }
  ((s1.clearCurrent n).modSched n fun sc => { sc with stack := e :: sc.stack }).choose n

/-- Line tracking for a TEXT character sent (R135). -/
def Sched.track (sc : Sched) (c : TxChar) (textCase : Case) : Sched :=
  if c.code = lfCode then { sc with lineStart := ⟨c.index + 1, textCase⟩, sinceLF := 0 }
  else { sc with sinceLF := saturate Config.sinceLFMax sc.sinceLF }

/-- The boundary of a marked preemption (R138). -/
def Sched.atBoundary (sc : Sched) (c : TxChar) : Bool :=
  sc.mark && (c.code = lfCode || sc.sinceLF = Config.sinceLFMax)

/-- A character of line `n` is reported sent to the scheduler. -/
def State.reportSent (s : State) (n : Line) (c : TxChar) : State :=
  match (s.line n).sched.current with
  | none => s
  | some e =>
    if c.last then
      if (s.line n).sched.phase = .interrupt then s.pushCurrent n e else s.delivered n e
    else if c.role = .text then
      let s1 := s.modSched n fun sc => sc.track c ((s.line n).tx.textCase.getD .letters)
      if (s1.line n).sched.atBoundary c then s1.beginInterruption n else s1
    else s

/-- A fill character is counted on the current copy (R15). -/
def State.countFill (s : State) (ref : CopyRef) : State :=
  s.modCopy ref fun c => { c with fill := saturate Config.fillMax c.fill }

/-! ### Text that arrives (R128, R135) -/

/-- An entry became ready when record `r` went from `oldCount` and `oldComplete` to what it holds (R128). -/
def State.newlyReady (s : State) (r : RecIx) (oldCount : Nat) (oldComplete : Bool) (e : QEntry) : Bool :=
  e.copy.record = r && s.ready e && !(oldComplete || e.lead ≤ oldCount)

/-- Line `n` looks at record `r`, whose text changed (R128, R135). -/
def State.lineTextChanged (s : State) (n : Line) (r : RecIx) (oldCount : Nat) (oldComplete : Bool) : State :=
  let s1 := match (s.line n).sched.current with
    | some e => if e.copy.record = r && (s.line n).sched.outstanding then s.serveLine n else s
    | none => s
  if (s1.line n).sched.queue.any (s1.newlyReady r oldCount oldComplete) then s1.lookAgain n else s1

/-! ### Line failure (R151) -/

/-- The copies of line `n` in the order of R151, item 1. -/
def State.collected (s : State) (n : Line) : List CopyRef :=
  let sc := (s.line n).sched
  [Precedence.order, .running, .general, .bulk].flatMap fun c =>
    (sc.stack.filter fun e => s.classOf e.copy = c).map QEntry.copy
      ++ (sc.queue.filter fun e => s.classOf e.copy = c).map QEntry.copy

end Sys2Proof.Machine
end

