-- ==== Sys2Proof/WellFormed.lean ====
section
/-! DEFINITION. Which commands are commands of the part: the image has its 256 bytes, a round has at most fifteen rivals whose keys are keys, and the bytes of a receive command are not those of another kind of frame. -/

namespace Sys2Proof

/-- A key of R84 as one number (chapter 12, the arbitration key): no key falls below 32 or above 511. -/
def keyInRange (k : Nat) : Bool := 32 ≤ k && k ≤ 511

/-- The bytes begin with none of the kind bytes 1 to 7 but `kind` itself: a frame of another kind
belongs to another row of the table. Bytes of no kind (R80) are any row's. -/
def kindFits (kind : Byte) (bytes : List Byte) : Bool :=
  match bytes with
  | [] => true
  | k :: _ => k = kind || k = 0 || 7 < k.toNat

/-- The fifth byte of an ABANDON does not name the other side (chapter 12). -/
def sideFits (other : Byte) (bytes : List Byte) : Bool :=
  match bytes with
  | _ :: _ :: _ :: _ :: side :: _ => side ≠ other
  | _ => true

/-- The command is one of the part's (log 18). -/
def Instr.wellFormed : Instr → Bool
  | .imageReadComplete image _ => image.length = 256
  | .arbitrationRound rivals => rivals.length ≤ 15 && rivals.all keyInRange
  | .offerReceived bytes => kindFits 1 bytes
  | .claimReceived bytes => kindFits 2 bytes
  | .textReceived bytes => kindFits 3 bytes
  | .closeReceived bytes => kindFits 4 bytes
  | .receiptReceived bytes => kindFits 5 bytes
  | .abandonTakerReceived bytes => kindFits 6 bytes && sideFits 1 bytes
  | .abandonOriginReceived bytes => kindFits 6 bytes && sideFits 2 bytes
  | .restartReceived bytes => kindFits 7 bytes
  | .resetAsserted | .resetReleased _ | .restartKeyPress | .lampFlashToggle | .receiverMarkReading _
  | .startTransition _ | .falseStart _ | .characterReceived _ _ _ | .silenceTimerExpiry _
  | .spacingTimerExpiry _ _ | .markingTimerExpiry _ _ | .openTimerExpiry _ _ | .breakHeard _ _
  | .shiftStageBegin _ | .characterSent _ _ | .fillSent _ | .runUpTimerExpiry _ | .idleStopExpiry _
  | .turnaroundTimerExpiry _ | .offerSent | .claimSent | .textSent | .closeSent | .takerAnswerSent
  | .answerSent | .restartSent | .continuationWindowExpiry | .claimWindowExpiry _
  | .backoffWaitExpiry _ | .receiptWaitExpiry _ | .stallTimerExpiry _ | .holdOffExpiry
  | .supervisorShiftBegin | .supervisorCharacterSent | .supervisorFillSent | .loopTransition _ _ _
  | .restartKeyReleased => true

end Sys2Proof
end

