-- ==== Sys2Proof/Machine/Seeking.lean ====
section
/-! DEFINITION. Which commands post a notice (R158), read off the state they meet: a place of the supervisor queue that falls free is sought by the notice of the command that comes next (R75, R160, log 31). -/

namespace Sys2Proof.Machine

/-! ### A received character -/

/-- One of the next `k` characters of record `r` needs a block that the admission test of class `cls`
refuses (R34, R48, R58). -/
def State.refusesNext (s : State) (r : RecIx) (cls : Precedence) (k : Nat) : Bool :=
  ((List.range k).any fun i => ((s.record r).count + i) % Config.blockSize = 0)
    && (!s.store.admits cls 1 || (s.record r).state = .free)

/-- The class under which the assembler of line `n` stores when `first` is its next ordinary character:
the one that a designator gives, or the record's (R30, R58). -/
def State.storingClass (s : State) (n : Line) (r : RecIx) (first : Handed) : Precedence :=
  match (s.line n).asm.state, (s.line n).asm.step with
  | .heading, .group | .heading, .designator => (s.boot.cfg.codes.designated first).getD .general
  | _, _ => (s.record r).cls

/-- A character taken as an ordinary one, with the closing codes it releases, meets a refused block: an
OVERRUN notice (R26, R34). -/
def State.storingPosts (s : State) (n : Line) (r : RecIx) (h : Handed) : Bool :=
  let a := (s.line n).asm
  let first := if a.closingCount = 0 then h else ⟨s.boot.cfg.codes.closing, .letters⟩
  !a.overrun && s.refusesNext r (s.storingClass n r first) (a.closingCount + 1)

/-- A character of the channel group posts a notice: a SEQUENCE GAP at its end, or the OVERRUN of the
designator it is when the group is missing (R27, R29). -/
def State.groupPosts (s : State) (n : Line) (r : RecIx) (h : Handed) : Bool :=
  let a := (s.line n).asm
  if a.group.isEmpty && h.code ≠ figuresShift then
    !a.overrun && s.refusesNext r ((s.boot.cfg.codes.designated h).getD .general) 1
  else if a.group.length < 5 then false
  else
    match groupNumber (a.group ++ [h]), a.expectation with
    | some k, some e => e ≠ k
    | _, _ => false

/-- A character handed to the assembler of line `n` posts a notice (R25, R29, R34). -/
def State.handedPosts (s : State) (n : Line) (h : Handed) : Bool :=
  let a := (s.line n).asm
  match a.state, a.record with
  | .hunt, _ => h.isCode s.boot.cfg.codes.opening && 3 ≤ a.openingCount && !s.store.recordAvailable
  | .discard, _ => false
  | .heading, some r =>
    if a.step = .group then s.groupPosts n r h
    else !h.isCode s.boot.cfg.codes.closing && s.storingPosts n r h
  | .text, some r => !h.isCode s.boot.cfg.codes.closing && s.storingPosts n r h
  | .heading, none | .text, none => false

/-- A received character posts a notice. -/
def State.characterPosts (s : State) (n : Line) (code : Code) : Bool :=
  s.receiving n && (s.line n).rx.state = .inChar
    && s.handedPosts n ⟨code, (shiftOf code).getD (s.line n).rx.case⟩

/-! ### The other commands -/

/-- A message of line `n` that is closed now closes TRUNCATED, with a notice (R38). -/
def State.closePosts (s : State) (n : Line) : Bool :=
  (s.line n).asm.designatorTaken && (s.line n).asm.record.isSome

/-- A condition that leaves CLOSED closes a message of its receive side TRUNCATED (R37, R38). -/
def State.openingPosts (s : State) (n : Line) (pin : LoopPin) : Bool := receiveSide pin && s.closePosts n

/-- A TEXT frame in sequence meets a refused block: an OVERRUN notice (R119, R159). -/
def State.textPosts (s : State) (bytes : List Byte) : Bool :=
  match s.heard bytes with
  | some (.text tag sequence _) =>
    match s.takeOf tag with
    | none => false
    | some k =>
      match s.takeCtx k with
      | none => false
      | some t =>
        match t.record with
        | none => false
        | some r =>
          !s.owns tag && t.phase = .taking && t.step = .receiving && t.accepts sequence && !t.overrun
            && (s.relayedBlock k r).isNone
  | _ => false

/-- A RESTART frame is taken, and its warm restart posts RESTART HEARD (R93, R159). -/
def State.restartPosts (s : State) (bytes : List Byte) : Bool :=
  match s.heard bytes with
  | some (.restart _) => true
  | _ => false

/-- The command posts a notice in the state it meets (R158). The CONFIG notices of an image meet an empty
queue and seek no place that falls free. -/
def State.posts (s : State) : Instr → Bool
  | .restartKeyPress => s.running && s.boot.keyArmed
  | .characterReceived n code _ => s.characterPosts n code
  | .silenceTimerExpiry n => s.running && (s.line n).asm.silence.isSome && s.closePosts n
  | .spacingTimerExpiry n pin =>
    s.keeps n pin && (s.cond n pin).spacingTimer.isSome && (s.cond n pin).value = .closed
      && s.openingPosts n pin
  | .breakHeard n unit => s.comparesEcho n unit && s.openingPosts n .loopIn
  | .markingTimerExpiry n pin =>
    s.keeps n pin && (s.cond n pin).markingTimer.isSome && (s.cond n pin).value = .failed
  | .openTimerExpiry n pin =>
    s.keeps n pin && (s.cond n pin).openTimer.isSome && (s.cond n pin).value = .open
  | .textReceived bytes => Instr.wellFormed (.textReceived bytes) && s.textPosts bytes
  | .restartReceived bytes => Instr.wellFormed (.restartReceived bytes) && s.restartPosts bytes
  | .resetAsserted | .resetReleased _ | .imageReadComplete _ _ | .restartKeyReleased
  | .lampFlashToggle | .receiverMarkReading _ | .startTransition _ | .falseStart _
  | .shiftStageBegin _ | .characterSent _ _ | .fillSent _ | .runUpTimerExpiry _ | .idleStopExpiry _
  | .turnaroundTimerExpiry _ | .arbitrationRound _ | .offerSent | .claimSent | .textSent
  | .closeSent | .takerAnswerSent | .answerSent | .restartSent | .offerReceived _
  | .claimReceived _ | .closeReceived _ | .receiptReceived _ | .abandonTakerReceived _
  | .abandonOriginReceived _ | .continuationWindowExpiry | .claimWindowExpiry _
  | .backoffWaitExpiry _ | .receiptWaitExpiry _ | .stallTimerExpiry _ | .holdOffExpiry
  | .supervisorShiftBegin | .supervisorCharacterSent | .supervisorFillSent
  | .loopTransition _ _ _ => false

/-- A notice seeks a place at this moment: the command that waits next posts one (R75, log 31). -/
def State.noticeSeeks (s : State) : Bool :=
  match s.pending with
  | c :: _ => s.posts c
  | [] => false

end Sys2Proof.Machine
end

