-- ==== Sys2Proof/Machine/Supervisor.lean ====
section
/-! DEFINITION. The supervisor unit: its queue, postings, dead copies and printing (chapter 10). -/

namespace Sys2Proof.Machine

/-- Places free on the supervisor queue (R157). -/
def Supervisor.places (u : Supervisor) : Nat := Config.supervisorPlaces - u.queue.length

/-- The copy being printed: the head item's, unless its record was freed (R162, R163). -/
def Supervisor.printing (u : Supervisor) : Option CopyRef :=
  match u.queue with
  | .dead copy _ :: _ => if u.discarded || u.phase = .idle then none else some copy
  | _ => none

/-! ### Loading (R161, R162) -/

/-- The tail of a dead copy whose record carries OVERRUN or TRUNCATED (`short`) or not (R162). -/
def State.supTail (s : State) (short : Bool) : List Composed :=
  markLast ((if short then crLf ++ s.incompleteGroup else []) ++ crLf)

/-- The phase becomes TAIL with the tail composed, and no copy is mid-text (R162). -/
def State.supGoTail (s : State) (short : Bool) : State :=
  s.modSup fun u =>
    { u with phase := .tail, composed := s.supTail short, midText := false }

/-- One character of the composed list is loaded, if any is left (R161). DESIGN CHOICE (log 33): with none
left in TAIL, or in the LINE of a notice, no request is left outstanding, a case R162 states for TEXT alone. -/
def State.supLoadComposed (s : State) : State :=
  match loadComposed s.sup.tx.caseAhead s.sup.composed with
  | some (c, rest) =>
    s.modSup fun u => { u with tx := u.tx.load c, composed := rest, outstanding := false }
  | none => s

/-- The line of a dead copy is loaded: text follows from index 0, or the tail of a discarded copy (R162, R163). -/
def State.supLineLoaded (s : State) : State :=
  match s.sup.queue with
  | .dead _ _ :: _ =>
    if s.sup.discarded then s.supGoTail true
    else
      s.modSup fun u =>
        { u with phase := .text, nextIndex := 0, tx := { u.tx with textCase := some .letters } }
  | _ => s

/-- A request of the supervisor transmitter is answered in LINE. -/
def State.supServeLine (s : State) : State :=
  let s' := s.supLoadComposed
  if s'.sup.composed.isEmpty && !s.sup.composed.isEmpty then s'.supLineLoaded else s'

/-- A request is answered in TEXT, or is outstanding (R162). -/
def State.supServeText (s : State) (ref : CopyRef) : State :=
  let r := s.record ref.record
  if s.sup.nextIndex < r.count then
    s.modSup fun u =>
      { u with
        tx := u.tx.load ⟨s.charAt ref.record u.nextIndex, .text, u.nextIndex, false⟩
        nextIndex := u.nextIndex + 1, midText := true, outstanding := false }
  else if r.complete then (s.supGoTail (r.overrun || r.truncated)).supLoadComposed
  else s.modSup fun u => { u with outstanding := true }

/-- The supervisor transmitter asks for its next character (R161, R162). -/
def State.supServe (s : State) : State :=
  if s.sup.tx.holding.isSome then s
  else
    match s.sup.phase with
    | .idle => s
    | .line => s.supServeLine
    | .text =>
      match s.sup.printing with
      | some ref => s.supServeText ref
      | none => s
    | .tail => s.supLoadComposed

/-- The line of an item, as it is composed when printing begins (R161, R162). -/
def State.itemLine (s : State) : Item → List Composed
  | .notice n => markLast (printedLine n.words)
  | .dead copy _ => printedLine (s.deadCopyWords copy)

/-- Printing of the head item begins when the unit is IDLE (R161). DESIGN CHOICE (log 21): the next index is 0
in LINE; R162 sets it for the text. -/
def State.beginPrint (s : State) : State :=
  match s.sup.phase, s.sup.queue with
  | .idle, item :: _ =>
    State.supServe (s.modSup fun u =>
      { u with phase := .line, composed := s.itemLine item, nextIndex := 0, outstanding := false,
               midText := false, discarded := false })
  | _, _ => s

/-! ### The queue (R157, R158, R160) -/

/-- The supervisor unit with a posting taken, by the table of R158. -/
def Supervisor.posted (u : Supervisor) (n : Notice) : Supervisor :=
  if u.places = 0 then { u with lost := saturate Config.lostMax u.lost }
  else if u.lost = 0 then { u with queue := u.queue ++ [.notice n] }
  else if u.places = 1 then
    { u with queue := u.queue ++ [.notice (.noticesLost (saturate Config.lostMax u.lost))], lost := 0 }
  else { u with queue := u.queue ++ [.notice (.noticesLost u.lost), .notice n], lost := 0 }

/-- Copies are handed over from the head of the dead wait list while places remain (R75, R160). -/
def State.handOverMany (s : State) : Nat → State
  | 0 => s
  | fuel + 1 =>
    match s.router.deadList with
    | [] => s
    | ref :: rest =>
      if s.sup.places = 0 then s
      else
        let s' := (((s.modRouter fun r => { r with deadList := rest }).setCopyState ref .deadQueued).modSup
          fun u => { u with queue := u.queue ++ [.dead ref (s.record ref.record).gen] }).beginPrint
        State.handOverMany s' fuel

/-- The hand-over of dead copies into free places (R160). -/
def State.handOver (s : State) : State := s.handOverMany Config.supervisorPlaces

/-- Places that a notice seeks too (R75, R160): for each a free choice (log 31) hands it to the head of the
dead wait list, or leaves it and what is left to the notice, behind which the hand-over goes on. -/
def State.handOverSought (s : State) : Nat → State
  | 0 => s
  | fuel + 1 =>
    if s.sup.places = 0 || s.router.deadList.isEmpty then s
    else if Config.noticeFirst s.choices then s.chosen
    else State.handOverSought (s.chosen.handOverMany 1) fuel

/-- A block posts a notice (R158); where places are left after it, they go to the dead wait list (R75, R160). -/
def State.post (s : State) (n : Notice) : State := ((s.modSup fun u => u.posted n).beginPrint).handOver

/-- Several notices of one block, in order (R158). -/
def State.postAll (s : State) : List Notice → State
  | [] => s
  | n :: ns => State.postAll (s.post n) ns

/-- Places have fallen free since `before` (R160): they go to the dead wait list. Where a notice seeks
them at the same moment (`sought`), either may be taken first (R75). -/
def State.placeFreed (s before : State) (sought : Bool) : State :=
  if s.sup.places ≤ before.sup.places then s
  else if sought then s.handOverSought Config.supervisorPlaces
  else s.handOver

/-- What a command does is done but for the places that fell free in it since `before`: the notice of the
command that waits next may seek them (R75, R160, log 31). -/
def State.tellPlaces (s before : State) : State := s.placeFreed before s.noticeSeeks

/-- The head item leaves the queue: a dead copy settles PRINTED, the place falls free for the dead wait
list or the notice that seeks it (R75, R160), and the next item begins (R161, R162). DESIGN CHOICE (log 21):
between items the unit's next index is 0. -/
def State.itemEnded (s : State) : State :=
  let printed := s.sup.printing
  let s1 := s.modSup fun u =>
    { u with queue := u.queue.drop 1, phase := .idle, composed := [], nextIndex := 0,
             outstanding := false, midText := false, discarded := false,
             tx := { u.tx with textCase := none } }
  let s2 := match printed with
    | some ref => s1.settle ref .printed
    | none => s1
  (s2.tellPlaces s).beginPrint

/-! ### Copies of a freed record (R163) -/

/-- A dead copy item of a record in one of its lives. -/
def Item.isOf (r : RecIx) (g : Gen) : Item → Bool
  | .dead copy gen => copy.record = r && gen = g
  | .notice _ => false

/-- The head item's copy is discarded while it prints (R163). -/
def State.discardHead (s : State) : State :=
  match s.sup.phase with
  | .idle | .line | .tail => s.modSup fun u => { u with discarded := true }
  | .text =>
    let s' := (s.modSup fun u => { u with discarded := true }).supGoTail true
    if s.sup.outstanding then s'.supLoadComposed else s'

/-- The dead copies of record `r`, freed at generation `g`, are discarded where they stand (R163). The
command tells the router of the places when its records have ended. -/
def State.discardDead (s : State) (r : RecIx) (g : Gen) : State :=
  let s1 := s.modRouter fun q => { q with deadList := q.deadList.filter fun c => c.record ≠ r }
  let s2 := match s1.sup.queue with
    | head :: _ => if head.isOf r g && !s1.sup.discarded then s1.discardHead else s1
    | [] => s1
  s2.modSup fun u =>
    match u.queue with
    | head :: rest => { u with queue := head :: rest.filter fun i => !i.isOf r g }
    | [] => u

/-! ### Text that arrives (R162) -/

/-- The supervisor's outstanding request is looked at again after record `r` changed (R162). -/
def State.supTextChanged (s : State) (r : RecIx) : State :=
  match s.sup.printing with
  | some ref => if ref.record = r && s.sup.outstanding then s.supServe else s
  | none => s

end Sys2Proof.Machine
end

