-- ==== Sys2Proof/Machine/Router.lean ====
section
/-! DEFINITION. The router: the local test, dispatch, joining, send contexts and the wait for one, attempts, spoils and dead copies (chapter 4). -/

namespace Sys2Proof.Machine

/-! ### Tests (R64, R65) -/

/-- The line that serves a station code locally (R64). -/
def State.localLine (s : State) (code : StationCode) : Option Line :=
  match s.boot.cfg.stations.find? fun e => e.code = code with
  | some e => if s.canSend e.line then some e.line else none
  | none => none

/-- The intercept line, when the card holds the role and the line is not FAILED (R65). -/
def State.interceptLine (s : State) : Option Line :=
  match s.boot.cfg.intercept with
  | some n => if s.canSend n then some n else none
  | none => none

/-- The line a dispatched copy is bound to, if any (R66, R68). -/
def State.dispatchLine (s : State) (ref : CopyRef) : Option Line :=
  if s.isIntercept ref then s.interceptLine else s.localLine (s.copy ref).station

/-! ### Local binding (R67) -/

/-- The copy at an index of a record can be joined on line `n` (R67). -/
def joinable (n : Line) (c : Copy) : Bool :=
  c.line = some n && c.joinedWith.isNone && c.state ≠ .settled

/-- The copy of `ref`'s record that is bound to line `n` already and can be joined there (R56, R67; section
8.1: a line holds at most one unsettled copy of a record). DEDUCED (log 11): earlier is said of the binding,
not of the copy's number. -/
def State.partner (s : State) (n : Line) (ref : CopyRef) : Option CopyIx :=
  (List.finRange 6).find? fun i =>
    i ≠ ref.ix && i.val < (s.record ref.record).copies.length && joinable n (s.copy ⟨ref.record, i⟩)

/-- A copy is bound to line `n`: joined, or enqueued (R67). -/
def State.bindLocal (s : State) (n : Line) (ref : CopyRef) : State :=
  match s.partner n ref with
  | some p => s.modCopy ref fun c => { c with line := some n, joinedWith := some p, state := .unrouted }
  | none => (s.modCopy ref fun c => { c with line := some n }).enqueue n ref

/-! ### Send contexts and the wait for one (R69 to R71) -/

/-- The attempt at which a copy's series starts (R71). -/
def State.firstAttempt (s : State) (ref : CopyRef) : Nat :=
  if s.isIntercept ref then s.boot.cfg.threshold else 1

/-- The copy takes send context `k` and starts its series (R71). -/
def State.startSeries (s : State) (k : CtxIx) (ref : CopyRef) : State :=
  (s.modCopy ref fun c => { c with attempt := s.firstAttempt ref }).giveSend k ref

/-- The copy joins the tail of the context wait list, BACKOFF (R69). -/
def State.waitForContext (s : State) (ref : CopyRef) : State :=
  (s.setCopyState ref .backoff).modRouter fun r =>
    { r with waitList := if r.waitList.contains ref then r.waitList else r.waitList ++ [ref] }

/-- A copy to be offered (R69). -/
def State.offerCopy (s : State) (ref : CopyRef) : State :=
  match s.freeSendCtx with
  | some k =>
    if s.router.waitList.isEmpty && s.port.holdOff.isNone then s.startSeries k ref
    else s.waitForContext ref
  | none => s.waitForContext ref

/-- The context wait list is served while a context is free and no hold-off runs (R70). -/
def State.serveWaitMany (s : State) : Nat → State
  | 0 => s
  | fuel + 1 =>
    match s.router.waitList, s.freeSendCtx with
    | ref :: rest, some k =>
      if s.port.holdOff.isNone then
        let s' := s.modRouter fun r => { r with waitList := rest }
        match s.localLine (s.copy ref).station with
        | some n => State.serveWaitMany (s'.bindLocal n ref) fuel
        | none => State.serveWaitMany (s'.startSeries k ref) fuel
      else s
    | _, _ => s

/-- A send context became free (R70). -/
def State.serveWaitList (s : State) : State := s.serveWaitMany s.router.waitList.length

/-! ### Dispatch (R66, R76, R77) -/

/-- A series starts with both counts 0 (R66, item 1). -/
def State.startCounts (s : State) (ref : CopyRef) : State :=
  s.modCopy ref fun c => { c with attempt := 0, spoil := 0 }

/-- One copy is dispatched (R66). -/
def State.dispatchCopy (s : State) (ref : CopyRef) : State :=
  let s' := s.startCounts ref
  match s'.dispatchLine ref with
  | some n => s'.bindLocal n ref
  | none => s'.offerCopy ref

/-- Several copies are dispatched in order. -/
def State.dispatchAll (s : State) : List CopyRef → State
  | [] => s
  | ref :: refs => State.dispatchAll (s.dispatchCopy ref) refs

/-- The copies of a record, in copy-table order. -/
def State.copiesOf (s : State) (r : RecIx) : List CopyRef :=
  ((List.finRange 6).filter fun i => i.val < (s.record r).copies.length).map fun i => ⟨r, i⟩

/-- A record handed over by the assembler is dispatched: its UNROUTED copies (R66). -/
def State.dispatchRecord (s : State) (r : RecIx) : State :=
  s.dispatchAll ((s.copiesOf r).filter fun ref => s.copyState ref = .unrouted)

/-- The restart list is dispatched: copies not bound locally gather for the wait list (R77, item 4). -/
def State.dispatchRestart (s : State) : List CopyRef → State × List CopyRef
  | [] => (s, [])
  | ref :: refs =>
    let s' := s.startCounts ref
    match s'.dispatchLine ref with
    | some n => State.dispatchRestart (s'.bindLocal n ref) refs
    | none =>
      let rest := State.dispatchRestart (s'.setCopyState ref .backoff) refs
      (rest.1, ref :: rest.2)

/-- The restart hold-off ends (R77, item 4; R94). -/
def State.holdOffEnds (s : State) : State :=
  let s1 := (s.modPort fun p => { p with holdOff := none }).modRouter fun r => { r with restartList := [] }
  let d := s1.dispatchRestart s.router.restartList
  (d.1.modRouter fun r => { r with waitList := d.2 ++ r.waitList }).serveWaitList

/-- An enqueue a take context asks for; refused on a FAILED line (R153). -/
def State.enqueueOrRefuse (s : State) (n : Line) (ref : CopyRef) : State :=
  if s.canSend n then s.enqueue n ref
  else ((s.modCopy ref fun c => { c with line := none }).setCopyState ref .unrouted).dispatchCopy ref

/-! ### Attempts, spoils, dead copies (R72 to R75) -/

/-- A copy in send context `k` becomes dead (R75). -/
def State.die (s : State) (k : CtxIx) (ref : CopyRef) : State :=
  ((((s.setCopyState ref .deadWaiting).freeSend k).modRouter fun r =>
    { r with deadList := if r.deadList.contains ref then r.deadList else r.deadList ++ [ref] }).handOver).serveWaitList

/-- The copy in send context `k` is bound locally in place of a re-offer (R74). -/
def State.bindInstead (s : State) (k : CtxIx) (n : Line) (ref : CopyRef) : State :=
  ((s.freeSend k).bindLocal n ref).serveWaitList

/-- The intercept test before a re-offer at attempt `next` (R74, item 2). -/
def State.interceptAt (s : State) (next : Nat) : Option Line :=
  if s.boot.cfg.threshold ≤ next then s.interceptLine else none

/-- A re-offer of the copy in send context `k` at attempt `next` (R74). -/
def State.reoffer (s : State) (k : CtxIx) (ref : CopyRef) (next : Nat) : State :=
  match s.localLine (s.copy ref).station with
  | some n => s.bindInstead k n ref
  | none =>
    match s.interceptAt next with
    | some n => s.bindInstead k n ref
    | none => (s.modCopy ref fun c => { c with attempt := next }).askOffer k

/-- The backoff wait after attempt `k` goes unclaimed (R72). -/
def backoffMs (k : Nat) : Nat := min (250 * 2 ^ (k - 1)) 8000

/-- The copy in send context `k` is unclaimed (R72). -/
def State.unclaimed (s : State) (k : CtxIx) (ref : CopyRef) : State :=
  let a := (s.copy ref).attempt
  if a = Config.attemptMax then s.die k ref
  else (s.setCopyState ref .backoff).modSend k fun c => { c with backoff := some (backoffMs a) }

/-- The next attempt after a spoil, with the spoil count as it stood before (R73). -/
def nextAttempt (threshold spoil attempt : Nat) : Option Nat :=
  match spoil with
  | 0 => some (attempt + 1)
  | 1 => some (max (attempt + 1) threshold)
  | _ => none

/-- The transfer in send context `k` ends in a spoil (R73, R116). -/
def State.spoiled (s : State) (k : CtxIx) (ref : CopyRef) : State :=
  let c := s.copy ref
  let s1 := (s.dropSend k).modSend k fun c =>
    { c with receiptWait := none, blocksSent := 0, charsSent := 0 }
  let s2 := s1.modCopy ref fun c => { c with spoil := min (c.spoil + 1) 2 }
  match nextAttempt s.boot.cfg.threshold c.spoil c.attempt with
  | none => s2.die k ref
  | some next => if Config.attemptMax < next then s2.die k ref else s2.reoffer k ref next

/-- The copy in send context `k` settles HANDED (R115). -/
def State.handed (s : State) (k : CtxIx) (ref : CopyRef) : State :=
  ((s.settle ref .handed).freeSend k).serveWaitList

end Sys2Proof.Machine
end

