-- ==== Sys2Proof/Machine/Transfer.lean ====
section
/-! DEFINITION. What several blocks share about a record that changes: text that arrives, records that end, take contexts that end, and the warm restart (R61, R63, R77, R93, R102, R106, R107, R120). -/

namespace Sys2Proof.Machine

/-! ### Text that arrives or is complete -/

/-- The send contexts that carry record `r` look for their next frame (R110). -/
def State.sendsLook (s : State) (r : RecIx) : List CtxIx → State
  | [] => s
  | k :: ks =>
    let s' := if (s.sendCtx k).any fun c => c.copy.record = r then s.lookNext k else s
    State.sendsLook s' r ks

/-- The lines look at record `r` (R128, R135). -/
def State.linesLook (s : State) (r : RecIx) (oldCount : Nat) (oldComplete : Bool) : List Line → State
  | [] => s
  | n :: ns => State.linesLook (s.lineTextChanged n r oldCount oldComplete) r oldCount oldComplete ns

/-- Every reader of record `r` is told that its count rose or its text is complete.
DESIGN CHOICE (log 15): lines, then send contexts, then the supervisor unit. -/
def State.textChanged (s : State) (r : RecIx) (oldCount : Nat) (oldComplete : Bool) : State :=
  ((s.linesLook r oldCount oldComplete (List.finRange 4)).sendsLook r (List.finRange 4)).supTextChanged r

/-! ### Records that end (R61, R117, R163) -/

/-- The record's copy has started: it is cut short (R61). -/
def State.cutShort (s : State) (r : RecIx) : State :=
  let count := (s.record r).count
  (s.modRecord r fun rec => { rec with truncated := true, complete := true, state := .stored }).textChanged
    r count false

/-- The send context that holds a copy is freed with the copy's record (R117). -/
def State.dropSendOf (s : State) (ref : CopyRef) : State :=
  match s.sendOf ref with
  | some k => s.freeSend k
  | none => s

/-- A copy leaves the context wait list and the restart list (R61). -/
def State.forgetCopy (s : State) (ref : CopyRef) : State :=
  s.modRouter fun q =>
    { q with waitList := q.waitList.filter fun c => c ≠ ref,
             restartList := q.restartList.filter fun c => c ≠ ref }

/-- A QUEUED copy is withdrawn from its line (R61, R140). -/
def State.withdrawCopy (s : State) (ref : CopyRef) : State :=
  match (s.copy ref).line with
  | some n => if (s.copy ref).state = .queued then s.withdraw n ref else s
  | none => s

/-- The record's copy has not started: the copy is discarded where it stands and the record is freed
(R61, R117, R163). -/
def State.discardRecord (s : State) (r : RecIx) : State :=
  let ref : CopyRef := ⟨r, 0⟩
  let held := (s.sendOf ref).isSome
  let s1 := (((s.withdrawCopy ref).forgetCopy ref).dropSendOf ref).discardDead r (s.record r).gen
  let s2 := s1.freeRecord r
  if held then s2.serveWaitList else s2

/-- A TAKING record is ended (R61). -/
def State.endRecord (s : State) (r : RecIx) : State :=
  if (s.copy ⟨r, 0⟩).channel.isSome then s.cutShort r else s.discardRecord r

/-! ### Take contexts that end -/

/-- Take context `k`'s reservation is released and its record, if still TAKING, ended (R47, R61). -/
def State.endTakeRecord (s : State) (k : CtxIx) (t : Take) : State :=
  let s1 := s.releaseReservation k
  match t.record with
  | some r => if t.step = .receiving && (s.record r).state = .taking then s1.endRecord r else s1
  | none => s1

/-- A CLAIMING context drops its claim (R106). -/
def State.dropClaim (s : State) (k : CtxIx) : State :=
  ((s.freeTake k).releaseReservation k).unpledge

/-- A TAKING context gives its copy up and becomes FREE, with an ended-take entry (R106); a place that its
dead copy leaves on the supervisor queue falls free (R160, R163). -/
def State.giveUpTake (s : State) (k : CtxIx) (t : Take) : State :=
  (((s.endTakeRecord k t).freeTake k).addEnded t.tag t.cls).tellPlaces s

/-- The transfer of take context `k` ends with an ABANDON of side TAKER (R120, R160). -/
def State.abandonTake (s : State) (k : CtxIx) (t : Take) (reason : Reason) : State :=
  let s1 := (s.modTake k fun t => { t with stall := none, step := .answering }).askTake k (.abandon reason)
  (s1.endTakeRecord k t).tellPlaces s

/-- Take context `k` owes the RECEIPT of its CLOSE (R121, R122). -/
def State.answerClose (s : State) (k : CtxIx) : State :=
  s.modTake k fun t => { t with stall := none, step := .answering }

/-! ### Warm restart (R63, R77, R93, R94, R125) -/

/-- The states that a warm restart takes back to UNROUTED (R63, item 3). -/
def inHighwayState (st : CopyState) : Bool :=
  match st with
  | .offered | .streaming | .awaitReceipt | .backoff => true
  | .unrouted | .queued | .stacked | .sending | .deadWaiting | .deadQueued | .settled => false

/-- A copy as R63, item 3 leaves it. -/
def Copy.returned (c : Copy) : Copy :=
  if inHighwayState c.state then { c with state := .unrouted, attempt := 0, spoil := 0 } else c

/-- The copies that R63, item 3 returns, by record number and copy index (R77, item 1). -/
def State.returnedCopies (s : State) : List CopyRef :=
  (List.finRange 32).flatMap fun r =>
    (s.copiesOf r).filter fun ref => inHighwayState (s.copy ref).state

/-- The TAKING records of a list are ended in its order (R63, item 2).
DESIGN CHOICE (log 32): a warm restart gives every record in rising number. R63 states no order among
them, and so none of their blocks on the free list. -/
def State.endTaking (s : State) : List RecIx → State
  | [] => s
  | r :: rs => State.endTaking (if (s.record r).state = .taking then s.endRecord r else s) rs

/-- Copies in highway states become UNROUTED and join the restart list; the wait list is emptied
(R63, item 3; R77, item 1). -/
def State.returnCopies (s : State) : State :=
  let back := s.returnedCopies
  (s.modStore fun st =>
    { st with records := st.records.map fun r => { r with copies := r.copies.map Copy.returned } }).modRouter
    fun q => { q with waitList := [], restartList := q.restartList ++ back }

/-- The port as R93, items 1 to 4, leaves it, before its tenure is told from what stays pending.
DEDUCED (log 13): a frame being driven is completed; its report reaches its source only if that is the
port's own RESTART kept pending. -/
def Port.restarted (p : Port) (received : Bool) : Port :=
  { p with
    tenure := if p.driven.isSome then p.tenure else .out
    burst := 0
    driven := p.driven.map fun d => { d with live := d.live && d.source = .restart && !received }
    send := Vector.replicate 4 none
    take := Vector.replicate 4 none
    answers := []
    ended := []
    restartPending := p.restartPending && !received }

/-- The hold-off of a slot starts; slot 0's ends at the moment it starts (R94). -/
def State.startHoldOff (s : State) : State :=
  if s.boot.slot.val = 0 then s.holdOffEnds
  else s.modPort fun p => { p with holdOff := some (Config.holdOffStep * s.boot.slot.val) }

/-- A warm restart told by `sender`; `received` when it came in a RESTART frame (R93). Its own RESTART
HEARD notice seeks the places that fall free in it, with a choice for each place (R75, R163, log 31). -/
def State.warmRestart (s : State) (sender : Slot) (received : Bool) : State :=
  let s1 := (s.modPort fun p => p.restarted received).refreshTenure
  let s2 := s1.modStore fun st => { st with reserved := Vector.replicate 4 0, pledges := 0 }
  let s3 := ((s2.endTaking (List.finRange 32)).placeFreed s2 true).returnCopies
  (s3.post (.restartHeard sender)).startHoldOff

end Sys2Proof.Machine
end

