-- ==== Sys2Proof/Machine/HighwayReceive.lean ====
section
/-! DEFINITION. The commands of a port that hears a frame end: the sorting of R90 and what each owner does (R80, R99 to R107, R114 to R123). -/

namespace Sys2Proof.Machine

/-! ### OFFER (R99 to R101, R107) -/

/-- The offer as decided and held by a take context in CLAIMING (R101). The items that R118 starts with
TAKING (step, next sequence, counts, check, overrun mark) have no value of the spec's before it: the model
has RECEIVING, 0 and clear there (DESIGN CHOICE, log 21). -/
def Take.claiming (tag : Tag) (cls : Precedence) (station : StationCode) (length : Option Nat)
    (cpm attempt : Nat) (line : Line) : Take :=
  { phase := .claiming, tag := tag, cls := cls, station := station, length := length, cpm := cpm,
    attempt := attempt, line := line, record := none, pending := none, step := .receiving, nextSeq := 0,
    lastCount := 0, received := 0, check := 0, overrun := false, stall := none }

/-- The line the station test gives (R100, item 1). -/
def State.stationLine (s : State) (station : StationCode) (attempt : Nat) : Option Line :=
  match s.boot.cfg.stations.find? fun e => e.code = station with
  | some e =>
    if s.canSend e.line && (e.preference = .primary || 2 ≤ attempt) then some e.line else none
  | none => none

/-- The line for an offered copy (R100). -/
def State.claimLine (s : State) (station : StationCode) (attempt : Nat) : Option Line :=
  match s.stationLine station attempt with
  | some n => some n
  | none => s.interceptAt attempt

/-- The blocks an offer needs (R46). -/
def State.neededBlocks (s : State) (length : Option Nat) : Nat := blocksFor (length.getD s.boot.cfg.lcut)

/-- The claim is made in take context `k` for line `n` (R101). -/
def State.claim (s : State) (k : CtxIx) (t : Take) : State :=
  ((((s.setTake k (some t)).setReserved k (s.neededBlocks t.length)).pledge).askTake k .claim)

/-- The claim decision on an OFFER (R99, R100, R101). -/
def State.claimDecision (s : State) (tag : Tag) (cls : Precedence) (station : StationCode)
    (length : Option Nat) (cpm attempt : Nat) : State :=
  match s.takeOf tag, s.claimLine station attempt, s.freeTakeCtx with
  | none, some n, some k =>
    if s.store.recordAvailable && s.store.admits cls (s.neededBlocks length) then
      s.claim k (Take.claiming tag cls station length cpm attempt n)
    else s
  | _, _, _ => s

/-- A take context that holds the tag weighs a re-OFFER (R107). -/
def State.weighLost (s : State) (tag : Tag) (cls : Precedence) (attempt : Nat) : State :=
  match s.takeOf tag with
  | none => s
  | some k =>
    match s.takeCtx k with
    | none => s
    | some t =>
      if attempt ≤ t.attempt then s
      else
        match t.phase with
        | .claiming => s.dropClaim k
        | .taking =>
          (((s.endTakeRecord k t).freeTake k).addAnswer tag .claimLost cls).addEnded t.tag t.cls

/-- An OFFER of another card is weighed (R90, R99); a place that a copy given up leaves on the supervisor
queue falls free (R160, R163). -/
def State.weighOffer (s : State) (tag : Tag) (cls : Precedence) (station : StationCode)
    (length : Option Nat) (cpm attempt : Nat) : State :=
  let s1 := (s.weighLost tag cls attempt).dropEnded tag
  (s1.claimDecision tag cls station length cpm attempt).tellPlaces s

/-- OFFER_RECEIVED: lost claims, the ended-take list, the claim decision (R90, R99). -/
def execOfferReceived (bytes : List Byte) (s : State) : Host.Outcome State Fault Refusal :=
  if Instr.wellFormed (.offerReceived bytes) then
    .next
      (match s.heard bytes with
       | some (.offer tag cls station length cpm attempt) =>
         if s.owns tag then s else s.weighOffer tag cls station length cpm attempt
       | _ => s)
  else .refused .illFormed

/-! ### CLAIM (R103, R106) -/

/-- The origin takes a CLAIM: the copy is STREAMING and its transfer begins (R103, R109). -/
def State.takeClaim (s : State) (k : CtxIx) (c : Send) (claimant : Slot) : State :=
  ((s.setSend k (some { c with taken := some claimant, blocksSent := 0, charsSent := 0,
                               receiptWait := none })).setCopyState c.copy .streaming).lookNext k

/-- A CLAIM for a live tag at its origin (R103). -/
def State.judgeClaim (s : State) (tag : Tag) (claimant : Slot) : State :=
  let cls := s.classOf tag.copyRef
  match s.sendOf tag.copyRef with
  | none => s.addAnswer tag .late cls
  | some k =>
    match s.sendCtx k with
    | none => s
    | some c =>
      match c.window, c.taken with
      | some _, none => s.takeClaim k c claimant
      | some _, some slot => if slot = claimant then s else s.addAnswer tag .claimedElsewhere cls
      | none, _ => s.addAnswer tag .late cls

/-- The CLAIM of take context `k` is still pending and not being driven (R90, log 24). -/
def State.claimPends (s : State) (k : CtxIx) (t : Take) : Bool :=
  t.phase = .claiming && !(s.port.driven.any fun d => d.source = .take k && d.live)

/-- A rival's CLAIM for a tag this card holds (R106). -/
def State.hearRival (s : State) (tag : Tag) : State :=
  match s.takeOf tag with
  | none => s
  | some k =>
    match s.takeCtx k with
    | some t => if s.claimPends k t then s.dropClaim k else s
    | none => s

/-- CLAIM_RECEIVED: judged at the origin; a rival's CLAIM drops a pending claim (R90, R103, R106). -/
def execClaimReceived (bytes : List Byte) (s : State) : Host.Outcome State Fault Refusal :=
  if Instr.wellFormed (.claimReceived bytes) then
    .next
      (match s.heard bytes with
       | some (.claim tag claimant) =>
         if s.owns tag then (if s.tagLive tag then s.judgeClaim tag claimant else s)
         else s.hearRival tag
       | _ => s)
  else .refused .illFormed

/-! ### TEXT (R118 to R120, R89) -/

/-- The characters of an accepted TEXT in a block just granted: written, counted, and shown to every
reader (R59, R119). -/
def State.appendBlock (s : State) (r : RecIx) (chars : List Code) : State :=
  let count := (s.record r).count
  ((s.writeChars r count chars).modRecord r fun rec => { rec with count := count + chars.length }).textChanged
    r count false

/-- The store refuses the take context a block (R59, R119, R159). -/
def State.takeOverrun (s : State) (k : CtxIx) (r : RecIx) (t : Take) : State :=
  ((s.modRecord r fun rec => { rec with overrun := true }).modTake k fun t =>
    { t with overrun := true }).post (.overrunHighway t.tag t.cls)

/-- The characters of an accepted TEXT are stored, or dropped under the overrun mark (R119, item 1). -/
def State.storeBlock (s : State) (k : CtxIx) (r : RecIx) (t : Take) (chars : List Code) : State :=
  if t.overrun then s
  else
    match s.relayedBlock k r with
    | some s' => s'.appendBlock r chars
    | none => s.takeOverrun k r t

/-- A take context's tally after an accepted TEXT (R119, items 2 to 4). -/
def Take.tallied (t : Take) (chars : List Code) : Take :=
  { t with check := textCheckFrom t.received t.check chars, received := t.received + chars.length,
           nextSeq := t.nextSeq + 1, lastCount := chars.length, stall := some Config.stallTime }

/-- A TEXT for the tag of take context `k` (R118, R119, R120, R123). -/
def State.takeText (s : State) (k : CtxIx) (t : Take) (sequence : Nat) (chars : List Code) : State :=
  match t.phase, t.step, t.record with
  | .claiming, _, _ => s.dropClaim k
  | .taking, .receiving, some r =>
    if t.accepts sequence then (s.storeBlock k r t chars).modTake k fun t => t.tallied chars
    else s.abandonTake k t .order
  | .taking, _, _ => s

/-- A TEXT for a tag no take context holds (R89, R91). -/
def State.textEnded (s : State) (tag : Tag) : State :=
  match s.port.ended.find? fun e => e.tag = tag with
  | some e => s.addAnswer tag .noTransfer e.cls
  | none => s

/-- A TEXT of another card (R90). -/
def State.hearText (s : State) (tag : Tag) (sequence : Nat) (chars : List Code) : State :=
  match s.takeOf tag with
  | none => s.textEnded tag
  | some k =>
    match s.takeCtx k with
    | some t => s.takeText k t sequence chars
    | none => s

/-- TEXT_RECEIVED: accepted in sequence, abandoned out of it, or answered NO_TRANSFER (R90, R119, R120). -/
def execTextReceived (bytes : List Byte) (s : State) : Host.Outcome State Fault Refusal :=
  if Instr.wellFormed (.textReceived bytes) then
    .next
      (match s.heard bytes with
       | some (.text tag sequence chars) => if s.owns tag then s else s.hearText tag sequence chars
       | _ => s)
  else .refused .illFormed

/-! ### CLOSE (R121, R122) -/

/-- The flags a matching CLOSE brings, and the completion of the record (R121, items 1 and 2). -/
def Record.accepted (r : Record) (overrun truncated : Bool) (mutilated : Nat) : Record :=
  { r with overrun := r.overrun || overrun, truncated := r.truncated || truncated, mutilated := mutilated,
           complete := true, state := .stored }

/-- The copy of an accepted record is enqueued if it is UNROUTED and bound to a line (R121, item 4). -/
def State.enqueueAccepted (s : State) (ref : CopyRef) : State :=
  match (s.copy ref).line with
  | some n => if (s.copy ref).state = .unrouted then s.enqueueOrRefuse n ref else s
  | none => s

/-- A CLOSE that matches is accepted (R121). -/
def State.acceptClose (s : State) (k : CtxIx) (r : RecIx) (overrun truncated : Bool) (mutilated : Nat) :
    State :=
  let count := (s.record r).count
  let s1 := (s.answerClose k).modRecord r fun rec => rec.accepted overrun truncated mutilated
  let s2 := ((s1.textChanged r count false).releaseReservation k).enqueueAccepted ⟨r, 0⟩
  (s2.askTake k .accepted).tryFree r

/-- A CLOSE that does not match is answered SPOILED (R122). -/
def State.spoilClose (s : State) (k : CtxIx) (t : Take) : State :=
  (((s.answerClose k).askTake k .spoiled).endTakeRecord k t).tellPlaces s

/-- A CLOSE for the tag of take context `k` (R118, R121 to R123). -/
def State.takeClose (s : State) (k : CtxIx) (t : Take) (total check : Nat) (overrun truncated : Bool)
    (mutilated : Nat) : State :=
  match t.phase, t.step, t.record with
  | .claiming, _, _ => s.dropClaim k
  | .taking, .receiving, some r =>
    if total = t.received ∧ check = t.check then s.acceptClose k r overrun truncated mutilated
    else s.spoilClose k t
  | .taking, _, _ => s

/-- CLOSE_RECEIVED: the CLOSE is judged and answered (R90, R121, R122). -/
def execCloseReceived (bytes : List Byte) (s : State) : Host.Outcome State Fault Refusal :=
  if Instr.wellFormed (.closeReceived bytes) then
    .next
      (match s.heard bytes with
       | some (.close tag total check overrun truncated mutilated) =>
         if s.owns tag then s
         else
           match s.takeOf tag with
           | none => s
           | some k =>
             match s.takeCtx k with
             | some t => s.takeClose k t total check overrun truncated mutilated
             | none => s
       | _ => s)
  else .refused .illFormed

/-! ### RECEIPT and ABANDON (R105, R106, R114 to R116) -/

/-- The send context that holds the copy of a live tag of this card (R90). -/
def State.liveSend (s : State) (tag : Tag) : Option CtxIx :=
  if s.owns tag && s.tagLive tag then s.sendOf tag.copyRef else none

/-- RECEIPT_RECEIVED: HANDED, a spoil, or nothing (R105, R114, R115, R116). -/
def execReceiptReceived (bytes : List Byte) (s : State) : Host.Outcome State Fault Refusal :=
  if Instr.wellFormed (.receiptReceived bytes) then
    .next
      (match s.heard bytes with
       | some (.receipt tag accepted) =>
         match s.liveSend tag with
         | none => s
         | some k =>
           if (s.copy tag.copyRef).state = .awaitReceipt then
             if accepted then s.handed k tag.copyRef else s.spoiled k tag.copyRef
           else s
       | _ => s)
  else .refused .illFormed

/-- CLAIM_LOST restarts a running claim window in which no claim was taken (R105). -/
def Send.claimLost (c : Send) : Send :=
  if c.window.isSome && c.taken.isNone then { c with window := some Config.claimWindow } else c

/-- A taker's ABANDON that counts as a spoil reaches the copy in send context `k` (R105, R114). -/
def State.takerAbandons (s : State) (k : CtxIx) (ref : CopyRef) : State :=
  if (s.copy ref).state = .streaming ∨ (s.copy ref).state = .awaitReceipt then s.spoiled k ref else s

/-- ABANDON_TAKER_RECEIVED: a spoil, a window started again, or nothing (R105, R114). -/
def execAbandonTakerReceived (bytes : List Byte) (s : State) : Host.Outcome State Fault Refusal :=
  if Instr.wellFormed (.abandonTakerReceived bytes) then
    .next
      (match s.heard bytes with
       | some (.abandon tag reason) =>
         match s.liveSend tag, reason with
         | none, _ => s
         | some k, .claimLost => s.modSend k Send.claimLost
         | some k, .noTransfer => s.takerAbandons k tag.copyRef
         | some k, .order => s.takerAbandons k tag.copyRef
         | some k, .stall => s.takerAbandons k tag.copyRef
         | some _, .late => s
         | some _, .claimedElsewhere => s
       | _ => s)
  else .refused .illFormed

/-- An origin's ABANDON reaches the take context that holds its tag (R106, R123). -/
def State.originAbandons (s : State) (tag : Tag) : State :=
  match s.takeOf tag with
  | none => s
  | some k =>
    match s.takeCtx k with
    | none => s
    | some t =>
      match t.phase with
      | .claiming => s.dropClaim k
      | .taking => s.giveUpTake k t

/-- ABANDON_ORIGIN_RECEIVED: the take context gives its claim or its copy up (R106, R123). -/
def execAbandonOriginReceived (bytes : List Byte) (s : State) : Host.Outcome State Fault Refusal :=
  if Instr.wellFormed (.abandonOriginReceived bytes) then
    .next
      (match s.heard bytes with
       | some (.abandon tag reason) =>
         if reason.byOrigin && !s.owns tag then s.originAbandons tag else s
       | _ => s)
  else .refused .illFormed

/-- RESTART_RECEIVED: a warm restart at the end of the frame (R93). -/
def execRestartReceived (bytes : List Byte) (s : State) : Host.Outcome State Fault Refusal :=
  if Instr.wellFormed (.restartReceived bytes) then
    .next
      (match s.heard bytes with
       | some (.restart sender) => s.warmRestart sender true
       | _ => s)
  else .refused .illFormed

end Sys2Proof.Machine
end

