-- ==== Sys2Proof/Machine/HighwaySend.lean ====
section
/-! DEFINITION. The commands of a port that contends and drives: the arbitration round and the end of each frame of its own (R79, R84 to R87, R98, R102, R111, R112, R123). -/

namespace Sys2Proof.Machine

/-- The card's greatest frame wins a round against the rivals' keys (R84). -/
def State.winsAgainst (s : State) (w : Waiting) (rivals : List Nat) : Bool :=
  rivals.all fun r => r ≤ s.keyOf w

/-- The port is outside any tenure of its own: OUT or CONTENDING with nothing being driven (R84). -/
def State.outsideTenure (s : State) : Bool :=
  s.port.driven.isNone && (s.port.tenure = .out || s.port.tenure = .contending)

/-- The round itself: the winner drives its greatest pending frame (R84, R85). -/
def State.round (s : State) (rivals : List Nat) : State :=
  match s.greatest with
  | some w => if s.winsAgainst w rivals then s.drive w.source true else s
  | none => s

/-- ARBITRATION_ROUND: a round begins on the IDLE highway (R79, R84, R85). -/
def execArbitrationRound (rivals : List Nat) (s : State) : Host.Outcome State Fault Refusal :=
  if Instr.wellFormed (.arbitrationRound rivals) then
    .next
      (if s.running && s.outsideTenure then
         (s.modPort fun p => { p with awaitIdle := false }).round rivals
       else s)
  else .refused .illFormed

/-! ### The end of a frame of the card's own -/

/-- The frame being driven by a RUNNING card, if it is of the kind that `p` tests. -/
def State.driving (s : State) (p : Frame → Bool) : Option Driven :=
  match s.port.driven with
  | some d => if s.running && p d.frame then some d else none
  | none => none

/-- Nothing is being driven any more. -/
def State.undrive (s : State) : State := s.modPort fun p => { p with driven := none }

/-- The frame is an OFFER. -/
def Frame.isOffer : Frame → Bool
  | .offer _ _ _ _ _ _ => true
  | _ => false

/-- The frame is a CLAIM. -/
def Frame.isClaim : Frame → Bool
  | .claim _ _ => true
  | _ => false

/-- The frame is a TEXT. -/
def Frame.isText : Frame → Bool
  | .text _ _ _ => true
  | _ => false

/-- The frame is a CLOSE. -/
def Frame.isClose : Frame → Bool
  | .close _ _ _ _ _ _ => true
  | _ => false

/-- The frame is a RECEIPT or an ABANDON. -/
def Frame.isAnswer : Frame → Bool
  | .receipt _ _ | .abandon _ _ => true
  | _ => false

/-- The frame is a RESTART. -/
def Frame.isRestart : Frame → Bool
  | .restart _ => true
  | _ => false

/-- The source is a take context. -/
def FrameSource.isTake : FrameSource → Bool
  | .take _ => true
  | _ => false

/-- The source is the answer list. -/
def FrameSource.isAnswer : FrameSource → Bool
  | .answer _ _ => true
  | _ => false

/-- An OFFER is reported sent to its send context (R98). -/
def State.offerReported (s : State) (k : CtxIx) : State :=
  match s.sendCtx k with
  | some c =>
    (s.setSend k (some { c with pending := none, window := some Config.claimWindow, taken := none })).setCopyState
      c.copy .offered
  | none => s

/-- OFFER_SENT: the claim window opens, and the tenure ends (R86, R98). -/
def execOfferSent (s : State) : Host.Outcome State Fault Refusal :=
  .next
    (match s.driving Frame.isOffer with
     | some d =>
       match d.source, d.live with
       | .send k, true => (s.undrive.offerReported k).endTenure
       | _, _ => s.undrive.endTenure
     | none => s)

/-- A take context as it enters TAKING with its record (R102, R118). -/
def Take.begun (t : Take) (r : RecIx) : Take :=
  { t with phase := .taking, record := some r, pending := none, step := .receiving, nextSeq := 0,
           lastCount := 0, received := 0, check := 0, overrun := false, stall := some Config.stallTime }

/-- A CLAIM is reported sent to its take context: the record, and the enqueue of an OPEN offer (R102). -/
def State.claimReported (s : State) (k : CtxIx) : State :=
  match s.takeCtx k, s.store.lowestFree with
  | some t, some r =>
    let s1 := ((s.modRecord r fun rec => Record.relayed rec.gen t).unpledge).setTake k (some (t.begun r))
    if t.length.isNone then s1.enqueueOrRefuse t.line ⟨r, 0⟩ else s1
  | _, _ => s

/-- CLAIM_SENT: the take context enters TAKING, and the tenure ends (R86, R102). -/
def execClaimSent (s : State) : Host.Outcome State Fault Refusal :=
  .next
    (match s.driving Frame.isClaim with
     | some d =>
       match d.source, d.live with
       | .take k, true => (s.undrive.claimReported k).endTenure
       | _, _ => s.undrive.endTenure
     | none => s)

/-- The number of characters a TEXT carries. -/
def Frame.carried : Frame → Nat
  | .text _ _ chars => chars.length
  | _ => 0

/-- A TEXT is reported sent: the counts rise, the window opens, and the next frame is looked for
(R86, R87, R111). -/
def State.textReported (s : State) (k : CtxIx) (d : Driven) : State :=
  State.lookNext
    ((s.modSend k fun c =>
      { c with pending := none, blocksSent := c.blocksSent + 1,
               charsSent := c.charsSent + d.frame.carried }).modPort fun p =>
      { p with tenure := .window k, burst := if d.byRound then 1 else p.burst + 1 }) k

/-- TEXT_SENT: the continuation window opens (R87, R111). -/
def execTextSent (s : State) : Host.Outcome State Fault Refusal :=
  .next
    (match s.driving Frame.isText with
     | some d =>
       match d.source, d.live with
       | .send k, true => s.undrive.textReported k d
       | _, _ => s.undrive.endTenure
     | none => s)

/-- A CLOSE is reported sent to its send context (R112). -/
def State.closeReported (s : State) (k : CtxIx) : State :=
  match s.sendCtx k with
  | some c =>
    (s.setSend k (some { c with pending := none, receiptWait := some Config.receiptWait })).setCopyState
      c.copy .awaitReceipt
  | none => s

/-- CLOSE_SENT: the receipt wait starts, and the tenure ends (R86, R112). -/
def execCloseSent (s : State) : Host.Outcome State Fault Refusal :=
  .next
    (match s.driving Frame.isClose with
     | some d =>
       match d.source, d.live with
       | .send k, true => (s.undrive.closeReported k).endTenure
       | _, _ => s.undrive.endTenure
     | none => s)

/-- A RECEIPT or ABANDON is reported sent to its take context (R88, R123). -/
def State.answerReported (s : State) (k : CtxIx) : State :=
  match s.takeCtx k with
  | some t => (s.freeTake k).addEnded t.tag t.cls
  | none => s

/-- TAKER_ANSWER_SENT: the take context becomes FREE (R123). -/
def execTakerAnswerSent (s : State) : Host.Outcome State Fault Refusal :=
  .next
    (match s.driving Frame.isAnswer with
     | some d =>
       match d.source, d.live with
       | .take k, true => (s.undrive.answerReported k).endTenure
       | .take _, false => s.undrive.endTenure
       | _, _ => s
     | none => s)

/-- An answer leaves the list (R89). -/
def State.dropAnswer (s : State) (tag : Tag) (reason : Reason) : State :=
  s.modPort fun p => { p with answers := p.answers.filter fun a => !(a.tag = tag && a.reason = reason) }

/-- ANSWER_SENT: the answer leaves the answer list (R89). -/
def execAnswerSent (s : State) : Host.Outcome State Fault Refusal :=
  .next
    (match s.driving Frame.isAnswer with
     | some d =>
       match d.source, d.live with
       | .answer tag reason, true => (s.undrive.dropAnswer tag reason).endTenure
       | .answer _ _, false => s.undrive.endTenure
       | _, _ => s
     | none => s)

/-- RESTART_SENT: RESTART is pending no longer (R92). -/
def execRestartSent (s : State) : Host.Outcome State Fault Refusal :=
  .next
    (match s.driving Frame.isRestart with
     | some d =>
       if d.live then (s.undrive.modPort fun p => { p with restartPending := false }).endTenure
       else s.undrive.endTenure
     | none => s)

end Sys2Proof.Machine
end

