-- ==== Sys2Proof/Machine/HighwayTimers.lean ====
section
/-! DEFINITION. The commands of the port's timers (R74, R87, R94, R104, R116, R120). -/

namespace Sys2Proof.Machine

/-- CONTINUATION_WINDOW_EXPIRY: the tenure ends (R86, R87). -/
def execContinuationWindowExpiry (s : State) : Host.Outcome State Fault Refusal :=
  .next
    (match s.port.tenure with
     | .window _ => if s.running then s.endTenure else s
     | .out | .contending | .sending => s)

/-- CLAIM_WINDOW_EXPIRY: with no claim taken the copy is unclaimed (R72, R104). -/
def execClaimWindowExpiry (k : CtxIx) (s : State) : Host.Outcome State Fault Refusal :=
  .next
    (match s.sendCtx k with
     | some c =>
       if s.running && c.window.isSome then
         let s1 := s.setSend k (some { c with window := none })
         if c.taken.isNone then s1.unclaimed k c.copy else s1
       else s
     | none => s)

/-- BACKOFF_WAIT_EXPIRY: the re-offer at the next attempt (R72, R74). -/
def execBackoffWaitExpiry (k : CtxIx) (s : State) : Host.Outcome State Fault Refusal :=
  .next
    (match s.sendCtx k with
     | some c =>
       if s.running && c.backoff.isSome then
         (s.setSend k (some { c with backoff := none })).reoffer k c.copy ((s.copy c.copy).attempt + 1)
       else s
     | none => s)

/-- RECEIPT_WAIT_EXPIRY: a spoil (R114, R116). -/
def execReceiptWaitExpiry (k : CtxIx) (s : State) : Host.Outcome State Fault Refusal :=
  .next
    (match s.sendCtx k with
     | some c => if s.running && c.receiptWait.isSome then s.spoiled k c.copy else s
     | none => s)

/-- STALL_TIMER_EXPIRY: the taker abandons the transfer (R120). -/
def execStallTimerExpiry (k : CtxIx) (s : State) : Host.Outcome State Fault Refusal :=
  .next
    (match s.takeCtx k with
     | some t => if s.running && t.stall.isSome then s.abandonTake k t .stall else s
     | none => s)

/-- HOLD_OFF_EXPIRY: the router dispatches its restart list and serves its wait list (R77, R94). -/
def execHoldOffExpiry (s : State) : Host.Outcome State Fault Refusal :=
  .next (if s.running && s.port.holdOff.isSome then s.holdOffEnds else s)

end Sys2Proof.Machine
end

