-- ==== Sys2Proof/Machine/Assembler.lean ====
section
/-! DEFINITION. The message assembler (chapter 2), with the turnaround of a HALF line that its reports drive (R41, R148 to R150). -/

namespace Sys2Proof.Machine

/-! ### Turnaround (R148, R149) -/

/-- The three conditions under which the turnaround timer runs hold together (R149). -/
def State.turnMayRun (s : State) (n : Line) : Bool :=
  (s.line n).condIn.value = .closed && (s.line n).asm.state = .hunt && (s.line n).loopIn = .marking

/-- The turnaround timer is started, kept or stopped by what holds now (R149). -/
def State.turnReview (s : State) (n : Line) : State :=
  let run := s.turnMayRun n
  let full := (s.lineCfg n).turnaround * 1000
  s.modLine n fun l =>
    { l with turn := l.turn.map fun t =>
        { t with timer := if t.waiting && run then some (t.timer.getD full) else none } }

/-- The turnaround state becomes WAITING and its timer stops (R148). -/
def State.turnWait (s : State) (n : Line) : State :=
  s.modLine n fun l => { l with turn := l.turn.map fun _ => { waiting := true, timer := none } }

/-! ### The shift stage takes its character (R8, R13) -/

/-- The receiver of line `n` in another state. -/
def State.setRx (s : State) (n : Line) (st : RxState) : State :=
  s.modLine n fun l => { l with rx := { l.rx with state := st } }

/-- The receiver of a HALF line is suspended: a character in progress is dropped (R8, log 17). -/
def State.suspendRx (s : State) (n : Line) : State :=
  if s.mode n = .half then s.setRx n .waitMark else s

/-- The shift stage begins the held character or its case restore; a HALF line's receiver is suspended
(R8, R13, R14). -/
def State.beginHeld (s : State) (n : Line) : State := (s.modTx n Tx.begin).suspendRx n

/-- The idle shift stage may take the held character (R13). -/
def State.mayBegin (s : State) (n : Line) : Bool :=
  s.mayDrive n && (s.line n).tx.shift.isNone && (s.line n).tx.holding.isSome

/-! ### Leaving HUNT and returning to it (R41, R148, R150) -/

/-- The shift stage meets the withdrawal of what the holding stage holds: where it may take it, a free
choice says whether it takes it first (R150 item 1, R12, log 31). -/
def State.takeOrWithdraw (s : State) (n : Line) : State :=
  if s.mayBegin n then
    if Config.shiftFirst s.choices then s.chosen.beginHeld n else s.chosen
  else s

/-- The current copy is taken off a HALF line whose assembler left HUNT: what the holding stage holds is
withdrawn and the copy is put back (R150, R144). -/
def State.takenOff (s : State) (n : Line) : State :=
  ((s.takeOrWithdraw n).modTx n fun t => { t with holding := none }).putBack n

/-- The assembler left HUNT; on a HALF line the turnaround waits and a current copy is taken off the
line (R41, R148, R150). -/
def State.leftHunt (s : State) (n : Line) : State :=
  if s.mode n = .half then
    let s1 := s.turnWait n
    if (s1.line n).sched.current.isSome then s1.takenOff n else s1
  else s

/-- The assembler returns to HUNT (R35, R38, R39, R41). These rules do not say whether the overrun mark of a
message that overran is cleared with it: the model leaves it set, and the heading items as they stand, until
the next opening sets them anew (R25) (DESIGN CHOICE, log 21). -/
def State.returnToHunt (s : State) (n : Line) : State :=
  State.turnReview
    (s.modAsm n fun a =>
      { a with state := .hunt, openingCount := 0, closingCount := 0, silence := none, record := none }) n

/-! ### Dispatch at heading complete (R40) -/

/-- The class is dispatched at heading complete (R40). -/
def State.dispatchedEarly (s : State) (c : Precedence) : Bool :=
  match c with
  | .order => true
  | .running => s.boot.cfg.runningCut
  | .general | .bulk => false

/-! ### Storing (R34) -/

/-- The store refuses the assembler a block: OVERRUN (R34, R58). -/
def State.lineOverrun (s : State) (n : Line) (r : RecIx) : State :=
  let s1 := (s.modAsm n fun a => { a with overrun := true }).modRecord r fun rec =>
    { rec with overrun := true }
  s1.post (.overrunLine n (s1.record r).inbound)

/-- A character is written at the end of record `r`'s text, in a slot its chain has. -/
def State.appendChar (s : State) (r : RecIx) (c : Code) : State :=
  let i := (s.record r).count
  ((s.writeChar r i c).modRecord r fun rec => { rec with count := i + 1 }).textChanged r i false

/-- The assembler of line `n` stores a character in record `r` (R34). -/
def State.storeChar (s : State) (n : Line) (r : RecIx) (c : Code) : State :=
  if (s.line n).asm.overrun then s
  else if (s.record r).count % Config.blockSize = 0 then
    match s.allocateBlock r with
    | some s' => s'.appendChar r c
    | none => s.lineOverrun n r
  else s.appendChar r c

/-! ### Heading complete and malformed (R32, R33) -/

/-- HEADING_DEFAULTED is set on the record. -/
def State.defaultHeading (s : State) (r : RecIx) : State :=
  s.modRecord r fun rec => { rec with headingDefaulted := true }

/-- The copy table is filled and the assembler enters TEXT (R32, R33). The heading items, which cease to apply,
stay as they stand (DESIGN CHOICE, log 21). -/
def State.fillTable (s : State) (n : Line) (r : RecIx) (stations : List StationCode) : State :=
  (s.modRecord r fun rec => { rec with copies := stations.map newCopy }).modAsm n fun a =>
    { a with state := .text }

/-- The heading of an open message is complete or malformed: the table is filled, and a class that is
dispatched now goes to the router (R32, R33, R40). -/
def State.headingEnds (s : State) (n : Line) (r : RecIx) (stations : List StationCode) : State :=
  let s1 := s.fillTable n r stations
  if s1.dispatchedEarly (s1.record r).cls then s1.dispatchRecord r else s1

/-! ### The heading parse (R30 to R32) -/

/-- What the parse makes of a heading character: it goes on, the heading is malformed, or it is
complete (R31). `defaulted` says that the character completed a code that was ignored (R32). -/
inductive Parse where
  | going (a : Assembler) (defaulted : Bool)
  | malformed (defaulted : Bool)
  | complete
  deriving DecidableEq, Repr

/-- A station code is completed (R32); the flag says it was ignored. -/
def Assembler.codeDone (a : Assembler) : Assembler × Bool :=
  if a.collected.contains a.currentCode || Config.codesMax ≤ a.collected.length then
    ({ a with currentCode := [] }, true)
  else ({ a with collected := a.collected ++ [a.currentCode], currentCode := [] }, false)

/-- The parse of a heading character at a step from AFTER_DESIGNATOR on (the table of R31). -/
def Assembler.parse (a : Assembler) (h : Handed) : Parse :=
  if (shiftOf h.code).isSome then .going a false
  else
    match a.step with
    | .afterDesignator =>
      if h.code = spaceCode then .going { a with step := .code, currentCode := [] } false else .malformed false
    | .code =>
      if isCodeChar h then
        if a.currentCode.length < 4 then .going { a with currentCode := a.currentCode ++ [h.code] } false
        else .malformed false
      else if a.currentCode.length = 4 then
        if h.code = spaceCode then .going a.codeDone.1 a.codeDone.2
        else if h.code = crCode then .going { a.codeDone.1 with step := .afterCR } a.codeDone.2
        else .malformed false
      else .malformed false
    | .afterCR =>
      if h.code = crCode then .going a false
      else if h.code = lfCode then .complete
      else .malformed false
    | .group | .designator => .going a false

/-- The parse under the limit of 80 heading characters (R31): the code that the 80th character completes
and that is ignored is still ignored (R32). A heading that ends malformed is disregarded (R33): what step,
current code and collected codes hold in TEXT after it the spec leaves open, and the model leaves them as
they stood before the spoiling or 80th character, so that a code which that character completed is not
entered (DESIGN CHOICE, log 21). -/
def Assembler.parseLimited (a : Assembler) (h : Handed) : Parse :=
  match a.parse h with
  | .going a' d => if Config.headingMax ≤ a.headingChars then .malformed d else .going a' d
  | .malformed d => .malformed d
  | .complete => .complete

/-- A heading character from AFTER_DESIGNATOR on: stored, counted, parsed (R31). -/
def State.takeHeading (s : State) (n : Line) (r : RecIx) (h : Handed) : State :=
  let s1 := (s.storeChar n r h.code).modAsm n fun a => { a with headingChars := a.headingChars + 1 }
  match (s1.line n).asm.parseLimited h with
  | .going a d =>
    let s2 := s1.modAsm n fun _ => a
    if d then s2.defaultHeading r else s2
  | .malformed d => (if d then s1.defaultHeading r else s1).headingEnds n r [interceptCode]
  | .complete => s1.headingEnds n r (s1.line n).asm.collected

/-- The designator is taken (R30). -/
def State.takeDesignator (s : State) (n : Line) (r : RecIx) (h : Handed) : State :=
  let s1 := match s.boot.cfg.codes.designated h with
    | some c => s.modRecord r fun rec => { rec with cls := c }
    | none => s.modRecord r fun rec => { rec with cls := .general, headingDefaulted := true }
  (s1.storeChar n r h.code).modAsm n fun a => { a with headingChars := 1, step := .afterDesignator }

/-! ### The channel group (R27 to R29) -/

/-- A received channel number is checked against the expectation (R29). -/
def State.checkChannel (s : State) (n : Line) (r : RecIx) (received : Nat) : State :=
  let expected := (s.line n).asm.expectation
  let s1 := (s.modRecord r fun rec => { rec with inbound := some received }).modAsm n fun a =>
    { a with expectation := some (nextChannel received) }
  match expected with
  | none => s1
  | some e =>
    if e = received then s1
    else
      (s1.modRecord r fun rec => { rec with sequenceGap := true }).post (.sequenceGap n e received)

/-- A character of the channel group, or the designator when the group is missing (R27, R28). A closing code
in place of the group finds it missing like any other character and is the designator at once: it is not
held under R26, though R27 has moved the step off GROUP (DEDUCED, log 30). The characters of a group that was
judged stay in the state (DESIGN CHOICE, log 21). -/
def State.takeGroup (s : State) (n : Line) (r : RecIx) (h : Handed) : State :=
  let g := (s.line n).asm.group
  if g.isEmpty && h.code ≠ figuresShift then
    ((s.defaultHeading r).modAsm n fun a => { a with step := .designator }).takeDesignator n r h
  else if g.length < 5 then s.modAsm n fun a => { a with group := g ++ [h] }
  else
    let s1 := s.modAsm n fun a => { a with group := g ++ [h], step := .designator }
    match groupNumber (g ++ [h]) with
    | some k => s1.checkChannel n r k
    | none => s1.defaultHeading r

/-! ### Closing (R35, R38) -/

/-- text_complete is set on the assembler's record, which goes to STORED (R35, R38, R60). -/
def State.completeRecord (s : State) (r : RecIx) (truncated : Bool) : State :=
  let count := (s.record r).count
  State.tryFree
    ((s.modRecord r fun rec =>
      { rec with complete := true, state := .stored, truncated := rec.truncated || truncated }).textChanged
        r count false) r

/-- The record is given to the router at its close, unless that was done at heading complete (R40).
`filled` says the copy table was filled at this close. -/
def State.dispatchAtClose (s : State) (r : RecIx) (filled : Bool) : State :=
  if filled || !s.dispatchedEarly (s.record r).cls then s.dispatchRecord r else s

/-- In HEADING the copy table takes the intercept copy at the close (R33). -/
def State.malformedAtClose (s : State) (n : Line) (r : RecIx) : State :=
  if (s.line n).asm.state = .heading then s.fillTable n r [interceptCode] else s

/-- The closing run ends the message (R35). -/
def State.closeByRun (s : State) (n : Line) (r : RecIx) : State :=
  let a := (s.line n).asm
  if a.designatorTaken then
    (((s.malformedAtClose n r).completeRecord r false).dispatchAtClose r (a.state = .heading)).returnToHunt n
  else (s.freeRecord r).returnToHunt n

/-- Silence or OPEN closes the message TRUNCATED (R38). -/
def State.closeTruncated (s : State) (n : Line) (r : RecIx) (cause : TruncateCause) : State :=
  let a := (s.line n).asm
  if a.designatorTaken then
    let s1 := ((s.modAsm n fun a => { a with closingCount := 0 }).malformedAtClose n r).completeRecord r true
    ((s1.post (.truncated n cause (s1.record r).inbound)).dispatchAtClose r (a.state = .heading)).returnToHunt n
  else (s.freeRecord r).returnToHunt n

/-! ### Characters handed over (R23 to R26, R39) -/

/-- A character taken as an ordinary one, in the state it meets (R26). -/
def State.takeOrdinary (s : State) (n : Line) (r : RecIx) (h : Handed) : State :=
  match (s.line n).asm.state with
  | .heading =>
    match (s.line n).asm.step with
    | .group => s.takeGroup n r h
    | .designator => s.takeDesignator n r h
    | .afterDesignator | .code | .afterCR => s.takeHeading n r h
  | .text => s.storeChar n r h.code
  | .hunt | .discard => s

/-- Characters taken as ordinary ones, in order (R26). -/
def State.takeAll (s : State) (n : Line) (r : RecIx) : List Handed → State
  | [] => s
  | h :: hs => State.takeAll (s.takeOrdinary n r h) n r hs

/-- The silence timer starts again, with the limit of the state (R23, R36). -/
def State.restartSilence (s : State) (n : Line) : State :=
  s.modAsm n fun a =>
    { a with
      silence := match a.state with
        | .heading => some Config.headingSilence
        | .text => some Config.textSilence
        | .hunt | .discard => none }

/-- A character in HEADING or TEXT (R26, R28). -/
def State.messageChar (s : State) (n : Line) (r : RecIx) (h : Handed) : State :=
  let a := (s.line n).asm
  let closing := s.boot.cfg.codes.closing
  if a.state = .heading && a.step = .group then s.takeGroup n r h
  else if h.isCode closing then
    if a.closingCount + 1 < 4 then s.modAsm n fun a => { a with closingCount := a.closingCount + 1 }
    else s.closeByRun n r
  else
    (s.modAsm n fun a => { a with closingCount := 0 }).takeAll n r
      (List.replicate a.closingCount ⟨closing, .letters⟩ ++ [h])

/-- A framing fault adds to the mutilated count of the current record (R7, R23). -/
def State.countFraming (s : State) (r : RecIx) (framing : Bool) : State :=
  if framing then
    s.modRecord r fun rec => { rec with mutilated := saturate Config.mutilatedMax rec.mutilated }
  else s

/-- The opening run is complete and a record is given: the assembler enters HEADING (R25). -/
def State.openMessage (s : State) (n : Line) (r : RecIx) : State :=
  State.leftHunt
    ((s.modRecord r fun rec => Record.originated rec.gen n).modAsm n fun a =>
      { a with state := .heading, openingCount := 0, closingCount := 0,
               step := if (s.lineCfg n).inboundCheck then .group else .designator,
               group := [], currentCode := [], collected := [], headingChars := 0,
               silence := some Config.headingSilence, record := some r, overrun := false }) n

/-- No record is given: the message is lost (R25). The overrun mark and the heading items stand in DISCARD as
they stood in HUNT (DESIGN CHOICE, log 21). -/
def State.loseMessage (s : State) (n : Line) : State :=
  State.leftHunt
    ((s.post (.messageLost n)).modAsm n fun a =>
      { a with state := .discard, openingCount := 0, closingCount := 0 }) n

/-- The opening run is complete (R25, R50). -/
def State.openingRunDone (s : State) (n : Line) : State :=
  if s.store.recordAvailable then
    match s.store.lowestFree with
    | some r => s.openMessage n r
    | none => s.loseMessage n
  else s.loseMessage n

/-- A character in HUNT (R24). -/
def State.huntChar (s : State) (n : Line) (h : Handed) : State :=
  if h.isCode s.boot.cfg.codes.opening then
    if (s.line n).asm.openingCount + 1 < 4 then
      s.modAsm n fun a => { a with openingCount := a.openingCount + 1 }
    else s.openingRunDone n
  else s.modAsm n fun a => { a with openingCount := 0 }

/-- A character in DISCARD (R39). -/
def State.discardChar (s : State) (n : Line) (h : Handed) : State :=
  if h.isCode s.boot.cfg.codes.closing then
    if (s.line n).asm.closingCount + 1 < 4 then
      s.modAsm n fun a => { a with closingCount := a.closingCount + 1 }
    else s.returnToHunt n
  else s.modAsm n fun a => { a with closingCount := 0 }

/-- A character is handed to the assembler of line `n` (R23). -/
def State.handOverChar (s : State) (n : Line) (h : Handed) (framing : Bool) : State :=
  match (s.line n).asm.state, (s.line n).asm.record with
  | .hunt, _ => s.huntChar n h
  | .discard, _ => s.discardChar n h
  | .heading, some r | .text, some r => ((s.countFraming r framing).messageChar n r h).restartSilence n
  | .heading, none | .text, none => s

/-- The receive condition of line `n` left CLOSED, told to the assembler (R24, R37, R39). -/
def State.asmLineOpen (s : State) (n : Line) : State :=
  match (s.line n).asm.state, (s.line n).asm.record with
  | .hunt, _ => s.modAsm n fun a => { a with openingCount := 0 }
  | .discard, _ => s.returnToHunt n
  | .heading, some r | .text, some r => s.closeTruncated n r .lineOpen
  | .heading, none | .text, none => s

end Sys2Proof.Machine
end

