-- ==== Sys2Proof/Machine/Conditions.lean ====
section
/-! DEFINITION. Line conditions and what their changes do to receiver, transmitter, scheduler and assembler (R8 to R11, R16, R37, R144, R147, R148, R151 to R155). -/

namespace Sys2Proof.Machine

/-! ### Access to a condition -/

/-- Line `n` with the condition that reads `pin` changed. -/
def State.modCond (s : State) (n : Line) (pin : LoopPin) (f : Cond → Cond) : State :=
  s.modLine n fun l =>
    match pin with
    | .loopIn => { l with condIn := f l.condIn }
    | .sense => { l with condSense := f l.condSense }

/-! ### Readings (R9, R149) -/

/-- A condition's spacing and marking timers at a reading that changed to `level` (R9). -/
def Cond.read (c : Cond) : Level → Cond
  | .marking => { c with markingTimer := some Config.markingTime, spacingTimer := none }
  | .spacing => { c with spacingTimer := some Config.spacingTime, markingTimer := none }

/-- An input of line `n` set to a level. -/
def State.setPin (s : State) (n : Line) (pin : LoopPin) (level : Level) : State :=
  s.modLine n fun l =>
    match pin with
    | .loopIn => { l with loopIn := level }
    | .sense => { l with sense := level }

/-- An input comes to read `level`: the timers of its condition and the turnaround follow (R9, R149). -/
def State.readPin (s : State) (n : Line) (pin : LoopPin) (level : Level) : State :=
  if (s.line n).level pin = level then s
  else
    let s1 := s.setPin n pin level
    if s1.keeps n pin then (s1.modCond n pin fun c => c.read level).turnReview n else s1

/-! ### The receiver (R8) -/

/-- The receive case of line `n` set. -/
def State.setRxCase (s : State) (n : Line) (c : Case) : State :=
  s.modLine n fun l => { l with rx := { l.rx with case := c } }

/-- The suspension of a HALF line's receiver ends (R8). -/
def State.resumeRx (s : State) (n : Line) : State :=
  if s.mode n = .half then
    (s.setRxCase n (s.line n).tx.lineCase).setRx n
      (if (s.line n).condIn.value = .closed then .huntStart else .waitMark)
  else s

/-! ### The transmitter abandons (R16) -/

/-- The transmitter abandons its character and empties its holding stage (R16). -/
def State.abandonTx (s : State) (n : Line) : State :=
  let busy := (s.line n).tx.shift.isSome
  let s1 := s.modTx n fun t => { t with shift := none, holding := none }
  if busy then s1.resumeRx n else s1

/-! ### Changes of a condition (R9, R11) -/

/-- The receive side of line `n` hears that its condition left CLOSED (R8, R11, R37). -/
def State.receiveLost (s : State) (n : Line) : State := (s.setRx n .waitMark).asmLineOpen n

/-- The send side of line `n` hears that its condition left CLOSED (R11, R16, R144). -/
def State.sendLost (s : State) (n : Line) : State := (s.abandonTx n).putBack n

/-- A CLOSED condition becomes OPEN (R9): first the value, then the blocks it is reported to. The
spacing and marking timers stay with what the loop reads. -/
def State.condOpens (s : State) (n : Line) (pin : LoopPin) : State :=
  let s1 := s.modCond n pin fun c =>
    { c with value := .open, openTimer := some Config.openTime }
  let s2 := if receiveSide pin then s1.receiveLost n else s1
  let s3 := if sendSide (s.mode n) pin then s2.sendLost n else s2
  if s.mode n = .half then s3.turnWait n else s3

/-- An OPEN or FAILED condition becomes CLOSED (R9, R147, R149, R154). -/
def State.condCloses (s : State) (n : Line) (pin : LoopPin) : State :=
  let failed := (s.cond n pin).value = .failed
  let s1 := s.modCond n pin fun c =>
    { c with value := .closed, markingTimer := none, openTimer := none }
  let s2 := if receiveSide pin then s1.setRx n .waitMark else s1
  let s3 := if failed then s2.post (.lineRestored n (condName (s.mode n) pin)) else s2
  if sendSide (s.mode n) pin then (s3.turnReview n).choose n else s3

/-! ### Line failure (R151, R152, R76) -/

/-- The copies joined to a copy, in copy-table order (R56). -/
def State.joinedTo (s : State) (ref : CopyRef) : List CopyRef :=
  (s.copiesOf ref.record).filter fun c => (s.copy c).joinedWith = some ref.ix

/-- A copy as its release leaves it (R152). -/
def Copy.released (c : Copy) : Copy :=
  { c with state := if c.state = .settled then .settled else .unrouted, line := none, resume := none,
           channel := none, joinedWith := none }

/-- A copy and those joined to it are released (R152). -/
def State.release (s : State) : List CopyRef → State
  | [] => s
  | ref :: refs => State.release (s.modCopy ref Copy.released) refs

/-- A collected copy is released and given to the router, its joined copies right after it (R152, R76). -/
def State.releaseAndDispatch (s : State) (ref : CopyRef) : State :=
  let group := ref :: s.joinedTo ref
  (s.release group).dispatchAll group

/-- Collected copies are released in order (R151, item 4). -/
def State.releaseAll (s : State) : List CopyRef → State
  | [] => s
  | ref :: refs => State.releaseAll (s.releaseAndDispatch ref) refs

/-- The line-failure path (R151), with the motor stop of R21. -/
def State.lineFails (s : State) (n : Line) (pin : LoopPin) : State :=
  let gone := s.collected n
  let s1 := ((s.modMotor n fun _ => Motor.atRest).modSched n fun sc =>
    { sc with queue := [], stack := [], mark := false })
  (s1.post (.lineFailed n (condName (s.mode n) pin) gone.length)).releaseAll gone

/-- An OPEN condition becomes FAILED (R9, R11, R151, R155). -/
def State.condFails (s : State) (n : Line) (pin : LoopPin) : State :=
  let s1 := s.modCond n pin fun c => { c with value := .failed, openTimer := none }
  let s2 := if receiveSide pin then s1.receiveLost n else s1
  if sendSide (s.mode n) pin then ((s2.sendLost n).lineFails n pin)
  else s2.post (.lineFailed n (condName (s.mode n) pin) 0)

end Sys2Proof.Machine
end

