-- ==== Sys2Proof/Machine/LineConditions.lean ====
section
/-! DEFINITION. The commands of line conditions: level changes, the three timers, a break heard (R9, R10, R17). -/

namespace Sys2Proof.Machine

/-- LOOP_TRANSITION: an input comes to read a level (R9, R10, R149). -/
def execLoopTransition (n : Line) (pin : LoopPin) (level : Level) (s : State) :
    Host.Outcome State Fault Refusal :=
  .next (s.readPin n pin level)

/-- The spacing timer of a condition has run out (R9). -/
def State.spacingEnds (s : State) (n : Line) (pin : LoopPin) : State :=
  s.modCond n pin fun c => { c with spacingTimer := none }

/-- SPACING_TIMER_EXPIRY: 300 ms of spacing take a CLOSED condition to OPEN (R9). -/
def execSpacingTimerExpiry (n : Line) (pin : LoopPin) (s : State) : Host.Outcome State Fault Refusal :=
  .next
    (if s.keeps n pin && (s.cond n pin).spacingTimer.isSome then
       if (s.cond n pin).value = .closed then (s.spacingEnds n pin).condOpens n pin
       else s.spacingEnds n pin
     else s)

/-- MARKING_TIMER_EXPIRY: 200 ms of marking take an OPEN or FAILED condition to CLOSED (R9). -/
def execMarkingTimerExpiry (n : Line) (pin : LoopPin) (s : State) : Host.Outcome State Fault Refusal :=
  .next
    (if s.keeps n pin && (s.cond n pin).markingTimer.isSome then
       if (s.cond n pin).value = .closed then s.modCond n pin fun c => { c with markingTimer := none }
       else s.condCloses n pin
     else s)

/-- OPEN_TIMER_EXPIRY: 60 s in OPEN take a condition to FAILED (R9). -/
def execOpenTimerExpiry (n : Line) (pin : LoopPin) (s : State) : Host.Outcome State Fault Refusal :=
  .next
    (if s.keeps n pin && (s.cond n pin).openTimer.isSome && (s.cond n pin).value = .open then
       s.condFails n pin
     else s)

/-- BREAK_HEARD: a spacing reading where the card sends marking (R17, R9, R16, R144, R148). The loop
reads spacing, so the spacing timer counts on: a break is no expiry of it. -/
def execBreakHeard (n : Line) (unit : Fin 6) (s : State) : Host.Outcome State Fault Refusal :=
  .next
    (if s.comparesEcho n unit then (s.readPin n .loopIn .spacing).condOpens n .loopIn else s)

end Sys2Proof.Machine
end

