-- ==== Sys2Proof/Machine/Receiver.lean ====
section
/-! DEFINITION. The receiver's commands and the silence timer (R5 to R8, R36). -/

namespace Sys2Proof.Machine

/-- RECEIVER_MARK_READING: WAIT_MARK reads marking and hunts (R5). -/
def execReceiverMarkReading (n : Line) (s : State) : Host.Outcome State Fault Refusal :=
  .next
    (if s.receiving n && (s.line n).rx.state = .waitMark then
       (s.readPin n .loopIn .marking).setRx n .huntStart
     else s)

/-- START_TRANSITION: the loop goes to spacing, and a character may begin (R5). -/
def execStartTransition (n : Line) (s : State) : Host.Outcome State Fault Refusal :=
  .next
    (if s.receiving n && (s.line n).rx.state = .huntStart then
       (s.readPin n .loopIn .spacing).setRx n .inChar
     else s)

/-- FALSE_START: the half-unit sample reads marking (R5). -/
def execFalseStart (n : Line) (s : State) : Host.Outcome State Fault Refusal :=
  .next
    (if s.receiving n && (s.line n).rx.state = .inChar then
       (s.readPin n .loopIn .marking).setRx n .huntStart
     else s)

/-- The receiver ends a character: its case, its next state, and the hand-over (R6, R7). -/
def State.endChar (s : State) (n : Line) (code : Code) (framing : Bool) : State :=
  let case := (shiftOf code).getD (s.line n).rx.case
  let s1 := s.readPin n .loopIn (if framing then .spacing else .marking)
  let s2 := (s1.setRxCase n case).setRx n (if framing then .waitMark else .huntStart)
  s2.handOverChar n ⟨code, case⟩ framing

/-- CHARACTER_RECEIVED: the stop is sampled; the character goes to the assembler (R6, R7, R23). -/
def execCharacterReceived (n : Line) (code : Code) (framing : Bool) (s : State) :
    Host.Outcome State Fault Refusal :=
  .next
    (if s.receiving n && (s.line n).rx.state = .inChar then s.endChar n code framing else s)

/-- The message of a line is closed by silence (R36, R38). -/
def State.silenceEnds (s : State) (n : Line) : State :=
  match (s.line n).asm.state, (s.line n).asm.record with
  | .heading, some r => s.closeTruncated n r .headingSilence
  | .text, some r => s.closeTruncated n r .textSilence
  | _, _ => s

/-- SILENCE_TIMER_EXPIRY: the message closes TRUNCATED (R36, R38). -/
def execSilenceTimerExpiry (n : Line) (s : State) : Host.Outcome State Fault Refusal :=
  .next (if s.running && (s.line n).asm.silence.isSome then s.silenceEnds n else s)

end Sys2Proof.Machine
end

