-- ==== Sys2Proof/Machine/Startup.lean ====
section
/-! DEFINITION. The start-up unit's commands: RESET, the image, the RESTART key and the lamp (chapter 11). -/

namespace Sys2Proof.Machine

/-- RESET_ASSERTED: all activity ends and every block takes its state for RESET (R166, R22, R42, R62,
R78, R95, R108, R143, R156, R165, R173). The loops go on reading what they read, and the key keeps its
arming (log 5, log 6). DESIGN CHOICE (log 8): the pool's character slots are emptied. -/
def execResetAsserted (s : State) : Host.Outcome State Fault Refusal :=
  .next
    { State.reset with
      pending := s.pending
      choices := s.choices
      boot := { Boot.initial with keyArmed := s.boot.keyArmed }
      lines := s.lines.map fun l => LineUnit.held l.loopIn l.sense }

/-- RESET_RELEASED: the slot is read from the straps, SLOT0 the least significant (R166). -/
def execResetReleased (straps : BitVec 4) (s : State) : Host.Outcome State Fault Refusal :=
  .next
    (if s.boot.resetLow then { s with boot := { s.boot with resetLow := false, slot := straps.toFin } }
     else s)

/-- A condition at entry to RUNNING: OPEN, its open timer from zero, the others by what its loop reads
(R22, R9); at rest where the mode keeps no such condition (log 29). -/
def Cond.entering (kept : Bool) (level : Level) : Cond :=
  if kept then { Cond.atRest with openTimer := some Config.openTime }.read level else Cond.atRest

/-- A line unit at entry to RUNNING (R22, R42, R143, R156). -/
def LineUnit.entering (c : LineCfg) (l : LineUnit) : LineUnit :=
  { LineUnit.held l.loopIn l.sense with
    condIn := Cond.entering (keepsCond c.mode .loopIn) l.loopIn
    condSense := Cond.entering (keepsCond c.mode .sense) l.sense
    turn := if c.mode = .half then some { waiting := true, timer := none } else none }

/-- The card enters RUNNING with a configuration (R22, R42, R62, R78, R95, R108, R143, R156, R165, R167).
A key that is low at that moment gives no report until it is released and pressed again (R172); whether
it is low is a free choice (log 25). The pool starts with nothing in its slots (log 8). -/
def State.enterRunning (s : State) (cfg : Cfg) (busy : Bool) : State :=
  { s with
    choices := s.choices + 1
    boot :=
      { s.boot with
        card := .running, cfg := cfg, lamp := true,
        keyArmed := s.boot.keyArmed && !Config.keyLow s.choices }
    lines := s.lines.mapFinIdx fun i l h => LineUnit.entering cfg.lines[i] l
    store := Store.initial
    router := Router.initial
    port := { Port.initial with awaitIdle := busy }
    sup := Supervisor.initial }

/-- IMAGE_READ_COMPLETE: the image is checked; UNCONFIGURED, or RUNNING with the CONFIG notices posted
(R167 to R171). -/
def execImageReadComplete (image : List Byte) (busy : Bool) (s : State) :
    Host.Outcome State Fault Refusal :=
  if Instr.wellFormed (.imageReadComplete image busy) then
    .next
      (if s.boot.card = .loading ∧ s.boot.resetLow = false then
         let s1 := { s with boot := { s.boot with image := image } }
         if imagePasses image then
           (s1.enterRunning (resolveImage image).1 busy).postAll (resolveImage image).2
         else { s1 with boot := { s1.boot with card := .unconfigured, lamp := true } }
       else s)
  else .refused .illFormed

/-- A RUNNING card's own warm restart, and its RESTART frame made pending (R92). -/
def State.ownRestart (s : State) : State :=
  ((s.warmRestart s.boot.slot false).modPort fun p => { p with restartPending := true }).refreshTenure

/-- RESTART_KEY_PRESS: reported on a RUNNING card once for each press (R172, R92). -/
def execRestartKeyPress (s : State) : Host.Outcome State Fault Refusal :=
  .next
    (let s1 := { s with boot := { s.boot with keyArmed := false } }
     if s.boot.keyArmed && s.running then s1.ownRestart else s1)

/-- RESTART_KEY_RELEASED: a further press will be recognised (R172). -/
def execRestartKeyReleased (s : State) : Host.Outcome State Fault Refusal :=
  .next { s with boot := { s.boot with keyArmed := true } }

/-- LAMP_FLASH_TOGGLE: the lamp of an UNCONFIGURED card changes (R173). -/
def execLampFlashToggle (s : State) : Host.Outcome State Fault Refusal :=
  .next
    (if s.boot.card = .unconfigured then { s with boot := { s.boot with lamp := !s.boot.lamp } } else s)

end Sys2Proof.Machine
end

