-- ==== Sys2Proof/Machine/SupervisorLine.lean ====
section
/-! DEFINITION. The commands of the supervisor transmitter (R161, R162, R164). -/

namespace Sys2Proof.Machine

/-- The supervisor transmitter changed. -/
def State.modSupTx (s : State) (f : Tx → Tx) : State := s.modSup fun u => { u with tx := f u.tx }

/-- SUPERVISOR_SHIFT_BEGIN: the idle shift stage takes the held character (R12 to R14, R164). -/
def execSupervisorShiftBegin (s : State) : Host.Outcome State Fault Refusal :=
  .next
    (if s.running && s.sup.tx.shift.isNone && s.sup.tx.holding.isSome then
       (s.modSupTx Tx.begin).supServe
     else s)

/-- What follows at the stop of a supervisor character: the character that was held, or fill (R13, R15,
R164, log 23). -/
def State.supFollows (s : State) (held : Option TxChar) : State :=
  if s.sup.tx.holding = held then
    if held.isSome then s.modSupTx Tx.begin
    else if s.sup.midText then s.modSupTx Tx.beginFill
    else s
  else s

/-- SUPERVISOR_CHARACTER_SENT: at an item's last character the item ends (R161, R162, R164). -/
def execSupervisorCharacterSent (s : State) : Host.Outcome State Fault Refusal :=
  .next
    (match s.sup.tx.shift with
     | none => s
     | some c =>
       if s.running && c.role ≠ .fill then
         let held := s.sup.tx.holding
         let s1 := s.modSupTx fun t => t.finish c
         let s2 := if c.last then s1.itemEnded else s1
         (s2.supFollows held).supServe
       else s)

/-- A supervisor fill is counted on the dead copy (R162). -/
def State.supCountFill (s : State) : State :=
  match s.sup.printing with
  | some ref => s.modCopy ref fun c => { c with fill := saturate Config.fillMax c.fill }
  | none => s

/-- SUPERVISOR_FILL_SENT: the fill is counted, and the held character or more fill follows (R162, R164). -/
def execSupervisorFillSent (s : State) : Host.Outcome State Fault Refusal :=
  .next
    (match s.sup.tx.shift with
     | none => s
     | some c =>
       if s.running && c.role = .fill then
         let held := s.sup.tx.holding
         (((s.modSupTx fun t => t.finish c).supCountFill).supFollows held).supServe
       else s)

end Sys2Proof.Machine
end

