-- ==== Sys2Proof/Machine/Transmitter.lean ====
section
/-! DEFINITION. The commands of a line transmitter, the motor control and the turnaround (R12 to R15, R19, R20, R149). -/

namespace Sys2Proof.Machine

/-- The shift stage begins a fill character (R15). -/
def State.beginFill (s : State) (n : Line) : State := (s.modTx n Tx.beginFill).suspendRx n

/-- Fill follows: the current copy is mid-text and the line may drive (R15). -/
def State.fills (s : State) (n : Line) : Bool := s.mayDrive n && (s.line n).sched.midText

/-- SHIFT_STAGE_BEGIN: the idle shift stage takes the held character and the next one is asked for
(R12, R13, R14). -/
def execShiftStageBegin (n : Line) (s : State) : Host.Outcome State Fault Refusal :=
  .next
    (if s.mayBegin n then (s.beginHeld n).serveLine n else s)

/-- The stop of a character completes: line case, text case, receiver (R8, R13, R14). -/
def State.finishChar (s : State) (n : Line) (c : TxChar) : State :=
  (s.modTx n fun t => t.finish c).resumeRx n

/-- The shift stage's next take, before the character just sent is reported (R12, log 9). -/
def State.shiftTakes (s : State) (n : Line) : State :=
  if (s.line n).tx.holding.isSome then (if s.mayDrive n then s.beginHeld n else s)
  else if s.fills n then s.beginFill n
  else s

/-- The shift stage's next take, after the report: the character that was held at the stop, or fill
(R13, R15, log 23). -/
def State.shiftFollows (s : State) (n : Line) (held : Option TxChar) : State :=
  if (s.line n).tx.shift.isSome then s
  else if (s.line n).tx.holding = held then s.shiftTakes n
  else s

/-- CHARACTER_SENT: the character is reported, and the next one or fill follows (R13 to R15, R135 to R139). -/
def execCharacterSent (n : Line) (shiftFirst : Bool) (s : State) : Host.Outcome State Fault Refusal :=
  .next
    (match (s.line n).tx.shift with
     | none => s
     | some c =>
       if s.running && c.role ≠ .fill then
         let held := (s.line n).tx.holding
         let s1 := s.finishChar n c
         let s2 := if shiftFirst then s1.shiftTakes n else s1
         ((s2.reportSent n c).shiftFollows n held).serveLine n
       else s)

/-- A sent fill character is counted on the current copy (R15). -/
def State.reportFill (s : State) (n : Line) : State :=
  match (s.line n).sched.current with
  | some e => s.countFill e.copy
  | none => s

/-- FILL_SENT: the fill is counted, and the held character or more fill follows (R15). -/
def execFillSent (n : Line) (s : State) : Host.Outcome State Fault Refusal :=
  .next
    (match (s.line n).tx.shift with
     | none => s
     | some c =>
       if s.running && c.role = .fill then
         (((s.finishChar n c).reportFill n).shiftTakes n).serveLine n
       else s)

/-- RUN_UP_TIMER_EXPIRY: the motor enters RUNNING, and the line may send (R19, R20, R129). -/
def execRunUpTimerExpiry (n : Line) (s : State) : Host.Outcome State Fault Refusal :=
  .next
    (if s.running && (s.line n).motor.runUp.isSome then
       (((s.modMotor n fun m => { m with state := .running, runUp := none }).choose n).motorEmpty n)
     else s)

/-- IDLE_STOP_EXPIRY: the motor enters STOPPED (R20). -/
def execIdleStopExpiry (n : Line) (s : State) : Host.Outcome State Fault Refusal :=
  .next
    (if s.running && (s.line n).motor.idleStop.isSome then s.modMotor n fun _ => Motor.atRest else s)

/-- The turnaround timer of the line runs (R149). -/
def State.turnRuns (s : State) (n : Line) : Bool := (s.line n).turn.any fun t => t.timer.isSome

/-- TURNAROUND_TIMER_EXPIRY: the turnaround state becomes CLEAR, and the line may start (R148, R149). -/
def execTurnaroundTimerExpiry (n : Line) (s : State) : Host.Outcome State Fault Refusal :=
  .next
    (if s.running && s.turnRuns n then
       (s.modLine n fun l => { l with turn := l.turn.map fun _ => { waiting := false, timer := none } }).choose n
     else s)

end Sys2Proof.Machine
end

