-- ==== Sys2Proof/Machine/Dispatch.lean ====
section
/-! DEFINITION. The meaning of a command: one arm per constructor of Instr. -/

namespace Sys2Proof.Machine

/-- A command's effect on everything but the queue of commands. -/
def exec (i : Instr) (s : State) : Host.Outcome State Fault Refusal :=
  match i with
  | .resetAsserted => Sys2Proof.Machine.execResetAsserted s
  | .resetReleased straps => Sys2Proof.Machine.execResetReleased straps s
  | .imageReadComplete image busy => Sys2Proof.Machine.execImageReadComplete image busy s
  | .restartKeyPress => Sys2Proof.Machine.execRestartKeyPress s
  | .lampFlashToggle => Sys2Proof.Machine.execLampFlashToggle s
  | .receiverMarkReading line => Sys2Proof.Machine.execReceiverMarkReading line s
  | .startTransition line => Sys2Proof.Machine.execStartTransition line s
  | .falseStart line => Sys2Proof.Machine.execFalseStart line s
  | .characterReceived line code framing => Sys2Proof.Machine.execCharacterReceived line code framing s
  | .silenceTimerExpiry line => Sys2Proof.Machine.execSilenceTimerExpiry line s
  | .spacingTimerExpiry line pin => Sys2Proof.Machine.execSpacingTimerExpiry line pin s
  | .markingTimerExpiry line pin => Sys2Proof.Machine.execMarkingTimerExpiry line pin s
  | .openTimerExpiry line pin => Sys2Proof.Machine.execOpenTimerExpiry line pin s
  | .breakHeard line unit => Sys2Proof.Machine.execBreakHeard line unit s
  | .shiftStageBegin line => Sys2Proof.Machine.execShiftStageBegin line s
  | .characterSent line shiftFirst => Sys2Proof.Machine.execCharacterSent line shiftFirst s
  | .fillSent line => Sys2Proof.Machine.execFillSent line s
  | .runUpTimerExpiry line => Sys2Proof.Machine.execRunUpTimerExpiry line s
  | .idleStopExpiry line => Sys2Proof.Machine.execIdleStopExpiry line s
  | .turnaroundTimerExpiry line => Sys2Proof.Machine.execTurnaroundTimerExpiry line s
  | .arbitrationRound rivals => Sys2Proof.Machine.execArbitrationRound rivals s
  | .offerSent => Sys2Proof.Machine.execOfferSent s
  | .claimSent => Sys2Proof.Machine.execClaimSent s
  | .textSent => Sys2Proof.Machine.execTextSent s
  | .closeSent => Sys2Proof.Machine.execCloseSent s
  | .takerAnswerSent => Sys2Proof.Machine.execTakerAnswerSent s
  | .answerSent => Sys2Proof.Machine.execAnswerSent s
  | .restartSent => Sys2Proof.Machine.execRestartSent s
  | .offerReceived bytes => Sys2Proof.Machine.execOfferReceived bytes s
  | .claimReceived bytes => Sys2Proof.Machine.execClaimReceived bytes s
  | .textReceived bytes => Sys2Proof.Machine.execTextReceived bytes s
  | .closeReceived bytes => Sys2Proof.Machine.execCloseReceived bytes s
  | .receiptReceived bytes => Sys2Proof.Machine.execReceiptReceived bytes s
  | .abandonTakerReceived bytes => Sys2Proof.Machine.execAbandonTakerReceived bytes s
  | .abandonOriginReceived bytes => Sys2Proof.Machine.execAbandonOriginReceived bytes s
  | .restartReceived bytes => Sys2Proof.Machine.execRestartReceived bytes s
  | .continuationWindowExpiry => Sys2Proof.Machine.execContinuationWindowExpiry s
  | .claimWindowExpiry ctx => Sys2Proof.Machine.execClaimWindowExpiry ctx s
  | .backoffWaitExpiry ctx => Sys2Proof.Machine.execBackoffWaitExpiry ctx s
  | .receiptWaitExpiry ctx => Sys2Proof.Machine.execReceiptWaitExpiry ctx s
  | .stallTimerExpiry ctx => Sys2Proof.Machine.execStallTimerExpiry ctx s
  | .holdOffExpiry => Sys2Proof.Machine.execHoldOffExpiry s
  | .supervisorShiftBegin => Sys2Proof.Machine.execSupervisorShiftBegin s
  | .supervisorCharacterSent => Sys2Proof.Machine.execSupervisorCharacterSent s
  | .supervisorFillSent => Sys2Proof.Machine.execSupervisorFillSent s
  | .loopTransition line pin level => Sys2Proof.Machine.execLoopTransition line pin level s
  | .restartKeyReleased => Sys2Proof.Machine.execRestartKeyReleased s

end Sys2Proof.Machine
end

