-- ==== Sys2Proof/Safety.lean ====
section
/-! DEFINITION. The terms the statements are made in: which parts of the card a command may touch, and the invariants that every command keeps. -/

namespace Sys2Proof.Machine

/-! ### Which part of the card differs -/

/-- Only the start-up unit differs. -/
def OnlyBoot (s t : State) : Prop := t = { s with boot := t.boot }

/-- Only the highway port differs. -/
def OnlyPort (s t : State) : Prop := t = { s with port := t.port }

/-- Only the supervisor unit differs. -/
def OnlySup (s t : State) : Prop := t = { s with sup := t.sup }

/-- Only line unit `n` differs. -/
def OnlyLine (n : Line) (s t : State) : Prop :=
  t = { s with lines := t.lines } ∧ ∀ m, m ≠ n → t.line m = s.line m

/-- The receiving side of line `m`: its inputs, receiver, conditions, turnaround and assembler. -/
def State.inputs (s : State) (m : Line) :
    Level × Level × Receiver × Cond × Cond × Option Turnaround × Assembler :=
  let l := s.line m
  (l.loopIn, l.sense, l.rx, l.condIn, l.condSense, l.turn, l.asm)

/-- The supervisor unit's queue and lost-notice count. -/
def Supervisor.account (u : Supervisor) : List Item × Nat := (u.queue, u.lost)

/-- The commands of the start-up unit. -/
def startsUp : Instr → Bool
  | .resetAsserted | .resetReleased _ | .imageReadComplete _ _ | .restartKeyPress
  | .restartKeyReleased | .lampFlashToggle => true
  | .receiverMarkReading _ | .startTransition _ | .falseStart _ | .characterReceived _ _ _
  | .silenceTimerExpiry _ | .spacingTimerExpiry _ _ | .markingTimerExpiry _ _
  | .openTimerExpiry _ _ | .breakHeard _ _ | .shiftStageBegin _ | .characterSent _ _ | .fillSent _
  | .runUpTimerExpiry _ | .idleStopExpiry _ | .turnaroundTimerExpiry _ | .arbitrationRound _
  | .offerSent | .claimSent | .textSent | .closeSent | .takerAnswerSent | .answerSent
  | .restartSent | .offerReceived _ | .claimReceived _ | .textReceived _ | .closeReceived _
  | .receiptReceived _ | .abandonTakerReceived _ | .abandonOriginReceived _ | .restartReceived _
  | .continuationWindowExpiry | .claimWindowExpiry _ | .backoffWaitExpiry _
  | .receiptWaitExpiry _ | .stallTimerExpiry _ | .holdOffExpiry | .supervisorShiftBegin
  | .supervisorCharacterSent | .supervisorFillSent | .loopTransition _ _ _ => false

/-- The commands that write characters into the pool: a received character, a received TEXT, and the
cold start that empties it. -/
def storesText : Instr → Bool
  | .resetAsserted | .imageReadComplete _ _ | .characterReceived _ _ _ | .textReceived _ => true
  | .resetReleased _ | .restartKeyPress | .restartKeyReleased | .lampFlashToggle
  | .receiverMarkReading _ | .startTransition _ | .falseStart _
  | .silenceTimerExpiry _ | .spacingTimerExpiry _ _ | .markingTimerExpiry _ _
  | .openTimerExpiry _ _ | .breakHeard _ _ | .shiftStageBegin _ | .characterSent _ _ | .fillSent _
  | .runUpTimerExpiry _ | .idleStopExpiry _ | .turnaroundTimerExpiry _ | .arbitrationRound _
  | .offerSent | .claimSent | .textSent | .closeSent | .takerAnswerSent | .answerSent
  | .restartSent | .offerReceived _ | .claimReceived _ | .closeReceived _
  | .receiptReceived _ | .abandonTakerReceived _ | .abandonOriginReceived _ | .restartReceived _
  | .continuationWindowExpiry | .claimWindowExpiry _ | .backoffWaitExpiry _
  | .receiptWaitExpiry _ | .stallTimerExpiry _ | .holdOffExpiry | .supervisorShiftBegin
  | .supervisorCharacterSent | .supervisorFillSent | .loopTransition _ _ _ => false

/-- The commands of the highway port and of the supervisor transmitter. -/
def ofHighwayOrSupervisor : Instr → Bool
  | .arbitrationRound _ | .offerSent | .claimSent | .textSent | .closeSent | .takerAnswerSent
  | .answerSent | .restartSent | .offerReceived _ | .claimReceived _ | .textReceived _
  | .closeReceived _ | .receiptReceived _ | .abandonTakerReceived _ | .abandonOriginReceived _
  | .restartReceived _ | .continuationWindowExpiry | .claimWindowExpiry _ | .backoffWaitExpiry _
  | .receiptWaitExpiry _ | .stallTimerExpiry _ | .holdOffExpiry | .supervisorShiftBegin
  | .supervisorCharacterSent | .supervisorFillSent => true
  | .resetAsserted | .resetReleased _ | .imageReadComplete _ _ | .restartKeyPress
  | .restartKeyReleased | .lampFlashToggle | .receiverMarkReading _ | .startTransition _
  | .falseStart _ | .characterReceived _ _ _ | .silenceTimerExpiry _ | .spacingTimerExpiry _ _
  | .markingTimerExpiry _ _ | .openTimerExpiry _ _ | .breakHeard _ _ | .shiftStageBegin _
  | .characterSent _ _ | .fillSent _ | .runUpTimerExpiry _ | .idleStopExpiry _
  | .turnaroundTimerExpiry _ | .loopTransition _ _ _ => false

/-! ### Invariants -/

/-- The pool is in canonical form (section 3.1, log 8). -/
def PoolForm (s : State) : Prop := poolWf s.store.pool = true

/-- The number of times block `b` stands on the free list and on the records' chains together (R43, R44). -/
def Store.places (st : Store) (b : BlockNo) : Nat :=
  st.freeList.count b + (st.records.toList.map fun r => r.chain.count b).sum

/-- Every block stands in exactly one place, a FREE record has no chain, and what is reserved is on the
free list (R44, R45, R60). -/
def StoreAccounts (s : State) : Prop :=
  (∀ b, s.store.places b = 1) ∧ (∀ r, (s.record r).state = .free → (s.record r).chain = []) ∧
  s.store.reservationCount ≤ s.store.freeList.length

/-- The lists and counts of the port and the supervisor unit keep the bounds of R88, R89, R157 and
R158: no tag twice on the ended-take list, no answer twice on the answer list. -/
def ListsBounded (s : State) : Prop :=
  s.port.answers.length ≤ 8 ∧ (s.port.answers.map fun a => (a.tag, a.reason)).Nodup ∧
  s.port.ended.length ≤ 8 ∧ (s.port.ended.map fun e => e.tag).Nodup ∧
  s.sup.queue.length ≤ 16 ∧ s.sup.lost ≤ 255

/-- Every channel counter and every inbound expectation lies in 1 to 999 (R29, R131). -/
def ChannelsBounded (s : State) : Prop :=
  ∀ n, (1 ≤ (s.line n).sched.counter ∧ (s.line n).sched.counter ≤ 999) ∧
    ∀ e, (s.line n).asm.expectation = some e → 1 ≤ e ∧ e ≤ 999

/-- Each line's turnaround timer runs exactly while the state is WAITING and the three conditions of
R149 hold; only a HALF line of a RUNNING card has a turnaround (R148, R149, R156). -/
def TurnaroundTimed (s : State) : Prop :=
  ∀ n, match (s.line n).turn with
    | none => True
    | some t =>
      s.running = true ∧ s.mode n = .half ∧
        (t.timer.isSome = true ↔ t.waiting = true ∧ s.turnMayRun n = true)

/-- A receiver whose condition is not CLOSED is in WAIT_MARK (R8); a condition's open timer runs only
while it is OPEN (R9). -/
def ReceiverRests (s : State) : Prop :=
  ∀ n, ((s.line n).condIn.value ≠ .closed → (s.line n).rx.state = .waitMark) ∧
    ∀ pin, ((s.line n).cond pin).openTimer.isSome = true → ((s.line n).cond pin).value = .open

/-! ### When a line may receive and send -/

/-- The receiver of line `n` runs (R8): the card is RUNNING, the line has a receive condition and it is
CLOSED, and a HALF line's shift stage is IDLE. -/
def MayReceive (s : State) (n : Line) : Prop :=
  s.running = true ∧ s.mode n ≠ .send ∧ (s.line n).condIn.value = .closed ∧
  (s.mode n = .half → (s.line n).tx.shift = none)

/-- The shift stage of line `n` may drive (R13): the card is RUNNING, the send condition CLOSED, the
motor RUNNING. -/
def MayDrive (s : State) (n : Line) : Prop :=
  s.running = true ∧ s.sendCond n = some .closed ∧ (s.line n).motor.state = .running

/-- The case in effect after a character (R4, R6, R14). -/
def caseAfter (code : Code) (before : Case) : Case :=
  if code = 31 then .letters else if code = 27 then .figures else before

/-- A character in progress on line `n` may end (R6). -/
def MidCharacter (s : State) (n : Line) : Prop := MayReceive s n ∧ (s.line n).rx.state = .inChar

/-- The card takes frames from the highway (R79, R95). -/
def TakesFrames (s : State) : Prop := s.running = true ∧ s.port.awaitIdle = false

/-- The frame being driven on the highway by the RUNNING card (R79). -/
def Drives (s : State) (d : Driven) : Prop := s.running = true ∧ s.port.driven = some d

/-- The highway is let go (R86): nothing is driven, and the tenure is told by the pending frames. That the
burst count is 0 is the model's choice (log 20). -/
def LetsGo (t : State) : Prop :=
  t.port.driven = none ∧ t.port.burst = 0 ∧
  t.port.tenure = if t.waiting = [] then .out else .contending

/-- What the shift stage takes from the holding stage: the held character, or first the shift of the text
case where a TEXT character meets another line case (R13, R14). -/
def TakenFrom (textCase : Option Case) (lineCase : Case) (held taken : TxChar) : Prop :=
  (∀ k, held.role = .text → textCase = some k → k ≠ lineCase →
    taken = ⟨if k = .letters then 31 else 27, .restore, 0, false⟩) ∧
  (held.role ≠ .text ∨ textCase = none ∨ textCase = some lineCase → taken = held)

/-- The text case after a character of a role is sent (R14). -/
def textCaseAfter (x : TxChar) (before : Option Case) : Option Case :=
  if x.role = .text ∧ x.code = 31 then some .letters
  else if x.role = .text ∧ x.code = 27 then some .figures
  else before

/-- No dead copy waits for a place that is free on the supervisor queue (R75, R160). -/
def DeadCopiesServed (s : State) : Prop := s.router.deadList = [] ∨ 16 ≤ s.sup.queue.length

/-- The copy table of a record holds `c` at the reference (R54). -/
def CopyIs (s : State) (ref : CopyRef) (c : Copy) : Prop :=
  (s.record ref.record).copies[ref.ix.val]? = some c

/-- The receiving side of line `n` is not in the middle of a message (R24, R39). -/
def BetweenMessages (s : State) (n : Line) : Prop := (s.line n).asm.state = .hunt

/-- The queue with an entry put in the place R126 gives a new entry. -/
def queuePlaced (s : State) (e : QEntry) (q : List QEntry) : List QEntry :=
  q.filter (fun x => s.entryClass e ≤ s.entryClass x) ++ e :: q.filter (fun x => s.entryClass x < s.entryClass e)

/-- The queue with an entry put in the place R126 gives a put-back. -/
def queuePutBack (s : State) (e : QEntry) (q : List QEntry) : List QEntry :=
  q.filter (fun x => s.entryClass e < s.entryClass x) ++ e :: q.filter (fun x => s.entryClass x ≤ s.entryClass e)

/-- The copy stands on line `n`: QUEUED there, or SENDING as the current copy. -/
def StandsOn (t : State) (n : Line) (ref : CopyRef) : Prop :=
  (t.copy ref).state = .queued ∧ (∃ e ∈ (t.line n).sched.queue, e.copy = ref) ∨
  (t.copy ref).state = .sending ∧ ∃ e, (t.line n).sched.current = some e ∧ e.copy = ref

/-- Copy `i` is another copy of `ref`'s record, bound to line `n` already, not itself joined and not SETTLED:
one that `ref` joins when it is bound there (R56, R67). -/
def BoundThere (s : State) (n : Line) (ref : CopyRef) (i : CopyIx) : Prop :=
  i ≠ ref.ix ∧ ∃ y, CopyIs s ⟨ref.record, i⟩ y ∧ y.line = some n ∧ y.joinedWith = none ∧
    y.state ≠ .settled

/-- The record is of a class that is dispatched at its close (R40). -/
def DispatchedAtClose (s : State) (r : RecIx) : Prop :=
  (s.record r).cls = .general ∨ (s.record r).cls = .bulk ∨
    (s.record r).cls = .running ∧ s.boot.cfg.runningCut = false

/-- An entry of a queue is ready (R128). -/
def IsReady (s : State) (e : QEntry) : Prop :=
  (s.record e.copy.record).complete = true ∨ e.lead ≤ (s.record e.copy.record).count

/-- A send context with its copy's OFFER pending and nothing else begun (R69, R96). -/
def OffersCopy (t : State) (k : CtxIx) (ref : CopyRef) : Prop :=
  ∃ stamp, t.sendCtx k = some
    { copy := ref, pending := some ⟨.offer, stamp⟩, window := none, taken := none, backoff := none,
      blocksSent := 0, charsSent := 0, receiptWait := none }

/-- A queue in class order, highest first (R126). -/
def ClassOrdered (s : State) (q : List QEntry) : Prop :=
  q.Pairwise fun a b => s.entryClass b ≤ s.entryClass a

/-! ### What several commands of the highway do alike -/

/-- An answer joins the answer list, unless the same one waits there or the list is full (R89). -/
def AnswerAdded (s t : State) (tag : Tag) (reason : Reason) (cls : Precedence) : Prop :=
  let idle := (∃ a ∈ s.port.answers, a.tag = tag ∧ a.reason = reason) ∨ 8 ≤ s.port.answers.length
  (idle → t = s) ∧
  (¬idle →
    OnlyPort s t ∧ t.port.answers = s.port.answers ++ [⟨tag, reason, cls, s.port.stamp⟩] ∧
    t.port.send = s.port.send ∧ t.port.take = s.port.take ∧ t.port.ended = s.port.ended ∧
    t.port.driven = s.port.driven ∧ t.port.restartPending = s.port.restartPending ∧
    t.port.holdOff = s.port.holdOff ∧ t.port.burst = s.port.burst)

/-- An ended take joins the ended-take list (R88). -/
def EndedAdded (s t : State) (tag : Tag) (cls : Precedence) : Prop :=
  ((∃ e ∈ s.port.ended, e.tag = tag) → t.port.ended = s.port.ended) ∧
  ((∀ e ∈ s.port.ended, e.tag ≠ tag) →
    t.port.ended =
      (if 8 ≤ s.port.ended.length then s.port.ended.drop 1 else s.port.ended) ++ [⟨tag, cls⟩])

/-- Take context `k` drops its claim: FREE, its reservation released, one pledge fewer, and no trace of it
on the lists (R106). -/
def DropsClaim (s t : State) (k : CtxIx) : Prop :=
  t.takeCtx k = none ∧ (∀ j, j ≠ k → t.takeCtx j = s.takeCtx j) ∧ t.port.send = s.port.send ∧
  t.store = { s.store with reserved := s.store.reserved.set k 0, pledges := s.store.pledges - 1 } ∧
  t.port.ended = s.port.ended ∧ t.port.answers = s.port.answers ∧ t.lines = s.lines ∧
  t.router = s.router ∧ t.sup = s.sup ∧ t.boot = s.boot

/-- Command `c` makes line `n` free to start (R129): the run-up ends, or the turnaround on a HALF line whose
motor is RUNNING, or the send condition of a FULL or SEND line whose motor is RUNNING returns from OPEN to
CLOSED (R19, R147, R149). -/
def FreesLine (s : State) (n : Line) (c : Instr) : Prop :=
  (c = .runUpTimerExpiry n ∧ s.sendCond n = some .closed ∧ (s.line n).motor.runUp ≠ none ∧
    s.withheld n = false) ∨
  ((∃ w, c = .turnaroundTimerExpiry n ∧ (s.line n).turn = some w ∧ w.timer ≠ none) ∧
    s.sendCond n = some .closed ∧ (s.line n).motor.state = .running ∧ BetweenMessages s n ∧
    (s.line n).condIn.value = .closed) ∨
  (c = .markingTimerExpiry n .sense ∧ (s.mode n = .full ∨ s.mode n = .send) ∧
    (s.line n).condSense.markingTimer ≠ none ∧ (s.line n).condSense.value = .open ∧
    (s.line n).motor.state = .running ∧ s.withheld n = false)

/-- The copy `x` on top of line `n`'s stack starts RESUME at its resume point, its channel number kept; the
first character of its head is held, a letters shift where the line's case is figures (R130 to R134). -/
def StartsResume (s t : State) (n : Line) (top : QEntry) (rest : List QEntry) (x : Copy) (ch : Nat)
    (at_ : TextPoint) (lineCase : Case) : Prop :=
  let group : List Code :=
    if (s.lineCfg n).numbering then
      [27, digitCode (ch / 100 % 10), digitCode (ch / 10 % 10), digitCode (ch % 10), 31, 4]
    else []
  let head : List Code :=
    List.replicate 4 s.boot.cfg.codes.opening ++ group ++
      [s.boot.cfg.codes.continuation, 8, 2] ++ (if at_.case = .figures then [27] else [])
  (t.line n).motor.state = .running ∧ (t.line n).sched.current = some top ∧
  (t.line n).sched.stack = rest ∧ (t.line n).sched.queue = (s.line n).sched.queue ∧
  (t.line n).sched.kind = .resume ∧ (t.line n).sched.phase = .head ∧
  (t.line n).sched.nextIndex = at_.index ∧ (t.line n).sched.lineStart = at_ ∧
  (t.line n).sched.sinceLF = 0 ∧ (t.line n).sched.mark = false ∧
  (t.line n).sched.counter = (s.line n).sched.counter ∧
  (t.line n).tx.textCase = some at_.case ∧
  CopyIs t top.copy { x with state := .sending, resume := none } ∧
  (lineCase = .letters →
    (t.line n).tx.holding = some ⟨s.boot.cfg.codes.opening, .composed, 0, false⟩ ∧
    (t.line n).sched.composed.map (·.code) = head.drop 1) ∧
  (lineCase = .figures →
    (t.line n).tx.holding = some ⟨31, .composed, 0, false⟩ ∧
    (t.line n).sched.composed.map (·.code) = head)

/-- Record `r`, TAKING, is ended: freed when its copy has not started, else cut short (R61). -/
def RecordEnded (s t : State) (r : RecIx) : Prop :=
  ((s.copy ⟨r, 0⟩).channel = none →
    (t.record r).state = .free ∧ (t.record r).gen = (s.record r).gen + 1 ∧
    (t.record r).chain = [] ∧ (t.record r).copies = [] ∧ (t.record r).count = 0 ∧
    t.store.freeList = s.store.freeList ++ (s.record r).chain) ∧
  ((s.copy ⟨r, 0⟩).channel ≠ none →
    (t.record r).state = .stored ∧ (t.record r).complete = true ∧ (t.record r).truncated = true ∧
    (t.record r).count = (s.record r).count ∧ (t.record r).chain = (s.record r).chain ∧
    t.store.freeList = s.store.freeList)

/-- A copy settles with the copies joined to it; its record is freed when its text is complete and no
other copy is unsettled, else it is kept, and a STORED one is DRAINING (R56, R57, R60). -/
def SettlesAs (s t : State) (ref : CopyRef) (how : Settlement) : Prop :=
  let others := ∃ (i : CopyIx) (d : Copy), CopyIs s ⟨ref.record, i⟩ d ∧ i ≠ ref.ix ∧
    d.state ≠ .settled ∧ d.joinedWith ≠ some ref.ix
  (((s.record ref.record).complete = false ∨ others) →
    (t.copy ref).state = .settled ∧ (t.copy ref).outcome = some how ∧
    (∀ (i : CopyIx) (d : Copy), CopyIs s ⟨ref.record, i⟩ d → d.state ≠ .settled →
      d.joinedWith = some ref.ix →
      (t.copy ⟨ref.record, i⟩).state = .settled ∧ (t.copy ⟨ref.record, i⟩).outcome = some how) ∧
    (t.record ref.record).chain = (s.record ref.record).chain ∧
    (t.record ref.record).state =
      (if (s.record ref.record).state = .stored then .draining else (s.record ref.record).state) ∧
    t.store.freeList = s.store.freeList) ∧
  ((s.record ref.record).complete = true → ¬others →
    (t.record ref.record).state = .free ∧
    (t.record ref.record).gen = (s.record ref.record).gen + 1 ∧
    (t.record ref.record).chain = [] ∧ (t.record ref.record).count = 0 ∧
    (t.record ref.record).copies = [] ∧
    t.store.freeList = s.store.freeList ++ (s.record ref.record).chain)

/-- A copy that may settle: unsettled, in a record that is not FREE and holds at most six copies. -/
def MaySettle (s : State) (ref : CopyRef) : Prop :=
  (∃ c, CopyIs s ref c ∧ c.state ≠ .settled) ∧ (s.record ref.record).state ≠ .free ∧
  (s.record ref.record).copies.length ≤ 6

/-- The copy in send context `k` goes dead: the context is FREE, and the copy takes a free place of the
supervisor queue or waits for one (R75, R160). -/
def GoesDead (s t : State) (k : CtxIx) (ref : CopyRef) : Prop :=
  t.sendCtx k = none ∧
  (s.sup.queue.length < 16 → s.router.deadList = [] →
    (t.copy ref).state = .deadQueued ∧ t.router.deadList = [] ∧
    t.sup.queue = s.sup.queue ++ [.dead ref (s.record ref.record).gen]) ∧
  (16 ≤ s.sup.queue.length → ref ∉ s.router.deadList →
    (t.copy ref).state = .deadWaiting ∧ t.router.deadList = s.router.deadList ++ [ref] ∧
    t.sup = s.sup)

/-- The copy in send context `k` is offered again as `x`: BACKOFF with its OFFER pending (R74, R96). -/
def OffersAgain (s t : State) (k : CtxIx) (ref : CopyRef) (x : Copy) : Prop :=
  OffersCopy t k ref ∧ CopyIs t ref { x with state := .backoff } ∧ (∀ other, other ≠ ref → t.copy other = s.copy other) ∧
  (∀ j, j ≠ k → t.sendCtx j = s.sendCtx j) ∧ t.port.take = s.port.take ∧ t.lines = s.lines ∧
  t.router = s.router ∧ t.sup = s.sup ∧ t.store.freeList = s.store.freeList

/-- The record that a request is given (R50): the lowest-numbered FREE one. -/
def LowestFree (s : State) (r : RecIx) : Prop :=
  (s.record r).state = .free ∧ ∀ q, q < r → (s.record q).state ≠ .free

/-- Send context `k` is the one that holds the copy. -/
def SendHolds (s : State) (k : CtxIx) (ref : CopyRef) (c : Send) : Prop :=
  s.sendCtx k = some c ∧ c.copy = ref ∧ ∀ j c', s.sendCtx j = some c' → c'.copy = ref → j = k

/-- Take context `k` is the one that holds the tag (R82). -/
def TakeHolds (s : State) (k : CtxIx) (tag : Tag) (c : Take) : Prop :=
  s.takeCtx k = some c ∧ c.tag = tag ∧ ∀ j c', s.takeCtx j = some c' → c'.tag = tag → j = k

/-- A transfer that take context `k` is receiving into record `r` (R118). -/
def Receives (s : State) (k : CtxIx) (tag : Tag) (c : Take) (r : RecIx) : Prop :=
  TakeHolds s k tag c ∧ c.phase = .taking ∧ c.step = .receiving ∧ c.record = some r ∧
  (s.record r).state = .taking

/-! ### The parts at rest -/

/-- The store as R62 gives it for RESET, LOADING and entry to RUNNING. -/
def StoreAtRest (s : State) : Prop :=
  s.store.freeList = List.finRange 192 ∧ (∀ k : CtxIx, s.store.reserved[k] = 0) ∧
  s.store.pledges = 0 ∧
  ∀ r, (s.record r).state = .free ∧ (s.record r).gen = 0 ∧ (s.record r).source = .none ∧
    (s.record r).count = 0 ∧ (s.record r).chain = [] ∧ (s.record r).complete = false ∧
    (s.record r).overrun = false ∧ (s.record r).truncated = false ∧
    (s.record r).sequenceGap = false ∧ (s.record r).headingDefaulted = false ∧
    (s.record r).mutilated = 0 ∧ (s.record r).inbound = none ∧ (s.record r).copies = []

/-- The router's lists as R78 gives them. -/
def RouterAtRest (s : State) : Prop :=
  s.router.waitList = [] ∧ s.router.deadList = [] ∧ s.router.restartList = []

/-- The highway port as R95 and R108 give it. -/
def PortAtRest (s : State) : Prop :=
  s.port.tenure = .out ∧ s.port.burst = 0 ∧ s.port.driven = none ∧
  (∀ k, s.sendCtx k = none ∧ s.takeCtx k = none) ∧ s.port.answers = [] ∧ s.port.ended = [] ∧
  s.port.restartPending = false ∧ s.port.holdOff = none

/-- The supervisor unit as R165 gives it. The empty composed list and the next index 0 are the model's choice
(log 21). -/
def SupAtRest (s : State) : Prop :=
  s.sup.queue = [] ∧ s.sup.lost = 0 ∧ s.sup.phase = .idle ∧ s.sup.composed = [] ∧
  s.sup.nextIndex = 0 ∧ s.sup.outstanding = false ∧ s.sup.tx.holding = none ∧ s.sup.tx.shift = none

/-- Line `n` but for its conditions and turnaround, as R22, R42 and R143 give it. -/
def LineAtRest (s : State) (n : Line) : Prop :=
  (s.line n).rx.state = .waitMark ∧ (s.line n).tx.holding = none ∧ (s.line n).tx.shift = none ∧
  (s.line n).motor = { state := .stopped, runUp := none, idleStop := none } ∧
  (s.line n).asm.state = .hunt ∧ (s.line n).asm.openingCount = 0 ∧ (s.line n).asm.closingCount = 0 ∧
  (s.line n).asm.headingChars = 0 ∧ (s.line n).asm.record = none ∧ (s.line n).asm.overrun = false ∧
  (s.line n).asm.silence = none ∧ (s.line n).asm.expectation = none ∧
  (s.line n).sched.queue = [] ∧ (s.line n).sched.stack = [] ∧ (s.line n).sched.current = none ∧
  (s.line n).sched.mark = false ∧ (s.line n).sched.outstanding = false ∧
  (s.line n).sched.counter = 1

/-! ### Terms of single statements -/

/-- What every warm restart does (R47, R63, R77, R93). -/
def HighwayEnded (s t : State) : Prop :=
  (∀ k, t.takeCtx k = none) ∧ t.port.answers = [] ∧ t.port.ended = [] ∧ t.port.burst = 0 ∧
  (∀ k : CtxIx, t.store.reserved[k] = 0) ∧ t.store.pledges = 0 ∧
  (∀ r, (t.record r).state ≠ .taking) ∧ (∀ m, t.inputs m = s.inputs m) ∧
  (∀ a, poolRead t.store.pool a = poolRead s.store.pool a)

/-- A warm restart keeps record `r` and its copies: it is not a TAKING record whose copy has not started
(R63, R61). -/
def keptThrough (s : State) (r : RecIx) : Bool :=
  (s.record r).state ≠ .taking || (s.copy ⟨r, 0⟩).channel.isSome

/-- The copies a warm restart returns to UNROUTED, in ascending record number and copy-table order
(R63, R77). -/
def returnedBy (s : State) : List CopyRef :=
  (List.finRange 32).flatMap fun r =>
    ((List.finRange 6).map fun i => (⟨r, i⟩ : CopyRef)).filter fun ref =>
      ref.ix.val < (s.record r).copies.length && keptThrough s r &&
        [CopyState.offered, .streaming, .awaitReceipt, .backoff].contains (s.copy ref).state

/-- A copy that the highway or the restart list holds is on no line and no dead wait list (R55, R77). -/
def HighwayCopiesApart (s : State) : Prop :=
  ∀ ref, ([CopyState.offered, .streaming, .awaitReceipt, .backoff].contains (s.copy ref).state = true ∨
      ref ∈ s.router.restartList) →
    ref ∉ s.router.deadList ∧
    ∀ m e, e ∈ (s.line m).sched.queue ++ (s.line m).sched.stack ∨ (s.line m).sched.current = some e →
      e.copy ≠ ref

/-- What is left of the highway after a warm restart of a card whose slot is not 0: besides, every send
context is FREE, the hold-off runs, and no copy is in a highway state (R63, R77, R93, R94). -/
def HighwayCleared (s t : State) : Prop :=
  HighwayEnded s t ∧ (∀ k, t.sendCtx k = none) ∧ t.port.holdOff = some (50 * s.boot.slot.val) ∧
  t.router.waitList = [] ∧
  (∀ r, ∀ c ∈ (t.record r).copies,
    c.state ≠ .offered ∧ c.state ≠ .streaming ∧ c.state ≠ .awaitReceipt ∧ c.state ≠ .backoff)

/-- What is left of the highway after a warm restart of the card in slot 0, whose hold-off ends as it
starts: the send contexts in use have their OFFERs pending (R77, R94). -/
def HighwayReopened (s t : State) : Prop :=
  HighwayEnded s t ∧ t.port.holdOff = none ∧ t.router.restartList = [] ∧
  (∀ k c, t.sendCtx k = some c → OffersCopy t k c.copy)

/-- The characters of a heading line after its designator, as handed in letters case: a space before
each code, then CR and LF (R31). -/
def headingLine (codes : List StationCode) : List Handed :=
  (codes.flatMap fun c => spaceCode :: c).map (⟨·, .letters⟩) ++ [⟨crCode, .letters⟩, ⟨lfCode, .letters⟩]

/-- An assembler's parse of heading characters one after another, each counted: the codes collected if
the last of them completes the heading (R31, R32). -/
def Assembler.readAll (a : Assembler) : List Handed → Option (List StationCode)
  | [] => none
  | h :: hs =>
    let counted := { a with headingChars := a.headingChars + 1 }
    match counted.parseLimited h with
    | .going a' _ => a'.readAll hs
    | .malformed _ => none
    | .complete => if hs.isEmpty then some counted.collected else none

end Sys2Proof.Machine
end

