-- ==== Sys2Proof/Certificates/Slice0/Obligations.lean ====
section
/-! DEFINITION. The statements for the provers: what the commands and the whole card do, by the numbered rules of the spec. -/

open Sys2Proof Sys2Proof.Machine

/-! ### The card as a whole -/

/-- A step carries out the command at the front of the queue with the queue's rest; on an empty queue the
card idles, which is the model's choice (log 3). -/
def Obligations.StepRunsTheFrontCommand : Prop :=
  (∀ (c : Instr) (rest : List Instr) (s : State),
    step { s with pending := c :: rest } = exec c { s with pending := rest }) ∧
  ∀ s : State, s.pending = [] → step s = .next s

/-- Every command of the part completes, also one that the state does not make possible, which is the
model's choice (log 1): it leaves the waiting commands as they are, and only the start-up unit's commands
touch the start-up unit. What is no command of the part is refused, which is the model's choice too
(log 18). R166, R167, R172, R173: the card leaves RUNNING only through RESET, and until then keeps its slot
and its image (R166), its configuration, and its steady lamp (R173). R34, R59: the pool's characters change
only by a received character, a received TEXT frame and the cold start. R22, R42, R156: the commands of the
highway, of the supervisor transmitter and every warm restart from the highway leave each line's inputs,
receiver, conditions, turnaround and assembler as they are. -/
def Obligations.CommandsCompleteAndKeepToTheirParts : Prop :=
  ((∀ (c : Instr) (s : State),
    (c.wellFormed = true →
      ∃ t, exec c s = .next t ∧ t.pending = s.pending ∧ (startsUp c = false → t.boot = s.boot)) ∧
    (c.wellFormed = false → exec c s = .refused .illFormed)) ∧
  ∀ (c : Instr) (s t : State), c ≠ .resetAsserted → s.running = true → s.boot.resetLow = false →
    exec c s = .next t →
    t.running = true ∧ t.boot.resetLow = false ∧ t.boot.slot = s.boot.slot ∧
    t.boot.image = s.boot.image ∧ t.boot.cfg = s.boot.cfg ∧ t.boot.lamp = s.boot.lamp) ∧
  ((∀ (c : Instr) (s t : State), storesText c = false → exec c s = .next t →
    t.store.pool = s.store.pool) ∧
  ∀ (c : Instr) (s t : State), ofHighwayOrSupervisor c = true → exec c s = .next t →
    ∀ m, t.inputs m = s.inputs m)

/-! ### Start-up unit -/

/-- R166, R22, R42, R62, R78, R95, R143, R156, R165, R173: RESET_ASSERTED ends all activity, and every
output takes its value for RESET. That the inputs go on reading what they read is the model's choice
(log 5), and so are the supervisor unit's empty composed list and next index 0 (log 21). -/
def Obligations.ResetEndsAllActivity : Prop :=
  ∀ s : State, ∃ t, exec .resetAsserted s = .next t ∧
    t.boot.card = .loading ∧ t.boot.resetLow = true ∧ t.boot.lamp = false ∧
    t.boot.cfg.stations = [] ∧ t.boot.cfg.intercept = none ∧
    StoreAtRest t ∧ RouterAtRest t ∧ PortAtRest t ∧ SupAtRest t ∧
    (∀ n, LineAtRest t n ∧ (t.line n).turn = none ∧
      (∀ pin, (t.line n).cond pin =
        { value := .open, spacingTimer := none, markingTimer := none, openTimer := none } ∧
        (t.line n).level pin = (s.line n).level pin)) ∧
    (∀ n unit, t.loopOut n unit = .marking ∧ t.motorOut n = false ∧ t.supOut unit = .marking) ∧
    t.highwayOut = none

/-- The invariants of the card hold in the state right at reset. -/
def Obligations.ResetMeetsTheInvariants : Prop :=
  PoolForm State.reset ∧ StoreAccounts State.reset ∧ ListsBounded State.reset ∧
  ChannelsBounded State.reset ∧ TurnaroundTimed State.reset ∧ ReceiverRests State.reset

/-- R166: when RESET goes high the slot is the number the straps make, SLOT0 the least significant, and
nothing else of the card moves. R167, R173: an image whose bytes do not sum to 0 mod 256 leaves the card
UNCONFIGURED, its lamp lit, every loop marking, every motor stopped and the highway undriven; nothing
but the start-up unit moves. R172, R173: a press outside RUNNING, or before the key was released for
20 ms, is not reported; the lamp of an UNCONFIGURED card changes at each toggle. That a press disarms
the key and a release of 20 ms arms it is how the model holds R172 (log 25, DESIGN CHOICE). -/
def Obligations.StartUpCommandsOutsideRunning : Prop :=
  (∀ (straps : BitVec 4) (s : State), s.boot.resetLow = true →
    ∃ t, exec (.resetReleased straps) s = .next t ∧ OnlyBoot s t ∧
      t.boot = { s.boot with resetLow := false, slot := t.boot.slot } ∧
      t.boot.slot.val = (straps.getLsbD 0).toNat + 2 * (straps.getLsbD 1).toNat
        + 4 * (straps.getLsbD 2).toNat + 8 * (straps.getLsbD 3).toNat) ∧
  (∀ (image : List Byte) (busy : Bool) (s : State), image.length = 256 →
    (image.map (·.toNat)).sum % 256 ≠ 0 → s.boot.card = .loading → s.boot.resetLow = false →
    ∃ t, exec (.imageReadComplete image busy) s = .next t ∧ OnlyBoot s t ∧
      t.boot = { s.boot with card := .unconfigured, image := image, lamp := true } ∧
      (∀ n unit, t.loopOut n unit = .marking ∧ t.motorOut n = false ∧ t.supOut unit = .marking) ∧
      t.highwayOut = none) ∧
  (∀ s : State,
    (s.boot.keyArmed = false ∨ s.running = false →
      ∃ t, exec .restartKeyPress s = .next t ∧ OnlyBoot s t ∧
        t.boot = { s.boot with keyArmed := false }) ∧
    (∃ t, exec .restartKeyReleased s = .next t ∧ OnlyBoot s t ∧
      t.boot = { s.boot with keyArmed := true }) ∧
    (s.boot.card = .unconfigured →
      ∃ t, exec .lampFlashToggle s = .next t ∧ OnlyBoot s t ∧
        t.boot = { s.boot with lamp := !s.boot.lamp }))

/-- R167, R22, R42, R62, R78, R95, R143, R156, R165: an image that passes takes the card into RUNNING, every
block in its state for entry to RUNNING. The timers of a condition begin with what its loop then reads
(R9). The conditions a mode does not keep rest, which is the model's choice (log 29). A port that finds
the highway BUSY awaits its IDLE state (R79, log 16, DEDUCED), and a key that reads low is disarmed
(R172, log 25). R171, R158: the CONFIG notices of the image are posted in their order to an empty queue:
the first 16 enter it and each later one is counted as lost, up to 255. The supervisor line stands in
letters case with no text case; the unit is IDLE, or has begun the line of the first notice (R161), whose
first character is held. That the next index is 0 in both, and the composed list empty in IDLE, is the
model's choice (log 21). -/
def Obligations.PassedImageEntersRunning : Prop :=
  (∀ (image : List Byte) (busy : Bool) (s : State), image.length = 256 →
    (image.map (·.toNat)).sum % 256 = 0 → s.boot.card = .loading → s.boot.resetLow = false →
    ∃ t, exec (.imageReadComplete image busy) s = .next t ∧
      t.pending = s.pending ∧
      t.boot = { s.boot with card := .running, image := image, cfg := (resolveImage image).1,
                             lamp := true,
                             keyArmed := s.boot.keyArmed && !Config.keyLow s.choices } ∧
      StoreAtRest t ∧ RouterAtRest t ∧ PortAtRest t ∧ t.port.awaitIdle = busy ∧
      (∀ n, LineAtRest t n ∧ (t.line n).rx.case = .letters ∧ (t.line n).tx.lineCase = .letters ∧
        (t.line n).tx.textCase = none ∧
        (t.line n).turn =
          (if (t.lineCfg n).mode = .half then some { waiting := true, timer := none } else none) ∧
        ∀ pin, (t.line n).level pin = (s.line n).level pin ∧
          (keepsCond (t.lineCfg n).mode pin = true →
            ((t.line n).cond pin).value = .open ∧ ((t.line n).cond pin).openTimer = some 60000 ∧
            ((t.line n).cond pin).markingTimer =
              (if (s.line n).level pin = .marking then some 200 else none) ∧
            ((t.line n).cond pin).spacingTimer =
              (if (s.line n).level pin = .spacing then some 300 else none)) ∧
          (keepsCond (t.lineCfg n).mode pin = false →
            (t.line n).cond pin =
              { value := .open, spacingTimer := none, markingTimer := none, openTimer := none }))) ∧
  (∀ (image : List Byte) (busy : Bool) (s : State), image.length = 256 →
    (image.map (·.toNat)).sum % 256 = 0 → s.boot.card = .loading → s.boot.resetLow = false →
    ∃ t, exec (.imageReadComplete image busy) s = .next t ∧
      t.sup.queue = ((resolveImage image).2.map Item.notice).take 16 ∧
      t.sup.lost = min 255 ((resolveImage image).2.length - 16) ∧
      t.sup.tx.lineCase = .letters ∧ t.sup.tx.textCase = none ∧ t.sup.tx.shift = none ∧
      t.sup.nextIndex = 0 ∧ t.sup.outstanding = false ∧ t.sup.midText = false ∧
      t.sup.discarded = false ∧
      ((resolveImage image).2 = [] →
        t.sup.phase = .idle ∧ t.sup.composed = [] ∧ t.sup.tx.holding = none) ∧
      ∀ notice rest, (resolveImage image).2 = notice :: rest →
        t.sup.phase = .line ∧
        ∃ code, t.sup.tx.holding = some ⟨code, .composed, 0, false⟩ ∧
          code :: t.sup.composed.map (·.code) = (printedLine notice.words).map (·.code))

/-- R168, R169, R170, R64, R65: whatever the image holds, the resolved configuration lies in range: the line
times, the station list without a repeated code, a RECV line or a code of other than four code
characters, the intercept line, the threshold, Lcut and the code set. -/
def Obligations.ResolvedConfigurationIsInRange : Prop :=
  ∀ image : List Byte,
    let cfg := (resolveImage image).1
    (∀ n : Line, cfg.lines[n].runUp ≤ 15 ∧ cfg.lines[n].idleStop ≤ 60 ∧
      (cfg.lines[n].mode = .half → 1 ≤ cfg.lines[n].turnaround ∧ cfg.lines[n].turnaround ≤ 15)) ∧
    cfg.stations.length ≤ 24 ∧ (cfg.stations.map (·.code)).Nodup ∧
    (∀ e ∈ cfg.stations, cfg.lines[e.line].mode ≠ .recv ∧ e.code.length = 4 ∧
      ∀ c ∈ e.code, c ≠ 0 ∧ c ≠ 2 ∧ c ≠ 4 ∧ c ≠ 8 ∧ c ≠ 27 ∧ c ≠ 31) ∧
    (∀ n, cfg.intercept = some n → cfg.lines[n].mode ≠ .recv) ∧
    3 ≤ cfg.threshold ∧ cfg.threshold ≤ 15 ∧
    64 ≤ cfg.lcut ∧ cfg.lcut ≤ 3072 ∧ cfg.lcut % 64 = 0 ∧
    cfg.codes.opening ≠ cfg.codes.closing ∧
    [cfg.codes.order, cfg.codes.running, cfg.codes.general, cfg.codes.bulk].Nodup ∧
    (∀ c ∈ [cfg.codes.opening, cfg.codes.closing, cfg.codes.continuation, cfg.codes.order,
        cfg.codes.running, cfg.codes.general, cfg.codes.bulk],
      c ≠ 0 ∧ c ≠ 2 ∧ c ≠ 4 ∧ c ≠ 8 ∧ c ≠ 27 ∧ c ≠ 31) ∧
    cfg.codes.incomplete.length = 4

/-- R63, R77, R92, R93, R94, R125: a warm restart, on the armed key of a RUNNING card or on a RESTART frame
that passes its tests, clears the highway, and the hold-off of the card's slot starts; in slot 0 it ends as it starts. The key leaves
this card's RESTART frame pending; a received RESTART leaves none pending. The tenure is OUT or CONTENDING,
and a continuation window ends; a frame that is being driven is completed (R92, log 13, DEDUCED). The
RESTART HEARD notice stands on the queue when two places were free and no dead copy waited for one. -/
def Obligations.WarmRestartClearsTheHighway : Prop :=
  ∀ (s : State) (c : Instr) (sender : Slot), s.running = true →
    (c = .restartKeyPress ∧ s.boot.keyArmed = true ∧ sender = s.boot.slot ∨
      c = .restartReceived (Frame.restart sender).encode ∧ s.port.awaitIdle = false) →
    ∃ t, exec c s = .next t ∧ t.pending = s.pending ∧
      (s.boot.slot.val ≠ 0 → HighwayCleared s t) ∧ (s.boot.slot.val = 0 → HighwayReopened s t) ∧
      (c = .restartKeyPress →
        t.port.restartPending = true ∧ t.boot = { s.boot with keyArmed := false }) ∧
      (c ≠ .restartKeyPress → t.port.restartPending = false ∧ t.boot = s.boot) ∧
      (s.port.driven = none →
        t.port.driven = none ∧ t.port.tenure = if t.waiting = [] then .out else .contending) ∧
      (∀ d, s.port.driven = some d → (s.port.tenure = .sending → t.port.tenure = .sending) ∧
        ∃ live, t.port.driven = some { d with live := live } ∧
          (d.source ≠ .restart ∨ c ≠ .restartKeyPress → live = false)) ∧
      (s.router.deadList = [] → s.sup.queue.length ≤ 14 →
        Item.notice (.restartHeard sender) ∈ t.sup.queue)

/-- R63, R77, R93, R94: a warm restart returns the copies the highway held to UNROUTED with both counts 0, and
they join the tail of the restart list by record number and copy index; the copy of a TAKING record that
has not started leaves with its record (R61). In slot 0, where the hold-off ends as it starts, no send
context and no wait list is in use when there was nothing to return. A copy that the highway or the restart
list holds stands in no other place (R55), and a TAKING record has its one copy (R54). -/
def Obligations.WarmRestartReturnsTheCopies : Prop :=
  ∀ (s : State) (c : Instr) (sender : Slot), s.running = true →
    (c = .restartKeyPress ∧ s.boot.keyArmed = true ∧ sender = s.boot.slot ∨
      c = .restartReceived (Frame.restart sender).encode ∧ s.port.awaitIdle = false) →
    HighwayCopiesApart s → (∀ r, (s.record r).state = .taking → (s.record r).copies.length = 1) →
    ∃ t, exec c s = .next t ∧
      (s.boot.slot.val ≠ 0 →
        t.router.restartList =
          (s.router.restartList.filter fun ref => keptThrough s ref.record || ref.ix ≠ 0) ++
            returnedBy s ∧
        ∀ ref x, ref ∈ returnedBy s → CopyIs s ref x →
          CopyIs t ref { x with state := .unrouted, attempt := 0, spoil := 0 }) ∧
      (s.boot.slot.val = 0 → s.router.restartList = [] → returnedBy s = [] →
        (∀ k, t.sendCtx k = none) ∧ t.router.waitList = [])

/-! ### Receivers and assemblers -/

/-- R5, R8: a marking reading ends WAIT_MARK, a transition to spacing begins a character, and a false start
returns to HUNT_START; the rest of the line but its timers is left as it is. R6, R7: the stop sample ends
the receiver's turn whatever the assembler makes of the character: the receiver hunts, or after a framing
fault waits for marking, and a shift character sets its case; on a HALF line whose shift stage has begun
at that moment (R150) it is suspended. No other line's receiving side moves. That each of these events is
a reading of the loop is DEDUCED (log 7), and so is the WAIT_MARK of a suspended receiver (log 17). -/
def Obligations.ReceiverFollowsTheLoop : Prop :=
  (∀ (n : Line) (s : State) (c : Instr) (before after : RxState) (level : Level),
    (c, before, level, after) ∈
      [(Instr.receiverMarkReading n, RxState.waitMark, Level.marking, RxState.huntStart),
       (Instr.startTransition n, RxState.huntStart, Level.spacing, RxState.inChar),
       (Instr.falseStart n, RxState.inChar, Level.marking, RxState.huntStart)] →
    MayReceive s n → (s.line n).rx.state = before →
    ∃ t, exec c s = .next t ∧ OnlyLine n s t ∧
      (t.line n).rx = { (s.line n).rx with state := after } ∧ (t.line n).loopIn = level ∧
      (t.line n).sense = (s.line n).sense ∧ (t.line n).condIn.value = .closed ∧
      (t.line n).condSense = (s.line n).condSense ∧ (t.line n).tx = (s.line n).tx ∧
      (t.line n).motor = (s.line n).motor ∧ (t.line n).asm = (s.line n).asm ∧
      (t.line n).sched = (s.line n).sched) ∧
  ∀ (n : Line) (code : Code) (framing : Bool) (s : State), MidCharacter s n →
    ∃ t, exec (.characterReceived n code framing) s = .next t ∧ t.boot = s.boot ∧
      (t.line n).rx =
        { state := if framing = true ∨ s.mode n = .half ∧ (t.line n).tx.shift ≠ none then .waitMark
            else .huntStart
          case := caseAfter code (s.line n).rx.case } ∧
      (t.line n).loopIn = (if framing then .spacing else .marking) ∧
      (t.line n).sense = (s.line n).sense ∧ ∀ m, m ≠ n → t.inputs m = s.inputs m

/-- R24, R25, R50: in HUNT a character other than the opening code in letters case clears the opening count
and an opening code raises it. R25, R50, R52: the fourth opening code opens a message in the lowest FREE
record when the FREE records exceed the pledges, and loses the message when they do not, here with no
dead copy waiting for a free place of the notice. The line has no copy going out, or is no HALF line. That a
lost message leaves the overrun mark and the heading items as they stood is the model's choice (log 21). -/
def Obligations.OpeningRunOpensAMessage : Prop :=
  (∀ (n : Line) (code : Code) (framing : Bool) (s : State), MidCharacter s n →
    (s.line n).asm.state = .hunt →
    let opening := caseAfter code (s.line n).rx.case = .letters ∧ code = s.boot.cfg.codes.opening
    (¬opening →
      ∃ t, exec (.characterReceived n code framing) s = .next t ∧ OnlyLine n s t ∧
        (t.line n).asm = { (s.line n).asm with openingCount := 0 } ∧
        (t.line n).tx = (s.line n).tx ∧ (t.line n).sched = (s.line n).sched) ∧
    (opening → (s.line n).asm.openingCount < 3 →
      ∃ t, exec (.characterReceived n code framing) s = .next t ∧ OnlyLine n s t ∧
        (t.line n).asm =
          { (s.line n).asm with openingCount := (s.line n).asm.openingCount + 1 } ∧
        (t.line n).tx = (s.line n).tx ∧ (t.line n).sched = (s.line n).sched)) ∧
  (∀ (n : Line) (code : Code) (framing : Bool) (s : State), MidCharacter s n →
    (s.line n).asm.state = .hunt → (s.line n).asm.openingCount = 3 →
    caseAfter code (s.line n).rx.case = .letters → code = s.boot.cfg.codes.opening →
    (s.mode n = .half → (s.line n).sched.current = none) →
    (∀ r, s.store.pledges < s.store.freeRecords → (s.record r).state = .free →
      (∀ q, q < r → (s.record q).state ≠ .free) →
      ∃ t, exec (.characterReceived n code framing) s = .next t ∧
        t.record r =
          { state := .assembling, gen := (s.record r).gen, source := .originated n, cls := .general,
            count := 0, chain := [], complete := false, overrun := false, truncated := false,
            sequenceGap := false, headingDefaulted := false, mutilated := 0, inbound := none,
            copies := [] } ∧
        (∀ q, q ≠ r → t.record q = s.record q) ∧ t.store.freeList = s.store.freeList ∧
        t.store.reserved = s.store.reserved ∧ t.store.pledges = s.store.pledges ∧
        t.store.pool = s.store.pool ∧
        (t.line n).asm =
          { state := .heading, openingCount := 0, closingCount := 0,
            step := if (s.lineCfg n).inboundCheck then .group else .designator, group := [],
            currentCode := [], collected := [], headingChars := 0, silence := some 10000,
            record := some r, expectation := (s.line n).asm.expectation, overrun := false } ∧
        (s.mode n = .half →
          (t.line n).turn = (s.line n).turn.map fun _ => { waiting := true, timer := none }) ∧
        (t.line n).sched = (s.line n).sched ∧ (t.line n).tx = (s.line n).tx ∧
        (∀ m, m ≠ n → t.line m = s.line m) ∧ t.router = s.router ∧ t.port = s.port ∧
        t.sup = s.sup) ∧
    (s.store.freeRecords ≤ s.store.pledges → DeadCopiesServed s →
      ∃ t, exec (.characterReceived n code framing) s = .next t ∧
        (t.line n).asm =
          { (s.line n).asm with state := .discard, openingCount := 0, closingCount := 0 } ∧
        t.sup.account = (s.sup.posted (.messageLost n)).account ∧ t.store = s.store ∧
        (t.line n).sched = (s.line n).sched ∧ (∀ m, m ≠ n → t.line m = s.line m) ∧
        t.router = s.router ∧ t.port = s.port))

/-- R150, R144, R148, R142, R8: a HALF line whose assembler leaves HUNT while it has a current copy puts that
copy back before its class, QUEUED, without its resume point and with its channel number; the loop stays
CLOSED and the outbound state is TURNAROUND. R150 item 1, R12: where the shift stage could take the held
character, either may come first, and a free choice of the model says which (log 31): withdrawn first,
the character is discarded; taken first, the shift stage begins it, or its case restore, and the receiver
is suspended (in WAIT_MARK, log 17, DEDUCED). -/
def Obligations.OpeningRunTakesTheCopyOffAHalfLine : Prop :=
  ∀ (n : Line) (framing : Bool) (s : State) (e : QEntry) (x : Copy) (w : Turnaround),
    MidCharacter s n → s.mode n = .half → (s.line n).asm.state = .hunt →
    (s.line n).asm.openingCount = 3 →
    caseAfter s.boot.cfg.codes.opening (s.line n).rx.case = .letters →
    (s.line n).sched.current = some e → CopyIs s e.copy x → x.state ≠ .settled →
    (s.record e.copy.record).state ≠ .free → DeadCopiesServed s → (s.line n).turn = some w →
    let begins := MayDrive s n ∧ Config.shiftFirst s.choices = true
    ∃ t, exec (.characterReceived n s.boot.cfg.codes.opening framing) s = .next t ∧
      (t.line n).asm.state ≠ .hunt ∧ (t.line n).turn = some { waiting := true, timer := none } ∧
      (t.line n).condIn.value = .closed ∧ t.outbound n = .turnaround ∧
      (t.line n).sched.current = none ∧ (t.line n).sched.stack = (s.line n).sched.stack ∧
      (t.line n).tx.holding = none ∧ CopyIs t e.copy { x with state := .queued, resume := none } ∧
      (ClassOrdered s (s.line n).sched.queue →
        (∀ q ∈ (s.line n).sched.queue, (s.record q.copy.record).state ≠ .free) →
        (t.line n).sched.queue = queuePutBack s e (s.line n).sched.queue) ∧
      (∀ h, (s.line n).tx.holding = some h → begins →
        (∃ y, (t.line n).tx.shift = some y ∧
          TakenFrom (s.line n).tx.textCase (s.line n).tx.lineCase h y) ∧
        (t.line n).rx.state = .waitMark) ∧
      ((s.line n).tx.holding = none ∨ ¬begins →
        (t.line n).tx.shift = none ∧
        (t.line n).rx.state = if framing then .waitMark else .huntStart) ∧
      (∀ m, m ≠ n → t.line m = s.line m) ∧ t.port = s.port ∧ t.router = s.router ∧
      t.store.freeList = s.store.freeList ∧ t.store.pool = s.store.pool

/-- R26, R34, R43, R44, R58: in TEXT a character that is no closing code, with no closing code pending, is
written at the end of the record's text. A character at a multiple of 64 first takes the head of the
free list, if the admission test of the record's class lets it; if not, the record is marked OVERRUN,
the character is dropped and a notice is posted, here with no dead copy waiting for a free place. Closing
codes held are released by a character that is none: they are stored as ordinary text in their order, and
the character behind them, in the record's last block while it has room and then in the block at the head
of the free list, here admitted. The record is one in use (R51). -/
def Obligations.TextAndPendingCodesAreStored : Prop :=
  (∀ (n : Line) (code : Code) (framing : Bool) (s : State) (r : RecIx), MidCharacter s n →
    (s.line n).asm.state = .text → (s.line n).asm.record = some r →
    (s.line n).asm.closingCount = 0 → (s.line n).asm.overrun = false →
    ¬(caseAfter code (s.line n).rx.case = .letters ∧ code = s.boot.cfg.codes.closing) → PoolForm s →
    (s.record r).state ≠ .free →
    let count := (s.record r).count
    let mutilated :=
      if framing then min 255 ((s.record r).mutilated + 1) else (s.record r).mutilated
    (∀ b : BlockNo, count % 64 ≠ 0 → (s.record r).chain[count / 64]? = some b →
      ∃ t, exec (.characterReceived n code framing) s = .next t ∧
        (t.record r).count = count + 1 ∧ (t.record r).chain = (s.record r).chain ∧
        (t.record r).mutilated = mutilated ∧ t.store.freeList = s.store.freeList ∧
        poolRead t.store.pool (64 * b.val + count % 64) = code.setWidth 8 ∧
        (∀ a, a ≠ 64 * b.val + count % 64 → poolRead t.store.pool a = poolRead s.store.pool a) ∧
        (t.line n).asm = { (s.line n).asm with silence := some 60000 }) ∧
    (∀ (b : BlockNo) (rest : List BlockNo), count % 64 = 0 →
      (s.record r).chain.length = count / 64 → s.store.freeList = b :: rest →
      s.store.reservationCount + 1 + floorOf (s.record r).cls ≤ s.store.freeList.length →
      ∃ t, exec (.characterReceived n code framing) s = .next t ∧
        (t.record r).count = count + 1 ∧ (t.record r).chain = (s.record r).chain ++ [b] ∧
        (t.record r).mutilated = mutilated ∧ t.store.freeList = rest ∧
        poolRead t.store.pool (64 * b.val) = code.setWidth 8 ∧
        (∀ a, a ≠ 64 * b.val → poolRead t.store.pool a = poolRead s.store.pool a) ∧
        (t.line n).asm = { (s.line n).asm with silence := some 60000 }) ∧
    (count % 64 = 0 →
      s.store.freeList.length < s.store.reservationCount + 1 + floorOf (s.record r).cls →
      DeadCopiesServed s →
      ∃ t, exec (.characterReceived n code framing) s = .next t ∧
        t.record r = { s.record r with overrun := true, mutilated := mutilated } ∧
        t.store.freeList = s.store.freeList ∧ t.store.pool = s.store.pool ∧
        t.sup.account = (s.sup.posted (.overrunLine n (s.record r).inbound)).account ∧
        (t.line n).asm = { (s.line n).asm with silence := some 60000, overrun := true })) ∧
  (∀ (n : Line) (code : Code) (framing : Bool) (s : State) (r : RecIx), MidCharacter s n →
    (s.line n).asm.state = .text → (s.line n).asm.record = some r →
    1 ≤ (s.line n).asm.closingCount → (s.line n).asm.closingCount ≤ 3 →
    (s.line n).asm.overrun = false →
    ¬(caseAfter code (s.line n).rx.case = .letters ∧ code = s.boot.cfg.codes.closing) →
    PoolForm s → StoreAccounts s → (s.record r).state ≠ .free →
    let count := (s.record r).count
    let held := (s.line n).asm.closingCount
    let blocks := (count + 63) / 64
    let more := (count + held + 64) / 64 - blocks
    (s.record r).chain.length = blocks →
    (more = 0 ∨ s.store.reservationCount + 1 + floorOf (s.record r).cls ≤ s.store.freeList.length) →
    ∃ t, exec (.characterReceived n code framing) s = .next t ∧
      (t.record r).count = count + held + 1 ∧
      (t.record r).chain = (s.record r).chain ++ s.store.freeList.take more ∧
      t.store.freeList = s.store.freeList.drop more ∧
      (∀ i, i < count → t.charAt r i = s.charAt r i) ∧
      (∀ i, i < held → t.charAt r (count + i) = s.boot.cfg.codes.closing) ∧
      t.charAt r (count + held) = code ∧
      (t.line n).asm = { (s.line n).asm with closingCount := 0, silence := some 60000 })

/-- R26, R35, R41: closing codes in TEXT are counted and not stored, and the fourth closes the message: its
record is complete and STORED, kept by a copy not yet settled, and the assembler returns to HUNT. R35,
R33: in HEADING with its designator taken the fourth closes the message with one intercept copy; before
the designator, past the channel group, it frees the record, and nothing is posted. R39: in DISCARD four
closing codes return the assembler to HUNT, any other character clears the count, and nothing is stored.
That the overrun mark and the heading items stand in HUNT as the message left them, and in DISCARD as the
message before left them, is the model's choice (log 21). -/
def Obligations.ClosingRunClosesTheMessage : Prop :=
  (∀ (n : Line) (framing : Bool) (s : State) (r : RecIx), MidCharacter s n →
    ((s.line n).asm.state = .text ∨ (s.line n).asm.state = .heading ∧ (s.line n).asm.step ≠ .group) →
    (s.line n).asm.record = some r →
    caseAfter s.boot.cfg.codes.closing (s.line n).rx.case = .letters →
    let atHunt : Assembler :=
      { (s.line n).asm with state := .hunt, openingCount := 0, closingCount := 0, silence := none,
                            record := none }
    ((s.line n).asm.closingCount < 3 →
      ∃ t, exec (.characterReceived n s.boot.cfg.codes.closing framing) s = .next t ∧
        (t.line n).asm =
          { (s.line n).asm with closingCount := (s.line n).asm.closingCount + 1,
                                silence := some (if (s.line n).asm.state = .text then 60000
                                  else 10000) } ∧
        (t.record r).count = (s.record r).count ∧ t.store.pool = s.store.pool) ∧
    ((s.line n).asm.closingCount = 3 → (s.line n).asm.state = .text →
      (∃ c ∈ (s.record r).copies, c.state ≠ .settled) →
      ∃ t, exec (.characterReceived n s.boot.cfg.codes.closing framing) s = .next t ∧
        (t.record r).state = .stored ∧ (t.record r).complete = true ∧
        (t.record r).truncated = (s.record r).truncated ∧
        (t.record r).count = (s.record r).count ∧ (t.record r).chain = (s.record r).chain ∧
        t.store.pool = s.store.pool ∧ t.sup.account = s.sup.account ∧ (t.line n).asm = atHunt) ∧
    ((s.line n).asm.closingCount = 3 → (s.line n).asm.state = .heading →
      (s.line n).asm.step ≠ .designator →
      ∃ t, exec (.characterReceived n s.boot.cfg.codes.closing framing) s = .next t ∧
        (t.record r).state = .stored ∧ (t.record r).complete = true ∧
        (t.record r).truncated = (s.record r).truncated ∧
        (t.record r).copies.map (·.station) = [[0, 0, 0, 0]] ∧
        (t.record r).count = (s.record r).count ∧ t.store.pool = s.store.pool ∧
        t.sup.account = s.sup.account ∧ (t.line n).asm = atHunt) ∧
    ((s.line n).asm.closingCount = 3 → (s.line n).asm.state = .heading →
      (s.line n).asm.step = .designator →
      ∃ t, exec (.characterReceived n s.boot.cfg.codes.closing framing) s = .next t ∧
        (t.record r).state = .free ∧ (t.record r).gen = (s.record r).gen + 1 ∧
        (t.record r).chain = [] ∧ (t.record r).copies = [] ∧
        t.store.freeList = s.store.freeList ++ (s.record r).chain ∧ t.sup = s.sup ∧
        t.router = s.router ∧ (t.line n).asm = atHunt)) ∧
  ∀ (n : Line) (code : Code) (framing : Bool) (s : State), MidCharacter s n →
    (s.line n).asm.state = .discard →
    let closing := caseAfter code (s.line n).rx.case = .letters ∧ code = s.boot.cfg.codes.closing
    ∃ t, exec (.characterReceived n code framing) s = .next t ∧ OnlyLine n s t ∧
      (t.line n).tx = (s.line n).tx ∧ (t.line n).sched = (s.line n).sched ∧
      (¬closing → (t.line n).asm = { (s.line n).asm with closingCount := 0 }) ∧
      (closing → (s.line n).asm.closingCount < 3 →
        (t.line n).asm =
          { (s.line n).asm with closingCount := (s.line n).asm.closingCount + 1 }) ∧
      (closing → 3 ≤ (s.line n).asm.closingCount →
        (t.line n).asm =
          { (s.line n).asm with state := .hunt, openingCount := 0, closingCount := 0,
                                silence := none, record := none })

/-- R36, R38, R35, R33: the silence timer closes the message. In TEXT the record is TRUNCATED and STORED and
a notice names the cause; in HEADING with its designator taken the copy table is one intercept copy
besides; before that the record is freed, its generation advanced, with no notice. R37, R38, R11, R8: a
receive condition that goes OPEN in the middle of a message does the same, and the notice names LINE
OPEN; a HALF line's turnaround waits (R148). R39: in DISCARD it brings the assembler back to HUNT, and
nothing is stored or posted. No dead copy waits here for a free place of the notice. -/
def Obligations.SilenceOrOpenLineClosesTheMessage : Prop :=
  (∀ (n : Line) (s : State) (r : RecIx), s.running = true → (s.line n).asm.silence ≠ none →
    (s.line n).asm.record = some r →
    let atHunt (t : State) :=
      (t.line n).asm.state = .hunt ∧ (t.line n).asm.openingCount = 0 ∧
      (t.line n).asm.closingCount = 0 ∧ (t.line n).asm.silence = none ∧
      (t.line n).asm.record = none ∧ t.store.pool = s.store.pool
    ((s.line n).asm.state = .text → (∃ c ∈ (s.record r).copies, c.state ≠ .settled) →
      DeadCopiesServed s →
      ∃ t, exec (.silenceTimerExpiry n) s = .next t ∧ atHunt t ∧ (t.record r).state = .stored ∧
        (t.record r).complete = true ∧ (t.record r).truncated = true ∧
        (t.record r).count = (s.record r).count ∧ (t.record r).chain = (s.record r).chain ∧
        t.sup.account = (s.sup.posted (.truncated n .textSilence (s.record r).inbound)).account) ∧
    ((s.line n).asm.state = .heading → (s.line n).asm.step ≠ .group →
      (s.line n).asm.step ≠ .designator → DeadCopiesServed s →
      ∃ t, exec (.silenceTimerExpiry n) s = .next t ∧ atHunt t ∧ (t.record r).state = .stored ∧
        (t.record r).complete = true ∧ (t.record r).truncated = true ∧
        (t.record r).copies.map (·.station) = [[0, 0, 0, 0]] ∧
        t.sup.account =
          (s.sup.posted (.truncated n .headingSilence (s.record r).inbound)).account) ∧
    ((s.line n).asm.state = .heading →
      ((s.line n).asm.step = .group ∨ (s.line n).asm.step = .designator) →
      ∃ t, exec (.silenceTimerExpiry n) s = .next t ∧ atHunt t ∧ (t.record r).state = .free ∧
        (t.record r).gen = (s.record r).gen + 1 ∧ (t.record r).copies = [] ∧
        (t.record r).chain = [] ∧
        t.store.freeList = s.store.freeList ++ (s.record r).chain ∧ t.sup = s.sup)) ∧
  ∀ (n : Line) (s : State), s.running = true → s.mode n ≠ .send →
    (s.line n).condIn.value = .closed → (s.line n).condIn.spacingTimer ≠ none →
    let opened (t : State) :=
      (t.line n).condIn.value = .open ∧ (t.line n).condIn.openTimer = some 60000 ∧
      (t.line n).rx.state = .waitMark ∧
      (s.mode n = .half →
        (t.line n).turn = (s.line n).turn.map fun _ => { waiting := true, timer := none }) ∧
      (t.line n).asm.state = .hunt ∧ (t.line n).asm.openingCount = 0 ∧
      (t.line n).asm.closingCount = 0 ∧ (t.line n).asm.record = none ∧
      (t.line n).asm.silence = none ∧ t.store.pool = s.store.pool
    (∀ r, (s.line n).asm.state = .text → (s.line n).asm.record = some r →
      (∃ c ∈ (s.record r).copies, c.state ≠ .settled) → DeadCopiesServed s →
      ∃ t, exec (.spacingTimerExpiry n .loopIn) s = .next t ∧ opened t ∧
        (t.record r).complete = true ∧ (t.record r).truncated = true ∧
        (t.record r).state = .stored ∧ (t.record r).count = (s.record r).count ∧
        t.sup.account = (s.sup.posted (.truncated n .lineOpen (s.record r).inbound)).account) ∧
    (∀ r, (s.line n).asm.state = .heading → (s.line n).asm.record = some r →
      (s.line n).asm.step ≠ .group → (s.line n).asm.step ≠ .designator → DeadCopiesServed s →
      ∃ t, exec (.spacingTimerExpiry n .loopIn) s = .next t ∧ opened t ∧
        (t.record r).complete = true ∧ (t.record r).truncated = true ∧
        (t.record r).state = .stored ∧ (t.record r).count = (s.record r).count ∧
        (t.record r).copies.map (·.station) = [[0, 0, 0, 0]] ∧
        t.sup.account = (s.sup.posted (.truncated n .lineOpen (s.record r).inbound)).account) ∧
    (∀ r, (s.line n).asm.state = .heading → (s.line n).asm.record = some r →
      ((s.line n).asm.step = .group ∨ (s.line n).asm.step = .designator) →
      ∃ t, exec (.spacingTimerExpiry n .loopIn) s = .next t ∧ opened t ∧
        (t.record r).state = .free ∧ (t.record r).gen = (s.record r).gen + 1 ∧
        (t.record r).copies = [] ∧ (t.record r).chain = [] ∧
        t.store.freeList = s.store.freeList ++ (s.record r).chain ∧ t.sup = s.sup) ∧
    ((s.line n).asm.state = .discard →
      ∃ t, exec (.spacingTimerExpiry n .loopIn) s = .next t ∧ opened t ∧
        t.store.freeList = s.store.freeList ∧ t.sup = s.sup ∧
        (∀ m, m ≠ n → t.line m = s.line m) ∧ t.port = s.port)

/-- R28, R29: the sixth character judges the channel group. Three digits in figures case, a letters shift
and a space give the number, when it is not 000: it is written into the record, moves the expectation
on, and raises a gap with its notice when another number was expected. Any other group leaves the
expectation and marks the record HEADING_DEFAULTED. No dead copy waits here for a free place of the
notice. That the six characters stay in the state once they are judged is the model's choice (log 21). -/
def Obligations.ChannelGroupIsJudged : Prop :=
  ∀ (n : Line) (code : Code) (framing : Bool) (s : State) (r : RecIx) (h1 h2 h3 h4 h5 : Handed),
    MidCharacter s n → (s.line n).asm.state = .heading → (s.line n).asm.step = .group →
    (s.line n).asm.record = some r → (s.line n).asm.group = [h1, h2, h3, h4, h5] →
    DeadCopiesServed s →
    let h6 : Handed := ⟨code, caseAfter code (s.line n).rx.case⟩
    let mutilated :=
      if framing then min 255 ((s.record r).mutilated + 1) else (s.record r).mutilated
    (∀ a b c : Nat, a ≤ 9 → b ≤ 9 → c ≤ 9 → 1 ≤ 100 * a + 10 * b + c →
      h2 = ⟨digitCode a, .figures⟩ → h3 = ⟨digitCode b, .figures⟩ → h4 = ⟨digitCode c, .figures⟩ →
      h5.code = 31 → code = 4 →
      let received := 100 * a + 10 * b + c
      let gap := (s.line n).asm.expectation ≠ none ∧ (s.line n).asm.expectation ≠ some received
      ∃ t, exec (.characterReceived n code framing) s = .next t ∧
        (t.line n).asm =
          { (s.line n).asm with
            group := [h1, h2, h3, h4, h5, h6], step := .designator, silence := some 10000,
            expectation := some (if received = 999 then 1 else received + 1) } ∧
        (t.record r).inbound = some received ∧
        (t.record r).headingDefaulted = (s.record r).headingDefaulted ∧
        (t.record r).mutilated = mutilated ∧
        (gap → (t.record r).sequenceGap = true ∧ ∀ e, (s.line n).asm.expectation = some e →
          t.sup.account = (s.sup.posted (.sequenceGap n e received)).account) ∧
        (¬gap → (t.record r).sequenceGap = (s.record r).sequenceGap ∧ t.sup = s.sup)) ∧
    (groupNumber [h1, h2, h3, h4, h5, h6] = none →
      ∃ t, exec (.characterReceived n code framing) s = .next t ∧
        (t.line n).asm =
          { (s.line n).asm with
            group := [h1, h2, h3, h4, h5, h6], step := .designator, silence := some 10000 } ∧
        t.record r =
          { s.record r with headingDefaulted := true, mutilated := mutilated } ∧
        t.sup = s.sup)

/-- R27, R30, R34, R58: with the heading step at DESIGNATOR, or at GROUP with a first character that is no
figures shift, so that the group is missing, the character is the designator: it gives one of the four
classes, or else GENERAL and HEADING_DEFAULTED, which a missing group sets too. It is stored at index 0 in
the record's first block, judged by the floor of the class just taken; refused, it leaves the record marked
OVERRUN with a notice, here with no dead copy waiting for a free place. A figures shift begins the group.
The missing group takes a closing code too as its first character and gives it to the designator at once:
R27 moves the step to DESIGNATOR before the character is taken, and R26 holds closing codes once the step
has left GROUP, so that it is taken and not held is the model's reading (DEDUCED, log 30, unsafe). -/
def Obligations.DesignatorGivesTheClass : Prop :=
  ∀ (n : Line) (code : Code) (framing : Bool) (s : State) (r : RecIx), MidCharacter s n →
    (s.line n).asm.state = .heading → (s.line n).asm.record = some r →
    let a := (s.line n).asm
    let reads (c : Code) : Bool := caseAfter code (s.line n).rx.case = .letters ∧ code = c
    let taken : Option Precedence :=
      if reads s.boot.cfg.codes.order then some .order
      else if reads s.boot.cfg.codes.running then some .running
      else if reads s.boot.cfg.codes.general then some .general
      else if reads s.boot.cfg.codes.bulk then some .bulk
      else none
    let cls := taken.getD .general
    let missing : Bool := a.step = .group ∧ code ≠ 27
    let mutilated :=
      if framing then min 255 ((s.record r).mutilated + 1) else (s.record r).mutilated
    (missing = true ∧ a.group = [] ∨
        a.step = .designator ∧ a.closingCount = 0 ∧ reads s.boot.cfg.codes.closing = false →
      a.overrun = false → (s.record r).state ≠ .free → (s.record r).count = 0 →
      (s.record r).chain = [] → PoolForm s →
      (∀ (b : BlockNo) (rest : List BlockNo), s.store.freeList = b :: rest →
        s.store.reservationCount + 1 + floorOf cls ≤ s.store.freeList.length →
        ∃ t, exec (.characterReceived n code framing) s = .next t ∧ (t.record r).cls = cls ∧
          (t.record r).headingDefaulted =
            ((s.record r).headingDefaulted || missing || taken.isNone) ∧
          (t.record r).count = 1 ∧ (t.record r).chain = [b] ∧ t.store.freeList = rest ∧
          (t.record r).mutilated = mutilated ∧ (t.record r).state = (s.record r).state ∧
          poolRead t.store.pool (64 * b.val) = code.setWidth 8 ∧
          (∀ i, i ≠ 64 * b.val → poolRead t.store.pool i = poolRead s.store.pool i) ∧
          (t.line n).asm =
            { a with headingChars := 1, step := .afterDesignator, silence := some 10000 }) ∧
      (s.store.freeList.length < s.store.reservationCount + 1 + floorOf cls → DeadCopiesServed s →
        ∃ t, exec (.characterReceived n code framing) s = .next t ∧
          t.record r =
            { s.record r with cls := cls, overrun := true, mutilated := mutilated,
                              headingDefaulted :=
                                (s.record r).headingDefaulted || missing || taken.isNone } ∧
          t.store.freeList = s.store.freeList ∧ t.store.pool = s.store.pool ∧
          t.sup.account = (s.sup.posted (.overrunLine n (s.record r).inbound)).account ∧
          (t.line n).asm =
            { a with headingChars := 1, step := .afterDesignator, silence := some 10000,
                     overrun := true })) ∧
    (a.step = .group → a.group = [] → code = 27 →
      ∃ t, exec (.characterReceived n code framing) s = .next t ∧
        (t.line n).asm =
          { a with group := [⟨code, .figures⟩], silence := some 10000 } ∧
        t.record r = { s.record r with mutilated := mutilated } ∧
        t.store.freeList = s.store.freeList ∧ t.store.pool = s.store.pool ∧ t.sup = s.sup)

/-- R31, R32: a heading of one to six different codes of four code characters, with a space before each, CR
and LF, all in letters case and within the 80 characters, is read as those codes. R31, R32, R40: the LF
after CR completes the heading: the record of a class dispatched at its close gets one UNROUTED copy for
each collected code, and the assembler enters TEXT. -/
def Obligations.HeadingIsReadAndCompleted : Prop :=
  (∀ (codes : List StationCode) (a : Assembler), 1 ≤ codes.length → codes.length ≤ 6 → codes.Nodup →
    (∀ code ∈ codes, code.length = 4 ∧ ∀ c ∈ code, isCodeValue c = true) →
    a.step = .afterDesignator → a.collected = [] →
    a.headingChars + (headingLine codes).length ≤ 80 → a.readAll (headingLine codes) = some codes) ∧
  (∀ (n : Line) (framing : Bool) (s : State) (r : RecIx), MidCharacter s n →
    (s.line n).asm.state = .heading → (s.line n).asm.step = .afterCR →
    (s.line n).asm.record = some r → (s.line n).asm.closingCount = 0 →
    s.boot.cfg.codes.closing ≠ 2 → DispatchedAtClose s r →
    ∃ t, exec (.characterReceived n 2 framing) s = .next t ∧
      (t.record r).copies = (s.line n).asm.collected.map newCopy ∧
      (∀ c ∈ (t.record r).copies, c.state = .unrouted ∧ c.line = none ∧ c.attempt = 0 ∧
        c.spoil = 0 ∧ c.fill = 0 ∧ c.channel = none ∧ c.resume = none ∧ c.joinedWith = none ∧
        c.outcome = none) ∧
      (t.line n).asm.state = .text ∧ (t.line n).asm.silence = some 60000 ∧
      (t.line n).asm.record = some r ∧ (t.record r).state = (s.record r).state)

/-- R31, R33, R40: a heading character that the table of R31 does not allow at its step, or the 80th one that
does not complete the heading, makes the heading malformed: the record of a class dispatched at its
close gets one intercept copy, UNROUTED, and the assembler enters TEXT. R32: HEADING_DEFAULTED is set
only by a code that the character completes and that is ignored, a repeated or a seventh one. -/
def Obligations.MalformedHeadingTakesTheIntercept : Prop :=
  ∀ (n : Line) (code : Code) (framing : Bool) (s : State) (r : RecIx), MidCharacter s n →
    (s.line n).asm.state = .heading → (s.line n).asm.record = some r →
    (s.line n).asm.closingCount = 0 →
    ¬(caseAfter code (s.line n).rx.case = .letters ∧ code = s.boot.cfg.codes.closing) →
    DispatchedAtClose s r →
    let a := (s.line n).asm
    let h : Handed := ⟨code, caseAfter code (s.line n).rx.case⟩
    let shift := code = 31 ∨ code = 27
    let whole := a.step = .code ∧ isCodeChar h = false ∧ a.currentCode.length = 4 ∧
      (code = 4 ∨ code = 8)
    let allowed :=
      shift ∨ a.step = .afterDesignator ∧ code = 4 ∨
      a.step = .code ∧ isCodeChar h = true ∧ a.currentCode.length < 4 ∨ whole ∨
      a.step = .afterCR ∧ (code = 8 ∨ code = 2)
    let ignored := ¬shift ∧ whole ∧
      (a.currentCode ∈ a.collected ∨ 6 ≤ a.collected.length)
    (a.step = .afterDesignator ∨ a.step = .code ∨ a.step = .afterCR) →
    (¬allowed ∨ 79 ≤ a.headingChars ∧ ¬(a.step = .afterCR ∧ code = 2)) →
    ∃ t, exec (.characterReceived n code framing) s = .next t ∧
      (t.record r).copies = [newCopy [0, 0, 0, 0]] ∧
      ((t.record r).headingDefaulted = true ↔ (s.record r).headingDefaulted = true ∨ ignored) ∧
      (t.record r).state = (s.record r).state ∧ (t.line n).asm.state = .text ∧
      (t.line n).asm.silence = some 60000 ∧ (t.line n).asm.record = some r

/-- R40, R32, R33: a record of class ORDER, or of class RUNNING on a card with RUNNING cut-through, is given to
the router when its heading is complete by the LF after CR, or is found malformed by a character other than
space after the designator, while it is still ASSEMBLING. R66, R67, R68: with all its stations on one held
line, or one intercept copy for an intercept line that is held, it gives one queue entry, which every other
copy joins. R69, R71: where no line serves it the first copies take the FREE send contexts, lowest first,
for a first offer at attempt 1, or at the threshold for an intercept copy, and the others wait in order. -/
def Obligations.EarlyClassIsDispatchedAtHeadingComplete : Prop :=
  ∀ (n : Line) (code : Code) (framing : Bool) (s : State) (r : RecIx) (codes : List StationCode),
    MidCharacter s n → (s.line n).asm.state = .heading → (s.line n).asm.record = some r →
    (s.line n).asm.closingCount = 0 →
    ((s.record r).cls = .order ∨ (s.record r).cls = .running ∧ s.boot.cfg.runningCut = true) →
    ((s.line n).asm.step = .afterCR ∧ code = 2 ∧ s.boot.cfg.codes.closing ≠ 2 ∧
        codes = (s.line n).asm.collected ∨
      (s.line n).asm.step = .afterDesignator ∧ code ≠ 4 ∧ code ≠ 27 ∧ code ≠ 31 ∧
        ¬(caseAfter code (s.line n).rx.case = .letters ∧ code = s.boot.cfg.codes.closing) ∧
        codes = [[0, 0, 0, 0]]) →
    1 ≤ codes.length → codes.length ≤ 6 →
    let serves (m : Line) (c : StationCode) := c = [0, 0, 0, 0] ∧ s.interceptLine = some m ∨
      c ≠ [0, 0, 0, 0] ∧ s.localLine c = some m
    let goesOn (t : State) := (t.line n).asm.state = .text ∧ (t.line n).asm.record = some r ∧
      (t.record r).state = (s.record r).state ∧ (t.record r).complete = (s.record r).complete
    (∀ m, (∀ c ∈ codes, serves m c) → s.sendCond m = some .open → (s.line m).sched.current = none →
      (∀ q, ∀ e ∈ (s.line q).sched.queue ++ (s.line q).sched.stack, e.copy.record ≠ r) →
      ClassOrdered s (s.line m).sched.queue →
      ∃ t lead, exec (.characterReceived n code framing) s = .next t ∧ goesOn t ∧
        (t.record r).copies = codes.mapIdx (fun i c =>
          if i = 0 then { newCopy c with line := some m, state := .queued }
          else { newCopy c with line := some m, joinedWith := some 0 }) ∧
        (t.line m).sched.queue = queuePlaced s ⟨⟨r, 0⟩, lead⟩ (s.line m).sched.queue ∧
        t.router.waitList = s.router.waitList) ∧
    ((∀ c ∈ codes, ∀ m, ¬serves m c) → s.router.waitList = [] → s.port.holdOff = none →
      let refs := ((List.finRange 6).take codes.length).map fun i => (⟨r, i⟩ : CopyRef)
      let free := (List.finRange 4).filter fun k => (s.sendCtx k).isNone
      ∃ t, exec (.characterReceived n code framing) s = .next t ∧ goesOn t ∧
        (t.record r).copies.length = codes.length ∧ t.router.waitList = refs.drop free.length ∧
        (∀ ref k c, (ref, k) ∈ refs.zip free → codes[ref.ix.val]? = some c →
          OffersCopy t k ref ∧
          CopyIs t ref
            { newCopy c with state := .backoff,
                             attempt := if c = [0, 0, 0, 0] then s.boot.cfg.threshold else 1 }) ∧
        (∀ ref c, ref ∈ refs.drop free.length → codes[ref.ix.val]? = some c →
          CopyIs t ref { newCopy c with state := .backoff }))

/-! ### Line conditions -/

/-- R9, R10, R149: an input that comes to read another level clears one timer of its condition and starts
the other, for a condition the mode keeps; the turnaround timer of R149 starts, goes on or stops with
it. That a level which is read already changes nothing is the model's choice (log 1). -/
def Obligations.LevelChangeRestartsTheTimers : Prop :=
  ∀ (n : Line) (pin : LoopPin) (level : Level) (s : State),
    ((s.line n).level pin = level → exec (.loopTransition n pin level) s = .next s) ∧
    ((s.line n).level pin ≠ level → s.running = true → keepsCond (s.mode n) pin = true →
      ∃ t, exec (.loopTransition n pin level) s = .next t ∧ OnlyLine n s t ∧
        (t.line n).level pin = level ∧
        (t.line n).cond pin =
          { (s.line n).cond pin with
            markingTimer := if level = .marking then some 200 else none
            spacingTimer := if level = .spacing then some 300 else none } ∧
        (∀ other, other ≠ pin → (t.line n).level other = (s.line n).level other ∧
          (t.line n).cond other = (s.line n).cond other) ∧
        (t.line n).turn = ((s.line n).turn.map fun w =>
          { w with
            timer :=
              if w.waiting = true ∧ (s.line n).condIn.value = .closed ∧
                  (s.line n).asm.state = .hunt ∧ (t.line n).loopIn = .marking then
                some (w.timer.getD ((s.lineCfg n).turnaround * 1000))
              else none }) ∧
        (t.line n).rx = (s.line n).rx ∧ (t.line n).tx = (s.line n).tx ∧
        (t.line n).motor = (s.line n).motor ∧ (t.line n).asm = (s.line n).asm ∧
        (t.line n).sched = (s.line n).sched)

/-- R8, R9, R11, R16, R17, R24, R126, R144, R148: 300 ms of spacing, or on a HALF line a break heard at a
unit driven marking, take a CLOSED condition to OPEN with its open timer from zero. The spacing timer has
run out; after a break, which is a reading of spacing (log 7, DEDUCED), it counts on. The receive side
goes to WAIT_MARK and its opening count to 0; the send side abandons both stages without a change of
line case and puts its copy back before its class, QUEUED and without its resume point. -/
def Obligations.SpacingOrBreakOpensTheCondition : Prop :=
  ∀ (n : Line) (pin : LoopPin) (s : State) (c : Instr),
    (c = .spacingTimerExpiry n pin ∧ s.running = true ∧ keepsCond (s.mode n) pin = true ∧
        ((s.line n).cond pin).spacingTimer ≠ none ∨
      (∃ unit x, c = .breakHeard n unit ∧ pin = .loopIn ∧ s.running = true ∧ s.mode n = .half ∧
        (s.line n).tx.shift = some x ∧ (unit.val = 5 ∨ x.code.getLsbD unit.val = true))) →
    ((s.line n).cond pin).value = .closed → (pin = .loopIn → BetweenMessages s n) →
    ∃ t, exec c s = .next t ∧
      ((t.line n).cond pin).value = .open ∧ ((t.line n).cond pin).openTimer = some 60000 ∧
      (c = .spacingTimerExpiry n pin → ((t.line n).cond pin).spacingTimer = none) ∧
      (c ≠ .spacingTimerExpiry n pin →
        (t.line n).loopIn = .spacing ∧
        ((t.line n).cond pin).spacingTimer =
          (if (s.line n).loopIn = .spacing then ((s.line n).cond pin).spacingTimer
           else some 300)) ∧
      (pin = .loopIn → (t.line n).rx.state = .waitMark ∧
        (t.line n).asm = { (s.line n).asm with openingCount := 0 }) ∧
      (pin = .sense → (t.line n).rx = (s.line n).rx ∧ (t.line n).asm = (s.line n).asm) ∧
      (sendSide (s.mode n) pin = true →
        (t.line n).tx.holding = none ∧ (t.line n).tx.shift = none ∧
        (t.line n).tx.lineCase = (s.line n).tx.lineCase ∧ (t.line n).sched.current = none ∧
        (t.line n).sched.stack = (s.line n).sched.stack ∧
        ((s.line n).sched.current = none → (t.line n).sched.queue = (s.line n).sched.queue) ∧
        ∀ e x, (s.line n).sched.current = some e → CopyIs s e.copy x → x.state ≠ .settled →
          CopyIs t e.copy { x with state := .queued, resume := none } ∧
          (ClassOrdered s (s.line n).sched.queue →
            (t.line n).sched.queue = queuePutBack s e (s.line n).sched.queue)) ∧
      (s.mode n = .half →
        (t.line n).turn = (s.line n).turn.map fun _ => { waiting := true, timer := none }) ∧
      (∀ m, m ≠ n → t.line m = s.line m) ∧ t.sup = s.sup ∧ t.port = s.port ∧
      t.store.freeList = s.store.freeList

/-- R9, R8, R155: 200 ms of marking take a condition that is not CLOSED to CLOSED and stop its timers, the
receiver of a receive condition starts in WAIT_MARK, and a condition that leaves FAILED posts LINE
RESTORED, here with no dead copy waiting for a free place. -/
def Obligations.MarkingClosesTheCondition : Prop :=
  ∀ (n : Line) (pin : LoopPin) (s : State), s.running = true → keepsCond (s.mode n) pin = true →
    ((s.line n).cond pin).markingTimer ≠ none → ((s.line n).cond pin).value ≠ .closed →
    DeadCopiesServed s →
    ∃ t, exec (.markingTimerExpiry n pin) s = .next t ∧
      (t.line n).cond pin =
        { (s.line n).cond pin with value := .closed, markingTimer := none, openTimer := none } ∧
      (pin = .loopIn → (t.line n).rx = { (s.line n).rx with state := .waitMark }) ∧
      (pin = .sense → (t.line n).rx = (s.line n).rx) ∧
      (t.line n).asm = (s.line n).asm ∧ (t.line n).motor = (s.line n).motor ∧
      (∀ m, m ≠ n → t.line m = s.line m) ∧ t.port = s.port ∧ t.router = s.router ∧
      t.store.pool = s.store.pool ∧ t.store.freeList = s.store.freeList ∧
      (((s.line n).cond pin).value = .failed →
        t.sup.account = (s.sup.posted (.lineRestored n
          (if pin = .sense then .send else if s.mode n = .half then .shared else .receive))).account) ∧
      (((s.line n).cond pin).value = .open → t.sup = s.sup)

/-- R9, R11, R21, R151, R155: 60 s in OPEN take a condition to FAILED. A receive condition posts LINE FAILED
with no copy released. A send condition stops the motor, empties the queue and the stack, and posts LINE
FAILED with the number of copies that stood there, here with no dead copy waiting for a free place. R37,
R38: a message of the line in progress is closed. -/
def Obligations.OpenTimerFailsTheCondition : Prop :=
  ∀ (n : Line) (pin : LoopPin) (s : State), s.running = true → keepsCond (s.mode n) pin = true →
    ((s.line n).cond pin).openTimer ≠ none → ((s.line n).cond pin).value = .open →
    (sendSide (s.mode n) pin = false → BetweenMessages s n → DeadCopiesServed s →
      ∃ t, exec (.openTimerExpiry n pin) s = .next t ∧ ((t.line n).cond pin).value = .failed ∧
        ((t.line n).cond pin).openTimer = none ∧ (t.line n).rx.state = .waitMark ∧
        (t.line n).sched = (s.line n).sched ∧ (t.line n).motor = (s.line n).motor ∧
        (∀ m, m ≠ n → t.line m = s.line m) ∧ t.store = s.store ∧ t.port = s.port ∧
        t.sup.account = (s.sup.posted (.lineFailed n .receive 0)).account) ∧
    (sendSide (s.mode n) pin = true → (s.line n).sched.current = none →
      (pin = .loopIn → BetweenMessages s n) → DeadCopiesServed s →
      ∃ t, exec (.openTimerExpiry n pin) s = .next t ∧ ((t.line n).cond pin).value = .failed ∧
        ((t.line n).cond pin).openTimer = none ∧
        (t.line n).motor = { state := .stopped, runUp := none, idleStop := none } ∧
        (t.line n).sched.queue = [] ∧ (t.line n).sched.stack = [] ∧
        (t.line n).sched.current = none ∧ (t.line n).sched.mark = false ∧
        (t.line n).sched.counter = (s.line n).sched.counter ∧
        t.store.pool = s.store.pool ∧ t.store.freeList = s.store.freeList ∧
        (∀ m, t.inputs m = s.inputs m ∨ m = n) ∧
        t.sup.account = (s.sup.posted (.lineFailed n
          (if pin = .sense then .send else .shared)
          ((s.line n).sched.stack.length + (s.line n).sched.queue.length))).account) ∧
    (∀ r, pin = .loopIn → (s.line n).asm.state = .heading ∨ (s.line n).asm.state = .text →
      (s.line n).asm.record = some r → (s.line n).sched.current = none →
      ∃ t, exec (.openTimerExpiry n pin) s = .next t ∧ ((t.line n).cond pin).value = .failed ∧
        (t.line n).rx.state = .waitMark ∧ (t.line n).asm.state = .hunt ∧
        (t.line n).asm.record = none ∧
        (s.mode n = .half →
          (t.line n).motor = { state := .stopped, runUp := none, idleStop := none } ∧
          (t.line n).sched.queue = [] ∧ (t.line n).sched.stack = []))

/-- R151, R152, R76, R66, R69: the copies on the queue and the stack of a line that fails, and each copy joined
to one, lose their bound line, resume point, channel number and join, and where no other line of the card
serves its station a copy starts a new series: BACKOFF with an OFFER pending, or on the wait list. A copy
stands on one line alone (R55), and no dead copy waits here for a free place of the notice. -/
def Obligations.FailedLineReleasesItsCopies : Prop :=
  ∀ (n : Line) (pin : LoopPin) (s : State), s.running = true → keepsCond (s.mode n) pin = true →
    ((s.line n).cond pin).openTimer ≠ none → ((s.line n).cond pin).value = .open →
    sendSide (s.mode n) pin = true → (s.line n).sched.current = none →
    (pin = .loopIn → BetweenMessages s n) → DeadCopiesServed s →
    let collected (ref : CopyRef) := ∃ e ∈ (s.line n).sched.stack ++ (s.line n).sched.queue,
      ref = e.copy ∨ ref.record = e.copy.record ∧ (s.copy ref).joinedWith = some e.copy.ix
    (∀ ref, collected ref → ∀ m, m ≠ n → ∀ e, e ∈ (s.line m).sched.stack ++ (s.line m).sched.queue ∨
      (s.line m).sched.current = some e → e.copy ≠ ref) →
    ∃ t, exec (.openTimerExpiry n pin) s = .next t ∧
      ∀ ref x, collected ref → CopyIs s ref x → x.state ≠ .settled → x.station ≠ [0, 0, 0, 0] →
        (∀ m, m ≠ n → s.localLine x.station ≠ some m) →
        CopyIs t ref
          { x with state := .backoff, line := none, resume := none, channel := none,
                   joinedWith := none, attempt := (t.copy ref).attempt, spoil := 0 } ∧
        (t.copy ref).attempt ≤ 1 ∧ ((∃ k, OffersCopy t k ref) ∨ ref ∈ t.router.waitList)

/-! ### Transmitters, motors, schedulers -/

/-- R13, R14, R8: the idle shift stage takes the held character when the line may drive, or sends first the
shift of the text case where a TEXT character meets another line case; a HALF line's receiver is
suspended. That it rests in WAIT_MARK while it is suspended is DEDUCED (log 17). -/
def Obligations.ShiftStageTakesTheHeldCharacter : Prop :=
  ∀ (n : Line) (s : State) (x : TxChar), MayDrive s n → (s.line n).tx.shift = none →
    (s.line n).tx.holding = some x →
    ∃ t, exec (.shiftStageBegin n) s = .next t ∧ OnlyLine n s t ∧
      (t.line n).tx.lineCase = (s.line n).tx.lineCase ∧
      (t.line n).tx.textCase = (s.line n).tx.textCase ∧
      (∃ y, (t.line n).tx.shift = some y ∧
        TakenFrom (s.line n).tx.textCase (s.line n).tx.lineCase x y) ∧
      (∀ k, x.role = .text → (s.line n).tx.textCase = some k → k ≠ (s.line n).tx.lineCase →
        (t.line n).tx.holding = some x ∧ (t.line n).sched = (s.line n).sched) ∧
      ((x.role ≠ .text ∨ (s.line n).tx.textCase = none ∨
          (s.line n).tx.textCase = some (s.line n).tx.lineCase) →
        (s.line n).sched.current = none → (t.line n).tx.holding = none) ∧
      (t.line n).rx = (if s.mode n = .half then { (s.line n).rx with state := .waitMark }
        else (s.line n).rx) ∧
      (t.line n).asm = (s.line n).asm ∧ (t.line n).motor = (s.line n).motor ∧
      (t.line n).condIn = (s.line n).condIn ∧ (t.line n).condSense = (s.line n).condSense ∧
      (t.line n).turn = (s.line n).turn

/-- R14: a character whose stop completes sets the line case when it is a shift character, whatever it was
loaded for, fill among them; the line case of every other line stays. R8: with the shift stage IDLE
after it, a HALF line's receiver starts again, in HUNT_START when the condition is CLOSED and else in
WAIT_MARK, its case that of the line. R12, R13, R15: at the stop of a character that is not its
transmission's last, with no preemption marked, the held character, or first its case restore, follows
with no gap, fill follows for a copy mid-text with nothing held, and otherwise the shift stage is IDLE.
Which side of R12's race comes first makes no difference here. A sent fill character adds 1 to the
current copy's fill count, holding at 65,535, and the same follows it. -/
def Obligations.SentCharactersAreFollowed : Prop :=
  (∀ (n : Line) (shiftFirst : Bool) (s : State) (x : TxChar), s.running = true →
    (s.line n).tx.shift = some x →
    ∃ t, exec (if x.role = .fill then .fillSent n else .characterSent n shiftFirst) s = .next t ∧
      (t.line n).tx.lineCase = caseAfter x.code (s.line n).tx.lineCase ∧
      (s.mode n = .half → (t.line n).tx.shift = none →
        (t.line n).rx =
          { state := if (s.line n).condIn.value = .closed then .huntStart else .waitMark
            case := (t.line n).tx.lineCase }) ∧
      ∀ m, m ≠ n → (t.line m).tx.lineCase = (s.line m).tx.lineCase) ∧
  (∀ (n : Line) (shiftFirst : Bool) (s : State) (x : TxChar), MayDrive s n →
    (s.line n).tx.shift = some x → x.role ≠ .fill → x.last = false →
    (s.line n).sched.mark = false →
    (∀ h, (s.line n).tx.holding = some h →
      ∃ t y, exec (.characterSent n shiftFirst) s = .next t ∧ (t.line n).tx.shift = some y ∧
        TakenFrom (textCaseAfter x (s.line n).tx.textCase)
          (caseAfter x.code (s.line n).tx.lineCase) h y) ∧
    ((s.line n).tx.holding = none → (s.line n).sched.midText = true →
      ∃ t, exec (.characterSent n shiftFirst) s = .next t ∧
        (t.line n).tx.shift = some ⟨31, .fill, 0, false⟩) ∧
    ((s.line n).tx.holding = none → (s.line n).sched.midText = false →
      ∃ t, exec (.characterSent n shiftFirst) s = .next t ∧ (t.line n).tx.shift = none)) ∧
  ∀ (n : Line) (s : State) (x : TxChar) (e : QEntry) (c : Copy), s.running = true →
    (s.line n).tx.shift = some x → x.role = .fill → (s.line n).sched.current = some e →
    CopyIs s e.copy c →
    ∃ t, exec (.fillSent n) s = .next t ∧ (t.copy e.copy).fill = min 65535 (c.fill + 1) ∧
      (∀ ref, ref ≠ e.copy → t.copy ref = s.copy ref) ∧
      (MayDrive s n → (s.line n).tx.holding = none → (s.line n).sched.midText = true →
        (t.line n).tx.shift = some ⟨31, .fill, 0, false⟩) ∧
      (∀ h, MayDrive s n → (s.line n).tx.holding = some h →
        ∃ y, (t.line n).tx.shift = some y ∧
          TakenFrom (s.line n).tx.textCase (caseAfter x.code (s.line n).tx.lineCase) h y) ∧
      t.store.freeList = s.store.freeList ∧ t.store.pool = s.store.pool ∧
      (∀ m, m ≠ n → t.line m = s.line m) ∧ t.router = s.router ∧ t.port = s.port ∧ t.sup = s.sup

/-- R12, R135, R136: when the shift stage has taken a text character, the next character of the text is loaded; with
all text loaded and the text complete the tail is composed, CR, LF and four closing codes, before them CR, LF
and the incomplete group for a record marked OVERRUN or TRUNCATED, and its first CR is loaded; else the
request is outstanding. R135, R34: a character stored in the record answers an outstanding request at once.
R136, R35, R36, R38: so does the close of the message, by the closing run or, TRUNCATED, by silence, with
the tail. -/
def Obligations.OutstandingRequestIsAnswered : Prop :=
  let tail (s : State) (short : Bool) : List Code :=
    (if short then [8, 2] ++ s.boot.cfg.codes.incomplete else []) ++ [8, 2] ++
      List.replicate 4 s.boot.cfg.codes.closing
  let inTail (s t : State) (n : Line) (short : Bool) : Prop :=
    (t.line n).sched.phase = .tail ∧ (t.line n).sched.mark = false ∧
    (t.line n).sched.midText = false ∧ (t.line n).sched.outstanding = false ∧
    (t.line n).tx.holding = some ⟨8, .composed, 0, false⟩ ∧
    (t.line n).sched.composed.map (·.code) = (tail s short).drop 1 ∧
    (t.line n).sched.composed.map (·.last) =
      List.replicate ((tail s short).length - 2) false ++ [true] ∧
    (t.line n).sched.current = (s.line n).sched.current ∧
    (t.line n).sched.nextIndex = (s.line n).sched.nextIndex
  (∀ (n : Line) (s : State) (x : TxChar) (e : QEntry), MayDrive s n → (s.line n).tx.shift = none →
    (s.line n).tx.holding = some x → x.role = .text →
    ((s.line n).tx.textCase = none ∨ (s.line n).tx.textCase = some (s.line n).tx.lineCase) →
    (s.line n).sched.current = some e → (s.line n).sched.phase = .text →
    let r := s.record e.copy.record
    let i := (s.line n).sched.nextIndex
    ∃ t, exec (.shiftStageBegin n) s = .next t ∧ OnlyLine n s t ∧ (t.line n).tx.shift = some x ∧
      (i < r.count →
        (t.line n).tx.holding = some ⟨s.charAt e.copy.record i, .text, i, false⟩ ∧
        (t.line n).sched =
          { (s.line n).sched with nextIndex := i + 1, midText := true, outstanding := false }) ∧
      (r.count ≤ i → r.complete = true → inTail s t n (r.overrun || r.truncated)) ∧
      (r.count ≤ i → r.complete = false →
        (t.line n).tx.holding = none ∧
        (t.line n).sched = { (s.line n).sched with outstanding := true })) ∧
  ∀ (n m : Line) (s : State) (r : RecIx) (e : QEntry), (s.line n).asm.state = .text →
    (s.line n).asm.record = some r → (s.line m).sched.current = some e → e.copy.record = r →
    (s.line m).sched.phase = .text → (s.line m).sched.outstanding = true →
    (s.line m).tx.holding = none → (s.line m).sched.nextIndex = (s.record r).count →
    (∀ (code : Code) (framing : Bool) (b : BlockNo), MidCharacter s n →
      (s.line n).asm.closingCount = 0 → (s.line n).asm.overrun = false →
      ¬(caseAfter code (s.line n).rx.case = .letters ∧ code = s.boot.cfg.codes.closing) →
      (s.record r).count % 64 ≠ 0 → (s.record r).chain[(s.record r).count / 64]? = some b →
      PoolForm s → (∀ q ∈ (s.line m).sched.queue, q.copy.record ≠ r) →
      ∃ t, exec (.characterReceived n code framing) s = .next t ∧
        (t.line m).tx = { (s.line m).tx with
          holding := some ⟨code, .text, (s.record r).count, false⟩ } ∧
        (t.line m).sched =
          { (s.line m).sched with nextIndex := (s.record r).count + 1, midText := true,
                                  outstanding := false }) ∧
    ∀ (c : Instr) (framing : Bool),
      (c = .characterReceived n s.boot.cfg.codes.closing framing ∧ MidCharacter s n ∧
          caseAfter s.boot.cfg.codes.closing (s.line n).rx.case = .letters ∧
          (s.line n).asm.closingCount = 3 ∨
        c = .silenceTimerExpiry n ∧ s.running = true ∧ (s.line n).asm.silence ≠ none) →
      ∃ t, exec c s = .next t ∧
        inTail s t m ((s.record r).overrun || (s.record r).truncated || c == .silenceTimerExpiry n)

/-- R136, R56, R57, R60: the last closing code sent settles the current copy DELIVERED, and the copies
joined to it with it. The record is freed, its chain at the free list's tail and its generation
advanced, when its text is complete and no other copy is unsettled; else it is kept, a STORED one then
DRAINING. -/
def Obligations.LastClosingCodeSettlesTheCopy : Prop :=
  ∀ (n : Line) (shiftFirst : Bool) (s : State) (x : TxChar) (e : QEntry),
    s.running = true → (s.line n).tx.shift = some x → x.role = .composed → x.last = true →
    (s.line n).sched.current = some e → (s.line n).sched.phase = .tail → MaySettle s e.copy →
    ∃ t, exec (.characterSent n shiftFirst) s = .next t ∧ SettlesAs s t e.copy .delivered ∧
      t.store.pool = s.store.pool ∧ ∀ m, m ≠ n → t.line m = s.line m

/-- R20, R149: the idle-stop countdown's expiry stops the motor, and the turnaround timer's makes the state
CLEAR; with nothing queued or stacked nothing else moves. R19, R20, R128 to R132, R149: the end of the
run-up, or of the turnaround on a line whose motor is RUNNING, frees a line to start. So does the return
of a FULL or SEND line's send condition from OPEN to CLOSED, its motor RUNNING (R147). It starts the
first ready entry of its queue, here with an empty stack: the copy is SENDING with the line's next
channel number if it had none, and the first character of the head is asked for. A run-up that ends on
an empty line starts the idle-stop countdown, if one is set. -/
def Obligations.LineTimersFreeTheLine : Prop :=
  (∀ (n : Line) (s : State), s.running = true →
    ((s.line n).motor.idleStop ≠ none →
      ∃ t, exec (.idleStopExpiry n) s = .next t ∧ OnlyLine n s t ∧
        t.line n =
          { s.line n with motor := { state := .stopped, runUp := none, idleStop := none } }) ∧
    (∀ w, (s.line n).turn = some w → w.timer ≠ none → (s.line n).sched.queue = [] →
      (s.line n).sched.stack = [] →
      ∃ t, exec (.turnaroundTimerExpiry n) s = .next t ∧ OnlyLine n s t ∧
        t.line n = { s.line n with turn := some { waiting := false, timer := none } })) ∧
  ((∀ (n : Line) (s : State) (c : Instr) (before after : List QEntry) (e : QEntry) (x : Copy),
    s.running = true → FreesLine s n c →
    (s.line n).sched.current = none → (s.line n).sched.stack = [] →
    (s.line n).tx.holding = none → (s.line n).tx.shift = none →
    (s.line n).sched.queue = before ++ e :: after →
    (∀ y ∈ before, (s.record y.copy.record).complete = false ∧
      (s.record y.copy.record).count < y.lead) →
    ((s.record e.copy.record).complete = true ∨ e.lead ≤ (s.record e.copy.record).count) →
    CopyIs s e.copy x → x.state ≠ .settled →
    ∃ t, exec c s = .next t ∧ (t.line n).motor.state = .running ∧
      (t.line n).sched.current = some e ∧ (t.line n).sched.queue = before ++ after ∧
      (t.line n).sched.phase = .head ∧ (t.line n).sched.kind = .fresh ∧
      (t.line n).sched.nextIndex = 0 ∧ (t.line n).sched.lineStart = ⟨0, .letters⟩ ∧
      (t.line n).sched.sinceLF = 0 ∧ (t.line n).sched.mark = false ∧
      (t.line n).tx.textCase = some .letters ∧
      CopyIs t e.copy
        { x with state := .sending, channel := some (x.channel.getD (s.line n).sched.counter) } ∧
      (t.line n).sched.counter =
        (if x.channel = none then
          (if (s.line n).sched.counter < 999 then (s.line n).sched.counter + 1 else 1)
         else (s.line n).sched.counter) ∧
      (t.line n).tx.holding =
        some ⟨if (s.line n).tx.lineCase = .letters then s.boot.cfg.codes.opening else 31, .composed,
          0, false⟩ ∧
      (∀ m, m ≠ n → t.line m = s.line m) ∧ t.port = s.port ∧ t.sup = s.sup ∧
      t.router = s.router) ∧
  ∀ (n : Line) (s : State), s.running = true → (s.line n).motor.runUp ≠ none →
    (s.line n).sched.current = none → (s.line n).sched.queue = [] → (s.line n).sched.stack = [] →
    (s.line n).motor.idleStop = none →
    ∃ t, exec (.runUpTimerExpiry n) s = .next t ∧ OnlyLine n s t ∧
      t.line n = { s.line n with
        motor := { state := .running, runUp := none,
                   idleStop := if (s.lineCfg n).idleStop = 0 then none
                     else some ((s.lineCfg n).idleStop * 10000) } })

/-- R137: a ready queue entry of class ORDER above the current copy's class interrupts the copy at once; one
of a higher class below ORDER sets the preemption mark; with neither, and outside HEAD and TEXT, nothing
changes. R138, R139, R135: a mark takes effect at the LF, or at the 72nd character after one, that is
reported sent: the copy enters INTERRUPT and what is held gives way to the interruption, CR, LF and four
closing codes; a character that the shift stage took first goes out before it (R12). The first character
of the interruption is loaded at that moment (DEDUCED, log 10). Where the same command started the copy, an
interruption at once withdraws the held character before the idle shift stage takes it, which is the model's
choice (log 9). Behind a text character in the shift stage in TEXT, what is held is text too (R132, R135).
Where the held character is withdrawn, the shift stage is idle until SHIFT_STAGE_BEGIN takes the
interruption's CR: that this is an event of its own is the model's reading of R13 (DEDUCED, log 23). -/
def Obligations.PreemptionInterruptsTheCopy : Prop :=
  let interruption (s : State) : List Code := 2 :: List.replicate 4 s.boot.cfg.codes.closing
  let interrupted (s t : State) (n : Line) : Prop :=
    (t.line n).sched.phase = .interrupt ∧ (t.line n).sched.mark = false ∧
    (t.line n).sched.midText = false ∧ (t.line n).sched.outstanding = false ∧
    (t.line n).tx.holding = some ⟨8, .composed, 0, false⟩ ∧
    (t.line n).sched.composed.map (·.code) = interruption s ∧
    (t.line n).sched.current = (s.line n).sched.current ∧
    (t.line n).sched.queue = (s.line n).sched.queue ∧
    (t.line n).sched.stack = (s.line n).sched.stack
  (∀ (n : Line) (s : State) (e : QEntry), (s.line n).sched.current = some e →
    let above (v : Nat) := ∃ q ∈ (s.line n).sched.queue, IsReady s q ∧ v < s.entryClass q
    let open_ := (s.line n).sched.phase = .head ∨ (s.line n).sched.phase = .text
    (open_ → above (max (s.entryClass e) 2) →
      OnlyLine n s (s.preemptTest n) ∧ interrupted s (s.preemptTest n) n ∧
      (s.preemptTest n).line n =
        { s.line n with sched := ((s.preemptTest n).line n).sched
                        tx := ((s.preemptTest n).line n).tx }) ∧
    (open_ → ¬above (max (s.entryClass e) 2) → above (s.entryClass e) →
      OnlyLine n s (s.preemptTest n) ∧
      (s.preemptTest n).line n =
        { s.line n with sched := { (s.line n).sched with mark := true } }) ∧
    (¬open_ ∨ ¬above (s.entryClass e) → s.preemptTest n = s)) ∧
  ∀ (n : Line) (shiftFirst : Bool) (s : State) (e : QEntry) (x : TxChar), MayDrive s n →
    (s.line n).sched.current = some e → (s.line n).tx.shift = some x → x.role = .text →
    x.last = false → (s.line n).sched.mark = true → (s.line n).sched.phase = .text →
    (∀ h, (s.line n).tx.holding = some h → h.role = .text) →
    (x.code = 2 ∨ 71 ≤ (s.line n).sched.sinceLF ∧ (s.line n).sched.sinceLF ≤ 72) →
    ∃ t, exec (.characterSent n shiftFirst) s = .next t ∧ interrupted s t n ∧
      (x.code = 2 →
        (t.line n).sched.lineStart = ⟨x.index + 1, ((s.line n).tx.textCase.getD .letters)⟩ ∧
        (t.line n).sched.sinceLF = 0) ∧
      (x.code ≠ 2 → (t.line n).sched.lineStart = (s.line n).sched.lineStart) ∧
      (∀ h, (s.line n).tx.holding = some h →
        (shiftFirst = false → (t.line n).tx.shift = none) ∧
        (shiftFirst = true →
          ∃ y, (t.line n).tx.shift = some y ∧
            TakenFrom (textCaseAfter x (s.line n).tx.textCase)
              (caseAfter x.code (s.line n).tx.lineCase) h y)) ∧
      (∀ m, m ≠ n → t.line m = s.line m) ∧ t.store = s.store ∧ t.router = s.router ∧
      t.port = s.port ∧ t.sup = s.sup

/-- R139, R129: the last closing code of an interruption puts the current copy on the stack, STACKED, to be
resumed at the start of the line on which it was cut, and a ready copy of higher class starts, with the
line's next channel number if it had none (R130, R131). R129, R130, R134, R131, R132: with no higher copy
ready the top of the stack starts RESUME from its resume point, with its text case and its channel number:
its head is the opening run, the channel group if the line numbers, the continuation code, CR, LF, and a
figures shift if the case there is figures. It does so when the copy sent above it is DELIVERED (R136), when
a send condition returns to CLOSED (R147), and when the run-up or the turnaround ends. -/
def Obligations.PreemptedCopyIsStackedAndResumed : Prop :=
  (∀ (n : Line) (shiftFirst : Bool) (s : State) (x : TxChar) (e q : QEntry) (c d : Copy)
    (before after : List QEntry), MayDrive s n → s.withheld n = false →
    (s.line n).tx.shift = some x → x.role = .composed → x.last = true →
    (s.line n).tx.holding = none → (s.line n).sched.midText = false →
    (s.line n).sched.current = some e → (s.line n).sched.phase = .interrupt →
    (s.line n).sched.queue = before ++ q :: after → (∀ y ∈ before, ¬IsReady s y) → IsReady s q →
    s.entryClass e < s.entryClass q → q.copy ≠ e.copy → CopyIs s e.copy c → CopyIs s q.copy d →
    d.state ≠ .settled →
    ∃ t, exec (.characterSent n shiftFirst) s = .next t ∧
      (t.line n).sched.stack = e :: (s.line n).sched.stack ∧
      CopyIs t e.copy { c with state := .stacked, resume := some (s.line n).sched.lineStart } ∧
      (t.line n).sched.current = some q ∧ (t.line n).sched.kind = .fresh ∧
      (t.line n).sched.phase = .head ∧ (t.line n).sched.queue = before ++ after ∧
      CopyIs t q.copy
        { d with state := .sending, channel := some (d.channel.getD (s.line n).sched.counter) } ∧
      (t.line n).sched.counter =
        (if d.channel = none then
          (if (s.line n).sched.counter < 999 then (s.line n).sched.counter + 1 else 1)
         else (s.line n).sched.counter) ∧
      (∀ m, m ≠ n → t.line m = s.line m) ∧ t.port = s.port ∧ t.sup = s.sup ∧
      t.router = s.router ∧ t.store.freeList = s.store.freeList ∧ t.store.pool = s.store.pool) ∧
  (∀ (n : Line) (s : State) (c : Instr) (top : QEntry) (rest : List QEntry) (x : Copy) (ch : Nat)
    (at_ : TextPoint), s.running = true → FreesLine s n c → (s.line n).sched.current = none →
    (s.line n).sched.stack = top :: rest → (s.line n).tx.holding = none →
    (s.line n).tx.shift = none →
    (∀ y ∈ (s.line n).sched.queue, IsReady s y → s.entryClass y ≤ s.entryClass top) →
    CopyIs s top.copy x → x.state ≠ .settled → x.channel = some ch → x.resume = some at_ →
    ∃ t, exec c s = .next t ∧ StartsResume s t n top rest x ch at_ (s.line n).tx.lineCase ∧
      (∀ m, m ≠ n → t.line m = s.line m) ∧ t.port = s.port ∧ t.sup = s.sup ∧
      t.router = s.router) ∧
  ∀ (n : Line) (shiftFirst : Bool) (s : State) (sent : TxChar) (e top : QEntry) (rest : List QEntry)
    (x : Copy) (ch : Nat) (at_ : TextPoint), MayDrive s n → s.withheld n = false →
    (s.line n).tx.shift = some sent → sent.role = .composed → sent.last = true →
    (s.line n).tx.holding = none → (s.line n).sched.midText = false →
    (s.line n).sched.current = some e → (s.line n).sched.phase = .tail → MaySettle s e.copy →
    (s.line n).sched.stack = top :: rest → top.copy ≠ e.copy →
    (∀ y ∈ (s.line n).sched.queue, IsReady s y → s.entryClass y ≤ s.entryClass top) →
    CopyIs s top.copy x → x.state ≠ .settled → x.joinedWith = none → x.channel = some ch →
    x.resume = some at_ →
    ∃ t, exec (.characterSent n shiftFirst) s = .next t ∧ SettlesAs s t e.copy .delivered ∧
      StartsResume s t n top rest x ch at_ (caseAfter sent.code (s.line n).tx.lineCase) ∧
      (∀ m, m ≠ n → t.line m = s.line m) ∧ t.port = s.port ∧ t.sup = s.sup ∧
      t.router = s.router ∧ t.store.pool = s.store.pool

/-- R127: the lead is 0 for a source no slower than the line, and otherwise the least whole number not below
Lcut × (r_out − r_in) / r_out; it is below Lcut for every source of at least r_out / Lcut. An enqueue on
a held line places an entry with the lead of its record's source and its line. R126: on a queue in class
order a new entry stands after every entry of equal or higher class and before every lower one, a
put-back after every higher and before its own class, and both leave the queue in class order. -/
def Obligations.QueueEntriesHaveLeadAndPlace : Prop :=
  (∀ lcut rIn rOut : Nat, rOut ≤ rIn → leadOf lcut rIn rOut = 0) ∧
  (∀ lcut rIn rOut : Nat, rIn < rOut →
    lcut * (rOut - rIn) ≤ leadOf lcut rIn rOut * rOut ∧
    (∀ k, lcut * (rOut - rIn) ≤ k * rOut → leadOf lcut rIn rOut ≤ k) ∧
    (rOut ≤ lcut * rIn → leadOf lcut rIn rOut < lcut)) ∧
  (∀ (s : State) (n : Line) (ref : CopyRef), s.sendCond n = some .open →
    (s.line n).sched.current = none →
    ((s.enqueue n ref).line n).sched.queue =
      State.insertEntry s
        ⟨ref, leadOf s.boot.cfg.lcut (s.sourceCpm ref.record)
          (cpmOf (s.lineCfg n).speed (s.lineCfg n).stopTwo)⟩ (s.line n).sched.queue) ∧
  ∀ (s : State) (e : QEntry) (q : List QEntry), ClassOrdered s q →
    State.insertEntry s e q = queuePlaced s e q ∧ ClassOrdered s (queuePlaced s e q) ∧
    State.insertBack s e q = queuePutBack s e q ∧ ClassOrdered s (queuePutBack s e q)

/-! ### The router -/

/-- R66, R67, R56, R68, R69, R71: a copy is dispatched with both counts 0. Served locally, or an intercept
copy with an intercept line in service, it joins the copy of its record that is bound to the line already,
whatever its number (earlier read so: DEDUCED, log 11), and is not itself joined and not SETTLED, and else
stands on the line. Served nowhere here, it takes the lowest-numbered FREE send context for its first
offer, at attempt 1 or at the threshold for an intercept copy; with none FREE, others waiting or in the
hold-off it joins the tail of the wait list with attempt 0. R35, R40, R67: a record dispatched at its close,
GENERAL, BULK or RUNNING without cut-through, whose stations all stand on one held line gives at its close one queue entry, and every other copy joins it. -/
def Obligations.RouterDispatchesEachCopy : Prop :=
  (∀ (s : State) (ref : CopyRef) (x : Copy), CopyIs s ref x → x.state = .unrouted →
    x.joinedWith = none → x.line = none →
    let t := s.dispatchCopy ref
    let intercept := x.station = [0, 0, 0, 0]
    let serves (n : Line) := intercept ∧ s.interceptLine = some n ∨
      ¬intercept ∧ s.localLine x.station = some n
    let first := if intercept then s.boot.cfg.threshold else 1
    (∀ n i, serves n → BoundThere s n ref i → (∀ j, j < i → ¬BoundThere s n ref j) →
      CopyIs t ref { x with attempt := 0, spoil := 0, line := some n, joinedWith := some i } ∧
      t.copyState ref = s.copyState ⟨ref.record, i⟩ ∧ t.lines = s.lines ∧ t.router = s.router ∧
      t.port = s.port ∧ t.sup = s.sup) ∧
    (∀ n, serves n → (∀ i, ¬BoundThere s n ref i) →
      StandsOn t n ref ∧ (t.copy ref).line = some n ∧ (t.copy ref).joinedWith = none ∧
      (t.copy ref).attempt = 0 ∧ (t.copy ref).spoil = 0 ∧ (∀ m, m ≠ n → t.line m = s.line m) ∧
      t.router = s.router ∧ t.port = s.port ∧ t.sup = s.sup) ∧
    ((∀ n, ¬serves n) →
      t.lines = s.lines ∧ t.sup = s.sup ∧ t.port.take = s.port.take ∧
      (∀ k, s.sendCtx k = none → (∀ j, j < k → s.sendCtx j ≠ none) → s.router.waitList = [] →
        s.port.holdOff = none →
        OffersCopy t k ref ∧ CopyIs t ref { x with state := .backoff, attempt := first, spoil := 0 } ∧
        (∀ j, j ≠ k → t.sendCtx j = s.sendCtx j) ∧ t.router = s.router) ∧
      ((∀ k, s.sendCtx k ≠ none) ∨ s.router.waitList ≠ [] ∨ s.port.holdOff ≠ none →
        ref ∉ s.router.waitList →
        CopyIs t ref { x with state := .backoff, attempt := 0, spoil := 0 } ∧
        t.router = { s.router with waitList := s.router.waitList ++ [ref] } ∧
        t.port = s.port))) ∧
  ∀ (n m : Line) (framing : Bool) (s : State) (r : RecIx) (codes : List StationCode),
    MidCharacter s n → (s.line n).asm.state = .text → (s.line n).asm.record = some r →
    (s.line n).asm.closingCount = 3 →
    caseAfter s.boot.cfg.codes.closing (s.line n).rx.case = .letters →
    DispatchedAtClose s r →
    (s.record r).copies = codes.map newCopy → 1 ≤ codes.length → codes.length ≤ 6 →
    (∀ c ∈ codes, c ≠ [0, 0, 0, 0] ∧ s.localLine c = some m) → s.sendCond m = some .open →
    (s.line m).sched.current = none →
    (∀ q, ∀ e ∈ (s.line q).sched.queue ++ (s.line q).sched.stack, e.copy.record ≠ r) →
    ClassOrdered s (s.line m).sched.queue →
    ∃ t lead, exec (.characterReceived n s.boot.cfg.codes.closing framing) s = .next t ∧
      (t.record r).copies = codes.mapIdx (fun i c =>
        if i = 0 then { newCopy c with line := some m, state := .queued }
        else { newCopy c with line := some m, joinedWith := some 0 }) ∧
      (t.line m).sched.queue = queuePlaced s ⟨⟨r, 0⟩, lead⟩ (s.line m).sched.queue ∧
      (∀ i : CopyIx, i.val < codes.length → t.copyState ⟨r, i⟩ = .queued) ∧
      t.router = s.router ∧ t.sup.account = s.sup.account

/-! ### Outputs -/

/-- R142: the outbound state is the first of the table's that applies; a RECV line is IDLE. R18: LOOPn_OUT
is driven by the first of the five items that applies, the rest level being marking while the card is
not RUNNING. -/
def Obligations.OutputsFollowTheOutboundState : Prop :=
  (∀ (s : State) (n : Line),
    let sc := (s.line n).sched
    let occupied := sc.current ≠ none ∨ sc.queue ≠ [] ∨ sc.stack ≠ []
    let ready := sc.stack ≠ [] ∨ ∃ e ∈ sc.queue, (s.record e.copy.record).complete = true ∨
      e.lead ≤ (s.record e.copy.record).count
    let rows : List (OutState × Prop) :=
      [(.idle, s.mode n = .recv), (.outOfService, s.sendCond n = some .failed),
       (.held, s.sendCond n = some .open),
       (.interrupting, sc.current ≠ none ∧ sc.phase = .interrupt), (.sending, sc.current ≠ none),
       (.turnaround, s.withheld n = true),
       (.runUp, occupied ∧ (s.line n).motor.state ≠ .running), (.leadWait, occupied ∧ ¬ready),
       (.idle, True)]
    ∃ before row after, rows = before ++ row :: after ∧ row.2 ∧ (∀ r ∈ before, ¬r.2) ∧
      s.outbound n = row.1) ∧
  (∀ (s : State) (n : Line) (unit : Fin 7),
    (s.running = false → s.loopOut n unit = .marking) ∧
    (s.running = true → s.mode n = .recv → s.loopOut n unit = (s.lineCfg n).rest) ∧
    (s.running = true → s.mode n ≠ .recv →
      (s.sendCond n ≠ some .closed → s.loopOut n unit = .marking) ∧
      (s.sendCond n = some .closed →
        ((s.line n).motor.state ≠ .running → s.loopOut n unit = .marking) ∧
        ((s.line n).motor.state = .running →
          ((s.line n).tx.shift = none → s.loopOut n unit = .marking) ∧
          ∀ x, (s.line n).tx.shift = some x →
            (unit.val = 0 → s.loopOut n unit = .spacing) ∧
            (unit.val = 6 → s.loopOut n unit = .marking) ∧
            (∀ k, k < 5 → unit.val = k + 1 →
              s.loopOut n unit = if x.code.getLsbD k then .marking else .spacing)))))

/-! ### The highway: sending -/

/-- R84: the frame a card's key is of is one it waits to send, and no other of its frames is greater by
class, kind rank and order of request; a card with no pending frame presents none. R84, R85, R79: a
CONTENDING card outside any tenure wins the round when no rival's key is above its own, the class × 128
plus the rank × 16 plus 15 − slot of its greatest frame, and then drives that frame. Otherwise it goes on
as it is, having seen the highway IDLE (log 16). R83, R97, R101, R110, R112, R120, R121, R122, R92: the
frame a won round sends is composed from what stands at that moment: an OFFER with the record's length or
OPEN and the copy's attempt, a TEXT with its block's characters, a CLOSE with the count, the check, the
flags and the mutilated count, a CLAIM or RESTART with this card's slot, a RECEIPT, an ABANDON with its
reason. -/
def Obligations.RoundIsWonOrLost : Prop :=
  (∀ s : State,
    (∀ w, s.greatest = some w → w ∈ s.waiting ∧ ∀ v ∈ s.waiting,
      v.cls.value < w.cls.value ∨
      v.cls.value = w.cls.value ∧ (v.rank < w.rank ∨ v.rank = w.rank ∧ w.stamp ≤ v.stamp)) ∧
    (s.greatest = none ↔ s.waiting = [])) ∧
  (∀ (rivals : List Nat) (s : State) (w : Waiting), rivals.length ≤ 15 →
    (∀ k ∈ rivals, 32 ≤ k ∧ k ≤ 511) → s.running = true → s.port.driven = none →
    (s.port.tenure = .out ∨ s.port.tenure = .contending) → s.greatest = some w →
    let key := w.cls.value * 128 + w.rank * 16 + (15 - s.boot.slot.val)
    ∃ t, exec (.arbitrationRound rivals) s = .next t ∧ OnlyPort s t ∧
      ((∀ k ∈ rivals, k ≤ key) → ∃ f, f.rank = w.rank ∧
        t.port =
          { s.port with awaitIdle := false, tenure := .sending,
                        driven := some ⟨w.source, f, true, true⟩ } ∧
        t.highwayOut = some f.encode) ∧
      ((∃ k ∈ rivals, key < k) → t.port = { s.port with awaitIdle := false })) ∧
  (∀ (s : State) (w : Waiting), s.running = true → s.port.driven = none →
    (s.port.tenure = .out ∨ s.port.tenure = .contending) → s.greatest = some w →
    let drives (f : Frame) := ∃ t, exec (.arbitrationRound []) s = .next t ∧ OnlyPort s t ∧
      t.port.driven = some ⟨w.source, f, true, true⟩
    (∀ k c p, w.source = .take k → s.takeCtx k = some c → c.pending = some p →
      (p.kind = .claim → drives (.claim c.tag s.boot.slot)) ∧
      (p.kind = .accepted → drives (.receipt c.tag true)) ∧
      (p.kind = .spoiled → drives (.receipt c.tag false)) ∧
      (∀ reason, p.kind = .abandon reason → drives (.abandon c.tag reason))) ∧
    (∀ tag reason, w.source = .answer tag reason → drives (.abandon tag reason)) ∧
    (w.source = .restart → drives (.restart s.boot.slot))) ∧
  (∀ (s : State) (w : Waiting) (k : CtxIx) (c : Send) (p : SendPending), s.running = true →
    s.port.driven = none → (s.port.tenure = .out ∨ s.port.tenure = .contending) →
    s.greatest = some w → w.source = .send k → s.sendCtx k = some c → c.pending = some p →
    let r := s.record c.copy.record
    let tag : Tag := ⟨s.boot.slot, c.copy.record, r.gen, c.copy.ix⟩
    ∃ t f, exec (.arbitrationRound []) s = .next t ∧ OnlyPort s t ∧
      t.port.driven = some ⟨.send k, f, true, true⟩ ∧
      (p.kind = .offer →
        f = .offer tag r.cls (s.copy c.copy).station (if r.complete then some r.count else none)
          (s.sourceCpm c.copy.record) (s.copy c.copy).attempt) ∧
      (p.kind = .text →
        ∃ chars, f = .text tag c.blocksSent chars ∧
          chars.length = min 64 (r.count - 64 * c.blocksSent) ∧
          ∀ i, i < chars.length →
            chars[i]? = some (s.charAt c.copy.record (64 * c.blocksSent + i))) ∧
      (p.kind = .close →
        f = .close tag r.count (textCheck (s.text c.copy.record)) r.overrun r.truncated r.mutilated))

/-- R86, R98: an OFFER driven to its end opens the claim window of 20 ms with no claim taken, and its copy is
OFFERED. R88, R89, R92, R112, R123: a CLOSE starts the receipt wait of 500 ms with its copy AWAIT_RECEIPT; a
taker's RECEIPT or ABANDON frees its context with an ended-take entry; an answer leaves its list; a
RESTART is pending no longer. Each ends the tenure. R79: a frame whose source was freed or dropped it
while it was driven is completed, ends the tenure, and its report changes nothing else (DEDUCED, log 12).
That the burst count is 0 after a tenure is the model's choice (log 20). -/
def Obligations.SentFramesEndTheTenure : Prop :=
  (∀ (s : State) (d : Driven) (k : CtxIx) (c : Send), Drives s d → d.frame.isOffer = true →
    d.source = .send k → d.live = true → s.sendCtx k = some c →
    ∃ t, exec .offerSent s = .next t ∧ LetsGo t ∧
      t.sendCtx k = some { c with pending := none, window := some 20, taken := none } ∧
      (∀ j, j ≠ k → t.sendCtx j = s.sendCtx j) ∧ t.port.take = s.port.take ∧
      t.port.answers = s.port.answers ∧ t.port.ended = s.port.ended ∧
      (∀ x, CopyIs s c.copy x → x.state ≠ .settled → CopyIs t c.copy { x with state := .offered }) ∧
      (∀ ref, ref ≠ c.copy → t.copy ref = s.copy ref) ∧ t.lines = s.lines ∧
      t.router = s.router ∧ t.sup = s.sup ∧ t.store.freeList = s.store.freeList ∧
      t.store.pool = s.store.pool) ∧
  (((∀ (s : State) (d : Driven) (k : CtxIx) (c : Send), Drives s d → d.frame.isClose = true →
    d.source = .send k → d.live = true → s.sendCtx k = some c →
    ∃ t, exec .closeSent s = .next t ∧ LetsGo t ∧
      t.sendCtx k = some { c with pending := none, receiptWait := some 500 } ∧
      (∀ j, j ≠ k → t.sendCtx j = s.sendCtx j) ∧ t.port.take = s.port.take ∧
      (∀ x, CopyIs s c.copy x → x.state ≠ .settled →
        CopyIs t c.copy { x with state := .awaitReceipt }) ∧
      (∀ ref, ref ≠ c.copy → t.copy ref = s.copy ref) ∧ t.lines = s.lines ∧
      t.router = s.router ∧ t.sup = s.sup) ∧
  (∀ (s : State) (d : Driven) (k : CtxIx) (c : Take), Drives s d → d.frame.isAnswer = true →
    d.source = .take k → d.live = true → s.takeCtx k = some c →
    ∃ t, exec .takerAnswerSent s = .next t ∧ LetsGo t ∧ OnlyPort s t ∧ t.takeCtx k = none ∧
      (∀ j, j ≠ k → t.takeCtx j = s.takeCtx j) ∧ t.port.send = s.port.send ∧
      t.port.answers = s.port.answers ∧ EndedAdded s t c.tag c.cls) ∧
  (∀ (s : State) (d : Driven) (tag : Tag) (reason : Reason), Drives s d →
    d.frame.isAnswer = true → d.source = .answer tag reason → d.live = true →
    ∃ t, exec .answerSent s = .next t ∧ LetsGo t ∧ OnlyPort s t ∧
      t.port.answers = s.port.answers.filter (fun a => ¬(a.tag = tag ∧ a.reason = reason)) ∧
      t.port.send = s.port.send ∧ t.port.take = s.port.take ∧ t.port.ended = s.port.ended) ∧
  ∀ (s : State) (d : Driven), Drives s d → d.frame.isRestart = true → d.live = true →
    ∃ t, exec .restartSent s = .next t ∧ LetsGo t ∧ OnlyPort s t ∧
      t.port.restartPending = false ∧ t.port.send = s.port.send ∧ t.port.take = s.port.take ∧
      t.port.answers = s.port.answers ∧ t.port.ended = s.port.ended) ∧
  (∀ (s : State) (d : Driven) (c : Instr), Drives s d → d.live = false →
    (c = .offerSent ∧ d.frame.isOffer = true ∨ c = .claimSent ∧ d.frame.isClaim = true ∨
     c = .textSent ∧ d.frame.isText = true ∨ c = .closeSent ∧ d.frame.isClose = true ∨
     c = .takerAnswerSent ∧ d.frame.isAnswer = true ∧ d.source.isTake = true ∨
     c = .answerSent ∧ d.frame.isAnswer = true ∧ d.source.isAnswer = true ∨
     c = .restartSent ∧ d.frame.isRestart = true) →
    ∃ t, exec c s = .next t ∧ LetsGo t ∧ OnlyPort s t ∧ t.port.send = s.port.send ∧
      t.port.take = s.port.take ∧ t.port.answers = s.port.answers ∧
      t.port.ended = s.port.ended ∧ t.port.restartPending = s.port.restartPending))

/-- R50, R54, R86, R102, R118: a CLAIM driven to its end takes the lowest FREE record as RELAYED and TAKING
with its one copy bound to the line, lowers the pledge count and starts the stall timer. The copy of an
OPEN offer goes on its line's queue, and may start there; that of a stated length waits UNROUTED. R153:
where the line of an OPEN offer's copy can no longer send, the copy is unbound and goes to the router,
which offers it on when nothing here serves it. That the burst count is 0 after the tenure is the model's
choice (log 20). -/
def Obligations.ClaimSentTakesARecord : Prop :=
  ∀ (s : State) (d : Driven) (k : CtxIx) (c : Take) (r : RecIx), Drives s d →
    d.frame.isClaim = true → d.source = .take k → d.live = true → s.takeCtx k = some c →
    LowestFree s r →
    let x : Copy := newCopy c.station
    let refused := s.localLine c.station = none ∧ c.station ≠ [0, 0, 0, 0]
    (c.length = none → s.canSend c.line = true ∨ refused) →
    ∃ t, exec .claimSent s = .next t ∧ LetsGo t ∧
      t.takeCtx k = some
        { c with phase := .taking, record := some r, pending := none, step := .receiving,
                 nextSeq := 0, lastCount := 0, received := 0, check := 0, overrun := false,
                 stall := some 90000 } ∧
      (∀ j, j ≠ k → t.takeCtx j = s.takeCtx j) ∧
      t.store.pledges = s.store.pledges - 1 ∧ t.store.reserved = s.store.reserved ∧
      t.store.freeList = s.store.freeList ∧ t.store.pool = s.store.pool ∧
      t.record r =
        { state := .taking, gen := (s.record r).gen, source := .relayed c.tag c.cpm, cls := c.cls,
          count := 0, chain := [], complete := false, overrun := false, truncated := false,
          sequenceGap := false, headingDefaulted := false, mutilated := 0, inbound := none,
          copies := (t.record r).copies } ∧
      (t.record r).copies.length = 1 ∧
      (c.length ≠ none →
        CopyIs t ⟨r, 0⟩ { x with line := some c.line } ∧ t.lines = s.lines ∧
        t.port.send = s.port.send ∧ ∀ q, q ≠ r → t.record q = s.record q) ∧
      (c.length = none → s.canSend c.line = true →
        t.port.send = s.port.send ∧ StandsOn t c.line ⟨r, 0⟩ ∧
        ∃ st ch, CopyIs t ⟨r, 0⟩ { x with line := some c.line, state := st, channel := ch } ∧
          (st = .queued → ch = none) ∧
          (st = .sending → ch = some (s.line c.line).sched.counter)) ∧
      (c.length = none → s.canSend c.line = false →
        t.lines = s.lines ∧
        CopyIs t ⟨r, 0⟩ { x with state := .backoff, attempt := (t.copy ⟨r, 0⟩).attempt } ∧
        (t.copy ⟨r, 0⟩).attempt ≤ 1 ∧
        ((∃ j, OffersCopy t j ⟨r, 0⟩) ∨ ⟨r, 0⟩ ∈ t.router.waitList))

/-- R86, R87, R110, R111: a TEXT driven to its end opens the continuation window. With the next block ready
and fewer than eight TEXTs in the burst the next TEXT goes out at once; with all text of a complete
record sent the CLOSE does; else the window stands open, a block ready after the eighth TEXT waiting in
it. R97, R112, R113: the next TEXT carries the characters of its block, the CLOSE the count, the check,
the flags and the mutilated count. -/
def Obligations.TextSentOpensTheContinuationWindow : Prop :=
  ∀ (s : State) (d : Driven) (k : CtxIx) (c : Send) (tag : Tag) (seq : Nat) (chars : List Code),
    Drives s d → d.frame = .text tag seq chars → d.source = .send k → d.live = true →
    s.sendCtx k = some c → (s.copy c.copy).state = .streaming →
    let r := s.record c.copy.record
    let burst := if d.byRound then 1 else s.port.burst + 1
    let next := c.blocksSent + 1
    let ready := 64 * next + 64 ≤ r.count ∨ r.complete = true ∧ 64 * next < r.count
    let done := r.complete = true ∧ r.count = c.charsSent + chars.length
    let after : Send :=
      { c with pending := none, blocksSent := next, charsSent := c.charsSent + chars.length }
    ∃ t, exec .textSent s = .next t ∧ OnlyPort s t ∧ t.port.burst = burst ∧
      (∀ j, j ≠ k → t.sendCtx j = s.sendCtx j) ∧ t.port.take = s.port.take ∧
      t.port.answers = s.port.answers ∧ t.port.ended = s.port.ended ∧
      (ready → burst < 8 →
        t.port.tenure = .sending ∧
        t.sendCtx k = some { after with pending := some ⟨.text, s.port.stamp⟩ } ∧
        ∃ chars', t.port.driven = some
            ⟨.send k, .text ⟨s.boot.slot, c.copy.record, r.gen, c.copy.ix⟩ next chars', false, true⟩ ∧
          chars'.length = min 64 (r.count - 64 * next) ∧
          ∀ i, i < chars'.length → chars'[i]? = some (s.charAt c.copy.record (64 * next + i))) ∧
      (ready → 8 ≤ burst →
        t.port.tenure = .window k ∧ t.port.driven = none ∧
        t.sendCtx k = some { after with pending := some ⟨.text, s.port.stamp⟩ }) ∧
      (¬ready → done →
        t.port.tenure = .sending ∧
        t.sendCtx k = some { after with pending := some ⟨.close, s.port.stamp⟩ } ∧
        t.port.driven = some
          ⟨.send k, .close ⟨s.boot.slot, c.copy.record, r.gen, c.copy.ix⟩ r.count
            (textCheck (s.text c.copy.record)) r.overrun r.truncated r.mutilated, false, true⟩) ∧
      (¬ready → ¬done →
        t.port.tenure = .window k ∧ t.port.driven = none ∧ t.sendCtx k = some after)

/-! ### The highway: frames as bytes -/

/-- R80, R81, R175: a run of bytes is taken as a frame exactly when it is the encoding of that frame and
every field of it lies in its range; every frame in range survives the highway whole. -/
def Obligations.FramesSurviveTheHighway : Prop :=
  ∀ (bytes : List Byte) (f : Frame),
    parseFrame bytes = some f ↔ f.inRange = true ∧ bytes = f.encode

/-- R79, R80, R90, R95: a run of bytes that fails its tests, any frame at a card that does not take frames,
and this card's own OFFER, TEXT, CLOSE or ABANDON of side ORIGIN change nothing. -/
def Obligations.IgnoredFramesChangeNothing : Prop :=
  ∀ (s : State) (bytes : List Byte) (c : Instr),
    c ∈ [Instr.offerReceived bytes, .claimReceived bytes, .textReceived bytes, .closeReceived bytes,
      .receiptReceived bytes, .abandonTakerReceived bytes, .abandonOriginReceived bytes,
      .restartReceived bytes] →
    c.wellFormed = true →
    (parseFrame bytes = none ∨ s.running = false ∨ s.port.awaitIdle = true ∨
      (∃ tag cls station length cpm attempt, tag.slot = s.boot.slot ∧
        parseFrame bytes = some (.offer tag cls station length cpm attempt)) ∨
      (∃ tag seq chars, tag.slot = s.boot.slot ∧ parseFrame bytes = some (.text tag seq chars)) ∨
      (∃ tag total check o t m, tag.slot = s.boot.slot ∧
        parseFrame bytes = some (.close tag total check o t m)) ∨
      (∃ tag reason, tag.slot = s.boot.slot ∧ reason.byOrigin = true ∧
        parseFrame bytes = some (.abandon tag reason))) →
    exec c s = .next s

/-! ### The highway: receiving -/

/-- R64, R65, R100, R1: the line for an offered copy is that of the station's entry, at attempt 1 for a
PRIMARY and from attempt 2 for an ALTERNATE entry, unless that line's send condition is FAILED; and
otherwise the intercept line at an attempt of at least the threshold, unless it is FAILED. A line
without a send condition is never given. R46, R52, R88, R90, R99, R101: an OFFER of another card whose
tag no take context holds removes the tag's ended-take entry. When the card has a line for it, a FREE
take context, a record beyond the pledges and room under the class's floor, the lowest-numbered FREE
context claims it: reservation, pledge and a pending CLAIM in one decision. That the step, next sequence,
counts, check and overrun mark of R118 stand in CLAIMING as TAKING starts them is the model's choice (log
21). When any of these is missing nothing else changes. -/
def Obligations.OfferIsClaimedOrDeclined : Prop :=
  (∀ (s : State) (station : StationCode) (attempt : Nat),
     let up (n : Line) := s.sendCond n ≠ none ∧ s.sendCond n ≠ some .failed
     let entry := s.boot.cfg.stations.find? fun e => e.code = station
     let first (n : Line) := ∃ e, entry = some e ∧ e.line = n ∧ up n ∧
       (e.preference = .primary ∨ 2 ≤ attempt)
     let second (n : Line) := s.boot.cfg.intercept = some n ∧ s.boot.cfg.threshold ≤ attempt ∧ up n
     (∀ n, s.claimLine station attempt = some n ↔ first n ∨ (∀ m, ¬first m) ∧ second n) ∧
     (∀ n, s.localLine station = some n ↔ ∃ e, entry = some e ∧ e.line = n ∧ up n)) ∧
  ∀ (s : State) (bytes : List Byte) (tag : Tag) (cls : Precedence) (station : StationCode)
    (length : Option Nat) (cpm attempt : Nat), TakesFrames s → tag.slot ≠ s.boot.slot →
    parseFrame bytes = some (.offer tag cls station length cpm attempt) →
    (∀ k c, s.takeCtx k = some c → c.tag ≠ tag) →
    let needed := (length.getD s.boot.cfg.lcut + 63) / 64
    let ended := s.port.ended.filter fun e => e.tag ≠ tag
    let room := s.store.reservationCount + needed + floorOf cls ≤ s.store.freeList.length
    (∀ n k, s.claimLine station attempt = some n → s.takeCtx k = none →
      (∀ j, j < k → s.takeCtx j ≠ none) → s.store.pledges < s.store.freeRecords → room →
      ∃ t, exec (.offerReceived bytes) s = .next t ∧
        t.takeCtx k = some
          { phase := .claiming, tag := tag, cls := cls, station := station, length := length,
            cpm := cpm, attempt := attempt, line := n, record := none,
            pending := some ⟨.claim, s.port.stamp⟩, step := .receiving, nextSeq := 0,
            lastCount := 0, received := 0, check := 0, overrun := false, stall := none } ∧
        (∀ j, j ≠ k → t.takeCtx j = s.takeCtx j) ∧ t.port.send = s.port.send ∧
        t.port.ended = ended ∧ t.port.answers = s.port.answers ∧
        (s.port.tenure = .out → t.port.tenure = .contending) ∧
        t.store = { s.store with reserved := s.store.reserved.set k needed,
                                 pledges := s.store.pledges + 1 } ∧
        t.lines = s.lines ∧ t.router = s.router ∧ t.sup = s.sup ∧ t.boot = s.boot) ∧
    ((s.claimLine station attempt = none ∨ (∀ k, s.takeCtx k ≠ none) ∨
        s.store.freeRecords ≤ s.store.pledges ∨ ¬room) →
      exec (.offerReceived bytes) s = .next { s with port := { s.port with ended := ended } })

/-- R103, R89, R90, R109, R110: a CLAIM for a live tag of this card is taken in the running window when none
has been: its slot is noted, the copy is STREAMING and the transfer looks for its first frame. A second
slot is answered CLAIMED_ELSEWHERE, the same slot ignored, and a CLAIM outside the window, or for a copy
in no send context, answered LATE. A CLAIM for a tag that is not live changes nothing. -/
def Obligations.ClaimIsJudgedAtTheOrigin : Prop :=
  ∀ (s : State) (bytes : List Byte) (tag : Tag) (claimant : Slot), TakesFrames s →
    tag.slot = s.boot.slot → parseFrame bytes = some (.claim tag claimant) →
    let r := s.record tag.record
    let live := r.state ≠ .free ∧ r.gen = tag.gen ∧ tag.ix.val < r.copies.length
    (¬live → exec (.claimReceived bytes) s = .next s) ∧
    (live → (∀ k c, s.sendCtx k = some c → c.copy ≠ tag.copyRef) →
      ∃ t, exec (.claimReceived bytes) s = .next t ∧ AnswerAdded s t tag .late r.cls) ∧
    ∀ k c, live → SendHolds s k tag.copyRef c →
      (c.window = none →
        ∃ t, exec (.claimReceived bytes) s = .next t ∧ AnswerAdded s t tag .late r.cls) ∧
      (c.window ≠ none → c.taken = some claimant → exec (.claimReceived bytes) s = .next s) ∧
      (∀ other, c.window ≠ none → c.taken = some other → other ≠ claimant →
        ∃ t, exec (.claimReceived bytes) s = .next t ∧
          AnswerAdded s t tag .claimedElsewhere r.cls) ∧
      (∀ x, c.window ≠ none → c.taken = none → c.pending = none → CopyIs s tag.copyRef x →
        x.state ≠ .settled →
        ∃ t, exec (.claimReceived bytes) s = .next t ∧
          CopyIs t tag.copyRef { x with state := .streaming } ∧
          t.sendCtx k = some
            { c with taken := some claimant, blocksSent := 0, charsSent := 0, receiptWait := none,
                     pending :=
                       if 64 ≤ r.count ∨ r.complete = true ∧ 0 < r.count then
                         some ⟨.text, s.port.stamp⟩
                       else if r.complete = true then some ⟨.close, s.port.stamp⟩ else none } ∧
          (∀ j, j ≠ k → t.sendCtx j = s.sendCtx j) ∧ t.port.take = s.port.take ∧
          (∀ ref, ref ≠ tag.copyRef → t.copy ref = s.copy ref) ∧ t.lines = s.lines ∧
          t.router = s.router ∧ t.sup = s.sup ∧ t.port.answers = s.port.answers)

/-- R106, R118, R52, R47: a CLAIMING context drops its claim on a rival CLAIM while its own waits to be
sent, on an ABANDON of side ORIGIN, and on a TEXT or CLOSE for its tag. That a CLAIM already being
driven is not dropped by a rival is DESIGN CHOICE (log 24). R107, R89: a re-OFFER at a higher attempt makes
a TAKING context give its copy up before the offer is weighed: ABANDON CLAIM_LOST joins the answer list
and, here with no line for the copy, the context is FREE. At an attempt not above the one claimed the
context keeps its claim and nothing changes but the ended-take list. -/
def Obligations.ClaimIsDroppedOrLost : Prop :=
  (∀ (s : State) (bytes : List Byte) (k : CtxIx) (tag : Tag) (c : Take) (i : Instr), TakesFrames s →
    tag.slot ≠ s.boot.slot → TakeHolds s k tag c → c.phase = .claiming →
    ((∃ rival, i = .claimReceived bytes ∧ parseFrame bytes = some (.claim tag rival) ∧
        (∀ d, s.port.driven = some d → d.source ≠ .take k)) ∨
      (∃ reason, i = .abandonOriginReceived bytes ∧ reason.byOrigin = true ∧
        parseFrame bytes = some (.abandon tag reason)) ∨
      (∃ seq chars, i = .textReceived bytes ∧ parseFrame bytes = some (.text tag seq chars)) ∨
      ∃ total check o t m, i = .closeReceived bytes ∧
        parseFrame bytes = some (.close tag total check o t m)) →
    ∃ t, exec i s = .next t ∧ DropsClaim s t k) ∧
  (∀ (s : State) (bytes : List Byte) (k : CtxIx) (tag : Tag) (c : Take) (cls : Precedence)
    (station : StationCode) (length : Option Nat) (cpm attempt : Nat), TakesFrames s →
    tag.slot ≠ s.boot.slot → TakeHolds s k tag c →
    parseFrame bytes = some (.offer tag cls station length cpm attempt) →
    (attempt ≤ c.attempt →
      exec (.offerReceived bytes) s =
        .next { s with port := { s.port with ended := s.port.ended.filter fun e => e.tag ≠ tag } }) ∧
    (c.attempt < attempt → c.phase = .taking → s.claimLine station attempt = none →
      (∀ a ∈ s.port.answers, ¬(a.tag = tag ∧ a.reason = .claimLost)) →
      s.port.answers.length < 8 →
      ∃ t, exec (.offerReceived bytes) s = .next t ∧ t.takeCtx k = none ∧
        (∀ j, j ≠ k → t.takeCtx j = s.takeCtx j) ∧
        t.store.reserved = s.store.reserved.set k 0 ∧
        (∃ stamp, t.port.answers = s.port.answers ++ [⟨tag, .claimLost, cls, stamp⟩]) ∧
        (∀ r, c.record = some r → c.step = .receiving → (s.record r).state = .taking →
          RecordEnded s t r) ∧
        (c.step = .answering → t.store.records = s.store.records)) ∧
    (c.attempt < attempt → c.phase = .claiming → s.claimLine station attempt = none →
      ∃ t, exec (.offerReceived bytes) s = .next t ∧ t.takeCtx k = none ∧
        t.store =
          { s.store with reserved := s.store.reserved.set k 0, pledges := s.store.pledges - 1 } ∧
        t.port.answers = s.port.answers))

/-- R59, R113, R119: a TEXT in sequence for a transfer being received is counted into the tally, and without
the overrun mark its characters go whole into a block, from the reservation if any is left and otherwise
by the admission test. A block refused marks record and context OVERRUN and posts one notice, here with
no dead copy waiting for a free place. -/
def Obligations.TextInSequenceIsStored : Prop :=
  ∀ (s : State) (bytes : List Byte) (k : CtxIx) (tag : Tag) (c : Take) (r : RecIx) (seq : Nat)
    (chars : List Code), TakesFrames s → tag.slot ≠ s.boot.slot → Receives s k tag c r →
    parseFrame bytes = some (.text tag seq chars) → seq = c.nextSeq →
    (c.lastCount = 0 ∨ c.lastCount = 64) → PoolForm s →
    (s.record r).count = 64 * (s.record r).chain.length →
    let tally : Take :=
      { c with check := textCheckFrom c.received c.check chars,
               received := c.received + chars.length, nextSeq := seq + 1,
               lastCount := chars.length, stall := some 90000 }
    let room := s.store.reservationCount + 1 + floorOf (s.record r).cls ≤ s.store.freeList.length
    (∀ b rest, c.overrun = false → s.store.freeList = b :: rest → (0 < s.store.reserved[k] ∨ room) →
      ∃ t, exec (.textReceived bytes) s = .next t ∧ t.takeCtx k = some tally ∧
        (∀ j, j ≠ k → t.takeCtx j = s.takeCtx j) ∧
        (t.record r).count = (s.record r).count + chars.length ∧
        (t.record r).chain = (s.record r).chain ++ [b] ∧ t.store.freeList = rest ∧
        t.store.reserved = s.store.reserved.set k (s.store.reserved[k] - 1) ∧
        (∀ i, i < chars.length →
          (chars[i]?).map (·.setWidth 8) = some (poolRead t.store.pool (64 * b.val + i))) ∧
        (∀ a, (a < 64 * b.val ∨ 64 * b.val + chars.length ≤ a) →
          poolRead t.store.pool a = poolRead s.store.pool a)) ∧
    (c.overrun = false → s.store.reserved[k] = 0 → ¬room → DeadCopiesServed s →
      ∃ t, exec (.textReceived bytes) s = .next t ∧
        t.takeCtx k = some { tally with overrun := true } ∧
        t.record r = { s.record r with overrun := true } ∧
        t.store.freeList = s.store.freeList ∧ t.store.pool = s.store.pool ∧
        t.sup.account = (s.sup.posted (.overrunHighway tag c.cls)).account) ∧
    (c.overrun = true →
      ∃ t, exec (.textReceived bytes) s = .next t ∧ OnlyPort s t ∧ t.takeCtx k = some tally ∧
        (∀ j, j ≠ k → t.takeCtx j = s.takeCtx j))

/-- R61, R106, R120, R122: a transfer being received that ends without an accepted CLOSE ends its record. A
TEXT out of sequence leaves ABANDON ORDER pending, the stall timer ABANDON STALL, a CLOSE that does not
match RECEIPT SPOILED; an ABANDON of side ORIGIN frees the context with an ended-take entry. The
reservation is released. R88, R89, R91, R123: a TEXT for a tag no take context holds is answered
NO_TRANSFER in the class of its ended-take entry, and ignored without one; in ANSWERING a TEXT or CLOSE
is ignored. -/
def Obligations.UnacceptedTransferEndsItsRecord : Prop :=
  (∀ (s : State) (bytes : List Byte) (k : CtxIx) (tag : Tag) (c : Take) (r : RecIx), TakesFrames s →
    tag.slot ≠ s.boot.slot → Receives s k tag c r →
    (∀ i kind,
      ((∃ seq chars, i = .textReceived bytes ∧ parseFrame bytes = some (.text tag seq chars) ∧
          (seq ≠ c.nextSeq ∨ c.lastCount ≠ 0 ∧ c.lastCount ≠ 64) ∧ kind = .abandon .order) ∨
        (i = .stallTimerExpiry k ∧ c.stall ≠ none ∧ kind = .abandon .stall) ∨
        ∃ total check o t m, i = .closeReceived bytes ∧
          parseFrame bytes = some (.close tag total check o t m) ∧
          (total ≠ c.received ∨ check ≠ c.check) ∧ kind = .spoiled) →
      ∃ t, exec i s = .next t ∧ RecordEnded s t r ∧ t.store.reserved = s.store.reserved.set k 0 ∧
        t.takeCtx k = some
          { c with stall := none, step := .answering, pending := some ⟨kind, s.port.stamp⟩ } ∧
        (∀ j, j ≠ k → t.takeCtx j = s.takeCtx j) ∧ t.store.pool = s.store.pool) ∧
    (∀ reason, reason.byOrigin = true → parseFrame bytes = some (.abandon tag reason) →
      ∃ t, exec (.abandonOriginReceived bytes) s = .next t ∧ RecordEnded s t r ∧
        t.store.reserved = s.store.reserved.set k 0 ∧ t.takeCtx k = none ∧
        (∀ j, j ≠ k → t.takeCtx j = s.takeCtx j) ∧ EndedAdded s t tag c.cls ∧
        t.store.pool = s.store.pool)) ∧
  (∀ (s : State) (bytes : List Byte) (tag : Tag), TakesFrames s → tag.slot ≠ s.boot.slot →
    (∀ seq chars, parseFrame bytes = some (.text tag seq chars) →
      (∀ k c, s.takeCtx k = some c → c.tag ≠ tag) →
      (∀ before e after, s.port.ended = before ++ e :: after → e.tag = tag →
        (∀ e' ∈ before, e'.tag ≠ tag) →
        ∃ t, exec (.textReceived bytes) s = .next t ∧ AnswerAdded s t tag .noTransfer e.cls) ∧
      ((∀ e ∈ s.port.ended, e.tag ≠ tag) → exec (.textReceived bytes) s = .next s)) ∧
    (∀ k c, TakeHolds s k tag c → c.phase = .taking → c.step = .answering →
      (∀ seq chars, parseFrame bytes = some (.text tag seq chars) →
        exec (.textReceived bytes) s = .next s) ∧
      (∀ total check o t m, parseFrame bytes = some (.close tag total check o t m) →
        exec (.closeReceived bytes) s = .next s)))

/-- R121, R51, R47: a CLOSE that matches the tally completes the record with its flags and mutilated count,
releases the reservation, leaves RECEIPT ACCEPTED pending, and puts a copy of stated length, whose line
can send, on its line. The record is STORED, its copy not yet settled. -/
def Obligations.MatchingCloseIsAccepted : Prop :=
  ∀ (s : State) (bytes : List Byte) (k : CtxIx) (tag : Tag) (c : Take) (r : RecIx) (o tr : Bool)
    (m : Nat) (x : Copy), TakesFrames s → tag.slot ≠ s.boot.slot → Receives s k tag c r →
    parseFrame bytes = some (.close tag c.received c.check o tr m) → CopyIs s ⟨r, 0⟩ x →
    x.state ≠ .settled →
    (x.state = .unrouted → ∀ n, x.line = some n → s.canSend n = true) →
    (x.state = .unrouted → ∀ m, ∀ e ∈ (s.line m).sched.queue ++ (s.line m).sched.stack,
      e.copy ≠ ⟨r, 0⟩) →
    ∃ t, exec (.closeReceived bytes) s = .next t ∧ (t.record r).state = .stored ∧
      (t.record r).complete = true ∧ (t.record r).overrun = ((s.record r).overrun || o) ∧
      (t.record r).truncated = ((s.record r).truncated || tr) ∧ (t.record r).mutilated = m ∧
      (t.record r).count = (s.record r).count ∧ (t.record r).chain = (s.record r).chain ∧
      t.store.reserved = s.store.reserved.set k 0 ∧ t.store.freeList = s.store.freeList ∧
      t.store.pool = s.store.pool ∧
      (∃ stamp, t.takeCtx k = some
        { c with stall := none, step := .answering, pending := some ⟨.accepted, stamp⟩ }) ∧
      (∀ j, j ≠ k → t.takeCtx j = s.takeCtx j) ∧
      (∀ n, x.state = .unrouted → x.line = some n →
        (t.copy ⟨r, 0⟩).state = .queued ∧ (∃ e ∈ (t.line n).sched.queue, e.copy = ⟨r, 0⟩) ∨
        (t.copy ⟨r, 0⟩).state = .sending ∧
          ∃ e, (t.line n).sched.current = some e ∧ e.copy = ⟨r, 0⟩)

/-- R114, R115, R105: RECEIPT ACCEPTED settles a copy in AWAIT_RECEIPT as HANDED and frees its send context,
here with no copy waiting for one. A RECEIPT in any other state of the copy, and a CLAIM_LOST outside a
running window without a claim, change nothing; inside it the window starts again. -/
def Obligations.ReceiptSettlesTheCopy : Prop :=
  ∀ (s : State) (bytes : List Byte) (k : CtxIx) (tag : Tag) (c : Send), TakesFrames s →
    tag.slot = s.boot.slot → s.tagLive tag = true → SendHolds s k tag.copyRef c →
    (parseFrame bytes = some (.receipt tag true) → (s.copy tag.copyRef).state = .awaitReceipt →
      MaySettle s tag.copyRef → s.router.waitList = [] →
      ∃ t, exec (.receiptReceived bytes) s = .next t ∧ SettlesAs s t tag.copyRef .handed ∧
        t.sendCtx k = none ∧ (∀ j, j ≠ k → t.sendCtx j = s.sendCtx j) ∧
        t.port.take = s.port.take ∧ t.lines = s.lines ∧ t.router = s.router ∧ t.sup = s.sup ∧
        t.store.pool = s.store.pool) ∧
    (∀ accepted, parseFrame bytes = some (.receipt tag accepted) →
      (s.copy tag.copyRef).state ≠ .awaitReceipt → exec (.receiptReceived bytes) s = .next s) ∧
    (parseFrame bytes = some (.abandon tag .claimLost) →
      (c.window ≠ none → c.taken = none →
        exec (.abandonTakerReceived bytes) s =
          .next { s with port := { s.port with
            send := s.port.send.set k (some { c with window := some 20 }) } }) ∧
      (c.window = none ∨ c.taken ≠ none → exec (.abandonTakerReceived bytes) s = .next s))

/-- R72, R73, R74, R75, R114, R116: a spoil, by RECEIPT SPOILED or the receipt wait in AWAIT_RECEIPT or by a
taker's ABANDON ORDER, STALL or NO_TRANSFER, raises the spoil count and offers the copy again at the
attempt of R73's table, where no line of the card then serves it; the third spoil or an attempt above 15
makes it dead. No copy waits here for a context. -/
def Obligations.SpoilOffersAgainOrKills : Prop :=
  ∀ (s : State) (bytes : List Byte) (k : CtxIx) (tag : Tag) (c : Send) (x : Copy) (i : Instr),
    TakesFrames s → tag.slot = s.boot.slot → s.tagLive tag = true → SendHolds s k tag.copyRef c →
    CopyIs s tag.copyRef x → s.router.waitList = [] →
    (i = .receiptReceived bytes ∧ parseFrame bytes = some (.receipt tag false) ∧
        x.state = .awaitReceipt ∨
      i = .receiptWaitExpiry k ∧ c.receiptWait ≠ none ∧ x.state = .awaitReceipt ∨
      (∃ reason, i = .abandonTakerReceived bytes ∧ reason ∈ [Reason.order, .stall, .noTransfer] ∧
        parseFrame bytes = some (.abandon tag reason) ∧
        (x.state = .streaming ∨ x.state = .awaitReceipt))) →
    let spoil := min (x.spoil + 1) 2
    let next := if x.spoil = 0 then x.attempt + 1 else max (x.attempt + 1) s.boot.cfg.threshold
    (x.spoil < 2 → next ≤ 15 → s.localLine x.station = none →
      (s.boot.cfg.threshold ≤ next → s.interceptLine = none) →
      ∃ t, exec i s = .next t ∧
        OffersAgain s t k tag.copyRef { x with attempt := next, spoil := spoil }) ∧
    ((2 ≤ x.spoil ∨ 15 < next) →
      ∃ t, exec i s = .next t ∧ GoesDead s t k tag.copyRef ∧
        (t.copy tag.copyRef).attempt = x.attempt ∧ (t.copy tag.copyRef).spoil = spoil)

/-! ### The highway: timers -/

/-- R86, R87, R104: the continuation window's expiry ends the tenure. The claim window's expiry with a claim
taken only stops the window; without one the copy waits in BACKOFF for min(250 × 2^(k − 1), 8,000) ms
after attempt k below 15, and is dead after attempt 15 (R72), here with no copy waiting for a context.
That the burst count is 0 after the tenure is the model's choice (log 20). -/
def Obligations.WindowsExpire : Prop :=
  (∀ (s : State) (k : CtxIx), s.running = true → s.port.tenure = .window k →
    ∃ t, exec .continuationWindowExpiry s = .next t ∧ OnlyPort s t ∧ t.port.burst = 0 ∧
      t.port.tenure = (if t.waiting = [] then .out else .contending) ∧
      t.port.send = s.port.send ∧ t.port.take = s.port.take ∧
      t.port.answers = s.port.answers ∧ t.port.ended = s.port.ended) ∧
  ∀ (s : State) (k : CtxIx) (c : Send), s.running = true → s.sendCtx k = some c →
    c.window ≠ none →
    (c.taken ≠ none →
      ∃ t, exec (.claimWindowExpiry k) s = .next t ∧ OnlyPort s t ∧
        t.port = { s.port with send := s.port.send.set k (some { c with window := none }) }) ∧
    (∀ x, c.taken = none → CopyIs s c.copy x → x.state ≠ .settled →
      (x.attempt ≠ 15 →
        ∃ t, exec (.claimWindowExpiry k) s = .next t ∧
          t.sendCtx k = some
            { c with window := none, backoff := some (min (250 * 2 ^ (x.attempt - 1)) 8000) } ∧
          CopyIs t c.copy { x with state := .backoff } ∧
          (∀ ref, ref ≠ c.copy → t.copy ref = s.copy ref) ∧
          (∀ j, j ≠ k → t.sendCtx j = s.sendCtx j) ∧ t.port.take = s.port.take ∧
          t.lines = s.lines ∧ t.router = s.router ∧ t.sup = s.sup) ∧
      (x.attempt = 15 → s.router.waitList = [] →
        ∃ t, exec (.claimWindowExpiry k) s = .next t ∧ GoesDead s t k c.copy))

/-- R72, R74, R96: the end of the backoff wait offers the copy again at the next attempt where no line of
the card serves it, and binds it to the line of its station where one does, the context then FREE: it joins
the copy of its record that is bound there already, whatever its number (DEDUCED, log 11), on no queue of
its own, and else stands on the line. R66,
R68, R69, R70, R71, R77, R94: the hold-off's end empties the restart list. Of the copies on it that no
line of the card serves the first ones start a new series in the FREE send contexts, lowest first, at
attempt 1, or at the threshold for an intercept copy, and the others make up the wait list in their
order. A copy that a line serves, or an intercept copy with an intercept line, stands on that line. On a
list that holds both kinds, a copy that a line serves takes no context; it joins the copy of its record that
stands there, bound before or from a place further up the list (R56, R67), and the others go ahead of those
that wait already. -/
def Obligations.WaitsEndInOffers : Prop :=
  (∀ (s : State) (k : CtxIx) (c : Send) (x : Copy), s.running = true → s.sendCtx k = some c →
    c.backoff ≠ none → CopyIs s c.copy x → x.state ≠ .settled →
    (s.localLine x.station = none →
      (s.boot.cfg.threshold ≤ x.attempt + 1 → s.interceptLine = none) →
      ∃ t, exec (.backoffWaitExpiry k) s = .next t ∧
        OffersAgain s t k c.copy { x with attempt := x.attempt + 1 }) ∧
    (∀ n, s.localLine x.station = some n → s.router.waitList = [] →
      ((∀ i, ¬BoundThere s n c.copy i) →
        ∃ t, exec (.backoffWaitExpiry k) s = .next t ∧ t.sendCtx k = none ∧
          (t.copy c.copy).line = some n ∧ (t.copy c.copy).attempt = x.attempt ∧
          StandsOn t n c.copy) ∧
      ∀ i, BoundThere s n c.copy i → (∀ j, j < i → ¬BoundThere s n c.copy j) →
        ∃ t, exec (.backoffWaitExpiry k) s = .next t ∧ t.sendCtx k = none ∧
          (∀ j, j ≠ k → t.sendCtx j = s.sendCtx j) ∧
          (t.copy c.copy).line = some n ∧ (t.copy c.copy).joinedWith = some i ∧
          (t.copy c.copy).attempt = x.attempt ∧
          t.copyState c.copy = (s.copy ⟨c.copy.record, i⟩).state ∧ t.lines = s.lines ∧
          t.router = s.router ∧ t.sup = s.sup)) ∧
  (∀ (s : State), s.running = true → s.port.holdOff ≠ none → s.router.waitList = [] →
    let refs := s.router.restartList
    let free := (List.finRange 4).filter fun k => (s.sendCtx k).isNone
    (refs = [] →
      exec .holdOffExpiry s = .next { s with port := { s.port with holdOff := none } }) ∧
    (refs.Nodup →
      (∀ ref ∈ refs, ∃ x, CopyIs s ref x ∧ x.state ≠ .settled ∧ s.localLine x.station = none ∧
        (x.station = [0, 0, 0, 0] → s.interceptLine = none)) →
      ∃ t, exec .holdOffExpiry s = .next t ∧ t.port.holdOff = none ∧ t.router.restartList = [] ∧
        t.router.waitList = refs.drop free.length ∧ t.router.deadList = s.router.deadList ∧
        t.lines = s.lines ∧ t.sup = s.sup ∧ t.port.take = s.port.take ∧
        (∀ ref k x, (ref, k) ∈ refs.zip free → CopyIs s ref x →
          OffersCopy t k ref ∧
          CopyIs t ref
            { x with state := .backoff, spoil := 0,
                     attempt :=
                       if x.station = [0, 0, 0, 0] then s.boot.cfg.threshold else 1 }) ∧
        (∀ ref x, ref ∈ refs.drop free.length → CopyIs s ref x →
          CopyIs t ref { x with state := .backoff, spoil := 0, attempt := 0 }) ∧
        (∀ k, k ∉ free.take refs.length → t.sendCtx k = s.sendCtx k)) ∧
    (∀ ref x n, refs = [ref] → CopyIs s ref x → x.state ≠ .settled → x.joinedWith = none →
      (x.station = [0, 0, 0, 0] ∧ s.interceptLine = some n ∨
        x.station ≠ [0, 0, 0, 0] ∧ s.localLine x.station = some n) →
      (∀ i, ¬BoundThere s n ref i) →
      ∃ t, exec .holdOffExpiry s = .next t ∧ t.port.holdOff = none ∧ t.router.restartList = [] ∧
        t.router.waitList = [] ∧ StandsOn t n ref ∧ (t.copy ref).line = some n ∧
        (t.copy ref).attempt = 0 ∧ (t.copy ref).spoil = 0 ∧ t.port.send = s.port.send ∧
        t.sup = s.sup)) ∧
  ∀ (s : State), s.running = true → s.port.holdOff ≠ none → s.localLine [0, 0, 0, 0] = none →
    let refs := s.router.restartList
    let free := (List.finRange 4).filter fun k => (s.sendCtx k).isNone
    let serving (ref : CopyRef) : Option Line :=
      if (s.copy ref).station = [0, 0, 0, 0] then s.interceptLine else s.localLine (s.copy ref).station
    let waiting := refs.filter (fun ref => (serving ref).isNone) ++ s.router.waitList
    (refs ++ s.router.waitList).Nodup →
    (∀ ref ∈ refs ++ s.router.waitList, ∃ x, CopyIs s ref x ∧ x.state ≠ .settled ∧
      x.joinedWith = none ∧ x.line = none ∧ ∀ m, ∀ e, e ∈ (s.line m).sched.queue ++
        (s.line m).sched.stack ∨ (s.line m).sched.current = some e → e.copy ≠ ref) →
    (∀ ref ∈ s.router.waitList, s.localLine (s.copy ref).station = none) →
    ∃ t, exec .holdOffExpiry s = .next t ∧ t.port.holdOff = none ∧ t.router.restartList = [] ∧
      t.router.waitList = waiting.drop free.length ∧ t.router.deadList = s.router.deadList ∧
      t.sup = s.sup ∧ t.port.take = s.port.take ∧
      (∀ ref k, (ref, k) ∈ waiting.zip free → OffersCopy t k ref ∧
        (t.copy ref).attempt =
          if (s.copy ref).station = [0, 0, 0, 0] then s.boot.cfg.threshold else 1) ∧
      (∀ k, k ∉ free.take waiting.length → t.sendCtx k = s.sendCtx k) ∧
      ∀ before ref after n, refs = before ++ ref :: after → serving ref = some n →
        let bound (i : CopyIx) := BoundThere s n ref i ∨
          (⟨ref.record, i⟩ : CopyRef) ∈ before ∧ serving ⟨ref.record, i⟩ = some n ∧
            (t.copy ⟨ref.record, i⟩).joinedWith = none
        (t.copy ref).line = some n ∧ (t.copy ref).attempt = 0 ∧ (t.copy ref).spoil = 0 ∧
        ((∀ i, ¬bound i) → StandsOn t n ref ∧ (t.copy ref).joinedWith = none) ∧
        ∀ i, bound i → (∀ j, j < i → ¬bound j) → (t.copy ref).joinedWith = some i

/-! ### The supervisor unit -/

/-- R158: a posting is taken by the places free and the lost-notice count; NOTICES LOST carries the count. -/
def Obligations.PostingTable : Prop :=
  ∀ (u : Supervisor) (n : Notice),
    let places := 16 - u.queue.length
    let counted := if u.lost < 255 then u.lost + 1 else 255
    (places = 0 → u.posted n = { u with lost := counted }) ∧
    (places = 1 → u.lost = 0 → u.posted n = { u with queue := u.queue ++ [.notice n] }) ∧
    (places = 1 → 0 < u.lost →
      u.posted n = { u with queue := u.queue ++ [.notice (.noticesLost counted)], lost := 0 }) ∧
    (2 ≤ places → u.lost = 0 → u.posted n = { u with queue := u.queue ++ [.notice n] }) ∧
    (2 ≤ places → 0 < u.lost →
      u.posted n =
        { u with queue := u.queue ++ [.notice (.noticesLost u.lost), .notice n], lost := 0 })

/-- R12, R13, R14, R161, R162, R164: the supervisor's idle shift stage takes the held character, or first
its case restore, and the next one is asked for; the line case follows each character sent. R162, R164:
a supervisor fill is counted in the dead copy's fill count, and more fill or the held character follows. -/
def Obligations.SupervisorSendsItsCharacters : Prop :=
  ((∀ (s : State) (x : TxChar), s.running = true → s.sup.tx.shift = none →
    s.sup.tx.holding = some x →
    ∃ t, exec .supervisorShiftBegin s = .next t ∧ OnlySup s t ∧
      (∃ y, t.sup.tx.shift = some y ∧ TakenFrom s.sup.tx.textCase s.sup.tx.lineCase x y) ∧
      t.sup.account = s.sup.account ∧ t.sup.tx.lineCase = s.sup.tx.lineCase ∧
      (∀ y rest, x.role ≠ .text → s.sup.phase = .line → s.sup.composed = y :: rest → rest ≠ [] →
        y.need = none →
        t.sup.tx.holding = some ⟨y.code, .composed, 0, y.last⟩ ∧ t.sup.composed = rest)) ∧
  ∀ (s : State) (x : TxChar), s.running = true → s.sup.tx.shift = some x → x.role ≠ .fill →
    x.last = false →
    ∃ t, exec .supervisorCharacterSent s = .next t ∧ OnlySup s t ∧
      t.sup.account = s.sup.account ∧ t.sup.tx.lineCase = caseAfter x.code s.sup.tx.lineCase ∧
      (∀ h, s.sup.tx.holding = some h →
        ∃ y, t.sup.tx.shift = some y ∧
          TakenFrom (textCaseAfter x s.sup.tx.textCase) (caseAfter x.code s.sup.tx.lineCase) h y) ∧
      (s.sup.tx.holding = none → s.sup.midText = true →
        t.sup.tx.shift = some ⟨31, .fill, 0, false⟩)) ∧
  (∀ (s : State) (x : TxChar) (ref : CopyRef) (g : Gen) (rest : List Item) (c : Copy),
    s.running = true → s.sup.tx.shift = some x → x.role = .fill →
    s.sup.queue = .dead ref g :: rest → s.sup.discarded = false → s.sup.phase = .text →
    CopyIs s ref c →
    ∃ t, exec .supervisorFillSent s = .next t ∧ (t.copy ref).fill = min 65535 (c.fill + 1) ∧
      (∀ other, other ≠ ref → t.copy other = s.copy other) ∧
      t.sup.account = s.sup.account ∧
      (s.sup.midText = true → s.sup.tx.holding = none →
        t.sup.tx.shift = some ⟨31, .fill, 0, false⟩) ∧
      (∀ h, s.sup.tx.holding = some h →
        ∃ y, t.sup.tx.shift = some y ∧
          TakenFrom s.sup.tx.textCase (caseAfter x.code s.sup.tx.lineCase) h y) ∧
      t.lines = s.lines ∧ t.port = s.port ∧ t.router = s.router ∧
      t.store.freeList = s.store.freeList ∧ t.store.pool = s.store.pool)

/-- R157, R161, R162, R163: with its last character sent an item leaves the queue: a notice goes without a
trace, a dead copy settles PRINTED, one whose record was freed is not settled, and the next item begins
or the unit is IDLE. No copy waits here for the free place. -/
def Obligations.PrintedItemLeavesTheQueue : Prop :=
  ∀ (s : State) (x : TxChar) (item : Item) (rest : List Item), s.running = true →
    s.sup.tx.shift = some x → x.role ≠ .fill → x.last = true → s.sup.queue = item :: rest →
    s.router.deadList = [] →
    ((∃ n, item = .notice n) ∨ s.sup.discarded = true →
      ∃ t, exec .supervisorCharacterSent s = .next t ∧ OnlySup s t ∧ t.sup.queue = rest ∧
        t.sup.lost = s.sup.lost ∧
        t.sup.phase = (if rest = [] then .idle else .line)) ∧
    (∀ ref g, item = .dead ref g → s.sup.discarded = false → s.sup.phase = .tail →
      MaySettle s ref →
      ∃ t, exec .supervisorCharacterSent s = .next t ∧ SettlesAs s t ref .printed ∧
        t.sup.queue = rest ∧ t.sup.lost = s.sup.lost ∧
        t.sup.phase = (if rest = [] then .idle else .line) ∧ t.lines = s.lines ∧
        t.port = s.port ∧ t.router = s.router ∧ t.store.pool = s.store.pool)

/-- R75, R160, R157, R158: a place that falls free goes to the dead copies that wait, from the head of the list,
one place each; a copy that takes the place of an empty queue is printed. Only where a notice seeks the
place at the same moment, which in the model is the notice of the command that waits next (log 31), may
either be taken first, and a free choice for each place says which: the first place that it gives to the
notice is left to it, with what is left behind it. A notice that is posted takes its place by R158's
table, and the dead copies then take the places that are left. -/
def Obligations.FreePlacesGoToDeadCopiesOrNotices : Prop :=
  let items (s : State) (refs : List CopyRef) : List Item :=
    refs.map fun ref => .dead ref (s.record ref.record).gen
  let handed (s t : State) (refs : List CopyRef) : Prop :=
    (∀ ref ∈ refs, ∀ x, CopyIs s ref x → x.state ≠ .settled →
      CopyIs t ref { x with state := .deadQueued }) ∧
    ∀ ref, ref ∉ refs → t.copy ref = s.copy ref
  (∀ (s : State) (x : TxChar) (n : Notice) (rest : List Item), s.running = true →
    s.sup.tx.shift = some x → x.role ≠ .fill → x.last = true →
    s.sup.queue = .notice n :: rest → rest.length ≤ 15 → s.router.deadList ≠ [] →
    let room := min s.router.deadList.length (16 - rest.length)
    let sought := ∃ c waiting, s.pending = c :: waiting ∧ s.posts c = true
    let taken (t : State) (k : Nat) :=
      t.sup.queue = rest ++ items s (s.router.deadList.take k) ∧
      t.router.deadList = s.router.deadList.drop k ∧ handed s t (s.router.deadList.take k) ∧
      t.sup.phase = (if t.sup.queue = [] then .idle else .line)
    ∃ t, exec .supervisorCharacterSent s = .next t ∧ t.sup.lost = s.sup.lost ∧
      (¬sought → taken t room) ∧
      (sought → ∀ k, k ≤ room → (∀ i, i < k → Config.noticeFirst (s.choices + i) = false) →
        (k = room ∨ Config.noticeFirst (s.choices + k) = true) → taken t k) ∧
      t.router.waitList = s.router.waitList ∧ t.lines = s.lines ∧ t.port = s.port ∧
      t.store.freeList = s.store.freeList ∧ t.store.pool = s.store.pool) ∧
  (∀ (s : State), (s.posts .restartKeyPress = true ↔ s.running = true ∧ s.boot.keyArmed = true) ∧
    (∀ n pin, s.posts (.openTimerExpiry n pin) = true ↔
      s.running = true ∧ keepsCond (s.mode n) pin = true ∧ ((s.line n).cond pin).openTimer ≠ none ∧
        ((s.line n).cond pin).value = .open) ∧
    (∀ n pin, s.posts (.markingTimerExpiry n pin) = true ↔
      s.running = true ∧ keepsCond (s.mode n) pin = true ∧
        ((s.line n).cond pin).markingTimer ≠ none ∧ ((s.line n).cond pin).value = .failed)) ∧
  ∀ (s : State) (n : Notice),
    let u := s.sup.posted n
    let refs := s.router.deadList.take (16 - u.queue.length)
    (s.post n).sup.queue = u.queue ++ items s refs ∧ (s.post n).sup.lost = u.lost ∧
    (s.post n).router.deadList = s.router.deadList.drop (16 - u.queue.length) ∧
    handed s (s.post n) refs ∧
    (s.post n).lines = s.lines ∧ (s.post n).port = s.port ∧
    (s.post n).store.freeList = s.store.freeList ∧ (s.post n).store.pool = s.store.pool

/-- R163, R61, R106: the dead copy of a TAKING record that an ABANDON of side ORIGIN frees is discarded where
it stands: it leaves the dead wait list, or the queue when it is not its head. At the head it keeps its
place: in LINE and in TAIL what is composed goes out; in TEXT no more text is loaded, the copy is mid-text
no longer, and the tail with the incomplete group answers an outstanding request. No notice is posted.
No other dead copy waits here for a place. -/
def Obligations.DeadCopiesOfFreedRecordsAreDiscarded : Prop :=
  ∀ (s : State) (bytes : List Byte) (k : CtxIx) (tag : Tag) (c : Take) (r : RecIx) (reason : Reason),
    TakesFrames s → tag.slot ≠ s.boot.slot → Receives s k tag c r → reason.byOrigin = true →
    parseFrame bytes = some (.abandon tag reason) → (s.copy ⟨r, 0⟩).channel = none →
    (∀ ref ∈ s.router.deadList, ref.record = r) →
    let other (i : Item) : Bool := match i with
      | .dead ref g => ref.record ≠ r || g ≠ (s.record r).gen
      | .notice _ => true
    let tail : List Code := [8, 2] ++ s.boot.cfg.codes.incomplete ++ [8, 2]
    ∃ t, exec (.abandonOriginReceived bytes) s = .next t ∧ RecordEnded s t r ∧
      t.router.deadList = [] ∧ t.sup.lost = s.sup.lost ∧
      (s.sup.queue = [] → t.sup = s.sup) ∧
      ∀ head rest, s.sup.queue = head :: rest →
        t.sup.queue = head :: rest.filter other ∧
        (other head = true ∨ s.sup.discarded = true →
          t.sup = { s.sup with queue := t.sup.queue }) ∧
        (other head = false → s.sup.discarded = false →
          (s.sup.phase ≠ .text →
            t.sup = { s.sup with queue := t.sup.queue, discarded := true }) ∧
          (s.sup.phase = .text →
            t.sup.discarded = true ∧ t.sup.phase = .tail ∧ t.sup.midText = false ∧
            (s.sup.outstanding = false →
              t.sup.tx = s.sup.tx ∧ t.sup.composed.map (·.code) = tail) ∧
            (s.sup.outstanding = true →
              t.sup.outstanding = false ∧ t.sup.tx.holding = some ⟨8, .composed, 0, false⟩ ∧
              t.sup.composed.map (·.code) = tail.drop 1)))

/-! ### Formats and the store's tests -/

/-- R113: the text check is the sum of each code times (index mod 7) + 1, mod 65,536, and 0 of no
characters. The origin sends it in its CLOSE, and the taker reaches it by adding TEXT after TEXT. -/
def Obligations.TextCheckIsTheWeightedSum : Prop :=
  let sum (cs : List Code) := (cs.zipIdx.map fun p => p.1.toNat * (p.2 % 7 + 1)).sum % 65536
  (∀ cs : List Code, textCheck cs = sum cs) ∧
  (∀ (s : State) (c : Send), s.composeSend c .close =
    .close (s.tagOfCopy c.copy) (s.record c.copy.record).count (sum (s.text c.copy.record))
      (s.record c.copy.record).overrun (s.record c.copy.record).truncated
      (s.record c.copy.record).mutilated) ∧
  ∀ (c : Take) (before chars : List Code), c.received = before.length → c.check = sum before →
    (c.tallied chars).received = (before ++ chars).length ∧
    (c.tallied chars).check = sum (before ++ chars)

/-- R48: a request that lowers the available count is admitted when the available count after it is at least
the floor of its class, 0, 12, 32 or 64; a record in use (R51) is granted a block of the context's own
reservation always. -/
def Obligations.AdmissionByTheFloorOfTheClass : Prop :=
  (∀ (st : Store) (cls : Precedence) (cost : Nat),
    let floor : Int := match cls with
      | .order => 0
      | .running => 12
      | .general => 32
      | .bulk => 64
    st.admits cls cost = true ↔
      floor ≤ (st.freeList.length : Int) - (st.reservationCount : Int) - (cost : Int)) ∧
  (Precedence.order.value = 3 ∧ Precedence.running.value = 2 ∧ Precedence.general.value = 1 ∧
    Precedence.bulk.value = 0) ∧
  ∀ (s : State) (k : CtxIx) (r : RecIx),
    (s.record r).state ≠ .free →
    ((s.allocateBlock r).isSome = true ↔ s.store.admits (s.record r).cls 1 = true) ∧
    (0 < s.store.reserved[k] → s.store.freeList ≠ [] → (s.relayedBlock k r).isSome = true) ∧
    (s.store.reserved[k] = 0 → s.relayedBlock k r = s.allocateBlock r)

/-! ### Invariants that every command keeps -/

/-- Section 3.1, R43, and the canonical form of log 8: every command keeps the pool's form. R44, R45, R47,
R59, R60: every command keeps each of the 192 blocks in exactly one place among the free list and the
chains, FREE records without a chain, and the reservation count within the free list's length. -/
def Obligations.EveryCommandKeepsTheStore : Prop :=
  (∀ (s t : State), PoolForm s → step s = .next t → PoolForm t) ∧
  (∀ (s t : State), StoreAccounts s → step s = .next t → StoreAccounts t)

/-- R88, R89, R157, R158: every command keeps the answer list, the ended-take list, the supervisor queue and
the lost-notice count within their bounds and without repeats. R29, R131: every command keeps the
channel counters and the inbound expectations within 1 to 999. R148, R149: every command keeps the
turnaround timer running exactly while the state is WAITING, the shared condition CLOSED, the assembler in
HUNT and LOOPn_IN marking. R8, R9: every command keeps each receiver whose condition is not CLOSED in
WAIT_MARK, and open timers running only in OPEN. -/
def Obligations.EveryCommandKeepsBoundsAndTimes : Prop :=
  ((∀ (s t : State), ListsBounded s → step s = .next t → ListsBounded t) ∧
  (∀ (s t : State), ChannelsBounded s → step s = .next t → ChannelsBounded t)) ∧
  ((∀ (s t : State), TurnaroundTimed s → step s = .next t → TurnaroundTimed t) ∧
  (∀ (s t : State), ReceiverRests s → step s = .next t → ReceiverRests t))
end

