-- ==== Sys2Proof/Laws/State.lean ====
section
/-! SUPPORT. What each update of the state leaves and sets: one lemma per field per update. -/

set_option linter.unusedTactic false
set_option linter.unreachableTactic false

namespace Sys2Proof.Machine

/-! ### Whole components -/

@[simp] theorem State.modLine_pending (s : State) (n : Line) (f : LineUnit → LineUnit) : (s.modLine n f).pending = s.pending := rfl
@[simp] theorem State.modLine_choices (s : State) (n : Line) (f : LineUnit → LineUnit) : (s.modLine n f).choices = s.choices := rfl
@[simp] theorem State.modLine_boot (s : State) (n : Line) (f : LineUnit → LineUnit) : (s.modLine n f).boot = s.boot := rfl
@[simp] theorem State.modLine_lines (s : State) (n : Line) (f : LineUnit → LineUnit) : (s.modLine n f).lines = s.lines.set n (f (s.lines[n])) := rfl
@[simp] theorem State.modLine_store (s : State) (n : Line) (f : LineUnit → LineUnit) : (s.modLine n f).store = s.store := rfl
@[simp] theorem State.modLine_router (s : State) (n : Line) (f : LineUnit → LineUnit) : (s.modLine n f).router = s.router := rfl
@[simp] theorem State.modLine_port (s : State) (n : Line) (f : LineUnit → LineUnit) : (s.modLine n f).port = s.port := rfl
@[simp] theorem State.modLine_sup (s : State) (n : Line) (f : LineUnit → LineUnit) : (s.modLine n f).sup = s.sup := rfl
@[simp] theorem State.modSched_pending (s : State) (n : Line) (f : Sched → Sched) : (s.modSched n f).pending = s.pending := rfl
@[simp] theorem State.modSched_choices (s : State) (n : Line) (f : Sched → Sched) : (s.modSched n f).choices = s.choices := rfl
@[simp] theorem State.modSched_boot (s : State) (n : Line) (f : Sched → Sched) : (s.modSched n f).boot = s.boot := rfl
@[simp] theorem State.modSched_store (s : State) (n : Line) (f : Sched → Sched) : (s.modSched n f).store = s.store := rfl
@[simp] theorem State.modSched_router (s : State) (n : Line) (f : Sched → Sched) : (s.modSched n f).router = s.router := rfl
@[simp] theorem State.modSched_port (s : State) (n : Line) (f : Sched → Sched) : (s.modSched n f).port = s.port := rfl
@[simp] theorem State.modSched_sup (s : State) (n : Line) (f : Sched → Sched) : (s.modSched n f).sup = s.sup := rfl
@[simp] theorem State.modAsm_pending (s : State) (n : Line) (f : Assembler → Assembler) : (s.modAsm n f).pending = s.pending := rfl
@[simp] theorem State.modAsm_choices (s : State) (n : Line) (f : Assembler → Assembler) : (s.modAsm n f).choices = s.choices := rfl
@[simp] theorem State.modAsm_boot (s : State) (n : Line) (f : Assembler → Assembler) : (s.modAsm n f).boot = s.boot := rfl
@[simp] theorem State.modAsm_store (s : State) (n : Line) (f : Assembler → Assembler) : (s.modAsm n f).store = s.store := rfl
@[simp] theorem State.modAsm_router (s : State) (n : Line) (f : Assembler → Assembler) : (s.modAsm n f).router = s.router := rfl
@[simp] theorem State.modAsm_port (s : State) (n : Line) (f : Assembler → Assembler) : (s.modAsm n f).port = s.port := rfl
@[simp] theorem State.modAsm_sup (s : State) (n : Line) (f : Assembler → Assembler) : (s.modAsm n f).sup = s.sup := rfl
@[simp] theorem State.modTx_pending (s : State) (n : Line) (f : Tx → Tx) : (s.modTx n f).pending = s.pending := rfl
@[simp] theorem State.modTx_choices (s : State) (n : Line) (f : Tx → Tx) : (s.modTx n f).choices = s.choices := rfl
@[simp] theorem State.modTx_boot (s : State) (n : Line) (f : Tx → Tx) : (s.modTx n f).boot = s.boot := rfl
@[simp] theorem State.modTx_store (s : State) (n : Line) (f : Tx → Tx) : (s.modTx n f).store = s.store := rfl
@[simp] theorem State.modTx_router (s : State) (n : Line) (f : Tx → Tx) : (s.modTx n f).router = s.router := rfl
@[simp] theorem State.modTx_port (s : State) (n : Line) (f : Tx → Tx) : (s.modTx n f).port = s.port := rfl
@[simp] theorem State.modTx_sup (s : State) (n : Line) (f : Tx → Tx) : (s.modTx n f).sup = s.sup := rfl
@[simp] theorem State.modMotor_pending (s : State) (n : Line) (f : Motor → Motor) : (s.modMotor n f).pending = s.pending := rfl
@[simp] theorem State.modMotor_choices (s : State) (n : Line) (f : Motor → Motor) : (s.modMotor n f).choices = s.choices := rfl
@[simp] theorem State.modMotor_boot (s : State) (n : Line) (f : Motor → Motor) : (s.modMotor n f).boot = s.boot := rfl
@[simp] theorem State.modMotor_store (s : State) (n : Line) (f : Motor → Motor) : (s.modMotor n f).store = s.store := rfl
@[simp] theorem State.modMotor_router (s : State) (n : Line) (f : Motor → Motor) : (s.modMotor n f).router = s.router := rfl
@[simp] theorem State.modMotor_port (s : State) (n : Line) (f : Motor → Motor) : (s.modMotor n f).port = s.port := rfl
@[simp] theorem State.modMotor_sup (s : State) (n : Line) (f : Motor → Motor) : (s.modMotor n f).sup = s.sup := rfl
@[simp] theorem State.modStore_pending (s : State) (f : Store → Store) : (s.modStore f).pending = s.pending := rfl
@[simp] theorem State.modStore_choices (s : State) (f : Store → Store) : (s.modStore f).choices = s.choices := rfl
@[simp] theorem State.modStore_boot (s : State) (f : Store → Store) : (s.modStore f).boot = s.boot := rfl
@[simp] theorem State.modStore_lines (s : State) (f : Store → Store) : (s.modStore f).lines = s.lines := rfl
@[simp] theorem State.modStore_store (s : State) (f : Store → Store) : (s.modStore f).store = f s.store := rfl
@[simp] theorem State.modStore_router (s : State) (f : Store → Store) : (s.modStore f).router = s.router := rfl
@[simp] theorem State.modStore_port (s : State) (f : Store → Store) : (s.modStore f).port = s.port := rfl
@[simp] theorem State.modStore_sup (s : State) (f : Store → Store) : (s.modStore f).sup = s.sup := rfl
@[simp] theorem State.modRouter_pending (s : State) (f : Router → Router) : (s.modRouter f).pending = s.pending := rfl
@[simp] theorem State.modRouter_choices (s : State) (f : Router → Router) : (s.modRouter f).choices = s.choices := rfl
@[simp] theorem State.modRouter_boot (s : State) (f : Router → Router) : (s.modRouter f).boot = s.boot := rfl
@[simp] theorem State.modRouter_lines (s : State) (f : Router → Router) : (s.modRouter f).lines = s.lines := rfl
@[simp] theorem State.modRouter_store (s : State) (f : Router → Router) : (s.modRouter f).store = s.store := rfl
@[simp] theorem State.modRouter_router (s : State) (f : Router → Router) : (s.modRouter f).router = f s.router := rfl
@[simp] theorem State.modRouter_port (s : State) (f : Router → Router) : (s.modRouter f).port = s.port := rfl
@[simp] theorem State.modRouter_sup (s : State) (f : Router → Router) : (s.modRouter f).sup = s.sup := rfl
@[simp] theorem State.modPort_pending (s : State) (f : Port → Port) : (s.modPort f).pending = s.pending := rfl
@[simp] theorem State.modPort_choices (s : State) (f : Port → Port) : (s.modPort f).choices = s.choices := rfl
@[simp] theorem State.modPort_boot (s : State) (f : Port → Port) : (s.modPort f).boot = s.boot := rfl
@[simp] theorem State.modPort_lines (s : State) (f : Port → Port) : (s.modPort f).lines = s.lines := rfl
@[simp] theorem State.modPort_store (s : State) (f : Port → Port) : (s.modPort f).store = s.store := rfl
@[simp] theorem State.modPort_router (s : State) (f : Port → Port) : (s.modPort f).router = s.router := rfl
@[simp] theorem State.modPort_port (s : State) (f : Port → Port) : (s.modPort f).port = f s.port := rfl
@[simp] theorem State.modPort_sup (s : State) (f : Port → Port) : (s.modPort f).sup = s.sup := rfl
@[simp] theorem State.modSup_pending (s : State) (f : Supervisor → Supervisor) : (s.modSup f).pending = s.pending := rfl
@[simp] theorem State.modSup_choices (s : State) (f : Supervisor → Supervisor) : (s.modSup f).choices = s.choices := rfl
@[simp] theorem State.modSup_boot (s : State) (f : Supervisor → Supervisor) : (s.modSup f).boot = s.boot := rfl
@[simp] theorem State.modSup_lines (s : State) (f : Supervisor → Supervisor) : (s.modSup f).lines = s.lines := rfl
@[simp] theorem State.modSup_store (s : State) (f : Supervisor → Supervisor) : (s.modSup f).store = s.store := rfl
@[simp] theorem State.modSup_router (s : State) (f : Supervisor → Supervisor) : (s.modSup f).router = s.router := rfl
@[simp] theorem State.modSup_port (s : State) (f : Supervisor → Supervisor) : (s.modSup f).port = s.port := rfl
@[simp] theorem State.modSup_sup (s : State) (f : Supervisor → Supervisor) : (s.modSup f).sup = f s.sup := rfl
@[simp] theorem State.chosen_pending (s : State) : s.chosen.pending = s.pending := rfl
@[simp] theorem State.chosen_boot (s : State) : s.chosen.boot = s.boot := rfl
@[simp] theorem State.chosen_lines (s : State) : s.chosen.lines = s.lines := rfl
@[simp] theorem State.chosen_store (s : State) : s.chosen.store = s.store := rfl
@[simp] theorem State.chosen_router (s : State) : s.chosen.router = s.router := rfl
@[simp] theorem State.chosen_port (s : State) : s.chosen.port = s.port := rfl
@[simp] theorem State.chosen_sup (s : State) : s.chosen.sup = s.sup := rfl
@[simp] theorem State.chosen_choices (s : State) : s.chosen.choices = s.choices + 1 := rfl
@[simp] theorem State.modRecord_pending (s : State) (r : RecIx) (f : Record → Record) : (s.modRecord r f).pending = s.pending := rfl
@[simp] theorem State.modRecord_choices (s : State) (r : RecIx) (f : Record → Record) : (s.modRecord r f).choices = s.choices := rfl
@[simp] theorem State.modRecord_boot (s : State) (r : RecIx) (f : Record → Record) : (s.modRecord r f).boot = s.boot := rfl
@[simp] theorem State.modRecord_lines (s : State) (r : RecIx) (f : Record → Record) : (s.modRecord r f).lines = s.lines := rfl
@[simp] theorem State.modRecord_router (s : State) (r : RecIx) (f : Record → Record) : (s.modRecord r f).router = s.router := rfl
@[simp] theorem State.modRecord_port (s : State) (r : RecIx) (f : Record → Record) : (s.modRecord r f).port = s.port := rfl
@[simp] theorem State.modRecord_sup (s : State) (r : RecIx) (f : Record → Record) : (s.modRecord r f).sup = s.sup := rfl
@[simp] theorem State.modCopy_pending (s : State) (ref : CopyRef) (f : Copy → Copy) : (s.modCopy ref f).pending = s.pending := rfl
@[simp] theorem State.modCopy_choices (s : State) (ref : CopyRef) (f : Copy → Copy) : (s.modCopy ref f).choices = s.choices := rfl
@[simp] theorem State.modCopy_boot (s : State) (ref : CopyRef) (f : Copy → Copy) : (s.modCopy ref f).boot = s.boot := rfl
@[simp] theorem State.modCopy_lines (s : State) (ref : CopyRef) (f : Copy → Copy) : (s.modCopy ref f).lines = s.lines := rfl
@[simp] theorem State.modCopy_router (s : State) (ref : CopyRef) (f : Copy → Copy) : (s.modCopy ref f).router = s.router := rfl
@[simp] theorem State.modCopy_port (s : State) (ref : CopyRef) (f : Copy → Copy) : (s.modCopy ref f).port = s.port := rfl
@[simp] theorem State.modCopy_sup (s : State) (ref : CopyRef) (f : Copy → Copy) : (s.modCopy ref f).sup = s.sup := rfl
@[simp] theorem State.setCopyState_pending (s : State) (ref : CopyRef) (st : CopyState) : (s.setCopyState ref st).pending = s.pending := rfl
@[simp] theorem State.setCopyState_choices (s : State) (ref : CopyRef) (st : CopyState) : (s.setCopyState ref st).choices = s.choices := rfl
@[simp] theorem State.setCopyState_boot (s : State) (ref : CopyRef) (st : CopyState) : (s.setCopyState ref st).boot = s.boot := rfl
@[simp] theorem State.setCopyState_lines (s : State) (ref : CopyRef) (st : CopyState) : (s.setCopyState ref st).lines = s.lines := rfl
@[simp] theorem State.setCopyState_router (s : State) (ref : CopyRef) (st : CopyState) : (s.setCopyState ref st).router = s.router := rfl
@[simp] theorem State.setCopyState_port (s : State) (ref : CopyRef) (st : CopyState) : (s.setCopyState ref st).port = s.port := rfl
@[simp] theorem State.setCopyState_sup (s : State) (ref : CopyRef) (st : CopyState) : (s.setCopyState ref st).sup = s.sup := rfl
@[simp] theorem State.setReserved_pending (s : State) (k : CtxIx) (v : Nat) : (s.setReserved k v).pending = s.pending := rfl
@[simp] theorem State.setReserved_choices (s : State) (k : CtxIx) (v : Nat) : (s.setReserved k v).choices = s.choices := rfl
@[simp] theorem State.setReserved_boot (s : State) (k : CtxIx) (v : Nat) : (s.setReserved k v).boot = s.boot := rfl
@[simp] theorem State.setReserved_lines (s : State) (k : CtxIx) (v : Nat) : (s.setReserved k v).lines = s.lines := rfl
@[simp] theorem State.setReserved_router (s : State) (k : CtxIx) (v : Nat) : (s.setReserved k v).router = s.router := rfl
@[simp] theorem State.setReserved_port (s : State) (k : CtxIx) (v : Nat) : (s.setReserved k v).port = s.port := rfl
@[simp] theorem State.setReserved_sup (s : State) (k : CtxIx) (v : Nat) : (s.setReserved k v).sup = s.sup := rfl
@[simp] theorem State.setSend_pending (s : State) (k : CtxIx) (c : Option Send) : (s.setSend k c).pending = s.pending := rfl
@[simp] theorem State.setSend_choices (s : State) (k : CtxIx) (c : Option Send) : (s.setSend k c).choices = s.choices := rfl
@[simp] theorem State.setSend_boot (s : State) (k : CtxIx) (c : Option Send) : (s.setSend k c).boot = s.boot := rfl
@[simp] theorem State.setSend_lines (s : State) (k : CtxIx) (c : Option Send) : (s.setSend k c).lines = s.lines := rfl
@[simp] theorem State.setSend_store (s : State) (k : CtxIx) (c : Option Send) : (s.setSend k c).store = s.store := rfl
@[simp] theorem State.setSend_router (s : State) (k : CtxIx) (c : Option Send) : (s.setSend k c).router = s.router := rfl
@[simp] theorem State.setSend_sup (s : State) (k : CtxIx) (c : Option Send) : (s.setSend k c).sup = s.sup := rfl
@[simp] theorem State.setTake_pending (s : State) (k : CtxIx) (t : Option Take) : (s.setTake k t).pending = s.pending := rfl
@[simp] theorem State.setTake_choices (s : State) (k : CtxIx) (t : Option Take) : (s.setTake k t).choices = s.choices := rfl
@[simp] theorem State.setTake_boot (s : State) (k : CtxIx) (t : Option Take) : (s.setTake k t).boot = s.boot := rfl
@[simp] theorem State.setTake_lines (s : State) (k : CtxIx) (t : Option Take) : (s.setTake k t).lines = s.lines := rfl
@[simp] theorem State.setTake_store (s : State) (k : CtxIx) (t : Option Take) : (s.setTake k t).store = s.store := rfl
@[simp] theorem State.setTake_router (s : State) (k : CtxIx) (t : Option Take) : (s.setTake k t).router = s.router := rfl
@[simp] theorem State.setTake_sup (s : State) (k : CtxIx) (t : Option Take) : (s.setTake k t).sup = s.sup := rfl
@[simp] theorem State.modCond_pending (s : State) (n : Line) (pin : LoopPin) (f : Cond → Cond) : (s.modCond n pin f).pending = s.pending := rfl
@[simp] theorem State.modCond_choices (s : State) (n : Line) (pin : LoopPin) (f : Cond → Cond) : (s.modCond n pin f).choices = s.choices := rfl
@[simp] theorem State.modCond_boot (s : State) (n : Line) (pin : LoopPin) (f : Cond → Cond) : (s.modCond n pin f).boot = s.boot := rfl
@[simp] theorem State.modCond_store (s : State) (n : Line) (pin : LoopPin) (f : Cond → Cond) : (s.modCond n pin f).store = s.store := rfl
@[simp] theorem State.modCond_router (s : State) (n : Line) (pin : LoopPin) (f : Cond → Cond) : (s.modCond n pin f).router = s.router := rfl
@[simp] theorem State.modCond_port (s : State) (n : Line) (pin : LoopPin) (f : Cond → Cond) : (s.modCond n pin f).port = s.port := rfl
@[simp] theorem State.modCond_sup (s : State) (n : Line) (pin : LoopPin) (f : Cond → Cond) : (s.modCond n pin f).sup = s.sup := rfl
@[simp] theorem State.setPin_pending (s : State) (n : Line) (pin : LoopPin) (level : Level) : (s.setPin n pin level).pending = s.pending := rfl
@[simp] theorem State.setPin_choices (s : State) (n : Line) (pin : LoopPin) (level : Level) : (s.setPin n pin level).choices = s.choices := rfl
@[simp] theorem State.setPin_boot (s : State) (n : Line) (pin : LoopPin) (level : Level) : (s.setPin n pin level).boot = s.boot := rfl
@[simp] theorem State.setPin_store (s : State) (n : Line) (pin : LoopPin) (level : Level) : (s.setPin n pin level).store = s.store := rfl
@[simp] theorem State.setPin_router (s : State) (n : Line) (pin : LoopPin) (level : Level) : (s.setPin n pin level).router = s.router := rfl
@[simp] theorem State.setPin_port (s : State) (n : Line) (pin : LoopPin) (level : Level) : (s.setPin n pin level).port = s.port := rfl
@[simp] theorem State.setPin_sup (s : State) (n : Line) (pin : LoopPin) (level : Level) : (s.setPin n pin level).sup = s.sup := rfl
@[simp] theorem State.setRx_pending (s : State) (n : Line) (st : RxState) : (s.setRx n st).pending = s.pending := rfl
@[simp] theorem State.setRx_choices (s : State) (n : Line) (st : RxState) : (s.setRx n st).choices = s.choices := rfl
@[simp] theorem State.setRx_boot (s : State) (n : Line) (st : RxState) : (s.setRx n st).boot = s.boot := rfl
@[simp] theorem State.setRx_store (s : State) (n : Line) (st : RxState) : (s.setRx n st).store = s.store := rfl
@[simp] theorem State.setRx_router (s : State) (n : Line) (st : RxState) : (s.setRx n st).router = s.router := rfl
@[simp] theorem State.setRx_port (s : State) (n : Line) (st : RxState) : (s.setRx n st).port = s.port := rfl
@[simp] theorem State.setRx_sup (s : State) (n : Line) (st : RxState) : (s.setRx n st).sup = s.sup := rfl
@[simp] theorem State.setRxCase_pending (s : State) (n : Line) (c : Case) : (s.setRxCase n c).pending = s.pending := rfl
@[simp] theorem State.setRxCase_choices (s : State) (n : Line) (c : Case) : (s.setRxCase n c).choices = s.choices := rfl
@[simp] theorem State.setRxCase_boot (s : State) (n : Line) (c : Case) : (s.setRxCase n c).boot = s.boot := rfl
@[simp] theorem State.setRxCase_store (s : State) (n : Line) (c : Case) : (s.setRxCase n c).store = s.store := rfl
@[simp] theorem State.setRxCase_router (s : State) (n : Line) (c : Case) : (s.setRxCase n c).router = s.router := rfl
@[simp] theorem State.setRxCase_port (s : State) (n : Line) (c : Case) : (s.setRxCase n c).port = s.port := rfl
@[simp] theorem State.setRxCase_sup (s : State) (n : Line) (c : Case) : (s.setRxCase n c).sup = s.sup := rfl

/-! ### Line units -/

@[simp] theorem State.modLine_line_same (s : State) (n : Line) (f : LineUnit → LineUnit) :
    (s.modLine n f).line n = f (s.line n) := by
  simp [State.line, State.modLine]

theorem State.modLine_line_ne (s : State) (n m : Line) (f : LineUnit → LineUnit) (h : m ≠ n) :
    (s.modLine n f).line m = s.line m := by
  simp only [State.line, State.modLine]
  exact Vector.getElem_set_ne _ _ (fun e => h (Fin.ext e.symm))

/-- A line unit after an update of one: changed there, as before elsewhere. -/
theorem State.modLine_line (s : State) (n m : Line) (f : LineUnit → LineUnit) :
    (s.modLine n f).line m = if m = n then f (s.line m) else s.line m := by
  by_cases h : m = n
  · subst h; simp
  · simp [h, State.modLine_line_ne s n m f h]

/-- A line unit after modSched. -/
theorem State.modSched_line (s : State) (n m : Line) (f : Sched → Sched) :
    (s.modSched n f).line m = if m = n then { s.line m with sched := f (s.line m).sched } else s.line m :=
  State.modLine_line s n m _

/-- A line unit after modAsm. -/
theorem State.modAsm_line (s : State) (n m : Line) (f : Assembler → Assembler) :
    (s.modAsm n f).line m = if m = n then { s.line m with asm := f (s.line m).asm } else s.line m :=
  State.modLine_line s n m _

/-- A line unit after modTx. -/
theorem State.modTx_line (s : State) (n m : Line) (f : Tx → Tx) :
    (s.modTx n f).line m = if m = n then { s.line m with tx := f (s.line m).tx } else s.line m :=
  State.modLine_line s n m _

/-- A line unit after modMotor. -/
theorem State.modMotor_line (s : State) (n m : Line) (f : Motor → Motor) :
    (s.modMotor n f).line m = if m = n then { s.line m with motor := f (s.line m).motor } else s.line m :=
  State.modLine_line s n m _

/-- A line unit after setRx. -/
theorem State.setRx_line (s : State) (n m : Line) (st : RxState) :
    (s.setRx n st).line m = if m = n then { s.line m with rx := { (s.line m).rx with state := st } } else s.line m :=
  State.modLine_line s n m _

/-- A line unit after setRxCase. -/
theorem State.setRxCase_line (s : State) (n m : Line) (c : Case) :
    (s.setRxCase n c).line m = if m = n then { s.line m with rx := { (s.line m).rx with case := c } } else s.line m :=
  State.modLine_line s n m _

@[simp] theorem State.modStore_line (s : State) (f : Store → Store) (m : Line) : (s.modStore f).line m = s.line m := rfl
@[simp] theorem State.modRouter_line (s : State) (f : Router → Router) (m : Line) : (s.modRouter f).line m = s.line m := rfl
@[simp] theorem State.modPort_line (s : State) (f : Port → Port) (m : Line) : (s.modPort f).line m = s.line m := rfl
@[simp] theorem State.modSup_line (s : State) (f : Supervisor → Supervisor) (m : Line) : (s.modSup f).line m = s.line m := rfl
@[simp] theorem State.modRecord_line (s : State) (r : RecIx) (f : Record → Record) (m : Line) : (s.modRecord r f).line m = s.line m := rfl
@[simp] theorem State.modCopy_line (s : State) (ref : CopyRef) (f : Copy → Copy) (m : Line) : (s.modCopy ref f).line m = s.line m := rfl
@[simp] theorem State.setCopyState_line (s : State) (ref : CopyRef) (st : CopyState) (m : Line) : (s.setCopyState ref st).line m = s.line m := rfl
@[simp] theorem State.setReserved_line (s : State) (k : CtxIx) (v : Nat) (m : Line) : (s.setReserved k v).line m = s.line m := rfl
@[simp] theorem State.setSend_line (s : State) (k : CtxIx) (c : Option Send) (m : Line) : (s.setSend k c).line m = s.line m := rfl
@[simp] theorem State.setTake_line (s : State) (k : CtxIx) (t : Option Take) (m : Line) : (s.setTake k t).line m = s.line m := rfl
@[simp] theorem State.modLine_lineCfg (s : State) (n : Line) (f : LineUnit → LineUnit) (m : Line) : (s.modLine n f).lineCfg m = s.lineCfg m := rfl
@[simp] theorem State.modSched_lineCfg (s : State) (n : Line) (f : Sched → Sched) (m : Line) : (s.modSched n f).lineCfg m = s.lineCfg m := rfl
@[simp] theorem State.modAsm_lineCfg (s : State) (n : Line) (f : Assembler → Assembler) (m : Line) : (s.modAsm n f).lineCfg m = s.lineCfg m := rfl
@[simp] theorem State.modTx_lineCfg (s : State) (n : Line) (f : Tx → Tx) (m : Line) : (s.modTx n f).lineCfg m = s.lineCfg m := rfl
@[simp] theorem State.modMotor_lineCfg (s : State) (n : Line) (f : Motor → Motor) (m : Line) : (s.modMotor n f).lineCfg m = s.lineCfg m := rfl
@[simp] theorem State.modStore_lineCfg (s : State) (f : Store → Store) (m : Line) : (s.modStore f).lineCfg m = s.lineCfg m := rfl
@[simp] theorem State.modRouter_lineCfg (s : State) (f : Router → Router) (m : Line) : (s.modRouter f).lineCfg m = s.lineCfg m := rfl
@[simp] theorem State.modPort_lineCfg (s : State) (f : Port → Port) (m : Line) : (s.modPort f).lineCfg m = s.lineCfg m := rfl
@[simp] theorem State.modSup_lineCfg (s : State) (f : Supervisor → Supervisor) (m : Line) : (s.modSup f).lineCfg m = s.lineCfg m := rfl
@[simp] theorem State.modRecord_lineCfg (s : State) (r : RecIx) (f : Record → Record) (m : Line) : (s.modRecord r f).lineCfg m = s.lineCfg m := rfl
@[simp] theorem State.modCopy_lineCfg (s : State) (ref : CopyRef) (f : Copy → Copy) (m : Line) : (s.modCopy ref f).lineCfg m = s.lineCfg m := rfl
@[simp] theorem State.setCopyState_lineCfg (s : State) (ref : CopyRef) (st : CopyState) (m : Line) : (s.setCopyState ref st).lineCfg m = s.lineCfg m := rfl
@[simp] theorem State.setReserved_lineCfg (s : State) (k : CtxIx) (v : Nat) (m : Line) : (s.setReserved k v).lineCfg m = s.lineCfg m := rfl
@[simp] theorem State.setSend_lineCfg (s : State) (k : CtxIx) (c : Option Send) (m : Line) : (s.setSend k c).lineCfg m = s.lineCfg m := rfl
@[simp] theorem State.setTake_lineCfg (s : State) (k : CtxIx) (t : Option Take) (m : Line) : (s.setTake k t).lineCfg m = s.lineCfg m := rfl
@[simp] theorem State.setPin_lineCfg (s : State) (n : Line) (pin : LoopPin) (level : Level) (m : Line) : (s.setPin n pin level).lineCfg m = s.lineCfg m := rfl
@[simp] theorem State.setRx_lineCfg (s : State) (n : Line) (st : RxState) (m : Line) : (s.setRx n st).lineCfg m = s.lineCfg m := rfl
@[simp] theorem State.setRxCase_lineCfg (s : State) (n : Line) (c : Case) (m : Line) : (s.setRxCase n c).lineCfg m = s.lineCfg m := rfl

/-! ### Records and copies -/

@[simp] theorem State.modRecord_record_same (s : State) (r : RecIx) (f : Record → Record) :
    (s.modRecord r f).record r = f (s.record r) := by
  simp [State.record, State.modRecord, State.modStore]

theorem State.modRecord_record_ne (s : State) (r q : RecIx) (f : Record → Record) (h : q ≠ r) :
    (s.modRecord r f).record q = s.record q := by
  simp only [State.record, State.modRecord, State.modStore]
  exact Vector.getElem_set_ne _ _ (fun e => h (Fin.ext e.symm))

/-- A record after an update of one: changed there, as before elsewhere. -/
theorem State.modRecord_record (s : State) (r q : RecIx) (f : Record → Record) :
    (s.modRecord r f).record q = if q = r then f (s.record q) else s.record q := by
  by_cases h : q = r
  · subst h; simp
  · simp [h, State.modRecord_record_ne s r q f h]

/-- A record after an update of one copy: only its copy table may differ. -/
theorem State.modCopy_record (s : State) (ref : CopyRef) (q : RecIx) (f : Copy → Copy) :
    (s.modCopy ref f).record q =
      if q = ref.record then { s.record q with copies := (s.record q).copies.modify ref.ix.val f }
      else s.record q :=
  State.modRecord_record s ref.record q _

@[simp] theorem State.modLine_record (s : State) (n : Line) (f : LineUnit → LineUnit) (q : RecIx) : (s.modLine n f).record q = s.record q := rfl
@[simp] theorem State.modLine_copy (s : State) (n : Line) (f : LineUnit → LineUnit) (ref : CopyRef) : (s.modLine n f).copy ref = s.copy ref := rfl
@[simp] theorem State.modSched_record (s : State) (n : Line) (f : Sched → Sched) (q : RecIx) : (s.modSched n f).record q = s.record q := rfl
@[simp] theorem State.modSched_copy (s : State) (n : Line) (f : Sched → Sched) (ref : CopyRef) : (s.modSched n f).copy ref = s.copy ref := rfl
@[simp] theorem State.modAsm_record (s : State) (n : Line) (f : Assembler → Assembler) (q : RecIx) : (s.modAsm n f).record q = s.record q := rfl
@[simp] theorem State.modAsm_copy (s : State) (n : Line) (f : Assembler → Assembler) (ref : CopyRef) : (s.modAsm n f).copy ref = s.copy ref := rfl
@[simp] theorem State.modTx_record (s : State) (n : Line) (f : Tx → Tx) (q : RecIx) : (s.modTx n f).record q = s.record q := rfl
@[simp] theorem State.modTx_copy (s : State) (n : Line) (f : Tx → Tx) (ref : CopyRef) : (s.modTx n f).copy ref = s.copy ref := rfl
@[simp] theorem State.modMotor_record (s : State) (n : Line) (f : Motor → Motor) (q : RecIx) : (s.modMotor n f).record q = s.record q := rfl
@[simp] theorem State.modMotor_copy (s : State) (n : Line) (f : Motor → Motor) (ref : CopyRef) : (s.modMotor n f).copy ref = s.copy ref := rfl
@[simp] theorem State.modRouter_record (s : State) (f : Router → Router) (q : RecIx) : (s.modRouter f).record q = s.record q := rfl
@[simp] theorem State.modRouter_copy (s : State) (f : Router → Router) (ref : CopyRef) : (s.modRouter f).copy ref = s.copy ref := rfl
@[simp] theorem State.modPort_record (s : State) (f : Port → Port) (q : RecIx) : (s.modPort f).record q = s.record q := rfl
@[simp] theorem State.modPort_copy (s : State) (f : Port → Port) (ref : CopyRef) : (s.modPort f).copy ref = s.copy ref := rfl
@[simp] theorem State.modSup_record (s : State) (f : Supervisor → Supervisor) (q : RecIx) : (s.modSup f).record q = s.record q := rfl
@[simp] theorem State.modSup_copy (s : State) (f : Supervisor → Supervisor) (ref : CopyRef) : (s.modSup f).copy ref = s.copy ref := rfl
@[simp] theorem State.setSend_record (s : State) (k : CtxIx) (c : Option Send) (q : RecIx) : (s.setSend k c).record q = s.record q := rfl
@[simp] theorem State.setSend_copy (s : State) (k : CtxIx) (c : Option Send) (ref : CopyRef) : (s.setSend k c).copy ref = s.copy ref := rfl
@[simp] theorem State.setTake_record (s : State) (k : CtxIx) (t : Option Take) (q : RecIx) : (s.setTake k t).record q = s.record q := rfl
@[simp] theorem State.setTake_copy (s : State) (k : CtxIx) (t : Option Take) (ref : CopyRef) : (s.setTake k t).copy ref = s.copy ref := rfl
@[simp] theorem State.setReserved_record (s : State) (k : CtxIx) (v : Nat) (q : RecIx) : (s.setReserved k v).record q = s.record q := rfl
@[simp] theorem State.setReserved_copy (s : State) (k : CtxIx) (v : Nat) (ref : CopyRef) : (s.setReserved k v).copy ref = s.copy ref := rfl
@[simp] theorem State.setPin_record (s : State) (n : Line) (pin : LoopPin) (level : Level) (q : RecIx) : (s.setPin n pin level).record q = s.record q := rfl
@[simp] theorem State.setPin_copy (s : State) (n : Line) (pin : LoopPin) (level : Level) (ref : CopyRef) : (s.setPin n pin level).copy ref = s.copy ref := rfl
@[simp] theorem State.setRx_record (s : State) (n : Line) (st : RxState) (q : RecIx) : (s.setRx n st).record q = s.record q := rfl
@[simp] theorem State.setRx_copy (s : State) (n : Line) (st : RxState) (ref : CopyRef) : (s.setRx n st).copy ref = s.copy ref := rfl
@[simp] theorem State.setRxCase_record (s : State) (n : Line) (c : Case) (q : RecIx) : (s.setRxCase n c).record q = s.record q := rfl
@[simp] theorem State.setRxCase_copy (s : State) (n : Line) (c : Case) (ref : CopyRef) : (s.setRxCase n c).copy ref = s.copy ref := rfl
@[simp] theorem State.modCond_record (s : State) (n : Line) (pin : LoopPin) (f : Cond → Cond) (q : RecIx) : (s.modCond n pin f).record q = s.record q := rfl
@[simp] theorem State.modCond_copy (s : State) (n : Line) (pin : LoopPin) (f : Cond → Cond) (ref : CopyRef) : (s.modCond n pin f).copy ref = s.copy ref := rfl

/-! ### Contexts -/

@[simp] theorem State.setSend_sendCtx_same (s : State) (k : CtxIx) (c : Option Send) :
    (s.setSend k c).sendCtx k = c := by
  simp [State.sendCtx, State.setSend]

theorem State.setSend_sendCtx_ne (s : State) (k j : CtxIx) (c : Option Send) (h : j ≠ k) :
    (s.setSend k c).sendCtx j = s.sendCtx j := by
  simp only [State.sendCtx, State.setSend, State.modPort]
  exact Vector.getElem_set_ne _ _ (fun e => h (Fin.ext e.symm))

@[simp] theorem State.setTake_takeCtx_same (s : State) (k : CtxIx) (t : Option Take) :
    (s.setTake k t).takeCtx k = t := by
  simp [State.takeCtx, State.setTake]

theorem State.setTake_takeCtx_ne (s : State) (k j : CtxIx) (t : Option Take) (h : j ≠ k) :
    (s.setTake k t).takeCtx j = s.takeCtx j := by
  simp only [State.takeCtx, State.setTake, State.modPort]
  exact Vector.getElem_set_ne _ _ (fun e => h (Fin.ext e.symm))

@[simp] theorem State.setSend_takeCtx (s : State) (k j : CtxIx) (c : Option Send) :
    (s.setSend k c).takeCtx j = s.takeCtx j := rfl

@[simp] theorem State.setTake_sendCtx (s : State) (k j : CtxIx) (t : Option Take) :
    (s.setTake k t).sendCtx j = s.sendCtx j := rfl

end Sys2Proof.Machine
end

