-- ==== Sys2Proof/Laws/Frame.lean ====
section
/-! SUPPORT. No shared operation touches the start-up unit or the queue of waiting commands. -/

set_option linter.unusedTactic false
set_option linter.unreachableTactic false

namespace Sys2Proof.Machine

/-- The start-up unit and the queue of commands. -/
def State.frame (s : State) : Boot × List Instr := (s.boot, s.pending)

@[simp] theorem State.modStore_frame (s : State) (f : Store → Store) : (s.modStore f).frame = s.frame := rfl

@[simp] theorem State.modLine_frame (s : State) (n : Line) (f : LineUnit → LineUnit) : (s.modLine n f).frame = s.frame := rfl

@[simp] theorem State.modSched_frame (s : State) (n : Line) (f : Sched → Sched) : (s.modSched n f).frame = s.frame := by
  simp only [State.modSched]
  repeat' split
  all_goals simp

@[simp] theorem State.modAsm_frame (s : State) (n : Line) (f : Assembler → Assembler) : (s.modAsm n f).frame = s.frame := by
  simp only [State.modAsm]
  repeat' split
  all_goals simp

@[simp] theorem State.modTx_frame (s : State) (n : Line) (f : Tx → Tx) : (s.modTx n f).frame = s.frame := by
  simp only [State.modTx]
  repeat' split
  all_goals simp

@[simp] theorem State.modMotor_frame (s : State) (n : Line) (f : Motor → Motor) : (s.modMotor n f).frame = s.frame := by
  simp only [State.modMotor]
  repeat' split
  all_goals simp

@[simp] theorem State.modRouter_frame (s : State) (f : Router → Router) : (s.modRouter f).frame = s.frame := rfl

@[simp] theorem State.modPort_frame (s : State) (f : Port → Port) : (s.modPort f).frame = s.frame := rfl

@[simp] theorem State.modSup_frame (s : State) (f : Supervisor → Supervisor) : (s.modSup f).frame = s.frame := rfl

@[simp] theorem State.modRecord_frame (s : State) (r : RecIx) (f : Record → Record) : (s.modRecord r f).frame = s.frame := by
  simp only [State.modRecord]
  repeat' split
  all_goals simp

@[simp] theorem State.modCopy_frame (s : State) (ref : CopyRef) (f : Copy → Copy) : (s.modCopy ref f).frame = s.frame := by
  simp only [State.modCopy]
  repeat' split
  all_goals simp

@[simp] theorem State.setCopyState_frame (s : State) (ref : CopyRef) (st : CopyState) : (s.setCopyState ref st).frame = s.frame := by
  simp only [State.setCopyState]
  repeat' split
  all_goals simp

@[simp] theorem State.writeChar_frame (s : State) (r : RecIx) (i : Nat) (c : Code) : (s.writeChar r i c).frame = s.frame := by
  simp only [State.writeChar]
  repeat' split
  all_goals simp

@[simp] theorem State.writeChars_frame (s : State) (r : RecIx) (i : Nat) (l : List Code) : (State.writeChars s r i l).frame = s.frame := by
  induction l generalizing s i with
  | nil => rfl
  | cons x xs ih =>
    simp only [State.writeChars]
    repeat' split
    all_goals simp [ih]

@[simp] theorem State.setReserved_frame (s : State) (k : CtxIx) (n : Nat) : (s.setReserved k n).frame = s.frame := by
  simp only [State.setReserved]
  repeat' split
  all_goals simp

@[simp] theorem State.releaseReservation_frame (s : State) (k : CtxIx) : (s.releaseReservation k).frame = s.frame := by
  simp only [State.releaseReservation]
  repeat' split
  all_goals simp

@[simp] theorem State.pledge_frame (s : State) : s.pledge.frame = s.frame := rfl

theorem State.drawBlock_frame (s t : State) (r : RecIx) (h : s.drawBlock r = some t) : t.frame = s.frame := by
  unfold State.drawBlock at h
  split at h
  · cases h
  · split at h
    · cases h
    · cases h; simp

theorem State.allocateBlock_frame (s t : State) (r : RecIx) (h : s.allocateBlock r = some t) : t.frame = s.frame := by
  unfold State.allocateBlock at h
  split at h
  · exact State.drawBlock_frame s t r  h
  · cases h

theorem State.relayedBlock_frame (s t : State) (k : CtxIx) (r : RecIx) (h : s.relayedBlock k r = some t) :
    t.frame = s.frame := by
  unfold State.relayedBlock at h
  simp only at h
  split at h
  · cases hd : s.drawBlock r with
    | none => simp [hd] at h
    | some u => simp [hd] at h; subst h; simpa using State.drawBlock_frame s u r  hd
  · exact State.allocateBlock_frame s t r  h

@[simp] theorem State.unpledge_frame (s : State) : (s.unpledge).frame = s.frame := by
  simp only [State.unpledge]
  repeat' split
  all_goals simp

@[simp] theorem State.freeRecord_frame (s : State) (r : RecIx) : (s.freeRecord r).frame = s.frame := by
  simp only [State.freeRecord]
  repeat' split
  all_goals simp

@[simp] theorem State.tryFree_frame (s : State) (r : RecIx) : (s.tryFree r).frame = s.frame := by
  simp only [State.tryFree]
  repeat' split
  all_goals simp

@[simp] theorem State.settle_frame (s : State) (ref : CopyRef) (how : Settlement) : (s.settle ref how).frame = s.frame := by
  simp only [State.settle]
  repeat' split
  all_goals simp

@[simp] theorem State.setSend_frame (s : State) (k : CtxIx) (c : Option Send) : (s.setSend k c).frame = s.frame := by
  simp only [State.setSend]
  repeat' split
  all_goals simp

@[simp] theorem State.setTake_frame (s : State) (k : CtxIx) (t : Option Take) : (s.setTake k t).frame = s.frame := by
  simp only [State.setTake]
  repeat' split
  all_goals simp

@[simp] theorem State.modSend_frame (s : State) (k : CtxIx) (f : Send → Send) : (s.modSend k f).frame = s.frame := by
  simp only [State.modSend]
  repeat' split
  all_goals simp

@[simp] theorem State.modTake_frame (s : State) (k : CtxIx) (f : Take → Take) : (s.modTake k f).frame = s.frame := by
  simp only [State.modTake]
  repeat' split
  all_goals simp

@[simp] theorem State.refreshTenure_frame (s : State) : (s.refreshTenure).frame = s.frame := by
  simp only [State.refreshTenure]
  repeat' split
  all_goals simp

@[simp] theorem State.endTenure_frame (s : State) : (s.endTenure).frame = s.frame := by
  simp only [State.endTenure]
  repeat' split
  all_goals simp

@[simp] theorem State.nextStamp_frame (s : State) : (s.nextStamp).frame = s.frame := by
  simp only [State.nextStamp]
  repeat' split
  all_goals simp

@[simp] theorem State.drive_frame (s : State) (source : FrameSource) (byRound : Bool) : (s.drive source byRound).frame = s.frame := by
  simp only [State.drive]
  repeat' split
  all_goals simp

@[simp] theorem State.deaden_frame (s : State) (source : FrameSource) : (s.deaden source).frame = s.frame := by
  simp only [State.deaden]
  repeat' split
  all_goals simp

@[simp] theorem State.askSend_frame (s : State) (k : CtxIx) (kind : SendKind) : (s.askSend k kind).frame = s.frame := by
  simp only [State.askSend]
  repeat' split
  all_goals simp

@[simp] theorem State.askTake_frame (s : State) (k : CtxIx) (kind : TakeKind) : (s.askTake k kind).frame = s.frame := by
  simp only [State.askTake]
  repeat' split
  all_goals simp

@[simp] theorem State.closeWindow_frame (s : State) (k : CtxIx) : (s.closeWindow k).frame = s.frame := by
  simp only [State.closeWindow]
  repeat' split
  all_goals simp

@[simp] theorem State.dropSend_frame (s : State) (k : CtxIx) : (s.dropSend k).frame = s.frame := by
  simp only [State.dropSend]
  repeat' split
  all_goals simp

@[simp] theorem State.freeSend_frame (s : State) (k : CtxIx) : (s.freeSend k).frame = s.frame := by
  simp only [State.freeSend]
  repeat' split
  all_goals simp

@[simp] theorem State.freeTake_frame (s : State) (k : CtxIx) : (s.freeTake k).frame = s.frame := by
  simp only [State.freeTake]
  repeat' split
  all_goals simp

@[simp] theorem State.addAnswer_frame (s : State) (tag : Tag) (reason : Reason) (cls : Precedence) : (s.addAnswer tag reason cls).frame = s.frame := by
  simp only [State.addAnswer]
  repeat' split
  all_goals simp

@[simp] theorem State.addEnded_frame (s : State) (tag : Tag) (cls : Precedence) : (s.addEnded tag cls).frame = s.frame := by
  simp only [State.addEnded]
  repeat' split
  all_goals simp

@[simp] theorem State.dropEnded_frame (s : State) (tag : Tag) : (s.dropEnded tag).frame = s.frame := by
  simp only [State.dropEnded]
  repeat' split
  all_goals simp

@[simp] theorem State.askOffer_frame (s : State) (k : CtxIx) : (s.askOffer k).frame = s.frame := by
  simp only [State.askOffer]
  repeat' split
  all_goals simp

@[simp] theorem State.giveSend_frame (s : State) (k : CtxIx) (ref : CopyRef) : (s.giveSend k ref).frame = s.frame := by
  simp only [State.giveSend]
  repeat' split
  all_goals simp

@[simp] theorem State.lookNext_frame (s : State) (k : CtxIx) : (s.lookNext k).frame = s.frame := by
  simp only [State.lookNext]
  repeat' split
  all_goals simp

@[simp] theorem State.supGoTail_frame (s : State) (short : Bool) : (s.supGoTail short).frame = s.frame := by
  simp only [State.supGoTail]
  repeat' split
  all_goals simp

@[simp] theorem State.supLoadComposed_frame (s : State) : (s.supLoadComposed).frame = s.frame := by
  simp only [State.supLoadComposed]
  repeat' split
  all_goals simp

@[simp] theorem State.supLineLoaded_frame (s : State) : (s.supLineLoaded).frame = s.frame := by
  simp only [State.supLineLoaded]
  repeat' split
  all_goals simp

@[simp] theorem State.supServeLine_frame (s : State) : (s.supServeLine).frame = s.frame := by
  simp only [State.supServeLine]
  repeat' split
  all_goals simp

@[simp] theorem State.supServeText_frame (s : State) (ref : CopyRef) : (s.supServeText ref).frame = s.frame := by
  simp only [State.supServeText]
  repeat' split
  all_goals simp

@[simp] theorem State.supServe_frame (s : State) : (s.supServe).frame = s.frame := by
  simp only [State.supServe]
  repeat' split
  all_goals simp

@[simp] theorem State.beginPrint_frame (s : State) : (s.beginPrint).frame = s.frame := by
  simp only [State.beginPrint]
  repeat' split
  all_goals simp

@[simp] theorem State.chosen_frame (s : State) : s.chosen.frame = s.frame := rfl

@[simp] theorem State.handOverMany_frame (s : State) (l : Nat) : (State.handOverMany s l).frame = s.frame := by
  induction l generalizing s with
  | zero => rfl
  | succ k ih =>
    simp only [State.handOverMany]
    repeat' split
    all_goals simp [ih]

@[simp] theorem State.handOver_frame (s : State) : (s.handOver).frame = s.frame := by
  simp only [State.handOver]
  repeat' split
  all_goals simp

@[simp] theorem State.handOverSought_frame (s : State) (l : Nat) : (State.handOverSought s l).frame = s.frame := by
  induction l generalizing s with
  | zero => rfl
  | succ k ih =>
    simp only [State.handOverSought]
    repeat' split
    all_goals simp [ih]

@[simp] theorem State.post_frame (s : State) (n : Notice) : (s.post n).frame = s.frame := by
  simp only [State.post]
  repeat' split
  all_goals simp

@[simp] theorem State.postAll_frame (s : State) (l : List Notice) : (State.postAll s l).frame = s.frame := by
  induction l generalizing s with
  | nil => rfl
  | cons x xs ih =>
    simp only [State.postAll]
    repeat' split
    all_goals simp [ih]

@[simp] theorem State.placeFreed_frame (s before : State) (sought : Bool) : (s.placeFreed before sought).frame = s.frame := by
  simp only [State.placeFreed]
  repeat' split
  all_goals simp

@[simp] theorem State.tellPlaces_frame (s before : State) : (s.tellPlaces before).frame = s.frame := by
  simp only [State.tellPlaces]
  repeat' split
  all_goals simp

@[simp] theorem State.itemEnded_frame (s : State) : (s.itemEnded).frame = s.frame := by
  simp only [State.itemEnded]
  repeat' split
  all_goals simp

@[simp] theorem State.discardHead_frame (s : State) : (s.discardHead).frame = s.frame := by
  simp only [State.discardHead]
  repeat' split
  all_goals simp

@[simp] theorem State.discardDead_frame (s : State) (r : RecIx) (g : Gen) : (s.discardDead r g).frame = s.frame := by
  simp only [State.discardDead]
  repeat' split
  all_goals simp

@[simp] theorem State.supTextChanged_frame (s : State) (r : RecIx) : (s.supTextChanged r).frame = s.frame := by
  simp only [State.supTextChanged]
  repeat' split
  all_goals simp

@[simp] theorem State.motorEnqueue_frame (s : State) (n : Line) : (s.motorEnqueue n).frame = s.frame := by
  simp only [State.motorEnqueue]
  repeat' split
  all_goals simp

@[simp] theorem State.motorEmpty_frame (s : State) (n : Line) : (s.motorEmpty n).frame = s.frame := by
  simp only [State.motorEmpty]
  repeat' split
  all_goals simp

@[simp] theorem State.loadChar_frame (s : State) (n : Line) (c : TxChar) : (s.loadChar n c).frame = s.frame := by
  simp only [State.loadChar]
  repeat' split
  all_goals simp

@[simp] theorem State.loadNextComposed_frame (s : State) (n : Line) : (s.loadNextComposed n).frame = s.frame := by
  simp only [State.loadNextComposed]
  repeat' split
  all_goals simp

@[simp] theorem State.serveHead_frame (s : State) (n : Line) : (s.serveHead n).frame = s.frame := by
  simp only [State.serveHead]
  repeat' split
  all_goals simp

@[simp] theorem State.enterTail_frame (s : State) (n : Line) (r : Record) : (s.enterTail n r).frame = s.frame := by
  simp only [State.enterTail]
  repeat' split
  all_goals simp

@[simp] theorem State.serveText_frame (s : State) (n : Line) (ref : CopyRef) : (s.serveText n ref).frame = s.frame := by
  simp only [State.serveText]
  repeat' split
  all_goals simp

@[simp] theorem State.serveLine_frame (s : State) (n : Line) : (s.serveLine n).frame = s.frame := by
  simp only [State.serveLine]
  repeat' split
  all_goals simp

@[simp] theorem State.numberCopy_frame (s : State) (n : Line) (ref : CopyRef) : (s.numberCopy n ref).frame = s.frame := by
  simp only [State.numberCopy]
  repeat' split
  all_goals simp

@[simp] theorem State.startFresh_frame (s : State) (n : Line) (e : QEntry) : (s.startFresh n e).frame = s.frame := by
  simp only [State.startFresh]
  repeat' split
  all_goals simp

@[simp] theorem State.startResume_frame (s : State) (n : Line) (e : QEntry) : (s.startResume n e).frame = s.frame := by
  simp only [State.startResume]
  repeat' split
  all_goals simp

@[simp] theorem State.choose_frame (s : State) (n : Line) : (s.choose n).frame = s.frame := by
  simp only [State.choose]
  repeat' split
  all_goals simp

@[simp] theorem State.beginInterruption_frame (s : State) (n : Line) : (s.beginInterruption n).frame = s.frame := by
  simp only [State.beginInterruption]
  repeat' split
  all_goals simp

@[simp] theorem State.preemptTest_frame (s : State) (n : Line) : (s.preemptTest n).frame = s.frame := by
  simp only [State.preemptTest]
  repeat' split
  all_goals simp

@[simp] theorem State.reconsiderMark_frame (s : State) (n : Line) : (s.reconsiderMark n).frame = s.frame := by
  simp only [State.reconsiderMark]
  repeat' split
  all_goals simp

@[simp] theorem State.lookAgain_frame (s : State) (n : Line) : (s.lookAgain n).frame = s.frame := by
  simp only [State.lookAgain]
  repeat' split
  all_goals simp

@[simp] theorem State.enqueue_frame (s : State) (n : Line) (ref : CopyRef) : (s.enqueue n ref).frame = s.frame := by
  simp only [State.enqueue]
  repeat' split
  all_goals simp

@[simp] theorem State.clearCurrent_frame (s : State) (n : Line) : (s.clearCurrent n).frame = s.frame := by
  simp only [State.clearCurrent]
  repeat' split
  all_goals simp

@[simp] theorem State.putBack_frame (s : State) (n : Line) : (s.putBack n).frame = s.frame := by
  simp only [State.putBack]
  repeat' split
  all_goals simp

@[simp] theorem State.withdraw_frame (s : State) (n : Line) (ref : CopyRef) : (s.withdraw n ref).frame = s.frame := by
  simp only [State.withdraw]
  repeat' split
  all_goals simp

@[simp] theorem State.delivered_frame (s : State) (n : Line) (e : QEntry) : (s.delivered n e).frame = s.frame := by
  simp only [State.delivered]
  repeat' split
  all_goals simp

@[simp] theorem State.pushCurrent_frame (s : State) (n : Line) (e : QEntry) : (s.pushCurrent n e).frame = s.frame := by
  simp only [State.pushCurrent]
  repeat' split
  all_goals simp

@[simp] theorem State.reportSent_frame (s : State) (n : Line) (c : TxChar) : (s.reportSent n c).frame = s.frame := by
  simp only [State.reportSent]
  repeat' split
  all_goals simp

@[simp] theorem State.countFill_frame (s : State) (ref : CopyRef) : (s.countFill ref).frame = s.frame := by
  simp only [State.countFill]
  repeat' split
  all_goals simp

@[simp] theorem State.lineTextChanged_frame (s : State) (n : Line) (r : RecIx) (oldCount : Nat) (oldComplete : Bool) : (s.lineTextChanged n r oldCount oldComplete).frame = s.frame := by
  simp only [State.lineTextChanged]
  repeat' split
  all_goals simp

@[simp] theorem State.bindLocal_frame (s : State) (n : Line) (ref : CopyRef) : (s.bindLocal n ref).frame = s.frame := by
  simp only [State.bindLocal]
  repeat' split
  all_goals simp

@[simp] theorem State.startSeries_frame (s : State) (k : CtxIx) (ref : CopyRef) : (s.startSeries k ref).frame = s.frame := by
  simp only [State.startSeries]
  repeat' split
  all_goals simp

@[simp] theorem State.waitForContext_frame (s : State) (ref : CopyRef) : (s.waitForContext ref).frame = s.frame := by
  simp only [State.waitForContext]
  repeat' split
  all_goals simp

@[simp] theorem State.offerCopy_frame (s : State) (ref : CopyRef) : (s.offerCopy ref).frame = s.frame := by
  simp only [State.offerCopy]
  repeat' split
  all_goals simp

@[simp] theorem State.serveWaitMany_frame (s : State) (l : Nat) : (State.serveWaitMany s l).frame = s.frame := by
  induction l generalizing s with
  | zero => rfl
  | succ k ih =>
    simp only [State.serveWaitMany]
    repeat' split
    all_goals simp [ih]

@[simp] theorem State.serveWaitList_frame (s : State) : (s.serveWaitList).frame = s.frame := by
  simp only [State.serveWaitList]
  repeat' split
  all_goals simp

@[simp] theorem State.startCounts_frame (s : State) (ref : CopyRef) : (s.startCounts ref).frame = s.frame := by
  simp only [State.startCounts]
  repeat' split
  all_goals simp

@[simp] theorem State.dispatchCopy_frame (s : State) (ref : CopyRef) : (s.dispatchCopy ref).frame = s.frame := by
  simp only [State.dispatchCopy]
  repeat' split
  all_goals simp

@[simp] theorem State.dispatchAll_frame (s : State) (l : List CopyRef) : (State.dispatchAll s l).frame = s.frame := by
  induction l generalizing s with
  | nil => rfl
  | cons x xs ih =>
    simp only [State.dispatchAll]
    repeat' split
    all_goals simp [ih]

@[simp] theorem State.dispatchRecord_frame (s : State) (r : RecIx) : (s.dispatchRecord r).frame = s.frame := by
  simp only [State.dispatchRecord]
  repeat' split
  all_goals simp

theorem State.dispatchRestart_frame (s : State) (l : List CopyRef) :
    (State.dispatchRestart s l).1.frame = s.frame := by
  induction l generalizing s with
  | nil => rfl
  | cons x xs ih =>
    simp only [State.dispatchRestart]
    split <;> simp [ih]

@[simp] theorem State.holdOffEnds_frame (s : State) : s.holdOffEnds.frame = s.frame := by
  simp [State.holdOffEnds, State.dispatchRestart_frame]

@[simp] theorem State.enqueueOrRefuse_frame (s : State) (n : Line) (ref : CopyRef) : (s.enqueueOrRefuse n ref).frame = s.frame := by
  simp only [State.enqueueOrRefuse]
  repeat' split
  all_goals simp

@[simp] theorem State.die_frame (s : State) (k : CtxIx) (ref : CopyRef) : (s.die k ref).frame = s.frame := by
  simp only [State.die]
  repeat' split
  all_goals simp

@[simp] theorem State.bindInstead_frame (s : State) (k : CtxIx) (n : Line) (ref : CopyRef) : (s.bindInstead k n ref).frame = s.frame := by
  simp only [State.bindInstead]
  repeat' split
  all_goals simp

@[simp] theorem State.reoffer_frame (s : State) (k : CtxIx) (ref : CopyRef) (next : Nat) : (s.reoffer k ref next).frame = s.frame := by
  simp only [State.reoffer]
  repeat' split
  all_goals simp

@[simp] theorem State.unclaimed_frame (s : State) (k : CtxIx) (ref : CopyRef) : (s.unclaimed k ref).frame = s.frame := by
  simp only [State.unclaimed]
  repeat' split
  all_goals simp

@[simp] theorem State.spoiled_frame (s : State) (k : CtxIx) (ref : CopyRef) : (s.spoiled k ref).frame = s.frame := by
  simp only [State.spoiled]
  repeat' split
  all_goals simp

@[simp] theorem State.handed_frame (s : State) (k : CtxIx) (ref : CopyRef) : (s.handed k ref).frame = s.frame := by
  simp only [State.handed]
  repeat' split
  all_goals simp

@[simp] theorem State.sendsLook_frame (s : State) (r : RecIx) (l : List CtxIx) : (State.sendsLook s r l).frame = s.frame := by
  induction l generalizing s with
  | nil => rfl
  | cons x xs ih =>
    simp only [State.sendsLook]
    repeat' split
    all_goals simp [ih]

@[simp] theorem State.linesLook_frame (s : State) (r : RecIx) (oldCount : Nat) (oldComplete : Bool) (l : List Line) : (State.linesLook s r oldCount oldComplete l).frame = s.frame := by
  induction l generalizing s with
  | nil => rfl
  | cons x xs ih =>
    simp only [State.linesLook]
    repeat' split
    all_goals simp [ih]

@[simp] theorem State.textChanged_frame (s : State) (r : RecIx) (oldCount : Nat) (oldComplete : Bool) : (s.textChanged r oldCount oldComplete).frame = s.frame := by
  simp only [State.textChanged]
  repeat' split
  all_goals simp

@[simp] theorem State.cutShort_frame (s : State) (r : RecIx) : (s.cutShort r).frame = s.frame := by
  simp only [State.cutShort]
  repeat' split
  all_goals simp

@[simp] theorem State.dropSendOf_frame (s : State) (ref : CopyRef) : (s.dropSendOf ref).frame = s.frame := by
  simp only [State.dropSendOf]
  repeat' split
  all_goals simp

@[simp] theorem State.forgetCopy_frame (s : State) (ref : CopyRef) : (s.forgetCopy ref).frame = s.frame := by
  simp only [State.forgetCopy]
  repeat' split
  all_goals simp

@[simp] theorem State.withdrawCopy_frame (s : State) (ref : CopyRef) : (s.withdrawCopy ref).frame = s.frame := by
  simp only [State.withdrawCopy]
  repeat' split
  all_goals simp

@[simp] theorem State.discardRecord_frame (s : State) (r : RecIx) : (s.discardRecord r).frame = s.frame := by
  simp only [State.discardRecord]
  repeat' split
  all_goals simp

@[simp] theorem State.endRecord_frame (s : State) (r : RecIx) : (s.endRecord r).frame = s.frame := by
  simp only [State.endRecord]
  repeat' split
  all_goals simp

@[simp] theorem State.endTakeRecord_frame (s : State) (k : CtxIx) (t : Take) : (s.endTakeRecord k t).frame = s.frame := by
  simp only [State.endTakeRecord]
  repeat' split
  all_goals simp

@[simp] theorem State.dropClaim_frame (s : State) (k : CtxIx) : (s.dropClaim k).frame = s.frame := by
  simp only [State.dropClaim]
  repeat' split
  all_goals simp

@[simp] theorem State.giveUpTake_frame (s : State) (k : CtxIx) (t : Take) : (s.giveUpTake k t).frame = s.frame := by
  simp only [State.giveUpTake]
  repeat' split
  all_goals simp

@[simp] theorem State.abandonTake_frame (s : State) (k : CtxIx) (t : Take) (reason : Reason) : (s.abandonTake k t reason).frame = s.frame := by
  simp only [State.abandonTake]
  repeat' split
  all_goals simp

@[simp] theorem State.answerClose_frame (s : State) (k : CtxIx) : (s.answerClose k).frame = s.frame := by
  simp only [State.answerClose]
  repeat' split
  all_goals simp

@[simp] theorem State.endTaking_frame (s : State) (l : List RecIx) : (State.endTaking s l).frame = s.frame := by
  induction l generalizing s with
  | nil => rfl
  | cons x xs ih =>
    simp only [State.endTaking]
    repeat' split
    all_goals simp [ih]

@[simp] theorem State.returnCopies_frame (s : State) : (s.returnCopies).frame = s.frame := by
  simp only [State.returnCopies]
  repeat' split
  all_goals simp

@[simp] theorem State.startHoldOff_frame (s : State) : (s.startHoldOff).frame = s.frame := by
  simp only [State.startHoldOff]
  repeat' split
  all_goals simp

@[simp] theorem State.warmRestart_frame (s : State) (sender : Slot) (received : Bool) : (s.warmRestart sender received).frame = s.frame := by
  simp only [State.warmRestart]
  repeat' split
  all_goals simp

@[simp] theorem State.turnReview_frame (s : State) (n : Line) : (s.turnReview n).frame = s.frame := by
  simp only [State.turnReview]
  repeat' split
  all_goals simp

@[simp] theorem State.turnWait_frame (s : State) (n : Line) : (s.turnWait n).frame = s.frame := by
  simp only [State.turnWait]
  repeat' split
  all_goals simp

@[simp] theorem State.setRx_frame (s : State) (n : Line) (st : RxState) : (s.setRx n st).frame = s.frame := by
  simp only [State.setRx]
  repeat' split
  all_goals simp

@[simp] theorem State.suspendRx_frame (s : State) (n : Line) : (s.suspendRx n).frame = s.frame := by
  simp only [State.suspendRx]
  repeat' split
  all_goals simp

@[simp] theorem State.beginHeld_frame (s : State) (n : Line) : (s.beginHeld n).frame = s.frame := by
  simp only [State.beginHeld]
  repeat' split
  all_goals simp

@[simp] theorem State.takeOrWithdraw_frame (s : State) (n : Line) : (s.takeOrWithdraw n).frame = s.frame := by
  simp only [State.takeOrWithdraw]
  repeat' split
  all_goals simp

@[simp] theorem State.takenOff_frame (s : State) (n : Line) : (s.takenOff n).frame = s.frame := by
  simp only [State.takenOff]
  repeat' split
  all_goals simp

@[simp] theorem State.leftHunt_frame (s : State) (n : Line) : (s.leftHunt n).frame = s.frame := by
  simp only [State.leftHunt]
  repeat' split
  all_goals simp

@[simp] theorem State.returnToHunt_frame (s : State) (n : Line) : (s.returnToHunt n).frame = s.frame := by
  simp only [State.returnToHunt]
  repeat' split
  all_goals simp

@[simp] theorem State.lineOverrun_frame (s : State) (n : Line) (r : RecIx) : (s.lineOverrun n r).frame = s.frame := by
  simp only [State.lineOverrun]
  repeat' split
  all_goals simp

@[simp] theorem State.appendChar_frame (s : State) (r : RecIx) (c : Code) : (s.appendChar r c).frame = s.frame := by
  simp only [State.appendChar]
  repeat' split
  all_goals simp

@[simp] theorem State.storeChar_frame (s : State) (n : Line) (r : RecIx) (c : Code) :
    (s.storeChar n r c).frame = s.frame := by
  simp only [State.storeChar]
  repeat' split
  · rfl
  · rename_i t h; simp [State.allocateBlock_frame s t r  h]
  all_goals simp

@[simp] theorem State.defaultHeading_frame (s : State) (r : RecIx) : (s.defaultHeading r).frame = s.frame := by
  simp only [State.defaultHeading]
  repeat' split
  all_goals simp

@[simp] theorem State.fillTable_frame (s : State) (n : Line) (r : RecIx) (stations : List StationCode) : (s.fillTable n r stations).frame = s.frame := by
  simp only [State.fillTable]
  repeat' split
  all_goals simp

@[simp] theorem State.headingEnds_frame (s : State) (n : Line) (r : RecIx) (stations : List StationCode) : (s.headingEnds n r stations).frame = s.frame := by
  simp only [State.headingEnds]
  repeat' split
  all_goals simp

@[simp] theorem State.takeHeading_frame (s : State) (n : Line) (r : RecIx) (h : Handed) : (s.takeHeading n r h).frame = s.frame := by
  simp only [State.takeHeading]
  repeat' split
  all_goals simp

@[simp] theorem State.takeDesignator_frame (s : State) (n : Line) (r : RecIx) (h : Handed) : (s.takeDesignator n r h).frame = s.frame := by
  simp only [State.takeDesignator]
  repeat' split
  all_goals simp

@[simp] theorem State.checkChannel_frame (s : State) (n : Line) (r : RecIx) (received : Nat) : (s.checkChannel n r received).frame = s.frame := by
  simp only [State.checkChannel]
  repeat' split
  all_goals simp

@[simp] theorem State.takeGroup_frame (s : State) (n : Line) (r : RecIx) (h : Handed) : (s.takeGroup n r h).frame = s.frame := by
  simp only [State.takeGroup]
  repeat' split
  all_goals simp

@[simp] theorem State.completeRecord_frame (s : State) (r : RecIx) (truncated : Bool) : (s.completeRecord r truncated).frame = s.frame := by
  simp only [State.completeRecord]
  repeat' split
  all_goals simp

@[simp] theorem State.dispatchAtClose_frame (s : State) (r : RecIx) (filled : Bool) : (s.dispatchAtClose r filled).frame = s.frame := by
  simp only [State.dispatchAtClose]
  repeat' split
  all_goals simp

@[simp] theorem State.malformedAtClose_frame (s : State) (n : Line) (r : RecIx) : (s.malformedAtClose n r).frame = s.frame := by
  simp only [State.malformedAtClose]
  repeat' split
  all_goals simp

@[simp] theorem State.closeByRun_frame (s : State) (n : Line) (r : RecIx) : (s.closeByRun n r).frame = s.frame := by
  simp only [State.closeByRun]
  repeat' split
  all_goals simp

@[simp] theorem State.closeTruncated_frame (s : State) (n : Line) (r : RecIx) (cause : TruncateCause) : (s.closeTruncated n r cause).frame = s.frame := by
  simp only [State.closeTruncated]
  repeat' split
  all_goals simp

@[simp] theorem State.takeOrdinary_frame (s : State) (n : Line) (r : RecIx) (h : Handed) : (s.takeOrdinary n r h).frame = s.frame := by
  simp only [State.takeOrdinary]
  repeat' split
  all_goals simp

@[simp] theorem State.takeAll_frame (s : State) (n : Line) (r : RecIx) (l : List Handed) : (State.takeAll s n r l).frame = s.frame := by
  induction l generalizing s with
  | nil => rfl
  | cons x xs ih =>
    simp only [State.takeAll]
    repeat' split
    all_goals simp [ih]

@[simp] theorem State.restartSilence_frame (s : State) (n : Line) : (s.restartSilence n).frame = s.frame := by
  simp only [State.restartSilence]
  repeat' split
  all_goals simp

@[simp] theorem State.messageChar_frame (s : State) (n : Line) (r : RecIx) (h : Handed) : (s.messageChar n r h).frame = s.frame := by
  simp only [State.messageChar]
  repeat' split
  all_goals simp

@[simp] theorem State.countFraming_frame (s : State) (r : RecIx) (framing : Bool) : (s.countFraming r framing).frame = s.frame := by
  simp only [State.countFraming]
  repeat' split
  all_goals simp

@[simp] theorem State.openMessage_frame (s : State) (n : Line) (r : RecIx) : (s.openMessage n r).frame = s.frame := by
  simp only [State.openMessage]
  repeat' split
  all_goals simp

@[simp] theorem State.loseMessage_frame (s : State) (n : Line) : (s.loseMessage n).frame = s.frame := by
  simp only [State.loseMessage]
  repeat' split
  all_goals simp

@[simp] theorem State.openingRunDone_frame (s : State) (n : Line) : (s.openingRunDone n).frame = s.frame := by
  simp only [State.openingRunDone]
  repeat' split
  all_goals simp

@[simp] theorem State.huntChar_frame (s : State) (n : Line) (h : Handed) : (s.huntChar n h).frame = s.frame := by
  simp only [State.huntChar]
  repeat' split
  all_goals simp

@[simp] theorem State.discardChar_frame (s : State) (n : Line) (h : Handed) : (s.discardChar n h).frame = s.frame := by
  simp only [State.discardChar]
  repeat' split
  all_goals simp

@[simp] theorem State.handOverChar_frame (s : State) (n : Line) (h : Handed) (framing : Bool) : (s.handOverChar n h framing).frame = s.frame := by
  simp only [State.handOverChar]
  repeat' split
  all_goals simp

@[simp] theorem State.asmLineOpen_frame (s : State) (n : Line) : (s.asmLineOpen n).frame = s.frame := by
  simp only [State.asmLineOpen]
  repeat' split
  all_goals simp

@[simp] theorem State.modCond_frame (s : State) (n : Line) (pin : LoopPin) (f : Cond → Cond) : (s.modCond n pin f).frame = s.frame := by
  simp only [State.modCond]
  repeat' split
  all_goals simp

@[simp] theorem State.setPin_frame (s : State) (n : Line) (pin : LoopPin) (level : Level) : (s.setPin n pin level).frame = s.frame := by
  simp only [State.setPin]
  repeat' split
  all_goals simp

@[simp] theorem State.readPin_frame (s : State) (n : Line) (pin : LoopPin) (level : Level) : (s.readPin n pin level).frame = s.frame := by
  simp only [State.readPin]
  repeat' split
  all_goals simp

@[simp] theorem State.setRxCase_frame (s : State) (n : Line) (c : Case) : (s.setRxCase n c).frame = s.frame := by
  simp only [State.setRxCase]
  repeat' split
  all_goals simp

@[simp] theorem State.resumeRx_frame (s : State) (n : Line) : (s.resumeRx n).frame = s.frame := by
  simp only [State.resumeRx]
  repeat' split
  all_goals simp

@[simp] theorem State.abandonTx_frame (s : State) (n : Line) : (s.abandonTx n).frame = s.frame := by
  simp only [State.abandonTx]
  repeat' split
  all_goals simp

@[simp] theorem State.receiveLost_frame (s : State) (n : Line) : (s.receiveLost n).frame = s.frame := by
  simp only [State.receiveLost]
  repeat' split
  all_goals simp

@[simp] theorem State.sendLost_frame (s : State) (n : Line) : (s.sendLost n).frame = s.frame := by
  simp only [State.sendLost]
  repeat' split
  all_goals simp

@[simp] theorem State.spacingEnds_frame (s : State) (n : Line) (pin : LoopPin) : (s.spacingEnds n pin).frame = s.frame := by
  simp only [State.spacingEnds]
  repeat' split
  all_goals simp

@[simp] theorem State.condOpens_frame (s : State) (n : Line) (pin : LoopPin) : (s.condOpens n pin).frame = s.frame := by
  simp only [State.condOpens]
  repeat' split
  all_goals simp

@[simp] theorem State.condCloses_frame (s : State) (n : Line) (pin : LoopPin) : (s.condCloses n pin).frame = s.frame := by
  simp only [State.condCloses]
  repeat' split
  all_goals simp

@[simp] theorem State.release_frame (s : State) (l : List CopyRef) : (State.release s l).frame = s.frame := by
  induction l generalizing s with
  | nil => rfl
  | cons x xs ih =>
    simp only [State.release]
    repeat' split
    all_goals simp [ih]

@[simp] theorem State.releaseAndDispatch_frame (s : State) (ref : CopyRef) : (s.releaseAndDispatch ref).frame = s.frame := by
  simp only [State.releaseAndDispatch]
  repeat' split
  all_goals simp

@[simp] theorem State.releaseAll_frame (s : State) (l : List CopyRef) : (State.releaseAll s l).frame = s.frame := by
  induction l generalizing s with
  | nil => rfl
  | cons x xs ih =>
    simp only [State.releaseAll]
    repeat' split
    all_goals simp [ih]

@[simp] theorem State.lineFails_frame (s : State) (n : Line) (pin : LoopPin) : (s.lineFails n pin).frame = s.frame := by
  simp only [State.lineFails]
  repeat' split
  all_goals simp

@[simp] theorem State.condFails_frame (s : State) (n : Line) (pin : LoopPin) : (s.condFails n pin).frame = s.frame := by
  simp only [State.condFails]
  repeat' split
  all_goals simp

@[simp] theorem State.ownRestart_frame (s : State) : (s.ownRestart).frame = s.frame := by
  simp only [State.ownRestart]
  repeat' split
  all_goals simp

@[simp] theorem State.endChar_frame (s : State) (n : Line) (code : Code) (framing : Bool) : (s.endChar n code framing).frame = s.frame := by
  simp only [State.endChar]
  repeat' split
  all_goals simp

@[simp] theorem State.silenceEnds_frame (s : State) (n : Line) : (s.silenceEnds n).frame = s.frame := by
  simp only [State.silenceEnds]
  repeat' split
  all_goals simp

@[simp] theorem State.beginFill_frame (s : State) (n : Line) : (s.beginFill n).frame = s.frame := by
  simp only [State.beginFill]
  repeat' split
  all_goals simp

@[simp] theorem State.finishChar_frame (s : State) (n : Line) (c : TxChar) : (s.finishChar n c).frame = s.frame := by
  simp only [State.finishChar]
  repeat' split
  all_goals simp

@[simp] theorem State.shiftTakes_frame (s : State) (n : Line) : (s.shiftTakes n).frame = s.frame := by
  simp only [State.shiftTakes]
  repeat' split
  all_goals simp

@[simp] theorem State.shiftFollows_frame (s : State) (n : Line) (held : Option TxChar) : (s.shiftFollows n held).frame = s.frame := by
  simp only [State.shiftFollows]
  repeat' split
  all_goals simp

@[simp] theorem State.reportFill_frame (s : State) (n : Line) : (s.reportFill n).frame = s.frame := by
  simp only [State.reportFill]
  repeat' split
  all_goals simp

@[simp] theorem State.round_frame (s : State) (rivals : List Nat) : (s.round rivals).frame = s.frame := by
  simp only [State.round]
  repeat' split
  all_goals simp

@[simp] theorem State.undrive_frame (s : State) : (s.undrive).frame = s.frame := by
  simp only [State.undrive]
  repeat' split
  all_goals simp

@[simp] theorem State.offerReported_frame (s : State) (k : CtxIx) : (s.offerReported k).frame = s.frame := by
  simp only [State.offerReported]
  repeat' split
  all_goals simp

@[simp] theorem State.claimReported_frame (s : State) (k : CtxIx) : (s.claimReported k).frame = s.frame := by
  simp only [State.claimReported]
  repeat' split
  all_goals simp

@[simp] theorem State.textReported_frame (s : State) (k : CtxIx) (d : Driven) : (s.textReported k d).frame = s.frame := by
  simp only [State.textReported]
  repeat' split
  all_goals simp

@[simp] theorem State.closeReported_frame (s : State) (k : CtxIx) : (s.closeReported k).frame = s.frame := by
  simp only [State.closeReported]
  repeat' split
  all_goals simp

@[simp] theorem State.answerReported_frame (s : State) (k : CtxIx) : (s.answerReported k).frame = s.frame := by
  simp only [State.answerReported]
  repeat' split
  all_goals simp

@[simp] theorem State.dropAnswer_frame (s : State) (tag : Tag) (reason : Reason) : (s.dropAnswer tag reason).frame = s.frame := by
  simp only [State.dropAnswer]
  repeat' split
  all_goals simp

@[simp] theorem State.claim_frame (s : State) (k : CtxIx) (t : Take) : (s.claim k t).frame = s.frame := by
  simp only [State.claim]
  repeat' split
  all_goals simp

@[simp] theorem State.claimDecision_frame (s : State) (tag : Tag) (cls : Precedence) (station : StationCode) (length : Option Nat) (cpm attempt : Nat) : (s.claimDecision tag cls station length cpm attempt).frame = s.frame := by
  simp only [State.claimDecision]
  repeat' split
  all_goals simp

@[simp] theorem State.weighLost_frame (s : State) (tag : Tag) (cls : Precedence) (attempt : Nat) : (s.weighLost tag cls attempt).frame = s.frame := by
  simp only [State.weighLost]
  repeat' split
  all_goals simp

@[simp] theorem State.weighOffer_frame (s : State) (tag : Tag) (cls : Precedence) (station : StationCode) (length : Option Nat) (cpm attempt : Nat) : (s.weighOffer tag cls station length cpm attempt).frame = s.frame := by
  simp only [State.weighOffer]
  repeat' split
  all_goals simp

@[simp] theorem State.takeClaim_frame (s : State) (k : CtxIx) (c : Send) (claimant : Slot) : (s.takeClaim k c claimant).frame = s.frame := by
  simp only [State.takeClaim]
  repeat' split
  all_goals simp

@[simp] theorem State.judgeClaim_frame (s : State) (tag : Tag) (claimant : Slot) : (s.judgeClaim tag claimant).frame = s.frame := by
  simp only [State.judgeClaim]
  repeat' split
  all_goals simp

@[simp] theorem State.hearRival_frame (s : State) (tag : Tag) : (s.hearRival tag).frame = s.frame := by
  simp only [State.hearRival]
  repeat' split
  all_goals simp

@[simp] theorem State.appendBlock_frame (s : State) (r : RecIx) (chars : List Code) : (s.appendBlock r chars).frame = s.frame := by
  simp only [State.appendBlock]
  repeat' split
  all_goals simp

@[simp] theorem State.takeOverrun_frame (s : State) (k : CtxIx) (r : RecIx) (t : Take) : (s.takeOverrun k r t).frame = s.frame := by
  simp only [State.takeOverrun]
  repeat' split
  all_goals simp

@[simp] theorem State.storeBlock_frame (s : State) (k : CtxIx) (r : RecIx) (t : Take) (chars : List Code) :
    (s.storeBlock k r t chars).frame = s.frame := by
  simp only [State.storeBlock]
  repeat' split
  · rfl
  · rename_i u h; simp [State.relayedBlock_frame s u k r  h]
  · simp

@[simp] theorem State.takeText_frame (s : State) (k : CtxIx) (t : Take) (sequence : Nat) (chars : List Code) : (s.takeText k t sequence chars).frame = s.frame := by
  simp only [State.takeText]
  repeat' split
  all_goals simp

@[simp] theorem State.textEnded_frame (s : State) (tag : Tag) : (s.textEnded tag).frame = s.frame := by
  simp only [State.textEnded]
  repeat' split
  all_goals simp

@[simp] theorem State.hearText_frame (s : State) (tag : Tag) (sequence : Nat) (chars : List Code) : (s.hearText tag sequence chars).frame = s.frame := by
  simp only [State.hearText]
  repeat' split
  all_goals simp

@[simp] theorem State.enqueueAccepted_frame (s : State) (ref : CopyRef) : (s.enqueueAccepted ref).frame = s.frame := by
  simp only [State.enqueueAccepted]
  repeat' split
  all_goals simp

@[simp] theorem State.acceptClose_frame (s : State) (k : CtxIx) (r : RecIx) (overrun truncated : Bool) (mutilated : Nat) : (s.acceptClose k r overrun truncated mutilated).frame = s.frame := by
  simp only [State.acceptClose]
  repeat' split
  all_goals simp

@[simp] theorem State.spoilClose_frame (s : State) (k : CtxIx) (t : Take) : (s.spoilClose k t).frame = s.frame := by
  simp only [State.spoilClose]
  repeat' split
  all_goals simp

@[simp] theorem State.takeClose_frame (s : State) (k : CtxIx) (t : Take) (total check : Nat) (overrun truncated : Bool) (mutilated : Nat) : (s.takeClose k t total check overrun truncated mutilated).frame = s.frame := by
  simp only [State.takeClose]
  repeat' split
  all_goals simp

@[simp] theorem State.takerAbandons_frame (s : State) (k : CtxIx) (ref : CopyRef) : (s.takerAbandons k ref).frame = s.frame := by
  simp only [State.takerAbandons]
  repeat' split
  all_goals simp

@[simp] theorem State.originAbandons_frame (s : State) (tag : Tag) : (s.originAbandons tag).frame = s.frame := by
  simp only [State.originAbandons]
  repeat' split
  all_goals simp

@[simp] theorem State.modSupTx_frame (s : State) (f : Tx → Tx) : (s.modSupTx f).frame = s.frame := by
  simp only [State.modSupTx]
  repeat' split
  all_goals simp

@[simp] theorem State.supFollows_frame (s : State) (held : Option TxChar) : (s.supFollows held).frame = s.frame := by
  simp only [State.supFollows]
  repeat' split
  all_goals simp

@[simp] theorem State.supCountFill_frame (s : State) : (s.supCountFill).frame = s.frame := by
  simp only [State.supCountFill]
  repeat' split
  all_goals simp

end Sys2Proof.Machine
end

