-- ==== Sys2Proof/Laws/Inputs.lean ====
section
/-! SUPPORT. What the highway, the router, the schedulers and the supervisor unit never touch of a line: its inputs, receiver, conditions, turnaround and assembler. -/

set_option linter.unusedTactic false
set_option linter.unreachableTactic false

namespace Sys2Proof.Machine


@[simp] theorem State.modStore_inputs (s : State) (f : Store → Store) (m : Line) :
    (s.modStore f).inputs m = s.inputs m := rfl

@[simp] theorem State.modSched_inputs (s : State) (n : Line) (f : Sched → Sched) (m : Line) :
    (s.modSched n f).inputs m = s.inputs m := by
  simp only [State.inputs, State.modSched_line]
  split <;> rfl

@[simp] theorem State.modTx_inputs (s : State) (n : Line) (f : Tx → Tx) (m : Line) :
    (s.modTx n f).inputs m = s.inputs m := by
  simp only [State.inputs, State.modTx_line]
  split <;> rfl

@[simp] theorem State.modMotor_inputs (s : State) (n : Line) (f : Motor → Motor) (m : Line) :
    (s.modMotor n f).inputs m = s.inputs m := by
  simp only [State.inputs, State.modMotor_line]
  split <;> rfl

@[simp] theorem State.modRouter_inputs (s : State) (f : Router → Router) (m : Line) : (s.modRouter f).inputs m = s.inputs m := rfl

@[simp] theorem State.modPort_inputs (s : State) (f : Port → Port) (m : Line) : (s.modPort f).inputs m = s.inputs m := rfl

@[simp] theorem State.modSup_inputs (s : State) (f : Supervisor → Supervisor) (m : Line) : (s.modSup f).inputs m = s.inputs m := rfl

@[simp] theorem State.modRecord_inputs (s : State) (r : RecIx) (f : Record → Record) (m : Line) : (s.modRecord r f).inputs m = s.inputs m := by
  simp only [State.modRecord]
  repeat' split
  all_goals simp

@[simp] theorem State.modCopy_inputs (s : State) (ref : CopyRef) (f : Copy → Copy) (m : Line) : (s.modCopy ref f).inputs m = s.inputs m := by
  simp only [State.modCopy]
  repeat' split
  all_goals simp

@[simp] theorem State.setCopyState_inputs (s : State) (ref : CopyRef) (st : CopyState) (m : Line) : (s.setCopyState ref st).inputs m = s.inputs m := by
  simp only [State.setCopyState]
  repeat' split
  all_goals simp

@[simp] theorem State.writeChar_inputs (s : State) (r : RecIx) (i : Nat) (c : Code) (m : Line) : (s.writeChar r i c).inputs m = s.inputs m := by
  simp only [State.writeChar]
  repeat' split
  all_goals simp

@[simp] theorem State.writeChars_inputs (s : State) (r : RecIx) (i : Nat) (l : List Code) (m : Line) : (State.writeChars s r i l).inputs m = s.inputs m := by
  induction l generalizing s i with
  | nil => rfl
  | cons x xs ih =>
    simp only [State.writeChars]
    repeat' split
    all_goals simp [ih]

@[simp] theorem State.setReserved_inputs (s : State) (k : CtxIx) (n : Nat) (m : Line) : (s.setReserved k n).inputs m = s.inputs m := by
  simp only [State.setReserved]
  repeat' split
  all_goals simp

@[simp] theorem State.releaseReservation_inputs (s : State) (k : CtxIx) (m : Line) : (s.releaseReservation k).inputs m = s.inputs m := by
  simp only [State.releaseReservation]
  repeat' split
  all_goals simp

@[simp] theorem State.pledge_inputs (s : State) (m : Line) : s.pledge.inputs m = s.inputs m := rfl

theorem State.drawBlock_inputs (s t : State) (r : RecIx) (m : Line) (h : s.drawBlock r = some t) : t.inputs m = s.inputs m := by
  unfold State.drawBlock at h
  split at h
  · cases h
  · split at h
    · cases h
    · cases h; simp

theorem State.allocateBlock_inputs (s t : State) (r : RecIx) (m : Line) (h : s.allocateBlock r = some t) : t.inputs m = s.inputs m := by
  unfold State.allocateBlock at h
  split at h
  · exact State.drawBlock_inputs s t r m h
  · cases h

theorem State.relayedBlock_inputs (s t : State) (k : CtxIx) (r : RecIx) (m : Line) (h : s.relayedBlock k r = some t) :
    t.inputs m = s.inputs m := by
  unfold State.relayedBlock at h
  simp only at h
  split at h
  · cases hd : s.drawBlock r with
    | none => simp [hd] at h
    | some u => simp [hd] at h; subst h; simpa using State.drawBlock_inputs s u r m hd
  · exact State.allocateBlock_inputs s t r m h

@[simp] theorem State.unpledge_inputs (s : State) (m : Line) : (s.unpledge).inputs m = s.inputs m := by
  simp only [State.unpledge]
  repeat' split
  all_goals simp

@[simp] theorem State.freeRecord_inputs (s : State) (r : RecIx) (m : Line) : (s.freeRecord r).inputs m = s.inputs m := by
  simp only [State.freeRecord]
  repeat' split
  all_goals simp

@[simp] theorem State.tryFree_inputs (s : State) (r : RecIx) (m : Line) : (s.tryFree r).inputs m = s.inputs m := by
  simp only [State.tryFree]
  repeat' split
  all_goals simp

@[simp] theorem State.settle_inputs (s : State) (ref : CopyRef) (how : Settlement) (m : Line) : (s.settle ref how).inputs m = s.inputs m := by
  simp only [State.settle]
  repeat' split
  all_goals simp

@[simp] theorem State.setSend_inputs (s : State) (k : CtxIx) (c : Option Send) (m : Line) : (s.setSend k c).inputs m = s.inputs m := by
  simp only [State.setSend]
  repeat' split
  all_goals simp

@[simp] theorem State.setTake_inputs (s : State) (k : CtxIx) (t : Option Take) (m : Line) : (s.setTake k t).inputs m = s.inputs m := by
  simp only [State.setTake]
  repeat' split
  all_goals simp

@[simp] theorem State.modSend_inputs (s : State) (k : CtxIx) (f : Send → Send) (m : Line) : (s.modSend k f).inputs m = s.inputs m := by
  simp only [State.modSend]
  repeat' split
  all_goals simp

@[simp] theorem State.modTake_inputs (s : State) (k : CtxIx) (f : Take → Take) (m : Line) : (s.modTake k f).inputs m = s.inputs m := by
  simp only [State.modTake]
  repeat' split
  all_goals simp

@[simp] theorem State.refreshTenure_inputs (s : State) (m : Line) : (s.refreshTenure).inputs m = s.inputs m := by
  simp only [State.refreshTenure]
  repeat' split
  all_goals simp

@[simp] theorem State.endTenure_inputs (s : State) (m : Line) : (s.endTenure).inputs m = s.inputs m := by
  simp only [State.endTenure]
  repeat' split
  all_goals simp

@[simp] theorem State.nextStamp_inputs (s : State) (m : Line) : (s.nextStamp).inputs m = s.inputs m := by
  simp only [State.nextStamp]
  repeat' split
  all_goals simp

@[simp] theorem State.drive_inputs (s : State) (source : FrameSource) (byRound : Bool) (m : Line) : (s.drive source byRound).inputs m = s.inputs m := by
  simp only [State.drive]
  repeat' split
  all_goals simp

@[simp] theorem State.deaden_inputs (s : State) (source : FrameSource) (m : Line) : (s.deaden source).inputs m = s.inputs m := by
  simp only [State.deaden]
  repeat' split
  all_goals simp

@[simp] theorem State.askSend_inputs (s : State) (k : CtxIx) (kind : SendKind) (m : Line) : (s.askSend k kind).inputs m = s.inputs m := by
  simp only [State.askSend]
  repeat' split
  all_goals simp

@[simp] theorem State.askTake_inputs (s : State) (k : CtxIx) (kind : TakeKind) (m : Line) : (s.askTake k kind).inputs m = s.inputs m := by
  simp only [State.askTake]
  repeat' split
  all_goals simp

@[simp] theorem State.closeWindow_inputs (s : State) (k : CtxIx) (m : Line) : (s.closeWindow k).inputs m = s.inputs m := by
  simp only [State.closeWindow]
  repeat' split
  all_goals simp

@[simp] theorem State.dropSend_inputs (s : State) (k : CtxIx) (m : Line) : (s.dropSend k).inputs m = s.inputs m := by
  simp only [State.dropSend]
  repeat' split
  all_goals simp

@[simp] theorem State.freeSend_inputs (s : State) (k : CtxIx) (m : Line) : (s.freeSend k).inputs m = s.inputs m := by
  simp only [State.freeSend]
  repeat' split
  all_goals simp

@[simp] theorem State.freeTake_inputs (s : State) (k : CtxIx) (m : Line) : (s.freeTake k).inputs m = s.inputs m := by
  simp only [State.freeTake]
  repeat' split
  all_goals simp

@[simp] theorem State.addAnswer_inputs (s : State) (tag : Tag) (reason : Reason) (cls : Precedence) (m : Line) : (s.addAnswer tag reason cls).inputs m = s.inputs m := by
  simp only [State.addAnswer]
  repeat' split
  all_goals simp

@[simp] theorem State.addEnded_inputs (s : State) (tag : Tag) (cls : Precedence) (m : Line) : (s.addEnded tag cls).inputs m = s.inputs m := by
  simp only [State.addEnded]
  repeat' split
  all_goals simp

@[simp] theorem State.dropEnded_inputs (s : State) (tag : Tag) (m : Line) : (s.dropEnded tag).inputs m = s.inputs m := by
  simp only [State.dropEnded]
  repeat' split
  all_goals simp

@[simp] theorem State.askOffer_inputs (s : State) (k : CtxIx) (m : Line) : (s.askOffer k).inputs m = s.inputs m := by
  simp only [State.askOffer]
  repeat' split
  all_goals simp

@[simp] theorem State.giveSend_inputs (s : State) (k : CtxIx) (ref : CopyRef) (m : Line) : (s.giveSend k ref).inputs m = s.inputs m := by
  simp only [State.giveSend]
  repeat' split
  all_goals simp

@[simp] theorem State.lookNext_inputs (s : State) (k : CtxIx) (m : Line) : (s.lookNext k).inputs m = s.inputs m := by
  simp only [State.lookNext]
  repeat' split
  all_goals simp

@[simp] theorem State.supGoTail_inputs (s : State) (short : Bool) (m : Line) : (s.supGoTail short).inputs m = s.inputs m := by
  simp only [State.supGoTail]
  repeat' split
  all_goals simp

@[simp] theorem State.supLoadComposed_inputs (s : State) (m : Line) : (s.supLoadComposed).inputs m = s.inputs m := by
  simp only [State.supLoadComposed]
  repeat' split
  all_goals simp

@[simp] theorem State.supLineLoaded_inputs (s : State) (m : Line) : (s.supLineLoaded).inputs m = s.inputs m := by
  simp only [State.supLineLoaded]
  repeat' split
  all_goals simp

@[simp] theorem State.supServeLine_inputs (s : State) (m : Line) : (s.supServeLine).inputs m = s.inputs m := by
  simp only [State.supServeLine]
  repeat' split
  all_goals simp

@[simp] theorem State.supServeText_inputs (s : State) (ref : CopyRef) (m : Line) : (s.supServeText ref).inputs m = s.inputs m := by
  simp only [State.supServeText]
  repeat' split
  all_goals simp

@[simp] theorem State.supServe_inputs (s : State) (m : Line) : (s.supServe).inputs m = s.inputs m := by
  simp only [State.supServe]
  repeat' split
  all_goals simp

@[simp] theorem State.beginPrint_inputs (s : State) (m : Line) : (s.beginPrint).inputs m = s.inputs m := by
  simp only [State.beginPrint]
  repeat' split
  all_goals simp

@[simp] theorem State.chosen_inputs (s : State) (m : Line) : s.chosen.inputs m = s.inputs m := rfl

@[simp] theorem State.handOverMany_inputs (s : State) (l : Nat) (m : Line) : (State.handOverMany s l).inputs m = s.inputs m := by
  induction l generalizing s with
  | zero => rfl
  | succ k ih =>
    simp only [State.handOverMany]
    repeat' split
    all_goals simp [ih]

@[simp] theorem State.handOver_inputs (s : State) (m : Line) : (s.handOver).inputs m = s.inputs m := by
  simp only [State.handOver]
  repeat' split
  all_goals simp

@[simp] theorem State.handOverSought_inputs (s : State) (l : Nat) (m : Line) : (State.handOverSought s l).inputs m = s.inputs m := by
  induction l generalizing s with
  | zero => rfl
  | succ k ih =>
    simp only [State.handOverSought]
    repeat' split
    all_goals simp [ih]

@[simp] theorem State.post_inputs (s : State) (n : Notice) (m : Line) : (s.post n).inputs m = s.inputs m := by
  simp only [State.post]
  repeat' split
  all_goals simp

@[simp] theorem State.postAll_inputs (s : State) (l : List Notice) (m : Line) : (State.postAll s l).inputs m = s.inputs m := by
  induction l generalizing s with
  | nil => rfl
  | cons x xs ih =>
    simp only [State.postAll]
    repeat' split
    all_goals simp [ih]

@[simp] theorem State.placeFreed_inputs (s before : State) (sought : Bool) (m : Line) : (s.placeFreed before sought).inputs m = s.inputs m := by
  simp only [State.placeFreed]
  repeat' split
  all_goals simp

@[simp] theorem State.tellPlaces_inputs (s before : State) (m : Line) : (s.tellPlaces before).inputs m = s.inputs m := by
  simp only [State.tellPlaces]
  repeat' split
  all_goals simp

@[simp] theorem State.itemEnded_inputs (s : State) (m : Line) : (s.itemEnded).inputs m = s.inputs m := by
  simp only [State.itemEnded]
  repeat' split
  all_goals simp

@[simp] theorem State.discardHead_inputs (s : State) (m : Line) : (s.discardHead).inputs m = s.inputs m := by
  simp only [State.discardHead]
  repeat' split
  all_goals simp

@[simp] theorem State.discardDead_inputs (s : State) (r : RecIx) (g : Gen) (m : Line) : (s.discardDead r g).inputs m = s.inputs m := by
  simp only [State.discardDead]
  repeat' split
  all_goals simp

@[simp] theorem State.supTextChanged_inputs (s : State) (r : RecIx) (m : Line) : (s.supTextChanged r).inputs m = s.inputs m := by
  simp only [State.supTextChanged]
  repeat' split
  all_goals simp

@[simp] theorem State.motorEnqueue_inputs (s : State) (n : Line) (m : Line) : (s.motorEnqueue n).inputs m = s.inputs m := by
  simp only [State.motorEnqueue]
  repeat' split
  all_goals simp

@[simp] theorem State.motorEmpty_inputs (s : State) (n : Line) (m : Line) : (s.motorEmpty n).inputs m = s.inputs m := by
  simp only [State.motorEmpty]
  repeat' split
  all_goals simp

@[simp] theorem State.loadChar_inputs (s : State) (n : Line) (c : TxChar) (m : Line) : (s.loadChar n c).inputs m = s.inputs m := by
  simp only [State.loadChar]
  repeat' split
  all_goals simp

@[simp] theorem State.loadNextComposed_inputs (s : State) (n : Line) (m : Line) : (s.loadNextComposed n).inputs m = s.inputs m := by
  simp only [State.loadNextComposed]
  repeat' split
  all_goals simp

@[simp] theorem State.serveHead_inputs (s : State) (n : Line) (m : Line) : (s.serveHead n).inputs m = s.inputs m := by
  simp only [State.serveHead]
  repeat' split
  all_goals simp

@[simp] theorem State.enterTail_inputs (s : State) (n : Line) (r : Record) (m : Line) : (s.enterTail n r).inputs m = s.inputs m := by
  simp only [State.enterTail]
  repeat' split
  all_goals simp

@[simp] theorem State.serveText_inputs (s : State) (n : Line) (ref : CopyRef) (m : Line) : (s.serveText n ref).inputs m = s.inputs m := by
  simp only [State.serveText]
  repeat' split
  all_goals simp

@[simp] theorem State.serveLine_inputs (s : State) (n : Line) (m : Line) : (s.serveLine n).inputs m = s.inputs m := by
  simp only [State.serveLine]
  repeat' split
  all_goals simp

@[simp] theorem State.numberCopy_inputs (s : State) (n : Line) (ref : CopyRef) (m : Line) : (s.numberCopy n ref).inputs m = s.inputs m := by
  simp only [State.numberCopy]
  repeat' split
  all_goals simp

@[simp] theorem State.startFresh_inputs (s : State) (n : Line) (e : QEntry) (m : Line) : (s.startFresh n e).inputs m = s.inputs m := by
  simp only [State.startFresh]
  repeat' split
  all_goals simp

@[simp] theorem State.startResume_inputs (s : State) (n : Line) (e : QEntry) (m : Line) : (s.startResume n e).inputs m = s.inputs m := by
  simp only [State.startResume]
  repeat' split
  all_goals simp

@[simp] theorem State.choose_inputs (s : State) (n : Line) (m : Line) : (s.choose n).inputs m = s.inputs m := by
  simp only [State.choose]
  repeat' split
  all_goals simp

@[simp] theorem State.beginInterruption_inputs (s : State) (n : Line) (m : Line) : (s.beginInterruption n).inputs m = s.inputs m := by
  simp only [State.beginInterruption]
  repeat' split
  all_goals simp

@[simp] theorem State.preemptTest_inputs (s : State) (n : Line) (m : Line) : (s.preemptTest n).inputs m = s.inputs m := by
  simp only [State.preemptTest]
  repeat' split
  all_goals simp

@[simp] theorem State.reconsiderMark_inputs (s : State) (n : Line) (m : Line) : (s.reconsiderMark n).inputs m = s.inputs m := by
  simp only [State.reconsiderMark]
  repeat' split
  all_goals simp

@[simp] theorem State.lookAgain_inputs (s : State) (n : Line) (m : Line) : (s.lookAgain n).inputs m = s.inputs m := by
  simp only [State.lookAgain]
  repeat' split
  all_goals simp

@[simp] theorem State.enqueue_inputs (s : State) (n : Line) (ref : CopyRef) (m : Line) : (s.enqueue n ref).inputs m = s.inputs m := by
  simp only [State.enqueue]
  repeat' split
  all_goals simp

@[simp] theorem State.clearCurrent_inputs (s : State) (n : Line) (m : Line) : (s.clearCurrent n).inputs m = s.inputs m := by
  simp only [State.clearCurrent]
  repeat' split
  all_goals simp

@[simp] theorem State.putBack_inputs (s : State) (n : Line) (m : Line) : (s.putBack n).inputs m = s.inputs m := by
  simp only [State.putBack]
  repeat' split
  all_goals simp

@[simp] theorem State.withdraw_inputs (s : State) (n : Line) (ref : CopyRef) (m : Line) : (s.withdraw n ref).inputs m = s.inputs m := by
  simp only [State.withdraw]
  repeat' split
  all_goals simp

@[simp] theorem State.delivered_inputs (s : State) (n : Line) (e : QEntry) (m : Line) : (s.delivered n e).inputs m = s.inputs m := by
  simp only [State.delivered]
  repeat' split
  all_goals simp

@[simp] theorem State.pushCurrent_inputs (s : State) (n : Line) (e : QEntry) (m : Line) : (s.pushCurrent n e).inputs m = s.inputs m := by
  simp only [State.pushCurrent]
  repeat' split
  all_goals simp

@[simp] theorem State.reportSent_inputs (s : State) (n : Line) (c : TxChar) (m : Line) : (s.reportSent n c).inputs m = s.inputs m := by
  simp only [State.reportSent]
  repeat' split
  all_goals simp

@[simp] theorem State.countFill_inputs (s : State) (ref : CopyRef) (m : Line) : (s.countFill ref).inputs m = s.inputs m := by
  simp only [State.countFill]
  repeat' split
  all_goals simp

@[simp] theorem State.lineTextChanged_inputs (s : State) (n : Line) (r : RecIx) (oldCount : Nat) (oldComplete : Bool) (m : Line) : (s.lineTextChanged n r oldCount oldComplete).inputs m = s.inputs m := by
  simp only [State.lineTextChanged]
  repeat' split
  all_goals simp

@[simp] theorem State.bindLocal_inputs (s : State) (n : Line) (ref : CopyRef) (m : Line) : (s.bindLocal n ref).inputs m = s.inputs m := by
  simp only [State.bindLocal]
  repeat' split
  all_goals simp

@[simp] theorem State.startSeries_inputs (s : State) (k : CtxIx) (ref : CopyRef) (m : Line) : (s.startSeries k ref).inputs m = s.inputs m := by
  simp only [State.startSeries]
  repeat' split
  all_goals simp

@[simp] theorem State.waitForContext_inputs (s : State) (ref : CopyRef) (m : Line) : (s.waitForContext ref).inputs m = s.inputs m := by
  simp only [State.waitForContext]
  repeat' split
  all_goals simp

@[simp] theorem State.offerCopy_inputs (s : State) (ref : CopyRef) (m : Line) : (s.offerCopy ref).inputs m = s.inputs m := by
  simp only [State.offerCopy]
  repeat' split
  all_goals simp

@[simp] theorem State.serveWaitMany_inputs (s : State) (l : Nat) (m : Line) : (State.serveWaitMany s l).inputs m = s.inputs m := by
  induction l generalizing s with
  | zero => rfl
  | succ k ih =>
    simp only [State.serveWaitMany]
    repeat' split
    all_goals simp [ih]

@[simp] theorem State.serveWaitList_inputs (s : State) (m : Line) : (s.serveWaitList).inputs m = s.inputs m := by
  simp only [State.serveWaitList]
  repeat' split
  all_goals simp

@[simp] theorem State.startCounts_inputs (s : State) (ref : CopyRef) (m : Line) : (s.startCounts ref).inputs m = s.inputs m := by
  simp only [State.startCounts]
  repeat' split
  all_goals simp

@[simp] theorem State.dispatchCopy_inputs (s : State) (ref : CopyRef) (m : Line) : (s.dispatchCopy ref).inputs m = s.inputs m := by
  simp only [State.dispatchCopy]
  repeat' split
  all_goals simp

@[simp] theorem State.dispatchAll_inputs (s : State) (l : List CopyRef) (m : Line) : (State.dispatchAll s l).inputs m = s.inputs m := by
  induction l generalizing s with
  | nil => rfl
  | cons x xs ih =>
    simp only [State.dispatchAll]
    repeat' split
    all_goals simp [ih]

@[simp] theorem State.dispatchRecord_inputs (s : State) (r : RecIx) (m : Line) : (s.dispatchRecord r).inputs m = s.inputs m := by
  simp only [State.dispatchRecord]
  repeat' split
  all_goals simp

theorem State.dispatchRestart_inputs (s : State) (l : List CopyRef) (m : Line) :
    (State.dispatchRestart s l).1.inputs m = s.inputs m := by
  induction l generalizing s with
  | nil => rfl
  | cons x xs ih =>
    simp only [State.dispatchRestart]
    split <;> simp [ih]

@[simp] theorem State.holdOffEnds_inputs (s : State) (m : Line) : s.holdOffEnds.inputs m = s.inputs m := by
  simp [State.holdOffEnds, State.dispatchRestart_inputs]

@[simp] theorem State.enqueueOrRefuse_inputs (s : State) (n : Line) (ref : CopyRef) (m : Line) : (s.enqueueOrRefuse n ref).inputs m = s.inputs m := by
  simp only [State.enqueueOrRefuse]
  repeat' split
  all_goals simp

@[simp] theorem State.die_inputs (s : State) (k : CtxIx) (ref : CopyRef) (m : Line) : (s.die k ref).inputs m = s.inputs m := by
  simp only [State.die]
  repeat' split
  all_goals simp

@[simp] theorem State.bindInstead_inputs (s : State) (k : CtxIx) (n : Line) (ref : CopyRef) (m : Line) : (s.bindInstead k n ref).inputs m = s.inputs m := by
  simp only [State.bindInstead]
  repeat' split
  all_goals simp

@[simp] theorem State.reoffer_inputs (s : State) (k : CtxIx) (ref : CopyRef) (next : Nat) (m : Line) : (s.reoffer k ref next).inputs m = s.inputs m := by
  simp only [State.reoffer]
  repeat' split
  all_goals simp

@[simp] theorem State.unclaimed_inputs (s : State) (k : CtxIx) (ref : CopyRef) (m : Line) : (s.unclaimed k ref).inputs m = s.inputs m := by
  simp only [State.unclaimed]
  repeat' split
  all_goals simp

@[simp] theorem State.spoiled_inputs (s : State) (k : CtxIx) (ref : CopyRef) (m : Line) : (s.spoiled k ref).inputs m = s.inputs m := by
  simp only [State.spoiled]
  repeat' split
  all_goals simp

@[simp] theorem State.handed_inputs (s : State) (k : CtxIx) (ref : CopyRef) (m : Line) : (s.handed k ref).inputs m = s.inputs m := by
  simp only [State.handed]
  repeat' split
  all_goals simp

@[simp] theorem State.sendsLook_inputs (s : State) (r : RecIx) (l : List CtxIx) (m : Line) : (State.sendsLook s r l).inputs m = s.inputs m := by
  induction l generalizing s with
  | nil => rfl
  | cons x xs ih =>
    simp only [State.sendsLook]
    repeat' split
    all_goals simp [ih]

@[simp] theorem State.linesLook_inputs (s : State) (r : RecIx) (oldCount : Nat) (oldComplete : Bool) (l : List Line) (m : Line) : (State.linesLook s r oldCount oldComplete l).inputs m = s.inputs m := by
  induction l generalizing s with
  | nil => rfl
  | cons x xs ih =>
    simp only [State.linesLook]
    repeat' split
    all_goals simp [ih]

@[simp] theorem State.textChanged_inputs (s : State) (r : RecIx) (oldCount : Nat) (oldComplete : Bool) (m : Line) : (s.textChanged r oldCount oldComplete).inputs m = s.inputs m := by
  simp only [State.textChanged]
  repeat' split
  all_goals simp

@[simp] theorem State.cutShort_inputs (s : State) (r : RecIx) (m : Line) : (s.cutShort r).inputs m = s.inputs m := by
  simp only [State.cutShort]
  repeat' split
  all_goals simp

@[simp] theorem State.dropSendOf_inputs (s : State) (ref : CopyRef) (m : Line) : (s.dropSendOf ref).inputs m = s.inputs m := by
  simp only [State.dropSendOf]
  repeat' split
  all_goals simp

@[simp] theorem State.forgetCopy_inputs (s : State) (ref : CopyRef) (m : Line) : (s.forgetCopy ref).inputs m = s.inputs m := by
  simp only [State.forgetCopy]
  repeat' split
  all_goals simp

@[simp] theorem State.withdrawCopy_inputs (s : State) (ref : CopyRef) (m : Line) : (s.withdrawCopy ref).inputs m = s.inputs m := by
  simp only [State.withdrawCopy]
  repeat' split
  all_goals simp

@[simp] theorem State.discardRecord_inputs (s : State) (r : RecIx) (m : Line) : (s.discardRecord r).inputs m = s.inputs m := by
  simp only [State.discardRecord]
  repeat' split
  all_goals simp

@[simp] theorem State.endRecord_inputs (s : State) (r : RecIx) (m : Line) : (s.endRecord r).inputs m = s.inputs m := by
  simp only [State.endRecord]
  repeat' split
  all_goals simp

@[simp] theorem State.endTakeRecord_inputs (s : State) (k : CtxIx) (t : Take) (m : Line) : (s.endTakeRecord k t).inputs m = s.inputs m := by
  simp only [State.endTakeRecord]
  repeat' split
  all_goals simp

@[simp] theorem State.dropClaim_inputs (s : State) (k : CtxIx) (m : Line) : (s.dropClaim k).inputs m = s.inputs m := by
  simp only [State.dropClaim]
  repeat' split
  all_goals simp

@[simp] theorem State.giveUpTake_inputs (s : State) (k : CtxIx) (t : Take) (m : Line) : (s.giveUpTake k t).inputs m = s.inputs m := by
  simp only [State.giveUpTake]
  repeat' split
  all_goals simp

@[simp] theorem State.abandonTake_inputs (s : State) (k : CtxIx) (t : Take) (reason : Reason) (m : Line) : (s.abandonTake k t reason).inputs m = s.inputs m := by
  simp only [State.abandonTake]
  repeat' split
  all_goals simp

@[simp] theorem State.answerClose_inputs (s : State) (k : CtxIx) (m : Line) : (s.answerClose k).inputs m = s.inputs m := by
  simp only [State.answerClose]
  repeat' split
  all_goals simp

@[simp] theorem State.endTaking_inputs (s : State) (l : List RecIx) (m : Line) : (State.endTaking s l).inputs m = s.inputs m := by
  induction l generalizing s with
  | nil => rfl
  | cons x xs ih =>
    simp only [State.endTaking]
    repeat' split
    all_goals simp [ih]

@[simp] theorem State.returnCopies_inputs (s : State) (m : Line) : (s.returnCopies).inputs m = s.inputs m := by
  simp only [State.returnCopies]
  repeat' split
  all_goals simp

@[simp] theorem State.startHoldOff_inputs (s : State) (m : Line) : (s.startHoldOff).inputs m = s.inputs m := by
  simp only [State.startHoldOff]
  repeat' split
  all_goals simp

@[simp] theorem State.warmRestart_inputs (s : State) (sender : Slot) (received : Bool) (m : Line) : (s.warmRestart sender received).inputs m = s.inputs m := by
  simp only [State.warmRestart]
  repeat' split
  all_goals simp

@[simp] theorem State.round_inputs (s : State) (rivals : List Nat) (m : Line) : (s.round rivals).inputs m = s.inputs m := by
  simp only [State.round]
  repeat' split
  all_goals simp

@[simp] theorem State.undrive_inputs (s : State) (m : Line) : (s.undrive).inputs m = s.inputs m := by
  simp only [State.undrive]
  repeat' split
  all_goals simp

@[simp] theorem State.offerReported_inputs (s : State) (k : CtxIx) (m : Line) : (s.offerReported k).inputs m = s.inputs m := by
  simp only [State.offerReported]
  repeat' split
  all_goals simp

@[simp] theorem State.claimReported_inputs (s : State) (k : CtxIx) (m : Line) : (s.claimReported k).inputs m = s.inputs m := by
  simp only [State.claimReported]
  repeat' split
  all_goals simp

@[simp] theorem State.textReported_inputs (s : State) (k : CtxIx) (d : Driven) (m : Line) : (s.textReported k d).inputs m = s.inputs m := by
  simp only [State.textReported]
  repeat' split
  all_goals simp

@[simp] theorem State.closeReported_inputs (s : State) (k : CtxIx) (m : Line) : (s.closeReported k).inputs m = s.inputs m := by
  simp only [State.closeReported]
  repeat' split
  all_goals simp

@[simp] theorem State.answerReported_inputs (s : State) (k : CtxIx) (m : Line) : (s.answerReported k).inputs m = s.inputs m := by
  simp only [State.answerReported]
  repeat' split
  all_goals simp

@[simp] theorem State.dropAnswer_inputs (s : State) (tag : Tag) (reason : Reason) (m : Line) : (s.dropAnswer tag reason).inputs m = s.inputs m := by
  simp only [State.dropAnswer]
  repeat' split
  all_goals simp

@[simp] theorem State.claim_inputs (s : State) (k : CtxIx) (t : Take) (m : Line) : (s.claim k t).inputs m = s.inputs m := by
  simp only [State.claim]
  repeat' split
  all_goals simp

@[simp] theorem State.claimDecision_inputs (s : State) (tag : Tag) (cls : Precedence) (station : StationCode) (length : Option Nat) (cpm attempt : Nat) (m : Line) : (s.claimDecision tag cls station length cpm attempt).inputs m = s.inputs m := by
  simp only [State.claimDecision]
  repeat' split
  all_goals simp

@[simp] theorem State.weighLost_inputs (s : State) (tag : Tag) (cls : Precedence) (attempt : Nat) (m : Line) : (s.weighLost tag cls attempt).inputs m = s.inputs m := by
  simp only [State.weighLost]
  repeat' split
  all_goals simp

@[simp] theorem State.weighOffer_inputs (s : State) (tag : Tag) (cls : Precedence) (station : StationCode) (length : Option Nat) (cpm attempt : Nat) (m : Line) : (s.weighOffer tag cls station length cpm attempt).inputs m = s.inputs m := by
  simp only [State.weighOffer]
  repeat' split
  all_goals simp

@[simp] theorem State.takeClaim_inputs (s : State) (k : CtxIx) (c : Send) (claimant : Slot) (m : Line) : (s.takeClaim k c claimant).inputs m = s.inputs m := by
  simp only [State.takeClaim]
  repeat' split
  all_goals simp

@[simp] theorem State.judgeClaim_inputs (s : State) (tag : Tag) (claimant : Slot) (m : Line) : (s.judgeClaim tag claimant).inputs m = s.inputs m := by
  simp only [State.judgeClaim]
  repeat' split
  all_goals simp

@[simp] theorem State.hearRival_inputs (s : State) (tag : Tag) (m : Line) : (s.hearRival tag).inputs m = s.inputs m := by
  simp only [State.hearRival]
  repeat' split
  all_goals simp

@[simp] theorem State.appendBlock_inputs (s : State) (r : RecIx) (chars : List Code) (m : Line) : (s.appendBlock r chars).inputs m = s.inputs m := by
  simp only [State.appendBlock]
  repeat' split
  all_goals simp

@[simp] theorem State.takeOverrun_inputs (s : State) (k : CtxIx) (r : RecIx) (t : Take) (m : Line) : (s.takeOverrun k r t).inputs m = s.inputs m := by
  simp only [State.takeOverrun]
  repeat' split
  all_goals simp

@[simp] theorem State.storeBlock_inputs (s : State) (k : CtxIx) (r : RecIx) (t : Take) (chars : List Code) (m : Line) :
    (s.storeBlock k r t chars).inputs m = s.inputs m := by
  simp only [State.storeBlock]
  repeat' split
  · rfl
  · rename_i u h; simp [State.relayedBlock_inputs s u k r m h]
  · simp

@[simp] theorem State.takeText_inputs (s : State) (k : CtxIx) (t : Take) (sequence : Nat) (chars : List Code) (m : Line) : (s.takeText k t sequence chars).inputs m = s.inputs m := by
  simp only [State.takeText]
  repeat' split
  all_goals simp

@[simp] theorem State.textEnded_inputs (s : State) (tag : Tag) (m : Line) : (s.textEnded tag).inputs m = s.inputs m := by
  simp only [State.textEnded]
  repeat' split
  all_goals simp

@[simp] theorem State.hearText_inputs (s : State) (tag : Tag) (sequence : Nat) (chars : List Code) (m : Line) : (s.hearText tag sequence chars).inputs m = s.inputs m := by
  simp only [State.hearText]
  repeat' split
  all_goals simp

@[simp] theorem State.enqueueAccepted_inputs (s : State) (ref : CopyRef) (m : Line) : (s.enqueueAccepted ref).inputs m = s.inputs m := by
  simp only [State.enqueueAccepted]
  repeat' split
  all_goals simp

@[simp] theorem State.acceptClose_inputs (s : State) (k : CtxIx) (r : RecIx) (overrun truncated : Bool) (mutilated : Nat) (m : Line) : (s.acceptClose k r overrun truncated mutilated).inputs m = s.inputs m := by
  simp only [State.acceptClose]
  repeat' split
  all_goals simp

@[simp] theorem State.spoilClose_inputs (s : State) (k : CtxIx) (t : Take) (m : Line) : (s.spoilClose k t).inputs m = s.inputs m := by
  simp only [State.spoilClose]
  repeat' split
  all_goals simp

@[simp] theorem State.takeClose_inputs (s : State) (k : CtxIx) (t : Take) (total check : Nat) (overrun truncated : Bool) (mutilated : Nat) (m : Line) : (s.takeClose k t total check overrun truncated mutilated).inputs m = s.inputs m := by
  simp only [State.takeClose]
  repeat' split
  all_goals simp

@[simp] theorem State.takerAbandons_inputs (s : State) (k : CtxIx) (ref : CopyRef) (m : Line) : (s.takerAbandons k ref).inputs m = s.inputs m := by
  simp only [State.takerAbandons]
  repeat' split
  all_goals simp

@[simp] theorem State.originAbandons_inputs (s : State) (tag : Tag) (m : Line) : (s.originAbandons tag).inputs m = s.inputs m := by
  simp only [State.originAbandons]
  repeat' split
  all_goals simp

@[simp] theorem State.modSupTx_inputs (s : State) (f : Tx → Tx) (m : Line) : (s.modSupTx f).inputs m = s.inputs m := by
  simp only [State.modSupTx]
  repeat' split
  all_goals simp

@[simp] theorem State.supFollows_inputs (s : State) (held : Option TxChar) (m : Line) : (s.supFollows held).inputs m = s.inputs m := by
  simp only [State.supFollows]
  repeat' split
  all_goals simp

@[simp] theorem State.supCountFill_inputs (s : State) (m : Line) : (s.supCountFill).inputs m = s.inputs m := by
  simp only [State.supCountFill]
  repeat' split
  all_goals simp

end Sys2Proof.Machine
end

