-- ==== Sys2Proof/Laws/Lists.lean ====
section
/-! SUPPORT. Every shared operation keeps the bounds of the port's and the supervisor unit's lists. -/

set_option linter.unusedTactic false
set_option linter.unreachableTactic false

namespace Sys2Proof.Machine

/-- The bounds rest on the answers, the ended-take list and the supervisor's account alone. -/
theorem ListsBounded.of_eq {s t : State} (h : ListsBounded s) (ha : t.port.answers = s.port.answers)
    (he : t.port.ended = s.port.ended) (hq : t.sup.queue.length ≤ s.sup.queue.length)
    (hl : t.sup.lost = s.sup.lost) : ListsBounded t := by
  obtain ⟨h1, h2, h3, h4, h5, h6⟩ := h
  exact ⟨ha ▸ h1, ha ▸ h2, he ▸ h3, he ▸ h4, Nat.le_trans hq h5, hl ▸ h6⟩

theorem State.modLine_ListsBounded (s : State) (n : Line) (f : LineUnit → LineUnit) (h : ListsBounded s) : ListsBounded (s.modLine n f) :=
  h.of_eq rfl rfl (Nat.le_refl _) rfl

theorem State.modSched_ListsBounded (s : State) (n : Line) (f : Sched → Sched) (hinv : ListsBounded s) : ListsBounded (s.modSched n f) := by
  simp only [State.modSched]
  repeat' split
  all_goals (try (with_reducible repeat (first | assumption | apply State.modLine_ListsBounded)))
  all_goals (first | rfl | exact Nat.le_refl _ | (simp; done))

theorem State.modAsm_ListsBounded (s : State) (n : Line) (f : Assembler → Assembler) (hinv : ListsBounded s) : ListsBounded (s.modAsm n f) := by
  simp only [State.modAsm]
  repeat' split
  all_goals (try (with_reducible repeat (first | assumption | apply State.modLine_ListsBounded)))
  all_goals (first | rfl | exact Nat.le_refl _ | (simp; done))

theorem State.modTx_ListsBounded (s : State) (n : Line) (f : Tx → Tx) (hinv : ListsBounded s) : ListsBounded (s.modTx n f) := by
  simp only [State.modTx]
  repeat' split
  all_goals (try (with_reducible repeat (first | assumption | apply State.modLine_ListsBounded)))
  all_goals (first | rfl | exact Nat.le_refl _ | (simp; done))

theorem State.modMotor_ListsBounded (s : State) (n : Line) (f : Motor → Motor) (hinv : ListsBounded s) : ListsBounded (s.modMotor n f) := by
  simp only [State.modMotor]
  repeat' split
  all_goals (try (with_reducible repeat (first | assumption | apply State.modLine_ListsBounded)))
  all_goals (first | rfl | exact Nat.le_refl _ | (simp; done))

theorem State.modStore_ListsBounded (s : State) (f : Store → Store) (h : ListsBounded s) : ListsBounded (s.modStore f) :=
  h.of_eq rfl rfl (Nat.le_refl _) rfl

theorem State.modRouter_ListsBounded (s : State) (f : Router → Router) (h : ListsBounded s) : ListsBounded (s.modRouter f) :=
  h.of_eq rfl rfl (Nat.le_refl _) rfl

theorem State.modPort_ListsBounded (s : State) (f : Port → Port) (h : ListsBounded s)
    (ha : (f s.port).answers = s.port.answers) (he : (f s.port).ended = s.port.ended) : ListsBounded (s.modPort f) :=
  h.of_eq ha he (Nat.le_refl _) rfl

theorem State.modSup_ListsBounded (s : State) (f : Supervisor → Supervisor) (h : ListsBounded s)
    (hq : (f s.sup).queue.length ≤ s.sup.queue.length) (hl : (f s.sup).lost = s.sup.lost) : ListsBounded (s.modSup f) :=
  h.of_eq rfl rfl hq hl

theorem State.modRecord_ListsBounded (s : State) (r : RecIx) (f : Record → Record) (hinv : ListsBounded s) : ListsBounded (s.modRecord r f) := by
  simp only [State.modRecord]
  repeat' split
  all_goals (try (with_reducible repeat (first | assumption | apply State.modStore_ListsBounded)))
  all_goals (first | rfl | exact Nat.le_refl _ | (simp; done))

theorem State.modCopy_ListsBounded (s : State) (ref : CopyRef) (f : Copy → Copy) (hinv : ListsBounded s) : ListsBounded (s.modCopy ref f) := by
  simp only [State.modCopy]
  repeat' split
  all_goals (try (with_reducible repeat (first | assumption | apply State.modRecord_ListsBounded)))
  all_goals (first | rfl | exact Nat.le_refl _ | (simp; done))

theorem State.setCopyState_ListsBounded (s : State) (ref : CopyRef) (st : CopyState) (hinv : ListsBounded s) : ListsBounded (s.setCopyState ref st) := by
  simp only [State.setCopyState]
  repeat' split
  all_goals (try (with_reducible repeat (first | assumption | apply State.modCopy_ListsBounded)))
  all_goals (first | rfl | exact Nat.le_refl _ | (simp; done))

theorem State.writeChar_ListsBounded (s : State) (r : RecIx) (i : Nat) (c : Code) (hinv : ListsBounded s) : ListsBounded (s.writeChar r i c) := by
  simp only [State.writeChar]
  repeat' split
  all_goals (try (with_reducible repeat (first | assumption | apply State.modStore_ListsBounded)))
  all_goals (first | rfl | exact Nat.le_refl _ | (simp; done))

theorem State.writeChars_ListsBounded (s : State) (r : RecIx) (i : Nat) (l : List Code) (hinv : ListsBounded s) : ListsBounded (State.writeChars s r i l) := by
  induction l generalizing s i with
  | nil => exact hinv
  | cons x xs ih =>
    simp only [State.writeChars]
    repeat' split
    all_goals (try (with_reducible repeat (first | assumption | apply State.writeChar_ListsBounded | apply ih)))
    all_goals (first | rfl | exact Nat.le_refl _ | (simp; done))

theorem State.setReserved_ListsBounded (s : State) (k : CtxIx) (n : Nat) (hinv : ListsBounded s) : ListsBounded (s.setReserved k n) := by
  simp only [State.setReserved]
  repeat' split
  all_goals (try (with_reducible repeat (first | assumption | apply State.modStore_ListsBounded)))
  all_goals (first | rfl | exact Nat.le_refl _ | (simp; done))

theorem State.releaseReservation_ListsBounded (s : State) (k : CtxIx) (hinv : ListsBounded s) : ListsBounded (s.releaseReservation k) := by
  simp only [State.releaseReservation]
  repeat' split
  all_goals (try (with_reducible repeat (first | assumption | apply State.setReserved_ListsBounded)))
  all_goals (first | rfl | exact Nat.le_refl _ | (simp; done))

theorem State.pledge_ListsBounded (s : State) (h : ListsBounded s) : ListsBounded s.pledge := h

theorem State.drawBlock_ListsBounded (s t : State) (r : RecIx) (e : s.drawBlock r = some t) (h : ListsBounded s) : ListsBounded t := by
  unfold State.drawBlock at e
  split at e
  · cases e
  · split at e
    · cases e
    · cases e; exact h

theorem State.allocateBlock_ListsBounded (s t : State) (r : RecIx) (e : s.allocateBlock r = some t) (h : ListsBounded s) : ListsBounded t := by
  unfold State.allocateBlock at e
  split at e
  · exact State.drawBlock_ListsBounded s t r e h
  · cases e

theorem State.relayedBlock_ListsBounded (s t : State) (k : CtxIx) (r : RecIx) (e : s.relayedBlock k r = some t) (h : ListsBounded s) :
    ListsBounded t := by
  unfold State.relayedBlock at e
  simp only at e
  split at e
  · cases hd : s.drawBlock r with
    | none => simp [hd] at e
    | some u => simp [hd] at e; subst e; exact State.drawBlock_ListsBounded s u r hd h
  · exact State.allocateBlock_ListsBounded s t r e h

theorem State.unpledge_ListsBounded (s : State) (hinv : ListsBounded s) : ListsBounded (s.unpledge) := by
  simp only [State.unpledge]
  repeat' split
  all_goals (try (with_reducible repeat (first | assumption | apply State.modStore_ListsBounded)))
  all_goals (first | rfl | exact Nat.le_refl _ | (simp; done))

theorem State.freeRecord_ListsBounded (s : State) (r : RecIx) (hinv : ListsBounded s) : ListsBounded (s.freeRecord r) := by
  simp only [State.freeRecord]
  repeat' split
  all_goals (try (with_reducible repeat (first | assumption | apply State.modStore_ListsBounded | apply State.modRecord_ListsBounded)))
  all_goals (first | rfl | exact Nat.le_refl _ | (simp; done))

theorem State.tryFree_ListsBounded (s : State) (r : RecIx) (hinv : ListsBounded s) : ListsBounded (s.tryFree r) := by
  simp only [State.tryFree]
  repeat' split
  all_goals (try (with_reducible repeat (first | assumption | apply State.freeRecord_ListsBounded)))
  all_goals (first | rfl | exact Nat.le_refl _ | (simp; done))

theorem State.settle_ListsBounded (s : State) (ref : CopyRef) (how : Settlement) (hinv : ListsBounded s) : ListsBounded (s.settle ref how) := by
  simp only [State.settle]
  repeat' split
  all_goals (try (with_reducible repeat (first | assumption | apply State.modRecord_ListsBounded | apply State.tryFree_ListsBounded)))
  all_goals (first | rfl | exact Nat.le_refl _ | (simp; done))

theorem State.setSend_ListsBounded (s : State) (k : CtxIx) (c : Option Send) (hinv : ListsBounded s) : ListsBounded (s.setSend k c) := by
  simp only [State.setSend]
  repeat' split
  all_goals (try (with_reducible repeat (first | assumption | apply State.modPort_ListsBounded)))
  all_goals (first | rfl | exact Nat.le_refl _ | (simp; done))

theorem State.setTake_ListsBounded (s : State) (k : CtxIx) (t : Option Take) (hinv : ListsBounded s) : ListsBounded (s.setTake k t) := by
  simp only [State.setTake]
  repeat' split
  all_goals (try (with_reducible repeat (first | assumption | apply State.modPort_ListsBounded)))
  all_goals (first | rfl | exact Nat.le_refl _ | (simp; done))

theorem State.modSend_ListsBounded (s : State) (k : CtxIx) (f : Send → Send) (hinv : ListsBounded s) : ListsBounded (s.modSend k f) := by
  simp only [State.modSend]
  repeat' split
  all_goals (try (with_reducible repeat (first | assumption | apply State.setSend_ListsBounded)))
  all_goals (first | rfl | exact Nat.le_refl _ | (simp; done))

theorem State.modTake_ListsBounded (s : State) (k : CtxIx) (f : Take → Take) (hinv : ListsBounded s) : ListsBounded (s.modTake k f) := by
  simp only [State.modTake]
  repeat' split
  all_goals (try (with_reducible repeat (first | assumption | apply State.setTake_ListsBounded)))
  all_goals (first | rfl | exact Nat.le_refl _ | (simp; done))

theorem State.refreshTenure_ListsBounded (s : State) (hinv : ListsBounded s) : ListsBounded (s.refreshTenure) := by
  simp only [State.refreshTenure]
  repeat' split
  all_goals (try (with_reducible repeat (first | assumption | apply State.modPort_ListsBounded)))
  all_goals (first | rfl | exact Nat.le_refl _ | (simp; done))

theorem State.endTenure_ListsBounded (s : State) (hinv : ListsBounded s) : ListsBounded (s.endTenure) := by
  simp only [State.endTenure]
  repeat' split
  all_goals (try (with_reducible repeat (first | assumption | apply State.refreshTenure_ListsBounded | apply State.modPort_ListsBounded)))
  all_goals (first | rfl | exact Nat.le_refl _ | (simp; done))

theorem State.nextStamp_ListsBounded (s : State) (hinv : ListsBounded s) : ListsBounded (s.nextStamp) := by
  simp only [State.nextStamp]
  repeat' split
  all_goals (try (with_reducible repeat (first | assumption | apply State.modPort_ListsBounded)))
  all_goals (first | rfl | exact Nat.le_refl _ | (simp; done))

theorem State.drive_ListsBounded (s : State) (source : FrameSource) (byRound : Bool) (hinv : ListsBounded s) : ListsBounded (s.drive source byRound) := by
  simp only [State.drive]
  repeat' split
  all_goals (try (with_reducible repeat (first | assumption | apply State.modPort_ListsBounded)))
  all_goals (first | rfl | exact Nat.le_refl _ | (simp; done))

theorem State.deaden_ListsBounded (s : State) (source : FrameSource) (hinv : ListsBounded s) : ListsBounded (s.deaden source) := by
  simp only [State.deaden]
  repeat' split
  all_goals (try (with_reducible repeat (first | assumption | apply State.modPort_ListsBounded)))
  all_goals (first | rfl | exact Nat.le_refl _ | (simp; done))

theorem State.askSend_ListsBounded (s : State) (k : CtxIx) (kind : SendKind) (hinv : ListsBounded s) : ListsBounded (s.askSend k kind) := by
  simp only [State.askSend]
  repeat' split
  all_goals (try (with_reducible repeat (first | assumption | apply State.deaden_ListsBounded | apply State.modSend_ListsBounded | apply State.nextStamp_ListsBounded | apply State.refreshTenure_ListsBounded | apply State.drive_ListsBounded)))
  all_goals (first | rfl | exact Nat.le_refl _ | (simp; done))

theorem State.askTake_ListsBounded (s : State) (k : CtxIx) (kind : TakeKind) (hinv : ListsBounded s) : ListsBounded (s.askTake k kind) := by
  simp only [State.askTake]
  repeat' split
  all_goals (try (with_reducible repeat (first | assumption | apply State.deaden_ListsBounded | apply State.modTake_ListsBounded | apply State.nextStamp_ListsBounded | apply State.refreshTenure_ListsBounded)))
  all_goals (first | rfl | exact Nat.le_refl _ | (simp; done))

theorem State.closeWindow_ListsBounded (s : State) (k : CtxIx) (hinv : ListsBounded s) : ListsBounded (s.closeWindow k) := by
  simp only [State.closeWindow]
  repeat' split
  all_goals (try (with_reducible repeat (first | assumption | apply State.endTenure_ListsBounded | apply State.refreshTenure_ListsBounded)))
  all_goals (first | rfl | exact Nat.le_refl _ | (simp; done))

theorem State.dropSend_ListsBounded (s : State) (k : CtxIx) (hinv : ListsBounded s) : ListsBounded (s.dropSend k) := by
  simp only [State.dropSend]
  repeat' split
  all_goals (try (with_reducible repeat (first | assumption | apply State.deaden_ListsBounded | apply State.modSend_ListsBounded | apply State.closeWindow_ListsBounded)))
  all_goals (first | rfl | exact Nat.le_refl _ | (simp; done))

theorem State.freeSend_ListsBounded (s : State) (k : CtxIx) (hinv : ListsBounded s) : ListsBounded (s.freeSend k) := by
  simp only [State.freeSend]
  repeat' split
  all_goals (try (with_reducible repeat (first | assumption | apply State.deaden_ListsBounded | apply State.setSend_ListsBounded | apply State.closeWindow_ListsBounded)))
  all_goals (first | rfl | exact Nat.le_refl _ | (simp; done))

theorem State.freeTake_ListsBounded (s : State) (k : CtxIx) (hinv : ListsBounded s) : ListsBounded (s.freeTake k) := by
  simp only [State.freeTake]
  repeat' split
  all_goals (try (with_reducible repeat (first | assumption | apply State.deaden_ListsBounded | apply State.setTake_ListsBounded | apply State.refreshTenure_ListsBounded)))
  all_goals (first | rfl | exact Nat.le_refl _ | (simp; done))

theorem State.addAnswer_ListsBounded (s : State) (tag : Tag) (reason : Reason) (cls : Precedence) (h : ListsBounded s) :
    ListsBounded (s.addAnswer tag reason cls) := by
  simp only [State.addAnswer]
  split
  · exact h
  · rename_i hn
    simp only [Bool.or_eq_true, List.any_eq_true, decide_eq_true_eq, not_or, not_exists, not_and] at hn
    apply State.refreshTenure_ListsBounded
    apply State.nextStamp_ListsBounded
    obtain ⟨h1, h2, h3, h4, h5, h6⟩ := h
    refine ⟨?_, ?_, h3, h4, h5, h6⟩
    · simp only [State.modPort_port, List.length_append, List.length_cons, List.length_nil]
      have : Config.portListMax = 8 := rfl
      omega
    · simp only [State.modPort_port, List.map_append, List.map_cons, List.map_nil]
      refine List.nodup_append.2 ⟨h2, by simp, ?_⟩
      intro a ha b hb e
      subst e
      simp only [List.mem_singleton] at hb
      subst hb
      obtain ⟨x, hx, e⟩ := List.mem_map.1 ha
      exact hn.1 x hx (congrArg Prod.fst e) (congrArg Prod.snd e)

theorem State.addEnded_ListsBounded (s : State) (tag : Tag) (cls : Precedence) (h : ListsBounded s) : ListsBounded (s.addEnded tag cls) := by
  simp only [State.addEnded]
  split
  · exact h
  · rename_i hn
    simp only [List.any_eq_true, decide_eq_true_eq, not_exists, not_and] at hn
    obtain ⟨h1, h2, h3, h4, h5, h6⟩ := h
    have hd : ∀ x ∈ (if Config.portListMax ≤ s.port.ended.length then s.port.ended.drop 1 else s.port.ended),
        x ∈ s.port.ended := by
      intro x hx
      split at hx
      · exact List.mem_of_mem_drop hx
      · exact hx
    refine ⟨h1, h2, ?_, ?_, h5, h6⟩
    · simp only [State.modPort_port, List.length_append, List.length_cons, List.length_nil]
      have : Config.portListMax = 8 := rfl
      by_cases hl : Config.portListMax ≤ s.port.ended.length
      · simp only [if_pos hl, List.length_drop]; omega
      · simp only [if_neg hl]; omega
    · simp only [State.modPort_port, List.map_append, List.map_cons, List.map_nil]
      refine List.nodup_append.2 ⟨?_, by simp, ?_⟩
      · split
        · rw [List.map_drop]; exact h4.sublist (List.drop_sublist _ _)
        · exact h4
      · intro a ha b hb e
        subst e
        simp only [List.mem_singleton] at hb
        subst hb
        obtain ⟨x, hx, e⟩ := List.mem_map.1 ha
        exact hn x (hd x hx) e

theorem State.dropEnded_ListsBounded (s : State) (tag : Tag) (h : ListsBounded s) : ListsBounded (s.dropEnded tag) := by
  obtain ⟨h1, h2, h3, h4, h5, h6⟩ := h
  refine ⟨h1, h2, Nat.le_trans (List.length_filter_le _ _) h3, ?_, h5, h6⟩
  exact h4.sublist (List.Sublist.map _ List.filter_sublist)

theorem State.askOffer_ListsBounded (s : State) (k : CtxIx) (hinv : ListsBounded s) : ListsBounded (s.askOffer k) := by
  simp only [State.askOffer]
  repeat' split
  all_goals (try (with_reducible repeat (first | assumption | apply State.setSend_ListsBounded | apply State.setCopyState_ListsBounded | apply State.askSend_ListsBounded)))
  all_goals (first | rfl | exact Nat.le_refl _ | (simp; done))

theorem State.giveSend_ListsBounded (s : State) (k : CtxIx) (ref : CopyRef) (hinv : ListsBounded s) : ListsBounded (s.giveSend k ref) := by
  simp only [State.giveSend]
  repeat' split
  all_goals (try (with_reducible repeat (first | assumption | apply State.setSend_ListsBounded | apply State.askOffer_ListsBounded)))
  all_goals (first | rfl | exact Nat.le_refl _ | (simp; done))

theorem State.lookNext_ListsBounded (s : State) (k : CtxIx) (hinv : ListsBounded s) : ListsBounded (s.lookNext k) := by
  simp only [State.lookNext]
  repeat' split
  all_goals (try (with_reducible repeat (first | assumption | apply State.askSend_ListsBounded)))
  all_goals (first | rfl | exact Nat.le_refl _ | (simp; done))

theorem State.supGoTail_ListsBounded (s : State) (short : Bool) (hinv : ListsBounded s) : ListsBounded (s.supGoTail short) := by
  simp only [State.supGoTail]
  repeat' split
  all_goals (try (with_reducible repeat (first | assumption | apply State.modSup_ListsBounded)))
  all_goals (first | rfl | exact Nat.le_refl _ | (simp; done))

theorem State.supLoadComposed_ListsBounded (s : State) (hinv : ListsBounded s) : ListsBounded (s.supLoadComposed) := by
  simp only [State.supLoadComposed]
  repeat' split
  all_goals (try (with_reducible repeat (first | assumption | apply State.modSup_ListsBounded)))
  all_goals (first | rfl | exact Nat.le_refl _ | (simp; done))

theorem State.supLineLoaded_ListsBounded (s : State) (hinv : ListsBounded s) : ListsBounded (s.supLineLoaded) := by
  simp only [State.supLineLoaded]
  repeat' split
  all_goals (try (with_reducible repeat (first | assumption | apply State.supGoTail_ListsBounded | apply State.modSup_ListsBounded)))
  all_goals (first | rfl | exact Nat.le_refl _ | (simp; done))

theorem State.supServeLine_ListsBounded (s : State) (hinv : ListsBounded s) : ListsBounded (s.supServeLine) := by
  simp only [State.supServeLine]
  repeat' split
  all_goals (try (with_reducible repeat (first | assumption | apply State.supLoadComposed_ListsBounded | apply State.supLineLoaded_ListsBounded)))
  all_goals (first | rfl | exact Nat.le_refl _ | (simp; done))

theorem State.supServeText_ListsBounded (s : State) (ref : CopyRef) (hinv : ListsBounded s) : ListsBounded (s.supServeText ref) := by
  simp only [State.supServeText]
  repeat' split
  all_goals (try (with_reducible repeat (first | assumption | apply State.modSup_ListsBounded | apply State.supGoTail_ListsBounded | apply State.supLoadComposed_ListsBounded)))
  all_goals (first | rfl | exact Nat.le_refl _ | (simp; done))

theorem State.supServe_ListsBounded (s : State) (hinv : ListsBounded s) : ListsBounded (s.supServe) := by
  simp only [State.supServe]
  repeat' split
  all_goals (try (with_reducible repeat (first | assumption | apply State.supServeLine_ListsBounded | apply State.supServeText_ListsBounded | apply State.supLoadComposed_ListsBounded)))
  all_goals (first | rfl | exact Nat.le_refl _ | (simp; done))

theorem State.beginPrint_ListsBounded (s : State) (hinv : ListsBounded s) : ListsBounded (s.beginPrint) := by
  simp only [State.beginPrint]
  repeat' split
  all_goals (try (with_reducible repeat (first | assumption | apply State.supServe_ListsBounded | apply State.modSup_ListsBounded)))
  all_goals (first | rfl | exact Nat.le_refl _ | (simp; done))

theorem State.chosen_ListsBounded (s : State) (hinv : ListsBounded s) : ListsBounded s.chosen := hinv

theorem State.handOverMany_ListsBounded (s : State) (l : Nat) (h : ListsBounded s) : ListsBounded (State.handOverMany s l) := by
  induction l generalizing s with
  | zero => exact h
  | succ k ih =>
    simp only [State.handOverMany]
    repeat' split
    · exact h
    · exact h
    · rename_i hp
      apply ih
      apply State.beginPrint_ListsBounded
      obtain ⟨h1, h2, h3, h4, h5, h6⟩ := h
      refine ⟨h1, h2, h3, h4, ?_, h6⟩
      simp only [Supervisor.places, Config.supervisorPlaces] at hp
      simp only [State.modSup_sup, List.length_append, List.length_cons, List.length_nil]
      simp only [State.setCopyState_sup, State.modRouter_sup]
      omega

theorem State.handOver_ListsBounded (s : State) (hinv : ListsBounded s) : ListsBounded (s.handOver) := by
  simp only [State.handOver]
  repeat' split
  all_goals (try (with_reducible repeat (first | assumption | apply State.handOverMany_ListsBounded)))
  all_goals (first | rfl | exact Nat.le_refl _ | (simp; done))

theorem State.handOverSought_ListsBounded (s : State) (l : Nat) (h : ListsBounded s) : ListsBounded (State.handOverSought s l) := by
  induction l generalizing s with
  | zero => exact h
  | succ k ih =>
    simp only [State.handOverSought]
    repeat' split
    · exact h
    · exact State.chosen_ListsBounded s h
    · exact ih _ (State.handOverMany_ListsBounded _ 1 (State.chosen_ListsBounded s h))

theorem State.post_ListsBounded (s : State) (n : Notice) (h : ListsBounded s) : ListsBounded (s.post n) := by
  simp only [State.post]
  apply State.handOver_ListsBounded
  apply State.beginPrint_ListsBounded
  obtain ⟨h1, h2, h3, h4, h5, h6⟩ := h
  refine ⟨h1, h2, h3, h4, ?_, ?_⟩
  · simp only [State.modSup_sup, Supervisor.posted]
    repeat' split
    all_goals rename_i hp
    all_goals simp only [Supervisor.places, Config.supervisorPlaces] at *
    all_goals (try simp only [List.length_append, List.length_cons, List.length_nil])
    all_goals omega
  · simp only [State.modSup_sup, Supervisor.posted]
    repeat' split
    all_goals first
      | exact h6
      | exact Nat.zero_le _
      | (show saturate Config.lostMax s.sup.lost ≤ 255; have : Config.lostMax = 255 := rfl; unfold saturate; split <;> omega)

theorem State.postAll_ListsBounded (s : State) (l : List Notice) (hinv : ListsBounded s) : ListsBounded (State.postAll s l) := by
  induction l generalizing s with
  | nil => exact hinv
  | cons x xs ih =>
    simp only [State.postAll]
    repeat' split
    all_goals (try (with_reducible repeat (first | assumption | apply State.post_ListsBounded | apply ih)))
    all_goals (first | rfl | exact Nat.le_refl _ | (simp; done))

theorem State.placeFreed_ListsBounded (s before : State) (sought : Bool) (hinv : ListsBounded s) : ListsBounded (s.placeFreed before sought) := by
  simp only [State.placeFreed]
  repeat' split
  all_goals (try (with_reducible repeat (first | assumption | apply State.chosen_ListsBounded | apply State.handOver_ListsBounded | apply State.handOverSought_ListsBounded)))
  all_goals (first | rfl | exact Nat.le_refl _ | (simp; done))

theorem State.tellPlaces_ListsBounded (s before : State) (hinv : ListsBounded s) : ListsBounded (s.tellPlaces before) :=
  State.placeFreed_ListsBounded s before _ hinv

theorem State.itemEnded_ListsBounded (s : State) (hinv : ListsBounded s) : ListsBounded (s.itemEnded) := by
  simp only [State.itemEnded]
  repeat' split
  all_goals (try (with_reducible repeat (first | assumption | apply State.tellPlaces_ListsBounded | apply State.modSup_ListsBounded | apply State.settle_ListsBounded | apply State.placeFreed_ListsBounded | apply State.beginPrint_ListsBounded)))
  all_goals (first | rfl | exact Nat.le_refl _ | (simp; done))

theorem State.discardHead_ListsBounded (s : State) (hinv : ListsBounded s) : ListsBounded (s.discardHead) := by
  simp only [State.discardHead]
  repeat' split
  all_goals (try (with_reducible repeat (first | assumption | apply State.modSup_ListsBounded | apply State.supGoTail_ListsBounded | apply State.supLoadComposed_ListsBounded)))
  all_goals (first | rfl | exact Nat.le_refl _ | (simp; done))

theorem State.discardDead_ListsBounded (s : State) (r : RecIx) (g : Gen) (h : ListsBounded s) : ListsBounded (s.discardDead r g) := by
  simp only [State.discardDead]
  have hs : ∀ u : State, ListsBounded u → ListsBounded (u.modSup fun u =>
      match u.queue with
      | head :: rest => { u with queue := head :: rest.filter fun i => !i.isOf r g }
      | [] => u) := by
    intro u hu
    apply State.modSup_ListsBounded _ _ hu
    · split
      · rename_i e; rw [e]; simpa using List.length_filter_le _ _
      · exact Nat.le_refl _
    · split <;> rfl
  apply hs
  repeat' split
  · exact State.discardHead_ListsBounded _ (State.modRouter_ListsBounded _ _ h)
  · exact State.modRouter_ListsBounded _ _ h
  · exact State.modRouter_ListsBounded _ _ h

theorem State.supTextChanged_ListsBounded (s : State) (r : RecIx) (hinv : ListsBounded s) : ListsBounded (s.supTextChanged r) := by
  simp only [State.supTextChanged]
  repeat' split
  all_goals (try (with_reducible repeat (first | assumption | apply State.supServe_ListsBounded)))
  all_goals (first | rfl | exact Nat.le_refl _ | (simp; done))

theorem State.motorEnqueue_ListsBounded (s : State) (n : Line) (hinv : ListsBounded s) : ListsBounded (s.motorEnqueue n) := by
  simp only [State.motorEnqueue]
  repeat' split
  all_goals (try (with_reducible repeat (first | assumption | apply State.modMotor_ListsBounded)))
  all_goals (first | rfl | exact Nat.le_refl _ | (simp; done))

theorem State.motorEmpty_ListsBounded (s : State) (n : Line) (hinv : ListsBounded s) : ListsBounded (s.motorEmpty n) := by
  simp only [State.motorEmpty]
  repeat' split
  all_goals (try (with_reducible repeat (first | assumption | apply State.modMotor_ListsBounded)))
  all_goals (first | rfl | exact Nat.le_refl _ | (simp; done))

theorem State.loadChar_ListsBounded (s : State) (n : Line) (c : TxChar) (hinv : ListsBounded s) : ListsBounded (s.loadChar n c) := by
  simp only [State.loadChar]
  repeat' split
  all_goals (try (with_reducible repeat (first | assumption | apply State.modTx_ListsBounded)))
  all_goals (first | rfl | exact Nat.le_refl _ | (simp; done))

theorem State.loadNextComposed_ListsBounded (s : State) (n : Line) (hinv : ListsBounded s) : ListsBounded (s.loadNextComposed n) := by
  simp only [State.loadNextComposed]
  repeat' split
  all_goals (try (with_reducible repeat (first | assumption | apply State.loadChar_ListsBounded | apply State.modSched_ListsBounded)))
  all_goals (first | rfl | exact Nat.le_refl _ | (simp; done))

theorem State.serveHead_ListsBounded (s : State) (n : Line) (hinv : ListsBounded s) : ListsBounded (s.serveHead n) := by
  simp only [State.serveHead]
  repeat' split
  all_goals (try (with_reducible repeat (first | assumption | apply State.loadNextComposed_ListsBounded | apply State.modSched_ListsBounded)))
  all_goals (first | rfl | exact Nat.le_refl _ | (simp; done))

theorem State.enterTail_ListsBounded (s : State) (n : Line) (r : Record) (hinv : ListsBounded s) : ListsBounded (s.enterTail n r) := by
  simp only [State.enterTail]
  repeat' split
  all_goals (try (with_reducible repeat (first | assumption | apply State.modSched_ListsBounded)))
  all_goals (first | rfl | exact Nat.le_refl _ | (simp; done))

theorem State.serveText_ListsBounded (s : State) (n : Line) (ref : CopyRef) (hinv : ListsBounded s) : ListsBounded (s.serveText n ref) := by
  simp only [State.serveText]
  repeat' split
  all_goals (try (with_reducible repeat (first | assumption | apply State.loadChar_ListsBounded | apply State.modSched_ListsBounded | apply State.enterTail_ListsBounded | apply State.loadNextComposed_ListsBounded)))
  all_goals (first | rfl | exact Nat.le_refl _ | (simp; done))

theorem State.serveLine_ListsBounded (s : State) (n : Line) (hinv : ListsBounded s) : ListsBounded (s.serveLine n) := by
  simp only [State.serveLine]
  repeat' split
  all_goals (try (with_reducible repeat (first | assumption | apply State.serveHead_ListsBounded | apply State.serveText_ListsBounded | apply State.loadNextComposed_ListsBounded)))
  all_goals (first | rfl | exact Nat.le_refl _ | (simp; done))

theorem State.numberCopy_ListsBounded (s : State) (n : Line) (ref : CopyRef) (hinv : ListsBounded s) : ListsBounded (s.numberCopy n ref) := by
  simp only [State.numberCopy]
  repeat' split
  all_goals (try (with_reducible repeat (first | assumption | apply State.modCopy_ListsBounded | apply State.modSched_ListsBounded)))
  all_goals (first | rfl | exact Nat.le_refl _ | (simp; done))

theorem State.startFresh_ListsBounded (s : State) (n : Line) (e : QEntry) (hinv : ListsBounded s) : ListsBounded (s.startFresh n e) := by
  simp only [State.startFresh]
  repeat' split
  all_goals (try (with_reducible repeat (first | assumption | apply State.numberCopy_ListsBounded | apply State.setCopyState_ListsBounded | apply State.modSched_ListsBounded | apply State.modTx_ListsBounded | apply State.serveLine_ListsBounded)))
  all_goals (first | rfl | exact Nat.le_refl _ | (simp; done))

theorem State.startResume_ListsBounded (s : State) (n : Line) (e : QEntry) (hinv : ListsBounded s) : ListsBounded (s.startResume n e) := by
  simp only [State.startResume]
  repeat' split
  all_goals (try (with_reducible repeat (first | assumption | apply State.numberCopy_ListsBounded | apply State.setCopyState_ListsBounded | apply State.modCopy_ListsBounded | apply State.modSched_ListsBounded | apply State.modTx_ListsBounded | apply State.serveLine_ListsBounded)))
  all_goals (first | rfl | exact Nat.le_refl _ | (simp; done))

theorem State.choose_ListsBounded (s : State) (n : Line) (hinv : ListsBounded s) : ListsBounded (s.choose n) := by
  simp only [State.choose]
  repeat' split
  all_goals (try (with_reducible repeat (first | assumption | apply State.modSched_ListsBounded | apply State.startFresh_ListsBounded | apply State.startResume_ListsBounded)))
  all_goals (first | rfl | exact Nat.le_refl _ | (simp; done))

theorem State.beginInterruption_ListsBounded (s : State) (n : Line) (hinv : ListsBounded s) : ListsBounded (s.beginInterruption n) := by
  simp only [State.beginInterruption]
  repeat' split
  all_goals (try (with_reducible repeat (first | assumption | apply State.serveLine_ListsBounded | apply State.modSched_ListsBounded | apply State.modTx_ListsBounded)))
  all_goals (first | rfl | exact Nat.le_refl _ | (simp; done))

theorem State.preemptTest_ListsBounded (s : State) (n : Line) (hinv : ListsBounded s) : ListsBounded (s.preemptTest n) := by
  simp only [State.preemptTest]
  repeat' split
  all_goals (try (with_reducible repeat (first | assumption | apply State.beginInterruption_ListsBounded | apply State.modSched_ListsBounded)))
  all_goals (first | rfl | exact Nat.le_refl _ | (simp; done))

theorem State.reconsiderMark_ListsBounded (s : State) (n : Line) (hinv : ListsBounded s) : ListsBounded (s.reconsiderMark n) := by
  simp only [State.reconsiderMark]
  repeat' split
  all_goals (try (with_reducible repeat (first | assumption | apply State.modSched_ListsBounded)))
  all_goals (first | rfl | exact Nat.le_refl _ | (simp; done))

theorem State.lookAgain_ListsBounded (s : State) (n : Line) (hinv : ListsBounded s) : ListsBounded (s.lookAgain n) := by
  simp only [State.lookAgain]
  repeat' split
  all_goals (try (with_reducible repeat (first | assumption | apply State.preemptTest_ListsBounded | apply State.choose_ListsBounded)))
  all_goals (first | rfl | exact Nat.le_refl _ | (simp; done))

theorem State.enqueue_ListsBounded (s : State) (n : Line) (ref : CopyRef) (hinv : ListsBounded s) : ListsBounded (s.enqueue n ref) := by
  simp only [State.enqueue]
  repeat' split
  all_goals (try (with_reducible repeat (first | assumption | apply State.modSched_ListsBounded | apply State.setCopyState_ListsBounded | apply State.motorEnqueue_ListsBounded | apply State.lookAgain_ListsBounded | apply State.choose_ListsBounded)))
  all_goals (first | rfl | exact Nat.le_refl _ | (simp; done))

theorem State.clearCurrent_ListsBounded (s : State) (n : Line) (hinv : ListsBounded s) : ListsBounded (s.clearCurrent n) := by
  simp only [State.clearCurrent]
  repeat' split
  all_goals (try (with_reducible repeat (first | assumption | apply State.modSched_ListsBounded | apply State.modTx_ListsBounded)))
  all_goals (first | rfl | exact Nat.le_refl _ | (simp; done))

theorem State.putBack_ListsBounded (s : State) (n : Line) (hinv : ListsBounded s) : ListsBounded (s.putBack n) := by
  simp only [State.putBack]
  repeat' split
  all_goals (try (with_reducible repeat (first | assumption | apply State.clearCurrent_ListsBounded | apply State.modCopy_ListsBounded | apply State.modSched_ListsBounded | apply State.setCopyState_ListsBounded | apply State.motorEnqueue_ListsBounded)))
  all_goals (first | rfl | exact Nat.le_refl _ | (simp; done))

theorem State.withdraw_ListsBounded (s : State) (n : Line) (ref : CopyRef) (hinv : ListsBounded s) : ListsBounded (s.withdraw n ref) := by
  simp only [State.withdraw]
  repeat' split
  all_goals (try (with_reducible repeat (first | assumption | apply State.modSched_ListsBounded | apply State.reconsiderMark_ListsBounded | apply State.motorEmpty_ListsBounded)))
  all_goals (first | rfl | exact Nat.le_refl _ | (simp; done))

theorem State.delivered_ListsBounded (s : State) (n : Line) (e : QEntry) (hinv : ListsBounded s) : ListsBounded (s.delivered n e) := by
  simp only [State.delivered]
  repeat' split
  all_goals (try (with_reducible repeat (first | assumption | apply State.settle_ListsBounded | apply State.clearCurrent_ListsBounded | apply State.choose_ListsBounded | apply State.motorEmpty_ListsBounded)))
  all_goals (first | rfl | exact Nat.le_refl _ | (simp; done))

theorem State.pushCurrent_ListsBounded (s : State) (n : Line) (e : QEntry) (hinv : ListsBounded s) : ListsBounded (s.pushCurrent n e) := by
  simp only [State.pushCurrent]
  repeat' split
  all_goals (try (with_reducible repeat (first | assumption | apply State.modCopy_ListsBounded | apply State.clearCurrent_ListsBounded | apply State.modSched_ListsBounded | apply State.choose_ListsBounded)))
  all_goals (first | rfl | exact Nat.le_refl _ | (simp; done))

theorem State.reportSent_ListsBounded (s : State) (n : Line) (c : TxChar) (hinv : ListsBounded s) : ListsBounded (s.reportSent n c) := by
  simp only [State.reportSent]
  repeat' split
  all_goals (try (with_reducible repeat (first | assumption | apply State.pushCurrent_ListsBounded | apply State.delivered_ListsBounded | apply State.modSched_ListsBounded | apply State.beginInterruption_ListsBounded)))
  all_goals (first | rfl | exact Nat.le_refl _ | (simp; done))

theorem State.countFill_ListsBounded (s : State) (ref : CopyRef) (hinv : ListsBounded s) : ListsBounded (s.countFill ref) := by
  simp only [State.countFill]
  repeat' split
  all_goals (try (with_reducible repeat (first | assumption | apply State.modCopy_ListsBounded)))
  all_goals (first | rfl | exact Nat.le_refl _ | (simp; done))

theorem State.lineTextChanged_ListsBounded (s : State) (n : Line) (r : RecIx) (oldCount : Nat) (oldComplete : Bool) (hinv : ListsBounded s) : ListsBounded (s.lineTextChanged n r oldCount oldComplete) := by
  simp only [State.lineTextChanged]
  repeat' split
  all_goals (try (with_reducible repeat (first | assumption | apply State.serveLine_ListsBounded | apply State.lookAgain_ListsBounded)))
  all_goals (first | rfl | exact Nat.le_refl _ | (simp; done))

theorem State.bindLocal_ListsBounded (s : State) (n : Line) (ref : CopyRef) (hinv : ListsBounded s) : ListsBounded (s.bindLocal n ref) := by
  simp only [State.bindLocal]
  repeat' split
  all_goals (try (with_reducible repeat (first | assumption | apply State.modCopy_ListsBounded | apply State.enqueue_ListsBounded)))
  all_goals (first | rfl | exact Nat.le_refl _ | (simp; done))

theorem State.startSeries_ListsBounded (s : State) (k : CtxIx) (ref : CopyRef) (hinv : ListsBounded s) : ListsBounded (s.startSeries k ref) := by
  simp only [State.startSeries]
  repeat' split
  all_goals (try (with_reducible repeat (first | assumption | apply State.modCopy_ListsBounded | apply State.giveSend_ListsBounded)))
  all_goals (first | rfl | exact Nat.le_refl _ | (simp; done))

theorem State.waitForContext_ListsBounded (s : State) (ref : CopyRef) (hinv : ListsBounded s) : ListsBounded (s.waitForContext ref) := by
  simp only [State.waitForContext]
  repeat' split
  all_goals (try (with_reducible repeat (first | assumption | apply State.setCopyState_ListsBounded | apply State.modRouter_ListsBounded)))
  all_goals (first | rfl | exact Nat.le_refl _ | (simp; done))

theorem State.offerCopy_ListsBounded (s : State) (ref : CopyRef) (hinv : ListsBounded s) : ListsBounded (s.offerCopy ref) := by
  simp only [State.offerCopy]
  repeat' split
  all_goals (try (with_reducible repeat (first | assumption | apply State.startSeries_ListsBounded | apply State.waitForContext_ListsBounded)))
  all_goals (first | rfl | exact Nat.le_refl _ | (simp; done))

theorem State.serveWaitMany_ListsBounded (s : State) (l : Nat) (hinv : ListsBounded s) : ListsBounded (State.serveWaitMany s l) := by
  induction l generalizing s with
  | zero => exact hinv
  | succ k ih =>
    simp only [State.serveWaitMany]
    repeat' split
    all_goals (try (with_reducible repeat (first | assumption | apply State.modRouter_ListsBounded | apply State.bindLocal_ListsBounded | apply State.startSeries_ListsBounded | apply ih)))
    all_goals (first | rfl | exact Nat.le_refl _ | (simp; done))

theorem State.serveWaitList_ListsBounded (s : State) (hinv : ListsBounded s) : ListsBounded (s.serveWaitList) := by
  simp only [State.serveWaitList]
  repeat' split
  all_goals (try (with_reducible repeat (first | assumption | apply State.serveWaitMany_ListsBounded)))
  all_goals (first | rfl | exact Nat.le_refl _ | (simp; done))

theorem State.startCounts_ListsBounded (s : State) (ref : CopyRef) (hinv : ListsBounded s) : ListsBounded (s.startCounts ref) := by
  simp only [State.startCounts]
  repeat' split
  all_goals (try (with_reducible repeat (first | assumption | apply State.modCopy_ListsBounded)))
  all_goals (first | rfl | exact Nat.le_refl _ | (simp; done))

theorem State.dispatchCopy_ListsBounded (s : State) (ref : CopyRef) (hinv : ListsBounded s) : ListsBounded (s.dispatchCopy ref) := by
  simp only [State.dispatchCopy]
  repeat' split
  all_goals (try (with_reducible repeat (first | assumption | apply State.startCounts_ListsBounded | apply State.bindLocal_ListsBounded | apply State.offerCopy_ListsBounded)))
  all_goals (first | rfl | exact Nat.le_refl _ | (simp; done))

theorem State.dispatchAll_ListsBounded (s : State) (l : List CopyRef) (hinv : ListsBounded s) : ListsBounded (State.dispatchAll s l) := by
  induction l generalizing s with
  | nil => exact hinv
  | cons x xs ih =>
    simp only [State.dispatchAll]
    repeat' split
    all_goals (try (with_reducible repeat (first | assumption | apply State.dispatchCopy_ListsBounded | apply ih)))
    all_goals (first | rfl | exact Nat.le_refl _ | (simp; done))

theorem State.dispatchRecord_ListsBounded (s : State) (r : RecIx) (hinv : ListsBounded s) : ListsBounded (s.dispatchRecord r) := by
  simp only [State.dispatchRecord]
  repeat' split
  all_goals (try (with_reducible repeat (first | assumption | apply State.dispatchAll_ListsBounded)))
  all_goals (first | rfl | exact Nat.le_refl _ | (simp; done))

theorem State.dispatchRestart_ListsBounded (s : State) (l : List CopyRef) (h : ListsBounded s) : ListsBounded (State.dispatchRestart s l).1 := by
  induction l generalizing s with
  | nil => exact h
  | cons x xs ih =>
    simp only [State.dispatchRestart]
    split
    · exact ih _ (State.bindLocal_ListsBounded _ _ _ (State.startCounts_ListsBounded _ _ h))
    · exact ih _ (State.setCopyState_ListsBounded _ _ _ (State.startCounts_ListsBounded _ _ h))

theorem State.holdOffEnds_ListsBounded (s : State) (h : ListsBounded s) : ListsBounded s.holdOffEnds := by
  simp only [State.holdOffEnds]
  apply State.serveWaitList_ListsBounded
  apply State.modRouter_ListsBounded
  apply State.dispatchRestart_ListsBounded
  apply State.modRouter_ListsBounded
  exact State.modPort_ListsBounded _ _ h rfl rfl

theorem State.enqueueOrRefuse_ListsBounded (s : State) (n : Line) (ref : CopyRef) (hinv : ListsBounded s) : ListsBounded (s.enqueueOrRefuse n ref) := by
  simp only [State.enqueueOrRefuse]
  repeat' split
  all_goals (try (with_reducible repeat (first | assumption | apply State.enqueue_ListsBounded | apply State.modCopy_ListsBounded | apply State.setCopyState_ListsBounded | apply State.dispatchCopy_ListsBounded)))
  all_goals (first | rfl | exact Nat.le_refl _ | (simp; done))

theorem State.die_ListsBounded (s : State) (k : CtxIx) (ref : CopyRef) (hinv : ListsBounded s) : ListsBounded (s.die k ref) := by
  simp only [State.die]
  repeat' split
  all_goals (try (with_reducible repeat (first | assumption | apply State.setCopyState_ListsBounded | apply State.freeSend_ListsBounded | apply State.modRouter_ListsBounded | apply State.handOver_ListsBounded | apply State.serveWaitList_ListsBounded)))
  all_goals (first | rfl | exact Nat.le_refl _ | (simp; done))

theorem State.bindInstead_ListsBounded (s : State) (k : CtxIx) (n : Line) (ref : CopyRef) (hinv : ListsBounded s) : ListsBounded (s.bindInstead k n ref) := by
  simp only [State.bindInstead]
  repeat' split
  all_goals (try (with_reducible repeat (first | assumption | apply State.freeSend_ListsBounded | apply State.bindLocal_ListsBounded | apply State.serveWaitList_ListsBounded)))
  all_goals (first | rfl | exact Nat.le_refl _ | (simp; done))

theorem State.reoffer_ListsBounded (s : State) (k : CtxIx) (ref : CopyRef) (next : Nat) (hinv : ListsBounded s) : ListsBounded (s.reoffer k ref next) := by
  simp only [State.reoffer]
  repeat' split
  all_goals (try (with_reducible repeat (first | assumption | apply State.bindInstead_ListsBounded | apply State.modCopy_ListsBounded | apply State.askOffer_ListsBounded)))
  all_goals (first | rfl | exact Nat.le_refl _ | (simp; done))

theorem State.unclaimed_ListsBounded (s : State) (k : CtxIx) (ref : CopyRef) (hinv : ListsBounded s) : ListsBounded (s.unclaimed k ref) := by
  simp only [State.unclaimed]
  repeat' split
  all_goals (try (with_reducible repeat (first | assumption | apply State.die_ListsBounded | apply State.setCopyState_ListsBounded | apply State.modSend_ListsBounded)))
  all_goals (first | rfl | exact Nat.le_refl _ | (simp; done))

theorem State.spoiled_ListsBounded (s : State) (k : CtxIx) (ref : CopyRef) (hinv : ListsBounded s) : ListsBounded (s.spoiled k ref) := by
  simp only [State.spoiled]
  repeat' split
  all_goals (try (with_reducible repeat (first | assumption | apply State.dropSend_ListsBounded | apply State.modSend_ListsBounded | apply State.modCopy_ListsBounded | apply State.die_ListsBounded | apply State.reoffer_ListsBounded)))
  all_goals (first | rfl | exact Nat.le_refl _ | (simp; done))

theorem State.handed_ListsBounded (s : State) (k : CtxIx) (ref : CopyRef) (hinv : ListsBounded s) : ListsBounded (s.handed k ref) := by
  simp only [State.handed]
  repeat' split
  all_goals (try (with_reducible repeat (first | assumption | apply State.settle_ListsBounded | apply State.freeSend_ListsBounded | apply State.serveWaitList_ListsBounded)))
  all_goals (first | rfl | exact Nat.le_refl _ | (simp; done))

theorem State.sendsLook_ListsBounded (s : State) (r : RecIx) (l : List CtxIx) (hinv : ListsBounded s) : ListsBounded (State.sendsLook s r l) := by
  induction l generalizing s with
  | nil => exact hinv
  | cons x xs ih =>
    simp only [State.sendsLook]
    repeat' split
    all_goals (try (with_reducible repeat (first | assumption | apply State.lookNext_ListsBounded | apply ih)))
    all_goals (first | rfl | exact Nat.le_refl _ | (simp; done))

theorem State.linesLook_ListsBounded (s : State) (r : RecIx) (oldCount : Nat) (oldComplete : Bool) (l : List Line) (hinv : ListsBounded s) : ListsBounded (State.linesLook s r oldCount oldComplete l) := by
  induction l generalizing s with
  | nil => exact hinv
  | cons x xs ih =>
    simp only [State.linesLook]
    repeat' split
    all_goals (try (with_reducible repeat (first | assumption | apply State.lineTextChanged_ListsBounded | apply ih)))
    all_goals (first | rfl | exact Nat.le_refl _ | (simp; done))

theorem State.textChanged_ListsBounded (s : State) (r : RecIx) (oldCount : Nat) (oldComplete : Bool) (hinv : ListsBounded s) : ListsBounded (s.textChanged r oldCount oldComplete) := by
  simp only [State.textChanged]
  repeat' split
  all_goals (try (with_reducible repeat (first | assumption | apply State.linesLook_ListsBounded | apply State.sendsLook_ListsBounded | apply State.supTextChanged_ListsBounded)))
  all_goals (first | rfl | exact Nat.le_refl _ | (simp; done))

theorem State.cutShort_ListsBounded (s : State) (r : RecIx) (hinv : ListsBounded s) : ListsBounded (s.cutShort r) := by
  simp only [State.cutShort]
  repeat' split
  all_goals (try (with_reducible repeat (first | assumption | apply State.modRecord_ListsBounded | apply State.textChanged_ListsBounded)))
  all_goals (first | rfl | exact Nat.le_refl _ | (simp; done))

theorem State.dropSendOf_ListsBounded (s : State) (ref : CopyRef) (hinv : ListsBounded s) : ListsBounded (s.dropSendOf ref) := by
  simp only [State.dropSendOf]
  repeat' split
  all_goals (try (with_reducible repeat (first | assumption | apply State.freeSend_ListsBounded)))
  all_goals (first | rfl | exact Nat.le_refl _ | (simp; done))

theorem State.forgetCopy_ListsBounded (s : State) (ref : CopyRef) (hinv : ListsBounded s) : ListsBounded (s.forgetCopy ref) := by
  simp only [State.forgetCopy]
  repeat' split
  all_goals (try (with_reducible repeat (first | assumption | apply State.modRouter_ListsBounded)))
  all_goals (first | rfl | exact Nat.le_refl _ | (simp; done))

theorem State.withdrawCopy_ListsBounded (s : State) (ref : CopyRef) (hinv : ListsBounded s) : ListsBounded (s.withdrawCopy ref) := by
  simp only [State.withdrawCopy]
  repeat' split
  all_goals (try (with_reducible repeat (first | assumption | apply State.withdraw_ListsBounded)))
  all_goals (first | rfl | exact Nat.le_refl _ | (simp; done))

theorem State.discardRecord_ListsBounded (s : State) (r : RecIx) (hinv : ListsBounded s) : ListsBounded (s.discardRecord r) := by
  simp only [State.discardRecord]
  repeat' split
  all_goals (try (with_reducible repeat (first | assumption | apply State.withdrawCopy_ListsBounded | apply State.forgetCopy_ListsBounded | apply State.dropSendOf_ListsBounded | apply State.discardDead_ListsBounded | apply State.freeRecord_ListsBounded | apply State.serveWaitList_ListsBounded)))
  all_goals (first | rfl | exact Nat.le_refl _ | (simp; done))

theorem State.endRecord_ListsBounded (s : State) (r : RecIx) (hinv : ListsBounded s) : ListsBounded (s.endRecord r) := by
  simp only [State.endRecord]
  repeat' split
  all_goals (try (with_reducible repeat (first | assumption | apply State.cutShort_ListsBounded | apply State.discardRecord_ListsBounded)))
  all_goals (first | rfl | exact Nat.le_refl _ | (simp; done))

theorem State.endTakeRecord_ListsBounded (s : State) (k : CtxIx) (t : Take) (hinv : ListsBounded s) : ListsBounded (s.endTakeRecord k t) := by
  simp only [State.endTakeRecord]
  repeat' split
  all_goals (try (with_reducible repeat (first | assumption | apply State.releaseReservation_ListsBounded | apply State.endRecord_ListsBounded)))
  all_goals (first | rfl | exact Nat.le_refl _ | (simp; done))

theorem State.dropClaim_ListsBounded (s : State) (k : CtxIx) (hinv : ListsBounded s) : ListsBounded (s.dropClaim k) := by
  simp only [State.dropClaim]
  repeat' split
  all_goals (try (with_reducible repeat (first | assumption | apply State.freeTake_ListsBounded | apply State.releaseReservation_ListsBounded | apply State.unpledge_ListsBounded)))
  all_goals (first | rfl | exact Nat.le_refl _ | (simp; done))

theorem State.giveUpTake_ListsBounded (s : State) (k : CtxIx) (t : Take) (hinv : ListsBounded s) : ListsBounded (s.giveUpTake k t) := by
  simp only [State.giveUpTake]
  repeat' split
  all_goals (try (with_reducible repeat (first | assumption | apply State.tellPlaces_ListsBounded | apply State.endTakeRecord_ListsBounded | apply State.freeTake_ListsBounded | apply State.addEnded_ListsBounded)))
  all_goals (first | rfl | exact Nat.le_refl _ | (simp; done))

theorem State.abandonTake_ListsBounded (s : State) (k : CtxIx) (t : Take) (reason : Reason) (hinv : ListsBounded s) : ListsBounded (s.abandonTake k t reason) := by
  simp only [State.abandonTake]
  repeat' split
  all_goals (try (with_reducible repeat (first | assumption | apply State.tellPlaces_ListsBounded | apply State.modTake_ListsBounded | apply State.askTake_ListsBounded | apply State.endTakeRecord_ListsBounded)))
  all_goals (first | rfl | exact Nat.le_refl _ | (simp; done))

theorem State.answerClose_ListsBounded (s : State) (k : CtxIx) (hinv : ListsBounded s) : ListsBounded (s.answerClose k) := by
  simp only [State.answerClose]
  repeat' split
  all_goals (try (with_reducible repeat (first | assumption | apply State.modTake_ListsBounded)))
  all_goals (first | rfl | exact Nat.le_refl _ | (simp; done))

theorem State.endTaking_ListsBounded (s : State) (l : List RecIx) (hinv : ListsBounded s) : ListsBounded (State.endTaking s l) := by
  induction l generalizing s with
  | nil => exact hinv
  | cons x xs ih =>
    simp only [State.endTaking]
    repeat' split
    all_goals (try (with_reducible repeat (first | assumption | apply State.endRecord_ListsBounded | apply ih)))
    all_goals (first | rfl | exact Nat.le_refl _ | (simp; done))

theorem State.returnCopies_ListsBounded (s : State) (hinv : ListsBounded s) : ListsBounded (s.returnCopies) := by
  simp only [State.returnCopies]
  repeat' split
  all_goals (try (with_reducible repeat (first | assumption | apply State.modStore_ListsBounded | apply State.modRouter_ListsBounded)))
  all_goals (first | rfl | exact Nat.le_refl _ | (simp; done))

theorem State.startHoldOff_ListsBounded (s : State) (hinv : ListsBounded s) : ListsBounded (s.startHoldOff) := by
  simp only [State.startHoldOff]
  repeat' split
  all_goals (try (with_reducible repeat (first | assumption | apply State.holdOffEnds_ListsBounded | apply State.modPort_ListsBounded)))
  all_goals (first | rfl | exact Nat.le_refl _ | (simp; done))

theorem State.warmRestart_ListsBounded (s : State) (sender : Slot) (received : Bool) (h : ListsBounded s) :
    ListsBounded (s.warmRestart sender received) := by
  simp only [State.warmRestart]
  apply State.startHoldOff_ListsBounded
  apply State.post_ListsBounded
  apply State.returnCopies_ListsBounded
  apply State.placeFreed_ListsBounded
  apply State.endTaking_ListsBounded
  apply State.modStore_ListsBounded
  apply State.refreshTenure_ListsBounded
  obtain ⟨h1, h2, h3, h4, h5, h6⟩ := h
  exact ⟨Nat.zero_le _, by simp [Port.restarted], Nat.zero_le _, by simp [Port.restarted], h5, h6⟩

theorem State.turnReview_ListsBounded (s : State) (n : Line) (hinv : ListsBounded s) : ListsBounded (s.turnReview n) := by
  simp only [State.turnReview]
  repeat' split
  all_goals (try (with_reducible repeat (first | assumption | apply State.modLine_ListsBounded)))
  all_goals (first | rfl | exact Nat.le_refl _ | (simp; done))

theorem State.turnWait_ListsBounded (s : State) (n : Line) (hinv : ListsBounded s) : ListsBounded (s.turnWait n) := by
  simp only [State.turnWait]
  repeat' split
  all_goals (try (with_reducible repeat (first | assumption | apply State.modLine_ListsBounded)))
  all_goals (first | rfl | exact Nat.le_refl _ | (simp; done))

theorem State.setRx_ListsBounded (s : State) (n : Line) (st : RxState) (hinv : ListsBounded s) : ListsBounded (s.setRx n st) := by
  simp only [State.setRx]
  repeat' split
  all_goals (try (with_reducible repeat (first | assumption | apply State.modLine_ListsBounded)))
  all_goals (first | rfl | exact Nat.le_refl _ | (simp; done))

theorem State.suspendRx_ListsBounded (s : State) (n : Line) (hinv : ListsBounded s) : ListsBounded (s.suspendRx n) := by
  simp only [State.suspendRx]
  repeat' split
  all_goals (try (with_reducible repeat (first | assumption | apply State.setRx_ListsBounded)))
  all_goals (first | rfl | exact Nat.le_refl _ | (simp; done))

theorem State.beginHeld_ListsBounded (s : State) (n : Line) (hinv : ListsBounded s) : ListsBounded (s.beginHeld n) := by
  simp only [State.beginHeld]
  repeat' split
  all_goals (try (with_reducible repeat (first | assumption | apply State.modTx_ListsBounded | apply State.suspendRx_ListsBounded)))
  all_goals (first | rfl | exact Nat.le_refl _ | (simp; done))

theorem State.takeOrWithdraw_ListsBounded (s : State) (n : Line) (hinv : ListsBounded s) : ListsBounded (s.takeOrWithdraw n) := by
  simp only [State.takeOrWithdraw]
  repeat' split
  all_goals (try (with_reducible repeat (first | assumption | apply State.chosen_ListsBounded | apply State.beginHeld_ListsBounded)))
  all_goals (first | rfl | exact Nat.le_refl _ | (simp; done))

theorem State.takenOff_ListsBounded (s : State) (n : Line) (hinv : ListsBounded s) : ListsBounded (s.takenOff n) := by
  simp only [State.takenOff]
  repeat' split
  all_goals (try (with_reducible repeat (first | assumption | apply State.modTx_ListsBounded | apply State.takeOrWithdraw_ListsBounded | apply State.putBack_ListsBounded)))
  all_goals (first | rfl | exact Nat.le_refl _ | (simp; done))

theorem State.leftHunt_ListsBounded (s : State) (n : Line) (hinv : ListsBounded s) : ListsBounded (s.leftHunt n) := by
  simp only [State.leftHunt]
  repeat' split
  all_goals (try (with_reducible repeat (first | assumption | apply State.turnWait_ListsBounded | apply State.takenOff_ListsBounded)))
  all_goals (first | rfl | exact Nat.le_refl _ | (simp; done))

theorem State.returnToHunt_ListsBounded (s : State) (n : Line) (hinv : ListsBounded s) : ListsBounded (s.returnToHunt n) := by
  simp only [State.returnToHunt]
  repeat' split
  all_goals (try (with_reducible repeat (first | assumption | apply State.turnReview_ListsBounded | apply State.modAsm_ListsBounded)))
  all_goals (first | rfl | exact Nat.le_refl _ | (simp; done))

theorem State.lineOverrun_ListsBounded (s : State) (n : Line) (r : RecIx) (hinv : ListsBounded s) : ListsBounded (s.lineOverrun n r) := by
  simp only [State.lineOverrun]
  repeat' split
  all_goals (try (with_reducible repeat (first | assumption | apply State.modAsm_ListsBounded | apply State.modRecord_ListsBounded | apply State.post_ListsBounded)))
  all_goals (first | rfl | exact Nat.le_refl _ | (simp; done))

theorem State.appendChar_ListsBounded (s : State) (r : RecIx) (c : Code) (hinv : ListsBounded s) : ListsBounded (s.appendChar r c) := by
  simp only [State.appendChar]
  repeat' split
  all_goals (try (with_reducible repeat (first | assumption | apply State.writeChar_ListsBounded | apply State.modRecord_ListsBounded | apply State.textChanged_ListsBounded)))
  all_goals (first | rfl | exact Nat.le_refl _ | (simp; done))

theorem State.storeChar_ListsBounded (s : State) (n : Line) (r : RecIx) (c : Code) (h : ListsBounded s) : ListsBounded (s.storeChar n r c) := by
  simp only [State.storeChar]
  repeat' split
  · exact h
  · rename_i t e; exact State.appendChar_ListsBounded _ _ _ (State.allocateBlock_ListsBounded s t r e h)
  · exact State.lineOverrun_ListsBounded _ _ _ h
  · exact State.appendChar_ListsBounded _ _ _ h

theorem State.defaultHeading_ListsBounded (s : State) (r : RecIx) (hinv : ListsBounded s) : ListsBounded (s.defaultHeading r) := by
  simp only [State.defaultHeading]
  repeat' split
  all_goals (try (with_reducible repeat (first | assumption | apply State.modRecord_ListsBounded)))
  all_goals (first | rfl | exact Nat.le_refl _ | (simp; done))

theorem State.fillTable_ListsBounded (s : State) (n : Line) (r : RecIx) (stations : List StationCode) (hinv : ListsBounded s) : ListsBounded (s.fillTable n r stations) := by
  simp only [State.fillTable]
  repeat' split
  all_goals (try (with_reducible repeat (first | assumption | apply State.modRecord_ListsBounded | apply State.modAsm_ListsBounded)))
  all_goals (first | rfl | exact Nat.le_refl _ | (simp; done))

theorem State.headingEnds_ListsBounded (s : State) (n : Line) (r : RecIx) (stations : List StationCode) (hinv : ListsBounded s) : ListsBounded (s.headingEnds n r stations) := by
  simp only [State.headingEnds]
  repeat' split
  all_goals (try (with_reducible repeat (first | assumption | apply State.fillTable_ListsBounded | apply State.dispatchRecord_ListsBounded)))
  all_goals (first | rfl | exact Nat.le_refl _ | (simp; done))

theorem State.takeHeading_ListsBounded (s : State) (n : Line) (r : RecIx) (h : Handed) (hinv : ListsBounded s) : ListsBounded (s.takeHeading n r h) := by
  simp only [State.takeHeading]
  repeat' split
  all_goals (try (with_reducible repeat (first | assumption | apply State.storeChar_ListsBounded | apply State.modAsm_ListsBounded | apply State.defaultHeading_ListsBounded | apply State.headingEnds_ListsBounded)))
  all_goals (first | rfl | exact Nat.le_refl _ | (simp; done))

theorem State.takeDesignator_ListsBounded (s : State) (n : Line) (r : RecIx) (h : Handed) (hinv : ListsBounded s) : ListsBounded (s.takeDesignator n r h) := by
  simp only [State.takeDesignator]
  repeat' split
  all_goals (try (with_reducible repeat (first | assumption | apply State.modRecord_ListsBounded | apply State.storeChar_ListsBounded | apply State.modAsm_ListsBounded)))
  all_goals (first | rfl | exact Nat.le_refl _ | (simp; done))

theorem State.checkChannel_ListsBounded (s : State) (n : Line) (r : RecIx) (received : Nat) (hinv : ListsBounded s) : ListsBounded (s.checkChannel n r received) := by
  simp only [State.checkChannel]
  repeat' split
  all_goals (try (with_reducible repeat (first | assumption | apply State.modRecord_ListsBounded | apply State.modAsm_ListsBounded | apply State.post_ListsBounded)))
  all_goals (first | rfl | exact Nat.le_refl _ | (simp; done))

theorem State.takeGroup_ListsBounded (s : State) (n : Line) (r : RecIx) (h : Handed) (hinv : ListsBounded s) : ListsBounded (s.takeGroup n r h) := by
  simp only [State.takeGroup]
  repeat' split
  all_goals (try (with_reducible repeat (first | assumption | apply State.defaultHeading_ListsBounded | apply State.modAsm_ListsBounded | apply State.takeDesignator_ListsBounded | apply State.checkChannel_ListsBounded)))
  all_goals (first | rfl | exact Nat.le_refl _ | (simp; done))

theorem State.completeRecord_ListsBounded (s : State) (r : RecIx) (truncated : Bool) (hinv : ListsBounded s) : ListsBounded (s.completeRecord r truncated) := by
  simp only [State.completeRecord]
  repeat' split
  all_goals (try (with_reducible repeat (first | assumption | apply State.tryFree_ListsBounded | apply State.modRecord_ListsBounded | apply State.textChanged_ListsBounded)))
  all_goals (first | rfl | exact Nat.le_refl _ | (simp; done))

theorem State.dispatchAtClose_ListsBounded (s : State) (r : RecIx) (filled : Bool) (hinv : ListsBounded s) : ListsBounded (s.dispatchAtClose r filled) := by
  simp only [State.dispatchAtClose]
  repeat' split
  all_goals (try (with_reducible repeat (first | assumption | apply State.dispatchRecord_ListsBounded)))
  all_goals (first | rfl | exact Nat.le_refl _ | (simp; done))

theorem State.malformedAtClose_ListsBounded (s : State) (n : Line) (r : RecIx) (hinv : ListsBounded s) : ListsBounded (s.malformedAtClose n r) := by
  simp only [State.malformedAtClose]
  repeat' split
  all_goals (try (with_reducible repeat (first | assumption | apply State.fillTable_ListsBounded)))
  all_goals (first | rfl | exact Nat.le_refl _ | (simp; done))

theorem State.closeByRun_ListsBounded (s : State) (n : Line) (r : RecIx) (hinv : ListsBounded s) : ListsBounded (s.closeByRun n r) := by
  simp only [State.closeByRun]
  repeat' split
  all_goals (try (with_reducible repeat (first | assumption | apply State.malformedAtClose_ListsBounded | apply State.completeRecord_ListsBounded | apply State.dispatchAtClose_ListsBounded | apply State.returnToHunt_ListsBounded | apply State.freeRecord_ListsBounded)))
  all_goals (first | rfl | exact Nat.le_refl _ | (simp; done))

theorem State.closeTruncated_ListsBounded (s : State) (n : Line) (r : RecIx) (cause : TruncateCause) (hinv : ListsBounded s) : ListsBounded (s.closeTruncated n r cause) := by
  simp only [State.closeTruncated]
  repeat' split
  all_goals (try (with_reducible repeat (first | assumption | apply State.modAsm_ListsBounded | apply State.malformedAtClose_ListsBounded | apply State.completeRecord_ListsBounded | apply State.post_ListsBounded | apply State.dispatchAtClose_ListsBounded | apply State.returnToHunt_ListsBounded | apply State.freeRecord_ListsBounded)))
  all_goals (first | rfl | exact Nat.le_refl _ | (simp; done))

theorem State.takeOrdinary_ListsBounded (s : State) (n : Line) (r : RecIx) (h : Handed) (hinv : ListsBounded s) : ListsBounded (s.takeOrdinary n r h) := by
  simp only [State.takeOrdinary]
  repeat' split
  all_goals (try (with_reducible repeat (first | assumption | apply State.takeGroup_ListsBounded | apply State.takeDesignator_ListsBounded | apply State.takeHeading_ListsBounded | apply State.storeChar_ListsBounded)))
  all_goals (first | rfl | exact Nat.le_refl _ | (simp; done))

theorem State.takeAll_ListsBounded (s : State) (n : Line) (r : RecIx) (l : List Handed) (hinv : ListsBounded s) : ListsBounded (State.takeAll s n r l) := by
  induction l generalizing s with
  | nil => exact hinv
  | cons x xs ih =>
    simp only [State.takeAll]
    repeat' split
    all_goals (try (with_reducible repeat (first | assumption | apply State.takeOrdinary_ListsBounded | apply ih)))
    all_goals (first | rfl | exact Nat.le_refl _ | (simp; done))

theorem State.restartSilence_ListsBounded (s : State) (n : Line) (hinv : ListsBounded s) : ListsBounded (s.restartSilence n) := by
  simp only [State.restartSilence]
  repeat' split
  all_goals (try (with_reducible repeat (first | assumption | apply State.modAsm_ListsBounded)))
  all_goals (first | rfl | exact Nat.le_refl _ | (simp; done))

theorem State.messageChar_ListsBounded (s : State) (n : Line) (r : RecIx) (h : Handed) (hinv : ListsBounded s) : ListsBounded (s.messageChar n r h) := by
  simp only [State.messageChar]
  repeat' split
  all_goals (try (with_reducible repeat (first | assumption | apply State.takeGroup_ListsBounded | apply State.modAsm_ListsBounded | apply State.closeByRun_ListsBounded | apply State.takeAll_ListsBounded)))
  all_goals (first | rfl | exact Nat.le_refl _ | (simp; done))

theorem State.countFraming_ListsBounded (s : State) (r : RecIx) (framing : Bool) (hinv : ListsBounded s) : ListsBounded (s.countFraming r framing) := by
  simp only [State.countFraming]
  repeat' split
  all_goals (try (with_reducible repeat (first | assumption | apply State.modRecord_ListsBounded)))
  all_goals (first | rfl | exact Nat.le_refl _ | (simp; done))

theorem State.openMessage_ListsBounded (s : State) (n : Line) (r : RecIx) (hinv : ListsBounded s) : ListsBounded (s.openMessage n r) := by
  simp only [State.openMessage]
  repeat' split
  all_goals (try (with_reducible repeat (first | assumption | apply State.leftHunt_ListsBounded | apply State.modRecord_ListsBounded | apply State.modAsm_ListsBounded)))
  all_goals (first | rfl | exact Nat.le_refl _ | (simp; done))

theorem State.loseMessage_ListsBounded (s : State) (n : Line) (hinv : ListsBounded s) : ListsBounded (s.loseMessage n) := by
  simp only [State.loseMessage]
  repeat' split
  all_goals (try (with_reducible repeat (first | assumption | apply State.leftHunt_ListsBounded | apply State.post_ListsBounded | apply State.modAsm_ListsBounded)))
  all_goals (first | rfl | exact Nat.le_refl _ | (simp; done))

theorem State.openingRunDone_ListsBounded (s : State) (n : Line) (hinv : ListsBounded s) : ListsBounded (s.openingRunDone n) := by
  simp only [State.openingRunDone]
  repeat' split
  all_goals (try (with_reducible repeat (first | assumption | apply State.openMessage_ListsBounded | apply State.loseMessage_ListsBounded)))
  all_goals (first | rfl | exact Nat.le_refl _ | (simp; done))

theorem State.huntChar_ListsBounded (s : State) (n : Line) (h : Handed) (hinv : ListsBounded s) : ListsBounded (s.huntChar n h) := by
  simp only [State.huntChar]
  repeat' split
  all_goals (try (with_reducible repeat (first | assumption | apply State.modAsm_ListsBounded | apply State.openingRunDone_ListsBounded)))
  all_goals (first | rfl | exact Nat.le_refl _ | (simp; done))

theorem State.discardChar_ListsBounded (s : State) (n : Line) (h : Handed) (hinv : ListsBounded s) : ListsBounded (s.discardChar n h) := by
  simp only [State.discardChar]
  repeat' split
  all_goals (try (with_reducible repeat (first | assumption | apply State.modAsm_ListsBounded | apply State.returnToHunt_ListsBounded)))
  all_goals (first | rfl | exact Nat.le_refl _ | (simp; done))

theorem State.handOverChar_ListsBounded (s : State) (n : Line) (h : Handed) (framing : Bool) (hinv : ListsBounded s) : ListsBounded (s.handOverChar n h framing) := by
  simp only [State.handOverChar]
  repeat' split
  all_goals (try (with_reducible repeat (first | assumption | apply State.huntChar_ListsBounded | apply State.discardChar_ListsBounded | apply State.countFraming_ListsBounded | apply State.messageChar_ListsBounded | apply State.restartSilence_ListsBounded)))
  all_goals (first | rfl | exact Nat.le_refl _ | (simp; done))

theorem State.asmLineOpen_ListsBounded (s : State) (n : Line) (hinv : ListsBounded s) : ListsBounded (s.asmLineOpen n) := by
  simp only [State.asmLineOpen]
  repeat' split
  all_goals (try (with_reducible repeat (first | assumption | apply State.modAsm_ListsBounded | apply State.returnToHunt_ListsBounded | apply State.closeTruncated_ListsBounded)))
  all_goals (first | rfl | exact Nat.le_refl _ | (simp; done))

theorem State.modCond_ListsBounded (s : State) (n : Line) (pin : LoopPin) (f : Cond → Cond) (hinv : ListsBounded s) : ListsBounded (s.modCond n pin f) := by
  simp only [State.modCond]
  repeat' split
  all_goals (try (with_reducible repeat (first | assumption | apply State.modLine_ListsBounded)))
  all_goals (first | rfl | exact Nat.le_refl _ | (simp; done))

theorem State.setPin_ListsBounded (s : State) (n : Line) (pin : LoopPin) (level : Level) (hinv : ListsBounded s) : ListsBounded (s.setPin n pin level) := by
  simp only [State.setPin]
  repeat' split
  all_goals (try (with_reducible repeat (first | assumption | apply State.modLine_ListsBounded)))
  all_goals (first | rfl | exact Nat.le_refl _ | (simp; done))

theorem State.readPin_ListsBounded (s : State) (n : Line) (pin : LoopPin) (level : Level) (hinv : ListsBounded s) : ListsBounded (s.readPin n pin level) := by
  simp only [State.readPin]
  repeat' split
  all_goals (try (with_reducible repeat (first | assumption | apply State.setPin_ListsBounded | apply State.modCond_ListsBounded | apply State.turnReview_ListsBounded)))
  all_goals (first | rfl | exact Nat.le_refl _ | (simp; done))

theorem State.setRxCase_ListsBounded (s : State) (n : Line) (c : Case) (hinv : ListsBounded s) : ListsBounded (s.setRxCase n c) := by
  simp only [State.setRxCase]
  repeat' split
  all_goals (try (with_reducible repeat (first | assumption | apply State.modLine_ListsBounded)))
  all_goals (first | rfl | exact Nat.le_refl _ | (simp; done))

theorem State.resumeRx_ListsBounded (s : State) (n : Line) (hinv : ListsBounded s) : ListsBounded (s.resumeRx n) := by
  simp only [State.resumeRx]
  repeat' split
  all_goals (try (with_reducible repeat (first | assumption | apply State.setRxCase_ListsBounded | apply State.setRx_ListsBounded)))
  all_goals (first | rfl | exact Nat.le_refl _ | (simp; done))

theorem State.abandonTx_ListsBounded (s : State) (n : Line) (hinv : ListsBounded s) : ListsBounded (s.abandonTx n) := by
  simp only [State.abandonTx]
  repeat' split
  all_goals (try (with_reducible repeat (first | assumption | apply State.modTx_ListsBounded | apply State.resumeRx_ListsBounded)))
  all_goals (first | rfl | exact Nat.le_refl _ | (simp; done))

theorem State.receiveLost_ListsBounded (s : State) (n : Line) (hinv : ListsBounded s) : ListsBounded (s.receiveLost n) := by
  simp only [State.receiveLost]
  repeat' split
  all_goals (try (with_reducible repeat (first | assumption | apply State.setRx_ListsBounded | apply State.asmLineOpen_ListsBounded)))
  all_goals (first | rfl | exact Nat.le_refl _ | (simp; done))

theorem State.sendLost_ListsBounded (s : State) (n : Line) (hinv : ListsBounded s) : ListsBounded (s.sendLost n) := by
  simp only [State.sendLost]
  repeat' split
  all_goals (try (with_reducible repeat (first | assumption | apply State.abandonTx_ListsBounded | apply State.putBack_ListsBounded)))
  all_goals (first | rfl | exact Nat.le_refl _ | (simp; done))

theorem State.spacingEnds_ListsBounded (s : State) (n : Line) (pin : LoopPin) (hinv : ListsBounded s) : ListsBounded (s.spacingEnds n pin) := by
  simp only [State.spacingEnds]
  repeat' split
  all_goals (try (with_reducible repeat (first | assumption | apply State.modCond_ListsBounded)))
  all_goals (first | rfl | exact Nat.le_refl _ | (simp; done))

theorem State.condOpens_ListsBounded (s : State) (n : Line) (pin : LoopPin) (hinv : ListsBounded s) : ListsBounded (s.condOpens n pin) := by
  simp only [State.condOpens]
  repeat' split
  all_goals (try (with_reducible repeat (first | assumption | apply State.modCond_ListsBounded | apply State.receiveLost_ListsBounded | apply State.sendLost_ListsBounded | apply State.turnWait_ListsBounded)))
  all_goals (first | rfl | exact Nat.le_refl _ | (simp; done))

theorem State.condCloses_ListsBounded (s : State) (n : Line) (pin : LoopPin) (hinv : ListsBounded s) : ListsBounded (s.condCloses n pin) := by
  simp only [State.condCloses]
  repeat' split
  all_goals (try (with_reducible repeat (first | assumption | apply State.modCond_ListsBounded | apply State.setRx_ListsBounded | apply State.post_ListsBounded | apply State.turnReview_ListsBounded | apply State.choose_ListsBounded)))
  all_goals (first | rfl | exact Nat.le_refl _ | (simp; done))

theorem State.release_ListsBounded (s : State) (l : List CopyRef) (hinv : ListsBounded s) : ListsBounded (State.release s l) := by
  induction l generalizing s with
  | nil => exact hinv
  | cons x xs ih =>
    simp only [State.release]
    repeat' split
    all_goals (try (with_reducible repeat (first | assumption | apply State.modCopy_ListsBounded | apply ih)))
    all_goals (first | rfl | exact Nat.le_refl _ | (simp; done))

theorem State.releaseAndDispatch_ListsBounded (s : State) (ref : CopyRef) (hinv : ListsBounded s) : ListsBounded (s.releaseAndDispatch ref) := by
  simp only [State.releaseAndDispatch]
  repeat' split
  all_goals (try (with_reducible repeat (first | assumption | apply State.release_ListsBounded | apply State.dispatchAll_ListsBounded)))
  all_goals (first | rfl | exact Nat.le_refl _ | (simp; done))

theorem State.releaseAll_ListsBounded (s : State) (l : List CopyRef) (hinv : ListsBounded s) : ListsBounded (State.releaseAll s l) := by
  induction l generalizing s with
  | nil => exact hinv
  | cons x xs ih =>
    simp only [State.releaseAll]
    repeat' split
    all_goals (try (with_reducible repeat (first | assumption | apply State.releaseAndDispatch_ListsBounded | apply ih)))
    all_goals (first | rfl | exact Nat.le_refl _ | (simp; done))

theorem State.lineFails_ListsBounded (s : State) (n : Line) (pin : LoopPin) (hinv : ListsBounded s) : ListsBounded (s.lineFails n pin) := by
  simp only [State.lineFails]
  repeat' split
  all_goals (try (with_reducible repeat (first | assumption | apply State.modMotor_ListsBounded | apply State.modSched_ListsBounded | apply State.post_ListsBounded | apply State.releaseAll_ListsBounded)))
  all_goals (first | rfl | exact Nat.le_refl _ | (simp; done))

theorem State.condFails_ListsBounded (s : State) (n : Line) (pin : LoopPin) (hinv : ListsBounded s) : ListsBounded (s.condFails n pin) := by
  simp only [State.condFails]
  repeat' split
  all_goals (try (with_reducible repeat (first | assumption | apply State.modCond_ListsBounded | apply State.receiveLost_ListsBounded | apply State.sendLost_ListsBounded | apply State.lineFails_ListsBounded | apply State.post_ListsBounded)))
  all_goals (first | rfl | exact Nat.le_refl _ | (simp; done))

theorem State.enterRunning_ListsBounded (s : State) (cfg : Cfg) (busy : Bool) : ListsBounded (s.enterRunning cfg busy) :=
  ⟨by simp [State.enterRunning, Port.initial], by simp [State.enterRunning, Port.initial], by simp [State.enterRunning, Port.initial],
   by simp [State.enterRunning, Port.initial], by simp [State.enterRunning, Supervisor.initial],
   by simp [State.enterRunning, Supervisor.initial]⟩

theorem State.ownRestart_ListsBounded (s : State) (h : ListsBounded s) : ListsBounded s.ownRestart := by
  unfold State.ownRestart
  apply State.refreshTenure_ListsBounded
  have hw := State.warmRestart_ListsBounded s s.boot.slot false h
  generalize s.warmRestart s.boot.slot false = u at hw
  exact hw.of_eq rfl rfl (Nat.le_refl _) rfl

theorem State.endChar_ListsBounded (s : State) (n : Line) (code : Code) (framing : Bool) (hinv : ListsBounded s) : ListsBounded (s.endChar n code framing) := by
  simp only [State.endChar]
  repeat' split
  all_goals (try (with_reducible repeat (first | assumption | apply State.readPin_ListsBounded | apply State.setRxCase_ListsBounded | apply State.setRx_ListsBounded | apply State.handOverChar_ListsBounded)))
  all_goals (first | rfl | exact Nat.le_refl _ | (simp; done))

theorem State.silenceEnds_ListsBounded (s : State) (n : Line) (hinv : ListsBounded s) : ListsBounded (s.silenceEnds n) := by
  simp only [State.silenceEnds]
  repeat' split
  all_goals (try (with_reducible repeat (first | assumption | apply State.closeTruncated_ListsBounded)))
  all_goals (first | rfl | exact Nat.le_refl _ | (simp; done))

theorem State.beginFill_ListsBounded (s : State) (n : Line) (hinv : ListsBounded s) : ListsBounded (s.beginFill n) := by
  simp only [State.beginFill]
  repeat' split
  all_goals (try (with_reducible repeat (first | assumption | apply State.modTx_ListsBounded | apply State.suspendRx_ListsBounded)))
  all_goals (first | rfl | exact Nat.le_refl _ | (simp; done))

theorem State.finishChar_ListsBounded (s : State) (n : Line) (c : TxChar) (hinv : ListsBounded s) : ListsBounded (s.finishChar n c) := by
  simp only [State.finishChar]
  repeat' split
  all_goals (try (with_reducible repeat (first | assumption | apply State.modTx_ListsBounded | apply State.resumeRx_ListsBounded)))
  all_goals (first | rfl | exact Nat.le_refl _ | (simp; done))

theorem State.shiftTakes_ListsBounded (s : State) (n : Line) (hinv : ListsBounded s) : ListsBounded (s.shiftTakes n) := by
  simp only [State.shiftTakes]
  repeat' split
  all_goals (try (with_reducible repeat (first | assumption | apply State.beginHeld_ListsBounded | apply State.beginFill_ListsBounded)))
  all_goals (first | rfl | exact Nat.le_refl _ | (simp; done))

theorem State.shiftFollows_ListsBounded (s : State) (n : Line) (held : Option TxChar) (hinv : ListsBounded s) : ListsBounded (s.shiftFollows n held) := by
  simp only [State.shiftFollows]
  repeat' split
  all_goals (try (with_reducible repeat (first | assumption | apply State.shiftTakes_ListsBounded)))
  all_goals (first | rfl | exact Nat.le_refl _ | (simp; done))

theorem State.reportFill_ListsBounded (s : State) (n : Line) (hinv : ListsBounded s) : ListsBounded (s.reportFill n) := by
  simp only [State.reportFill]
  repeat' split
  all_goals (try (with_reducible repeat (first | assumption | apply State.countFill_ListsBounded)))
  all_goals (first | rfl | exact Nat.le_refl _ | (simp; done))

theorem State.round_ListsBounded (s : State) (rivals : List Nat) (hinv : ListsBounded s) : ListsBounded (s.round rivals) := by
  simp only [State.round]
  repeat' split
  all_goals (try (with_reducible repeat (first | assumption | apply State.drive_ListsBounded)))
  all_goals (first | rfl | exact Nat.le_refl _ | (simp; done))

theorem State.undrive_ListsBounded (s : State) (hinv : ListsBounded s) : ListsBounded (s.undrive) := by
  simp only [State.undrive]
  repeat' split
  all_goals (try (with_reducible repeat (first | assumption | apply State.modPort_ListsBounded)))
  all_goals (first | rfl | exact Nat.le_refl _ | (simp; done))

theorem State.offerReported_ListsBounded (s : State) (k : CtxIx) (hinv : ListsBounded s) : ListsBounded (s.offerReported k) := by
  simp only [State.offerReported]
  repeat' split
  all_goals (try (with_reducible repeat (first | assumption | apply State.setSend_ListsBounded | apply State.setCopyState_ListsBounded)))
  all_goals (first | rfl | exact Nat.le_refl _ | (simp; done))

theorem State.claimReported_ListsBounded (s : State) (k : CtxIx) (hinv : ListsBounded s) : ListsBounded (s.claimReported k) := by
  simp only [State.claimReported]
  repeat' split
  all_goals (try (with_reducible repeat (first | assumption | apply State.modRecord_ListsBounded | apply State.unpledge_ListsBounded | apply State.setTake_ListsBounded | apply State.enqueueOrRefuse_ListsBounded)))
  all_goals (first | rfl | exact Nat.le_refl _ | (simp; done))

theorem State.textReported_ListsBounded (s : State) (k : CtxIx) (d : Driven) (hinv : ListsBounded s) : ListsBounded (s.textReported k d) := by
  simp only [State.textReported]
  repeat' split
  all_goals (try (with_reducible repeat (first | assumption | apply State.lookNext_ListsBounded | apply State.modSend_ListsBounded | apply State.modPort_ListsBounded)))
  all_goals (first | rfl | exact Nat.le_refl _ | (simp; done))

theorem State.closeReported_ListsBounded (s : State) (k : CtxIx) (hinv : ListsBounded s) : ListsBounded (s.closeReported k) := by
  simp only [State.closeReported]
  repeat' split
  all_goals (try (with_reducible repeat (first | assumption | apply State.setSend_ListsBounded | apply State.setCopyState_ListsBounded)))
  all_goals (first | rfl | exact Nat.le_refl _ | (simp; done))

theorem State.answerReported_ListsBounded (s : State) (k : CtxIx) (hinv : ListsBounded s) : ListsBounded (s.answerReported k) := by
  simp only [State.answerReported]
  repeat' split
  all_goals (try (with_reducible repeat (first | assumption | apply State.freeTake_ListsBounded | apply State.addEnded_ListsBounded)))
  all_goals (first | rfl | exact Nat.le_refl _ | (simp; done))

theorem State.dropAnswer_ListsBounded (s : State) (tag : Tag) (reason : Reason) (h : ListsBounded s) : ListsBounded (s.dropAnswer tag reason) := by
  obtain ⟨h1, h2, h3, h4, h5, h6⟩ := h
  refine ⟨Nat.le_trans (List.length_filter_le _ _) h1, ?_, h3, h4, h5, h6⟩
  exact h2.sublist (List.Sublist.map _ List.filter_sublist)

theorem State.claim_ListsBounded (s : State) (k : CtxIx) (t : Take) (hinv : ListsBounded s) : ListsBounded (s.claim k t) := by
  simp only [State.claim]
  repeat' split
  all_goals (try (with_reducible repeat (first | assumption | apply State.setTake_ListsBounded | apply State.setReserved_ListsBounded | apply State.pledge_ListsBounded | apply State.askTake_ListsBounded)))
  all_goals (first | rfl | exact Nat.le_refl _ | (simp; done))

theorem State.claimDecision_ListsBounded (s : State) (tag : Tag) (cls : Precedence) (station : StationCode) (length : Option Nat) (cpm attempt : Nat) (hinv : ListsBounded s) : ListsBounded (s.claimDecision tag cls station length cpm attempt) := by
  simp only [State.claimDecision]
  repeat' split
  all_goals (try (with_reducible repeat (first | assumption | apply State.claim_ListsBounded)))
  all_goals (first | rfl | exact Nat.le_refl _ | (simp; done))

theorem State.weighLost_ListsBounded (s : State) (tag : Tag) (cls : Precedence) (attempt : Nat) (hinv : ListsBounded s) : ListsBounded (s.weighLost tag cls attempt) := by
  simp only [State.weighLost]
  repeat' split
  all_goals (try (with_reducible repeat (first | assumption | apply State.dropClaim_ListsBounded | apply State.endTakeRecord_ListsBounded | apply State.freeTake_ListsBounded | apply State.addAnswer_ListsBounded | apply State.addEnded_ListsBounded)))
  all_goals (first | rfl | exact Nat.le_refl _ | (simp; done))

theorem State.weighOffer_ListsBounded (s : State) (tag : Tag) (cls : Precedence) (station : StationCode) (length : Option Nat) (cpm attempt : Nat) (hinv : ListsBounded s) : ListsBounded (s.weighOffer tag cls station length cpm attempt) := by
  simp only [State.weighOffer]
  repeat' split
  all_goals (try (with_reducible repeat (first | assumption | apply State.tellPlaces_ListsBounded | apply State.weighLost_ListsBounded | apply State.dropEnded_ListsBounded | apply State.claimDecision_ListsBounded)))
  all_goals (first | rfl | exact Nat.le_refl _ | (simp; done))

theorem State.takeClaim_ListsBounded (s : State) (k : CtxIx) (c : Send) (claimant : Slot) (hinv : ListsBounded s) : ListsBounded (s.takeClaim k c claimant) := by
  simp only [State.takeClaim]
  repeat' split
  all_goals (try (with_reducible repeat (first | assumption | apply State.setSend_ListsBounded | apply State.setCopyState_ListsBounded | apply State.lookNext_ListsBounded)))
  all_goals (first | rfl | exact Nat.le_refl _ | (simp; done))

theorem State.judgeClaim_ListsBounded (s : State) (tag : Tag) (claimant : Slot) (hinv : ListsBounded s) : ListsBounded (s.judgeClaim tag claimant) := by
  simp only [State.judgeClaim]
  repeat' split
  all_goals (try (with_reducible repeat (first | assumption | apply State.addAnswer_ListsBounded | apply State.takeClaim_ListsBounded)))
  all_goals (first | rfl | exact Nat.le_refl _ | (simp; done))

theorem State.hearRival_ListsBounded (s : State) (tag : Tag) (hinv : ListsBounded s) : ListsBounded (s.hearRival tag) := by
  simp only [State.hearRival]
  repeat' split
  all_goals (try (with_reducible repeat (first | assumption | apply State.dropClaim_ListsBounded)))
  all_goals (first | rfl | exact Nat.le_refl _ | (simp; done))

theorem State.appendBlock_ListsBounded (s : State) (r : RecIx) (chars : List Code) (hinv : ListsBounded s) : ListsBounded (s.appendBlock r chars) := by
  simp only [State.appendBlock]
  repeat' split
  all_goals (try (with_reducible repeat (first | assumption | apply State.writeChars_ListsBounded | apply State.modRecord_ListsBounded | apply State.textChanged_ListsBounded)))
  all_goals (first | rfl | exact Nat.le_refl _ | (simp; done))

theorem State.takeOverrun_ListsBounded (s : State) (k : CtxIx) (r : RecIx) (t : Take) (hinv : ListsBounded s) : ListsBounded (s.takeOverrun k r t) := by
  simp only [State.takeOverrun]
  repeat' split
  all_goals (try (with_reducible repeat (first | assumption | apply State.modRecord_ListsBounded | apply State.modTake_ListsBounded | apply State.post_ListsBounded)))
  all_goals (first | rfl | exact Nat.le_refl _ | (simp; done))

theorem State.storeBlock_ListsBounded (s : State) (k : CtxIx) (r : RecIx) (t : Take) (chars : List Code) (h : ListsBounded s) :
    ListsBounded (s.storeBlock k r t chars) := by
  simp only [State.storeBlock]
  repeat' split
  · exact h
  · rename_i u e; exact State.appendBlock_ListsBounded _ _ _ (State.relayedBlock_ListsBounded s u k r e h)
  · exact State.takeOverrun_ListsBounded _ _ _ _ h

theorem State.takeText_ListsBounded (s : State) (k : CtxIx) (t : Take) (sequence : Nat) (chars : List Code) (hinv : ListsBounded s) : ListsBounded (s.takeText k t sequence chars) := by
  simp only [State.takeText]
  repeat' split
  all_goals (try (with_reducible repeat (first | assumption | apply State.dropClaim_ListsBounded | apply State.storeBlock_ListsBounded | apply State.modTake_ListsBounded | apply State.abandonTake_ListsBounded)))
  all_goals (first | rfl | exact Nat.le_refl _ | (simp; done))

theorem State.textEnded_ListsBounded (s : State) (tag : Tag) (hinv : ListsBounded s) : ListsBounded (s.textEnded tag) := by
  simp only [State.textEnded]
  repeat' split
  all_goals (try (with_reducible repeat (first | assumption | apply State.addAnswer_ListsBounded)))
  all_goals (first | rfl | exact Nat.le_refl _ | (simp; done))

theorem State.hearText_ListsBounded (s : State) (tag : Tag) (sequence : Nat) (chars : List Code) (hinv : ListsBounded s) : ListsBounded (s.hearText tag sequence chars) := by
  simp only [State.hearText]
  repeat' split
  all_goals (try (with_reducible repeat (first | assumption | apply State.textEnded_ListsBounded | apply State.takeText_ListsBounded)))
  all_goals (first | rfl | exact Nat.le_refl _ | (simp; done))

theorem State.enqueueAccepted_ListsBounded (s : State) (ref : CopyRef) (hinv : ListsBounded s) : ListsBounded (s.enqueueAccepted ref) := by
  simp only [State.enqueueAccepted]
  repeat' split
  all_goals (try (with_reducible repeat (first | assumption | apply State.enqueueOrRefuse_ListsBounded)))
  all_goals (first | rfl | exact Nat.le_refl _ | (simp; done))

theorem State.acceptClose_ListsBounded (s : State) (k : CtxIx) (r : RecIx) (overrun truncated : Bool) (mutilated : Nat) (hinv : ListsBounded s) : ListsBounded (s.acceptClose k r overrun truncated mutilated) := by
  simp only [State.acceptClose]
  repeat' split
  all_goals (try (with_reducible repeat (first | assumption | apply State.answerClose_ListsBounded | apply State.modRecord_ListsBounded | apply State.textChanged_ListsBounded | apply State.releaseReservation_ListsBounded | apply State.enqueueAccepted_ListsBounded | apply State.askTake_ListsBounded | apply State.tryFree_ListsBounded)))
  all_goals (first | rfl | exact Nat.le_refl _ | (simp; done))

theorem State.spoilClose_ListsBounded (s : State) (k : CtxIx) (t : Take) (hinv : ListsBounded s) : ListsBounded (s.spoilClose k t) := by
  simp only [State.spoilClose]
  repeat' split
  all_goals (try (with_reducible repeat (first | assumption | apply State.tellPlaces_ListsBounded | apply State.answerClose_ListsBounded | apply State.askTake_ListsBounded | apply State.spoiled_ListsBounded | apply State.endTakeRecord_ListsBounded)))
  all_goals (first | rfl | exact Nat.le_refl _ | (simp; done))

theorem State.takeClose_ListsBounded (s : State) (k : CtxIx) (t : Take) (total check : Nat) (overrun truncated : Bool) (mutilated : Nat) (hinv : ListsBounded s) : ListsBounded (s.takeClose k t total check overrun truncated mutilated) := by
  simp only [State.takeClose]
  repeat' split
  all_goals (try (with_reducible repeat (first | assumption | apply State.dropClaim_ListsBounded | apply State.acceptClose_ListsBounded | apply State.spoilClose_ListsBounded)))
  all_goals (first | rfl | exact Nat.le_refl _ | (simp; done))

theorem State.takerAbandons_ListsBounded (s : State) (k : CtxIx) (ref : CopyRef) (hinv : ListsBounded s) : ListsBounded (s.takerAbandons k ref) := by
  simp only [State.takerAbandons]
  repeat' split
  all_goals (try (with_reducible repeat (first | assumption | apply State.spoiled_ListsBounded)))
  all_goals (first | rfl | exact Nat.le_refl _ | (simp; done))

theorem State.originAbandons_ListsBounded (s : State) (tag : Tag) (hinv : ListsBounded s) : ListsBounded (s.originAbandons tag) := by
  simp only [State.originAbandons]
  repeat' split
  all_goals (try (with_reducible repeat (first | assumption | apply State.dropClaim_ListsBounded | apply State.giveUpTake_ListsBounded)))
  all_goals (first | rfl | exact Nat.le_refl _ | (simp; done))

theorem State.modSupTx_ListsBounded (s : State) (f : Tx → Tx) (hinv : ListsBounded s) : ListsBounded (s.modSupTx f) := by
  simp only [State.modSupTx]
  repeat' split
  all_goals (try (with_reducible repeat (first | assumption | apply State.modSup_ListsBounded)))
  all_goals (first | rfl | exact Nat.le_refl _ | (simp; done))

theorem State.supFollows_ListsBounded (s : State) (held : Option TxChar) (hinv : ListsBounded s) : ListsBounded (s.supFollows held) := by
  simp only [State.supFollows]
  repeat' split
  all_goals (try (with_reducible repeat (first | assumption | apply State.modSupTx_ListsBounded | apply State.beginFill_ListsBounded)))
  all_goals (first | rfl | exact Nat.le_refl _ | (simp; done))

theorem State.supCountFill_ListsBounded (s : State) (hinv : ListsBounded s) : ListsBounded (s.supCountFill) := by
  simp only [State.supCountFill]
  repeat' split
  all_goals (try (with_reducible repeat (first | assumption | apply State.modCopy_ListsBounded)))
  all_goals (first | rfl | exact Nat.le_refl _ | (simp; done))

end Sys2Proof.Machine
end

