-- ==== Sys2Proof/Laws/StoreAccounts.lean ====
section
/-! SUPPORT. Every shared operation leaves each block in exactly one place and FREE records without a chain, and reserves no more than is free. -/

set_option linter.unusedTactic false
set_option linter.unreachableTactic false

namespace Sys2Proof.Machine

/-- A sum after one place of a list is set. -/
theorem sum_map_set (l : List Record) (i : Nat) (h : i < l.length) (x : Record) (g : Record → Nat) :
    ((l.set i x).map g).sum + g l[i] = (l.map g).sum + g x := by
  induction l generalizing i with
  | nil => exact absurd h (Nat.not_lt_zero _)
  | cons y ys ih =>
    cases i with
    | zero => simp; omega
    | succ k =>
      have := ih k (by simpa using h)
      simp only [List.set_cons_succ, List.map_cons, List.sum_cons, List.getElem_cons_succ]
      omega

/-- The places of a block after one record changes. -/
theorem places_modRecord (s : State) (r : RecIx) (f : Record → Record) (b : BlockNo) :
    (s.modRecord r f).store.places b + (s.record r).chain.count b =
      s.store.places b + (f (s.record r)).chain.count b := by
  have e := sum_map_set s.store.records.toList r.val (by simp) (f (s.record r)) fun q => q.chain.count b
  have e2 : s.store.records.toList[r.val]'(by simp) = s.record r := by simp [State.record]
  rw [e2] at e
  have e3 : (s.modRecord r f).store.records.toList = s.store.records.toList.set r.val (f (s.record r)) := by
    simp [State.modRecord, State.modStore, State.record, Vector.toList_set]
  have e4 : (s.modRecord r f).store.freeList = s.store.freeList := rfl
  unfold Store.places
  rw [e3, e4]
  omega

/-- The records after one of them changes. -/
theorem State.record_modRecord (s : State) (r q : RecIx) (f : Record → Record) :
    (s.modRecord r f).record q = if q = r then f (s.record r) else s.record q := by
  simp only [State.modRecord, State.modStore, State.record, Fin.getElem_fin, Vector.getElem_set]
  by_cases h : q = r
  · subst h; simp
  · have : r.val ≠ q.val := fun e => h (Fin.ext e.symm)
    simp [h, this]

/-- A record may change without its chain, if it does not become FREE. -/
theorem State.modRecord_StoreAccounts (s : State) (r : RecIx) (f : Record → Record) (h : StoreAccounts s)
    (hf : (f (s.record r)).chain = (s.record r).chain ∧
      ((f (s.record r)).state = .free → (s.record r).state = .free)) : StoreAccounts (s.modRecord r f) := by
  refine ⟨fun b => ?_, fun q hq => ?_, h.2.2⟩
  · have := places_modRecord s r f b
    rw [hf.1] at this
    have := h.1 b
    omega
  · rw [State.record_modRecord] at hq ⊢
    split at hq
    · rename_i e; rw [if_pos e, hf.1]; exact h.2.1 r (hf.2 hq)
    · rename_i e; rw [if_neg e]; exact h.2.1 q hq

/-- A FREE record may be set up anew with an empty chain. -/
theorem State.setUp_StoreAccounts (s : State) (r : RecIx) (f : Record → Record) (h : StoreAccounts s)
    (hr : (s.record r).state = .free) (hf : (f (s.record r)).chain = []) : StoreAccounts (s.modRecord r f) := by
  have hc := h.2.1 r hr
  exact State.modRecord_StoreAccounts s r f h ⟨by rw [hf, hc], fun _ => hr⟩

/-- The sum of the reservation table after one entry is set. -/
theorem reservationCount_set (st : Store) (k : CtxIx) (n : Nat) :
    ({ st with reserved := st.reserved.set k n }).reservationCount + st.reserved[k] =
      st.reservationCount + n := by
  obtain ⟨k, hk⟩ := k
  have : k = 0 ∨ k = 1 ∨ k = 2 ∨ k = 3 := by omega
  rcases this with rfl | rfl | rfl | rfl <;> simp only [Store.reservationCount, Fin.getElem_fin]
  · rw [Vector.getElem_set_self, Vector.getElem_set_ne _ _ (by omega), Vector.getElem_set_ne _ _ (by omega), Vector.getElem_set_ne _ _ (by omega)]; omega
  · rw [Vector.getElem_set_self, Vector.getElem_set_ne _ _ (by omega), Vector.getElem_set_ne _ _ (by omega), Vector.getElem_set_ne _ _ (by omega)]; omega
  · rw [Vector.getElem_set_self, Vector.getElem_set_ne _ _ (by omega), Vector.getElem_set_ne _ _ (by omega), Vector.getElem_set_ne _ _ (by omega)]; omega
  · rw [Vector.getElem_set_self, Vector.getElem_set_ne _ _ (by omega), Vector.getElem_set_ne _ _ (by omega), Vector.getElem_set_ne _ _ (by omega)]; omega

theorem State.modLine_StoreAccounts (s : State) (n : Line) (f : LineUnit → LineUnit) (h : StoreAccounts s) : StoreAccounts (s.modLine n f) := h

theorem State.modSched_StoreAccounts (s : State) (n : Line) (f : Sched → Sched) (hinv : StoreAccounts s) : StoreAccounts (s.modSched n f) := by
  simp only [State.modSched]
  repeat' split
  all_goals (try (with_reducible repeat (first | assumption | apply State.modLine_StoreAccounts | apply State.modRecord_StoreAccounts)))
  all_goals (first | exact ⟨rfl, id⟩ | exact ⟨rfl, fun h => by cases h⟩)

theorem State.modAsm_StoreAccounts (s : State) (n : Line) (f : Assembler → Assembler) (hinv : StoreAccounts s) : StoreAccounts (s.modAsm n f) := by
  simp only [State.modAsm]
  repeat' split
  all_goals (try (with_reducible repeat (first | assumption | apply State.modLine_StoreAccounts | apply State.modRecord_StoreAccounts)))
  all_goals (first | exact ⟨rfl, id⟩ | exact ⟨rfl, fun h => by cases h⟩)

theorem State.modTx_StoreAccounts (s : State) (n : Line) (f : Tx → Tx) (hinv : StoreAccounts s) : StoreAccounts (s.modTx n f) := by
  simp only [State.modTx]
  repeat' split
  all_goals (try (with_reducible repeat (first | assumption | apply State.modLine_StoreAccounts | apply State.modRecord_StoreAccounts)))
  all_goals (first | exact ⟨rfl, id⟩ | exact ⟨rfl, fun h => by cases h⟩)

theorem State.modMotor_StoreAccounts (s : State) (n : Line) (f : Motor → Motor) (hinv : StoreAccounts s) : StoreAccounts (s.modMotor n f) := by
  simp only [State.modMotor]
  repeat' split
  all_goals (try (with_reducible repeat (first | assumption | apply State.modLine_StoreAccounts | apply State.modRecord_StoreAccounts)))
  all_goals (first | exact ⟨rfl, id⟩ | exact ⟨rfl, fun h => by cases h⟩)

theorem State.modRouter_StoreAccounts (s : State) (f : Router → Router) (h : StoreAccounts s) : StoreAccounts (s.modRouter f) := h

theorem State.modPort_StoreAccounts (s : State) (f : Port → Port) (h : StoreAccounts s) : StoreAccounts (s.modPort f) := h

theorem State.modSup_StoreAccounts (s : State) (f : Supervisor → Supervisor) (h : StoreAccounts s) : StoreAccounts (s.modSup f) := h

theorem State.modCopy_StoreAccounts (s : State) (ref : CopyRef) (f : Copy → Copy) (hinv : StoreAccounts s) : StoreAccounts (s.modCopy ref f) := by
  simp only [State.modCopy]
  repeat' split
  all_goals (try (with_reducible repeat (first | assumption | apply State.modRecord_StoreAccounts)))
  all_goals (first | exact ⟨rfl, id⟩ | exact ⟨rfl, fun h => by cases h⟩)

theorem State.setCopyState_StoreAccounts (s : State) (ref : CopyRef) (st : CopyState) (hinv : StoreAccounts s) : StoreAccounts (s.setCopyState ref st) := by
  simp only [State.setCopyState]
  repeat' split
  all_goals (try (with_reducible repeat (first | assumption | apply State.modCopy_StoreAccounts | apply State.modRecord_StoreAccounts)))
  all_goals (first | exact ⟨rfl, id⟩ | exact ⟨rfl, fun h => by cases h⟩)

theorem State.writeChar_StoreAccounts (s : State) (r : RecIx) (i : Nat) (c : Code) (h : StoreAccounts s) : StoreAccounts (s.writeChar r i c) := by
  simp only [State.writeChar]
  split <;> exact h

theorem State.writeChars_StoreAccounts (s : State) (r : RecIx) (i : Nat) (l : List Code) (hinv : StoreAccounts s) : StoreAccounts (State.writeChars s r i l) := by
  induction l generalizing s i with
  | nil => exact hinv
  | cons x xs ih =>
    simp only [State.writeChars]
    repeat' split
    all_goals (try (with_reducible repeat (first | assumption | apply State.writeChar_StoreAccounts | apply ih | apply State.modRecord_StoreAccounts)))
    all_goals (first | exact ⟨rfl, id⟩ | exact ⟨rfl, fun h => by cases h⟩)

/-- An entry set to what the free list still holds. -/
theorem State.setReserved_StoreAccounts (s : State) (k : CtxIx) (n : Nat) (h : StoreAccounts s)
    (hn : s.store.reservationCount + n ≤ s.store.freeList.length + s.store.reserved[k]) : StoreAccounts (s.setReserved k n) := by
  refine ⟨h.1, h.2.1, ?_⟩
  have := reservationCount_set s.store k n
  show (Store.mk s.store.pool s.store.freeList (s.store.reserved.set k n) s.store.pledges s.store.records).reservationCount ≤ s.store.freeList.length
  omega

theorem State.releaseReservation_StoreAccounts (s : State) (k : CtxIx) (h : StoreAccounts s) : StoreAccounts (s.releaseReservation k) :=
  State.setReserved_StoreAccounts s k 0 h (by have := h.2.2; omega)

theorem State.pledge_StoreAccounts (s : State) (h : StoreAccounts s) : StoreAccounts s.pledge := h

/-- A block drawn: it goes from the free list's head to the chain of a record that is not FREE. -/
theorem State.drawBlock_StoreAccounts (s t : State) (r : RecIx) (e : s.drawBlock r = some t) (h : StoreAccounts s) :
    (∀ b, t.store.places b = 1) ∧ (∀ q, (t.record q).state = .free → (t.record q).chain = []) ∧
      t.store.reserved = s.store.reserved ∧ t.store.freeList.length + 1 = s.store.freeList.length := by
  unfold State.drawBlock at e
  split at e
  · cases e
  · rename_i b rest hf
    split at e
    · cases e
    · rename_i hr
      cases e
      refine ⟨fun c => ?_, fun q hq => ?_, rfl, by simp [State.modRecord, State.modStore, hf]⟩
      · have hp := places_modRecord (s.modStore fun st => { st with freeList := rest }) r (fun rec => { rec with chain := rec.chain ++ [b] }) c
        have h1 := h.1 c
        simp only [State.modStore, State.record, Store.places, List.count_append, hf, List.count_cons, List.count_nil] at hp h1 ⊢
        omega
      · rw [State.record_modRecord] at hq ⊢
        split at hq
        · exact absurd hq hr
        · rename_i e; rw [if_neg e]; exact h.2.1 q hq

theorem State.allocateBlock_StoreAccounts (s t : State) (r : RecIx) (e : s.allocateBlock r = some t) (h : StoreAccounts s) : StoreAccounts t := by
  unfold State.allocateBlock at e
  split at e
  · rename_i ha
    obtain ⟨h1, h0, h2, h3⟩ := State.drawBlock_StoreAccounts s t r e h
    refine ⟨h1, h0, ?_⟩
    have hc : t.store.reservationCount = s.store.reservationCount := by simp [Store.reservationCount, h2]
    simp only [Store.admits, decide_eq_true_eq] at ha
    omega
  · cases e

theorem State.relayedBlock_StoreAccounts (s t : State) (k : CtxIx) (r : RecIx) (e : s.relayedBlock k r = some t) (h : StoreAccounts s) :
    StoreAccounts t := by
  unfold State.relayedBlock at e
  simp only at e
  split at e
  · rename_i hk
    cases hd : s.drawBlock r with
    | none => simp [hd] at e
    | some u =>
      simp [hd] at e
      subst e
      obtain ⟨h1, h0, h2, h3⟩ := State.drawBlock_StoreAccounts s u r hd h
      have hc : u.store.reservationCount = s.store.reservationCount := by simp [Store.reservationCount, h2]
      have hs := reservationCount_set u.store k (s.store.reserved[k] - 1)
      refine ⟨h1, h0, ?_⟩
      have := h.2.2
      show (Store.mk u.store.pool u.store.freeList (u.store.reserved.set k (s.store.reserved[k] - 1)) u.store.pledges u.store.records).reservationCount ≤ u.store.freeList.length
      have hr : u.store.reserved[k] = s.store.reserved[k] := by rw [h2]
      omega
  · exact State.allocateBlock_StoreAccounts s t r e h

theorem State.unpledge_StoreAccounts (s : State) (h : StoreAccounts s) : StoreAccounts s.unpledge := h

theorem State.freeRecord_StoreAccounts (s : State) (r : RecIx) (h : StoreAccounts s) : StoreAccounts (s.freeRecord r) := by
  refine ⟨fun c => ?_, fun q hq => ?_, ?_⟩
  · have hp := places_modRecord (s.modStore fun st => { st with freeList := st.freeList ++ (st.records[r]).chain }) r
      (fun rec => Record.cleared (rec.gen + 1)) c
    have h1 := h.1 c
    simp only [State.freeRecord, State.modStore, State.record, Store.places, List.count_append, Record.cleared, List.count_nil] at hp h1 ⊢
    omega
  · rw [State.freeRecord, State.record_modRecord] at hq ⊢
    split at hq
    · rename_i e; rw [if_pos e]; rfl
    · rename_i e; rw [if_neg e]; exact h.2.1 q hq
  · have := h.2.2
    show s.store.reservationCount ≤ (s.store.freeList ++ (s.store.records[r]).chain).length
    simp only [List.length_append]
    omega

theorem State.tryFree_StoreAccounts (s : State) (r : RecIx) (hinv : StoreAccounts s) : StoreAccounts (s.tryFree r) := by
  simp only [State.tryFree]
  repeat' split
  all_goals (try (with_reducible repeat (first | assumption | apply State.freeRecord_StoreAccounts | apply State.modRecord_StoreAccounts)))
  all_goals (first | exact ⟨rfl, id⟩ | exact ⟨rfl, fun h => by cases h⟩)

theorem State.settle_StoreAccounts (s : State) (ref : CopyRef) (how : Settlement) (hinv : StoreAccounts s) : StoreAccounts (s.settle ref how) := by
  simp only [State.settle]
  repeat' split
  all_goals (try (with_reducible repeat (first | assumption | apply State.tryFree_StoreAccounts | apply State.modRecord_StoreAccounts)))
  all_goals (first | exact ⟨rfl, id⟩ | exact ⟨rfl, fun h => by split at h <;> first | exact h | cases h⟩)

theorem State.setSend_StoreAccounts (s : State) (k : CtxIx) (c : Option Send) (hinv : StoreAccounts s) : StoreAccounts (s.setSend k c) := by
  simp only [State.setSend]
  repeat' split
  all_goals (try (with_reducible repeat (first | assumption | apply State.modPort_StoreAccounts | apply State.modRecord_StoreAccounts)))
  all_goals (first | exact ⟨rfl, id⟩ | exact ⟨rfl, fun h => by cases h⟩)

theorem State.setTake_StoreAccounts (s : State) (k : CtxIx) (t : Option Take) (hinv : StoreAccounts s) : StoreAccounts (s.setTake k t) := by
  simp only [State.setTake]
  repeat' split
  all_goals (try (with_reducible repeat (first | assumption | apply State.modPort_StoreAccounts | apply State.modRecord_StoreAccounts)))
  all_goals (first | exact ⟨rfl, id⟩ | exact ⟨rfl, fun h => by cases h⟩)

theorem State.modSend_StoreAccounts (s : State) (k : CtxIx) (f : Send → Send) (hinv : StoreAccounts s) : StoreAccounts (s.modSend k f) := by
  simp only [State.modSend]
  repeat' split
  all_goals (try (with_reducible repeat (first | assumption | apply State.setSend_StoreAccounts | apply State.modRecord_StoreAccounts)))
  all_goals (first | exact ⟨rfl, id⟩ | exact ⟨rfl, fun h => by cases h⟩)

theorem State.modTake_StoreAccounts (s : State) (k : CtxIx) (f : Take → Take) (hinv : StoreAccounts s) : StoreAccounts (s.modTake k f) := by
  simp only [State.modTake]
  repeat' split
  all_goals (try (with_reducible repeat (first | assumption | apply State.setTake_StoreAccounts | apply State.modRecord_StoreAccounts)))
  all_goals (first | exact ⟨rfl, id⟩ | exact ⟨rfl, fun h => by cases h⟩)

theorem State.refreshTenure_StoreAccounts (s : State) (hinv : StoreAccounts s) : StoreAccounts (s.refreshTenure) := by
  simp only [State.refreshTenure]
  repeat' split
  all_goals (try (with_reducible repeat (first | assumption | apply State.modPort_StoreAccounts | apply State.modRecord_StoreAccounts)))
  all_goals (first | exact ⟨rfl, id⟩ | exact ⟨rfl, fun h => by cases h⟩)

theorem State.endTenure_StoreAccounts (s : State) (hinv : StoreAccounts s) : StoreAccounts (s.endTenure) := by
  simp only [State.endTenure]
  repeat' split
  all_goals (try (with_reducible repeat (first | assumption | apply State.refreshTenure_StoreAccounts | apply State.modPort_StoreAccounts | apply State.modRecord_StoreAccounts)))
  all_goals (first | exact ⟨rfl, id⟩ | exact ⟨rfl, fun h => by cases h⟩)

theorem State.nextStamp_StoreAccounts (s : State) (hinv : StoreAccounts s) : StoreAccounts (s.nextStamp) := by
  simp only [State.nextStamp]
  repeat' split
  all_goals (try (with_reducible repeat (first | assumption | apply State.modPort_StoreAccounts | apply State.modRecord_StoreAccounts)))
  all_goals (first | exact ⟨rfl, id⟩ | exact ⟨rfl, fun h => by cases h⟩)

theorem State.drive_StoreAccounts (s : State) (source : FrameSource) (byRound : Bool) (hinv : StoreAccounts s) : StoreAccounts (s.drive source byRound) := by
  simp only [State.drive]
  repeat' split
  all_goals (try (with_reducible repeat (first | assumption | apply State.modPort_StoreAccounts | apply State.modRecord_StoreAccounts)))
  all_goals (first | exact ⟨rfl, id⟩ | exact ⟨rfl, fun h => by cases h⟩)

theorem State.deaden_StoreAccounts (s : State) (source : FrameSource) (hinv : StoreAccounts s) : StoreAccounts (s.deaden source) := by
  simp only [State.deaden]
  repeat' split
  all_goals (try (with_reducible repeat (first | assumption | apply State.modPort_StoreAccounts | apply State.modRecord_StoreAccounts)))
  all_goals (first | exact ⟨rfl, id⟩ | exact ⟨rfl, fun h => by cases h⟩)

theorem State.askSend_StoreAccounts (s : State) (k : CtxIx) (kind : SendKind) (hinv : StoreAccounts s) : StoreAccounts (s.askSend k kind) := by
  simp only [State.askSend]
  repeat' split
  all_goals (try (with_reducible repeat (first | assumption | apply State.deaden_StoreAccounts | apply State.modSend_StoreAccounts | apply State.nextStamp_StoreAccounts | apply State.refreshTenure_StoreAccounts | apply State.drive_StoreAccounts | apply State.modRecord_StoreAccounts)))
  all_goals (first | exact ⟨rfl, id⟩ | exact ⟨rfl, fun h => by cases h⟩)

theorem State.askTake_StoreAccounts (s : State) (k : CtxIx) (kind : TakeKind) (hinv : StoreAccounts s) : StoreAccounts (s.askTake k kind) := by
  simp only [State.askTake]
  repeat' split
  all_goals (try (with_reducible repeat (first | assumption | apply State.deaden_StoreAccounts | apply State.modTake_StoreAccounts | apply State.nextStamp_StoreAccounts | apply State.refreshTenure_StoreAccounts | apply State.modRecord_StoreAccounts)))
  all_goals (first | exact ⟨rfl, id⟩ | exact ⟨rfl, fun h => by cases h⟩)

theorem State.closeWindow_StoreAccounts (s : State) (k : CtxIx) (hinv : StoreAccounts s) : StoreAccounts (s.closeWindow k) := by
  simp only [State.closeWindow]
  repeat' split
  all_goals (try (with_reducible repeat (first | assumption | apply State.endTenure_StoreAccounts | apply State.refreshTenure_StoreAccounts | apply State.modRecord_StoreAccounts)))
  all_goals (first | exact ⟨rfl, id⟩ | exact ⟨rfl, fun h => by cases h⟩)

theorem State.dropSend_StoreAccounts (s : State) (k : CtxIx) (hinv : StoreAccounts s) : StoreAccounts (s.dropSend k) := by
  simp only [State.dropSend]
  repeat' split
  all_goals (try (with_reducible repeat (first | assumption | apply State.deaden_StoreAccounts | apply State.modSend_StoreAccounts | apply State.closeWindow_StoreAccounts | apply State.modRecord_StoreAccounts)))
  all_goals (first | exact ⟨rfl, id⟩ | exact ⟨rfl, fun h => by cases h⟩)

theorem State.freeSend_StoreAccounts (s : State) (k : CtxIx) (hinv : StoreAccounts s) : StoreAccounts (s.freeSend k) := by
  simp only [State.freeSend]
  repeat' split
  all_goals (try (with_reducible repeat (first | assumption | apply State.deaden_StoreAccounts | apply State.setSend_StoreAccounts | apply State.closeWindow_StoreAccounts | apply State.modRecord_StoreAccounts)))
  all_goals (first | exact ⟨rfl, id⟩ | exact ⟨rfl, fun h => by cases h⟩)

theorem State.freeTake_StoreAccounts (s : State) (k : CtxIx) (hinv : StoreAccounts s) : StoreAccounts (s.freeTake k) := by
  simp only [State.freeTake]
  repeat' split
  all_goals (try (with_reducible repeat (first | assumption | apply State.deaden_StoreAccounts | apply State.setTake_StoreAccounts | apply State.refreshTenure_StoreAccounts | apply State.modRecord_StoreAccounts)))
  all_goals (first | exact ⟨rfl, id⟩ | exact ⟨rfl, fun h => by cases h⟩)

theorem State.addAnswer_StoreAccounts (s : State) (tag : Tag) (reason : Reason) (cls : Precedence) (hinv : StoreAccounts s) : StoreAccounts (s.addAnswer tag reason cls) := by
  simp only [State.addAnswer]
  repeat' split
  all_goals (try (with_reducible repeat (first | assumption | apply State.modPort_StoreAccounts | apply State.nextStamp_StoreAccounts | apply State.refreshTenure_StoreAccounts | apply State.modRecord_StoreAccounts)))
  all_goals (first | exact ⟨rfl, id⟩ | exact ⟨rfl, fun h => by cases h⟩)

theorem State.addEnded_StoreAccounts (s : State) (tag : Tag) (cls : Precedence) (hinv : StoreAccounts s) : StoreAccounts (s.addEnded tag cls) := by
  simp only [State.addEnded]
  repeat' split
  all_goals (try (with_reducible repeat (first | assumption | apply State.modPort_StoreAccounts | apply State.modRecord_StoreAccounts)))
  all_goals (first | exact ⟨rfl, id⟩ | exact ⟨rfl, fun h => by cases h⟩)

theorem State.dropEnded_StoreAccounts (s : State) (tag : Tag) (hinv : StoreAccounts s) : StoreAccounts (s.dropEnded tag) := by
  simp only [State.dropEnded]
  repeat' split
  all_goals (try (with_reducible repeat (first | assumption | apply State.modPort_StoreAccounts | apply State.modRecord_StoreAccounts)))
  all_goals (first | exact ⟨rfl, id⟩ | exact ⟨rfl, fun h => by cases h⟩)

theorem State.askOffer_StoreAccounts (s : State) (k : CtxIx) (hinv : StoreAccounts s) : StoreAccounts (s.askOffer k) := by
  simp only [State.askOffer]
  repeat' split
  all_goals (try (with_reducible repeat (first | assumption | apply State.setSend_StoreAccounts | apply State.setCopyState_StoreAccounts | apply State.askSend_StoreAccounts | apply State.modRecord_StoreAccounts)))
  all_goals (first | exact ⟨rfl, id⟩ | exact ⟨rfl, fun h => by cases h⟩)

theorem State.giveSend_StoreAccounts (s : State) (k : CtxIx) (ref : CopyRef) (hinv : StoreAccounts s) : StoreAccounts (s.giveSend k ref) := by
  simp only [State.giveSend]
  repeat' split
  all_goals (try (with_reducible repeat (first | assumption | apply State.setSend_StoreAccounts | apply State.askOffer_StoreAccounts | apply State.modRecord_StoreAccounts)))
  all_goals (first | exact ⟨rfl, id⟩ | exact ⟨rfl, fun h => by cases h⟩)

theorem State.lookNext_StoreAccounts (s : State) (k : CtxIx) (hinv : StoreAccounts s) : StoreAccounts (s.lookNext k) := by
  simp only [State.lookNext]
  repeat' split
  all_goals (try (with_reducible repeat (first | assumption | apply State.askSend_StoreAccounts | apply State.modRecord_StoreAccounts)))
  all_goals (first | exact ⟨rfl, id⟩ | exact ⟨rfl, fun h => by cases h⟩)

theorem State.supGoTail_StoreAccounts (s : State) (short : Bool) (hinv : StoreAccounts s) : StoreAccounts (s.supGoTail short) := by
  simp only [State.supGoTail]
  repeat' split
  all_goals (try (with_reducible repeat (first | assumption | apply State.modSup_StoreAccounts | apply State.modRecord_StoreAccounts)))
  all_goals (first | exact ⟨rfl, id⟩ | exact ⟨rfl, fun h => by cases h⟩)

theorem State.supLoadComposed_StoreAccounts (s : State) (hinv : StoreAccounts s) : StoreAccounts (s.supLoadComposed) := by
  simp only [State.supLoadComposed]
  repeat' split
  all_goals (try (with_reducible repeat (first | assumption | apply State.modSup_StoreAccounts | apply State.modRecord_StoreAccounts)))
  all_goals (first | exact ⟨rfl, id⟩ | exact ⟨rfl, fun h => by cases h⟩)

theorem State.supLineLoaded_StoreAccounts (s : State) (hinv : StoreAccounts s) : StoreAccounts (s.supLineLoaded) := by
  simp only [State.supLineLoaded]
  repeat' split
  all_goals (try (with_reducible repeat (first | assumption | apply State.supGoTail_StoreAccounts | apply State.modSup_StoreAccounts | apply State.modRecord_StoreAccounts)))
  all_goals (first | exact ⟨rfl, id⟩ | exact ⟨rfl, fun h => by cases h⟩)

theorem State.supServeLine_StoreAccounts (s : State) (hinv : StoreAccounts s) : StoreAccounts (s.supServeLine) := by
  simp only [State.supServeLine]
  repeat' split
  all_goals (try (with_reducible repeat (first | assumption | apply State.supLoadComposed_StoreAccounts | apply State.supLineLoaded_StoreAccounts | apply State.modRecord_StoreAccounts)))
  all_goals (first | exact ⟨rfl, id⟩ | exact ⟨rfl, fun h => by cases h⟩)

theorem State.supServeText_StoreAccounts (s : State) (ref : CopyRef) (hinv : StoreAccounts s) : StoreAccounts (s.supServeText ref) := by
  simp only [State.supServeText]
  repeat' split
  all_goals (try (with_reducible repeat (first | assumption | apply State.modSup_StoreAccounts | apply State.supGoTail_StoreAccounts | apply State.supLoadComposed_StoreAccounts | apply State.modRecord_StoreAccounts)))
  all_goals (first | exact ⟨rfl, id⟩ | exact ⟨rfl, fun h => by cases h⟩)

theorem State.supServe_StoreAccounts (s : State) (hinv : StoreAccounts s) : StoreAccounts (s.supServe) := by
  simp only [State.supServe]
  repeat' split
  all_goals (try (with_reducible repeat (first | assumption | apply State.supServeLine_StoreAccounts | apply State.supServeText_StoreAccounts | apply State.supLoadComposed_StoreAccounts | apply State.modRecord_StoreAccounts)))
  all_goals (first | exact ⟨rfl, id⟩ | exact ⟨rfl, fun h => by cases h⟩)

theorem State.beginPrint_StoreAccounts (s : State) (hinv : StoreAccounts s) : StoreAccounts (s.beginPrint) := by
  simp only [State.beginPrint]
  repeat' split
  all_goals (try (with_reducible repeat (first | assumption | apply State.supServe_StoreAccounts | apply State.modSup_StoreAccounts | apply State.modRecord_StoreAccounts)))
  all_goals (first | exact ⟨rfl, id⟩ | exact ⟨rfl, fun h => by cases h⟩)

theorem State.chosen_StoreAccounts (s : State) (hinv : StoreAccounts s) : StoreAccounts s.chosen := hinv

theorem State.handOverMany_StoreAccounts (s : State) (l : Nat) (hinv : StoreAccounts s) : StoreAccounts (State.handOverMany s l) := by
  induction l generalizing s with
  | zero => exact hinv
  | succ k ih =>
    simp only [State.handOverMany]
    repeat' split
    all_goals (try (with_reducible repeat (first | assumption | apply State.modRouter_StoreAccounts | apply State.setCopyState_StoreAccounts | apply State.modSup_StoreAccounts | apply State.beginPrint_StoreAccounts | apply ih | apply State.modRecord_StoreAccounts)))
    all_goals (first | exact ⟨rfl, id⟩ | exact ⟨rfl, fun h => by cases h⟩)

theorem State.handOver_StoreAccounts (s : State) (hinv : StoreAccounts s) : StoreAccounts (s.handOver) := by
  simp only [State.handOver]
  repeat' split
  all_goals (try (with_reducible repeat (first | assumption | apply State.handOverMany_StoreAccounts | apply State.modRecord_StoreAccounts)))
  all_goals (first | exact ⟨rfl, id⟩ | exact ⟨rfl, fun h => by cases h⟩)

theorem State.handOverSought_StoreAccounts (s : State) (l : Nat) (h : StoreAccounts s) : StoreAccounts (State.handOverSought s l) := by
  induction l generalizing s with
  | zero => exact h
  | succ k ih =>
    simp only [State.handOverSought]
    repeat' split
    · exact h
    · exact State.chosen_StoreAccounts s h
    · exact ih _ (State.handOverMany_StoreAccounts _ 1 (State.chosen_StoreAccounts s h))

theorem State.post_StoreAccounts (s : State) (n : Notice) (hinv : StoreAccounts s) : StoreAccounts (s.post n) := by
  simp only [State.post]
  repeat' split
  all_goals (try (with_reducible repeat (first | assumption | apply State.modSup_StoreAccounts | apply State.beginPrint_StoreAccounts | apply State.handOver_StoreAccounts | apply State.modRecord_StoreAccounts)))
  all_goals (first | exact ⟨rfl, id⟩ | exact ⟨rfl, fun h => by cases h⟩)

theorem State.postAll_StoreAccounts (s : State) (l : List Notice) (hinv : StoreAccounts s) : StoreAccounts (State.postAll s l) := by
  induction l generalizing s with
  | nil => exact hinv
  | cons x xs ih =>
    simp only [State.postAll]
    repeat' split
    all_goals (try (with_reducible repeat (first | assumption | apply State.post_StoreAccounts | apply ih | apply State.modRecord_StoreAccounts)))
    all_goals (first | exact ⟨rfl, id⟩ | exact ⟨rfl, fun h => by cases h⟩)

theorem State.placeFreed_StoreAccounts (s before : State) (sought : Bool) (hinv : StoreAccounts s) : StoreAccounts (s.placeFreed before sought) := by
  simp only [State.placeFreed]
  repeat' split
  all_goals (try (with_reducible repeat (first | assumption | apply State.chosen_StoreAccounts | apply State.handOver_StoreAccounts | apply State.handOverSought_StoreAccounts | apply State.modRecord_StoreAccounts)))
  all_goals (first | exact ⟨rfl, id⟩ | exact ⟨rfl, fun h => by cases h⟩)

theorem State.tellPlaces_StoreAccounts (s before : State) (hinv : StoreAccounts s) : StoreAccounts (s.tellPlaces before) :=
  State.placeFreed_StoreAccounts s before _ hinv

theorem State.itemEnded_StoreAccounts (s : State) (hinv : StoreAccounts s) : StoreAccounts (s.itemEnded) := by
  simp only [State.itemEnded]
  repeat' split
  all_goals (try (with_reducible repeat (first | assumption | apply State.tellPlaces_StoreAccounts | apply State.modSup_StoreAccounts | apply State.settle_StoreAccounts | apply State.placeFreed_StoreAccounts | apply State.beginPrint_StoreAccounts | apply State.modRecord_StoreAccounts)))
  all_goals (first | exact ⟨rfl, id⟩ | exact ⟨rfl, fun h => by cases h⟩)

theorem State.discardHead_StoreAccounts (s : State) (hinv : StoreAccounts s) : StoreAccounts (s.discardHead) := by
  simp only [State.discardHead]
  repeat' split
  all_goals (try (with_reducible repeat (first | assumption | apply State.modSup_StoreAccounts | apply State.supGoTail_StoreAccounts | apply State.supLoadComposed_StoreAccounts | apply State.modRecord_StoreAccounts)))
  all_goals (first | exact ⟨rfl, id⟩ | exact ⟨rfl, fun h => by cases h⟩)

theorem State.discardDead_StoreAccounts (s : State) (r : RecIx) (g : Gen) (hinv : StoreAccounts s) : StoreAccounts (s.discardDead r g) := by
  simp only [State.discardDead]
  repeat' split
  all_goals (try (with_reducible repeat (first | assumption | apply State.modRouter_StoreAccounts | apply State.discardHead_StoreAccounts | apply State.modSup_StoreAccounts | apply State.modRecord_StoreAccounts)))
  all_goals (first | exact ⟨rfl, id⟩ | exact ⟨rfl, fun h => by cases h⟩)

theorem State.supTextChanged_StoreAccounts (s : State) (r : RecIx) (hinv : StoreAccounts s) : StoreAccounts (s.supTextChanged r) := by
  simp only [State.supTextChanged]
  repeat' split
  all_goals (try (with_reducible repeat (first | assumption | apply State.supServe_StoreAccounts | apply State.modRecord_StoreAccounts)))
  all_goals (first | exact ⟨rfl, id⟩ | exact ⟨rfl, fun h => by cases h⟩)

theorem State.motorEnqueue_StoreAccounts (s : State) (n : Line) (hinv : StoreAccounts s) : StoreAccounts (s.motorEnqueue n) := by
  simp only [State.motorEnqueue]
  repeat' split
  all_goals (try (with_reducible repeat (first | assumption | apply State.modMotor_StoreAccounts | apply State.modRecord_StoreAccounts)))
  all_goals (first | exact ⟨rfl, id⟩ | exact ⟨rfl, fun h => by cases h⟩)

theorem State.motorEmpty_StoreAccounts (s : State) (n : Line) (hinv : StoreAccounts s) : StoreAccounts (s.motorEmpty n) := by
  simp only [State.motorEmpty]
  repeat' split
  all_goals (try (with_reducible repeat (first | assumption | apply State.modMotor_StoreAccounts | apply State.modRecord_StoreAccounts)))
  all_goals (first | exact ⟨rfl, id⟩ | exact ⟨rfl, fun h => by cases h⟩)

theorem State.loadChar_StoreAccounts (s : State) (n : Line) (c : TxChar) (hinv : StoreAccounts s) : StoreAccounts (s.loadChar n c) := by
  simp only [State.loadChar]
  repeat' split
  all_goals (try (with_reducible repeat (first | assumption | apply State.modTx_StoreAccounts | apply State.modRecord_StoreAccounts)))
  all_goals (first | exact ⟨rfl, id⟩ | exact ⟨rfl, fun h => by cases h⟩)

theorem State.loadNextComposed_StoreAccounts (s : State) (n : Line) (hinv : StoreAccounts s) : StoreAccounts (s.loadNextComposed n) := by
  simp only [State.loadNextComposed]
  repeat' split
  all_goals (try (with_reducible repeat (first | assumption | apply State.loadChar_StoreAccounts | apply State.modSched_StoreAccounts | apply State.modRecord_StoreAccounts)))
  all_goals (first | exact ⟨rfl, id⟩ | exact ⟨rfl, fun h => by cases h⟩)

theorem State.serveHead_StoreAccounts (s : State) (n : Line) (hinv : StoreAccounts s) : StoreAccounts (s.serveHead n) := by
  simp only [State.serveHead]
  repeat' split
  all_goals (try (with_reducible repeat (first | assumption | apply State.loadNextComposed_StoreAccounts | apply State.modSched_StoreAccounts | apply State.modRecord_StoreAccounts)))
  all_goals (first | exact ⟨rfl, id⟩ | exact ⟨rfl, fun h => by cases h⟩)

theorem State.enterTail_StoreAccounts (s : State) (n : Line) (r : Record) (hinv : StoreAccounts s) : StoreAccounts (s.enterTail n r) := by
  simp only [State.enterTail]
  repeat' split
  all_goals (try (with_reducible repeat (first | assumption | apply State.modSched_StoreAccounts | apply State.modRecord_StoreAccounts)))
  all_goals (first | exact ⟨rfl, id⟩ | exact ⟨rfl, fun h => by cases h⟩)

theorem State.serveText_StoreAccounts (s : State) (n : Line) (ref : CopyRef) (hinv : StoreAccounts s) : StoreAccounts (s.serveText n ref) := by
  simp only [State.serveText]
  repeat' split
  all_goals (try (with_reducible repeat (first | assumption | apply State.loadChar_StoreAccounts | apply State.modSched_StoreAccounts | apply State.enterTail_StoreAccounts | apply State.loadNextComposed_StoreAccounts | apply State.modRecord_StoreAccounts)))
  all_goals (first | exact ⟨rfl, id⟩ | exact ⟨rfl, fun h => by cases h⟩)

theorem State.serveLine_StoreAccounts (s : State) (n : Line) (hinv : StoreAccounts s) : StoreAccounts (s.serveLine n) := by
  simp only [State.serveLine]
  repeat' split
  all_goals (try (with_reducible repeat (first | assumption | apply State.serveHead_StoreAccounts | apply State.serveText_StoreAccounts | apply State.loadNextComposed_StoreAccounts | apply State.modRecord_StoreAccounts)))
  all_goals (first | exact ⟨rfl, id⟩ | exact ⟨rfl, fun h => by cases h⟩)

theorem State.numberCopy_StoreAccounts (s : State) (n : Line) (ref : CopyRef) (hinv : StoreAccounts s) : StoreAccounts (s.numberCopy n ref) := by
  simp only [State.numberCopy]
  repeat' split
  all_goals (try (with_reducible repeat (first | assumption | apply State.modCopy_StoreAccounts | apply State.modSched_StoreAccounts | apply State.modRecord_StoreAccounts)))
  all_goals (first | exact ⟨rfl, id⟩ | exact ⟨rfl, fun h => by cases h⟩)

theorem State.startFresh_StoreAccounts (s : State) (n : Line) (e : QEntry) (hinv : StoreAccounts s) : StoreAccounts (s.startFresh n e) := by
  simp only [State.startFresh]
  repeat' split
  all_goals (try (with_reducible repeat (first | assumption | apply State.numberCopy_StoreAccounts | apply State.setCopyState_StoreAccounts | apply State.modSched_StoreAccounts | apply State.modTx_StoreAccounts | apply State.serveLine_StoreAccounts | apply State.modRecord_StoreAccounts)))
  all_goals (first | exact ⟨rfl, id⟩ | exact ⟨rfl, fun h => by cases h⟩)

theorem State.startResume_StoreAccounts (s : State) (n : Line) (e : QEntry) (hinv : StoreAccounts s) : StoreAccounts (s.startResume n e) := by
  simp only [State.startResume]
  repeat' split
  all_goals (try (with_reducible repeat (first | assumption | apply State.numberCopy_StoreAccounts | apply State.setCopyState_StoreAccounts | apply State.modCopy_StoreAccounts | apply State.modSched_StoreAccounts | apply State.modTx_StoreAccounts | apply State.serveLine_StoreAccounts | apply State.modRecord_StoreAccounts)))
  all_goals (first | exact ⟨rfl, id⟩ | exact ⟨rfl, fun h => by cases h⟩)

theorem State.choose_StoreAccounts (s : State) (n : Line) (hinv : StoreAccounts s) : StoreAccounts (s.choose n) := by
  simp only [State.choose]
  repeat' split
  all_goals (try (with_reducible repeat (first | assumption | apply State.modSched_StoreAccounts | apply State.startFresh_StoreAccounts | apply State.startResume_StoreAccounts | apply State.modRecord_StoreAccounts)))
  all_goals (first | exact ⟨rfl, id⟩ | exact ⟨rfl, fun h => by cases h⟩)

theorem State.beginInterruption_StoreAccounts (s : State) (n : Line) (hinv : StoreAccounts s) : StoreAccounts (s.beginInterruption n) := by
  simp only [State.beginInterruption]
  repeat' split
  all_goals (try (with_reducible repeat (first | assumption | apply State.serveLine_StoreAccounts | apply State.modSched_StoreAccounts | apply State.modTx_StoreAccounts | apply State.modRecord_StoreAccounts)))
  all_goals (first | exact ⟨rfl, id⟩ | exact ⟨rfl, fun h => by cases h⟩)

theorem State.preemptTest_StoreAccounts (s : State) (n : Line) (hinv : StoreAccounts s) : StoreAccounts (s.preemptTest n) := by
  simp only [State.preemptTest]
  repeat' split
  all_goals (try (with_reducible repeat (first | assumption | apply State.beginInterruption_StoreAccounts | apply State.modSched_StoreAccounts | apply State.modRecord_StoreAccounts)))
  all_goals (first | exact ⟨rfl, id⟩ | exact ⟨rfl, fun h => by cases h⟩)

theorem State.reconsiderMark_StoreAccounts (s : State) (n : Line) (hinv : StoreAccounts s) : StoreAccounts (s.reconsiderMark n) := by
  simp only [State.reconsiderMark]
  repeat' split
  all_goals (try (with_reducible repeat (first | assumption | apply State.modSched_StoreAccounts | apply State.modRecord_StoreAccounts)))
  all_goals (first | exact ⟨rfl, id⟩ | exact ⟨rfl, fun h => by cases h⟩)

theorem State.lookAgain_StoreAccounts (s : State) (n : Line) (hinv : StoreAccounts s) : StoreAccounts (s.lookAgain n) := by
  simp only [State.lookAgain]
  repeat' split
  all_goals (try (with_reducible repeat (first | assumption | apply State.preemptTest_StoreAccounts | apply State.choose_StoreAccounts | apply State.modRecord_StoreAccounts)))
  all_goals (first | exact ⟨rfl, id⟩ | exact ⟨rfl, fun h => by cases h⟩)

theorem State.enqueue_StoreAccounts (s : State) (n : Line) (ref : CopyRef) (hinv : StoreAccounts s) : StoreAccounts (s.enqueue n ref) := by
  simp only [State.enqueue]
  repeat' split
  all_goals (try (with_reducible repeat (first | assumption | apply State.modSched_StoreAccounts | apply State.setCopyState_StoreAccounts | apply State.motorEnqueue_StoreAccounts | apply State.lookAgain_StoreAccounts | apply State.choose_StoreAccounts | apply State.modRecord_StoreAccounts)))
  all_goals (first | exact ⟨rfl, id⟩ | exact ⟨rfl, fun h => by cases h⟩)

theorem State.clearCurrent_StoreAccounts (s : State) (n : Line) (hinv : StoreAccounts s) : StoreAccounts (s.clearCurrent n) := by
  simp only [State.clearCurrent]
  repeat' split
  all_goals (try (with_reducible repeat (first | assumption | apply State.modSched_StoreAccounts | apply State.modTx_StoreAccounts | apply State.modRecord_StoreAccounts)))
  all_goals (first | exact ⟨rfl, id⟩ | exact ⟨rfl, fun h => by cases h⟩)

theorem State.putBack_StoreAccounts (s : State) (n : Line) (hinv : StoreAccounts s) : StoreAccounts (s.putBack n) := by
  simp only [State.putBack]
  repeat' split
  all_goals (try (with_reducible repeat (first | assumption | apply State.clearCurrent_StoreAccounts | apply State.modCopy_StoreAccounts | apply State.modSched_StoreAccounts | apply State.setCopyState_StoreAccounts | apply State.motorEnqueue_StoreAccounts | apply State.modRecord_StoreAccounts)))
  all_goals (first | exact ⟨rfl, id⟩ | exact ⟨rfl, fun h => by cases h⟩)

theorem State.withdraw_StoreAccounts (s : State) (n : Line) (ref : CopyRef) (hinv : StoreAccounts s) : StoreAccounts (s.withdraw n ref) := by
  simp only [State.withdraw]
  repeat' split
  all_goals (try (with_reducible repeat (first | assumption | apply State.modSched_StoreAccounts | apply State.reconsiderMark_StoreAccounts | apply State.motorEmpty_StoreAccounts | apply State.modRecord_StoreAccounts)))
  all_goals (first | exact ⟨rfl, id⟩ | exact ⟨rfl, fun h => by cases h⟩)

theorem State.delivered_StoreAccounts (s : State) (n : Line) (e : QEntry) (hinv : StoreAccounts s) : StoreAccounts (s.delivered n e) := by
  simp only [State.delivered]
  repeat' split
  all_goals (try (with_reducible repeat (first | assumption | apply State.settle_StoreAccounts | apply State.clearCurrent_StoreAccounts | apply State.choose_StoreAccounts | apply State.motorEmpty_StoreAccounts | apply State.modRecord_StoreAccounts)))
  all_goals (first | exact ⟨rfl, id⟩ | exact ⟨rfl, fun h => by cases h⟩)

theorem State.pushCurrent_StoreAccounts (s : State) (n : Line) (e : QEntry) (hinv : StoreAccounts s) : StoreAccounts (s.pushCurrent n e) := by
  simp only [State.pushCurrent]
  repeat' split
  all_goals (try (with_reducible repeat (first | assumption | apply State.modCopy_StoreAccounts | apply State.clearCurrent_StoreAccounts | apply State.modSched_StoreAccounts | apply State.choose_StoreAccounts | apply State.modRecord_StoreAccounts)))
  all_goals (first | exact ⟨rfl, id⟩ | exact ⟨rfl, fun h => by cases h⟩)

theorem State.reportSent_StoreAccounts (s : State) (n : Line) (c : TxChar) (hinv : StoreAccounts s) : StoreAccounts (s.reportSent n c) := by
  simp only [State.reportSent]
  repeat' split
  all_goals (try (with_reducible repeat (first | assumption | apply State.pushCurrent_StoreAccounts | apply State.delivered_StoreAccounts | apply State.modSched_StoreAccounts | apply State.beginInterruption_StoreAccounts | apply State.modRecord_StoreAccounts)))
  all_goals (first | exact ⟨rfl, id⟩ | exact ⟨rfl, fun h => by cases h⟩)

theorem State.countFill_StoreAccounts (s : State) (ref : CopyRef) (hinv : StoreAccounts s) : StoreAccounts (s.countFill ref) := by
  simp only [State.countFill]
  repeat' split
  all_goals (try (with_reducible repeat (first | assumption | apply State.modCopy_StoreAccounts | apply State.modRecord_StoreAccounts)))
  all_goals (first | exact ⟨rfl, id⟩ | exact ⟨rfl, fun h => by cases h⟩)

theorem State.lineTextChanged_StoreAccounts (s : State) (n : Line) (r : RecIx) (oldCount : Nat) (oldComplete : Bool) (hinv : StoreAccounts s) : StoreAccounts (s.lineTextChanged n r oldCount oldComplete) := by
  simp only [State.lineTextChanged]
  repeat' split
  all_goals (try (with_reducible repeat (first | assumption | apply State.serveLine_StoreAccounts | apply State.lookAgain_StoreAccounts | apply State.modRecord_StoreAccounts)))
  all_goals (first | exact ⟨rfl, id⟩ | exact ⟨rfl, fun h => by cases h⟩)

theorem State.bindLocal_StoreAccounts (s : State) (n : Line) (ref : CopyRef) (hinv : StoreAccounts s) : StoreAccounts (s.bindLocal n ref) := by
  simp only [State.bindLocal]
  repeat' split
  all_goals (try (with_reducible repeat (first | assumption | apply State.modCopy_StoreAccounts | apply State.enqueue_StoreAccounts | apply State.modRecord_StoreAccounts)))
  all_goals (first | exact ⟨rfl, id⟩ | exact ⟨rfl, fun h => by cases h⟩)

theorem State.startSeries_StoreAccounts (s : State) (k : CtxIx) (ref : CopyRef) (hinv : StoreAccounts s) : StoreAccounts (s.startSeries k ref) := by
  simp only [State.startSeries]
  repeat' split
  all_goals (try (with_reducible repeat (first | assumption | apply State.modCopy_StoreAccounts | apply State.giveSend_StoreAccounts | apply State.modRecord_StoreAccounts)))
  all_goals (first | exact ⟨rfl, id⟩ | exact ⟨rfl, fun h => by cases h⟩)

theorem State.waitForContext_StoreAccounts (s : State) (ref : CopyRef) (hinv : StoreAccounts s) : StoreAccounts (s.waitForContext ref) := by
  simp only [State.waitForContext]
  repeat' split
  all_goals (try (with_reducible repeat (first | assumption | apply State.setCopyState_StoreAccounts | apply State.modRouter_StoreAccounts | apply State.modRecord_StoreAccounts)))
  all_goals (first | exact ⟨rfl, id⟩ | exact ⟨rfl, fun h => by cases h⟩)

theorem State.offerCopy_StoreAccounts (s : State) (ref : CopyRef) (hinv : StoreAccounts s) : StoreAccounts (s.offerCopy ref) := by
  simp only [State.offerCopy]
  repeat' split
  all_goals (try (with_reducible repeat (first | assumption | apply State.startSeries_StoreAccounts | apply State.waitForContext_StoreAccounts | apply State.modRecord_StoreAccounts)))
  all_goals (first | exact ⟨rfl, id⟩ | exact ⟨rfl, fun h => by cases h⟩)

theorem State.serveWaitMany_StoreAccounts (s : State) (l : Nat) (hinv : StoreAccounts s) : StoreAccounts (State.serveWaitMany s l) := by
  induction l generalizing s with
  | zero => exact hinv
  | succ k ih =>
    simp only [State.serveWaitMany]
    repeat' split
    all_goals (try (with_reducible repeat (first | assumption | apply State.modRouter_StoreAccounts | apply State.bindLocal_StoreAccounts | apply State.startSeries_StoreAccounts | apply ih | apply State.modRecord_StoreAccounts)))
    all_goals (first | exact ⟨rfl, id⟩ | exact ⟨rfl, fun h => by cases h⟩)

theorem State.serveWaitList_StoreAccounts (s : State) (hinv : StoreAccounts s) : StoreAccounts (s.serveWaitList) := by
  simp only [State.serveWaitList]
  repeat' split
  all_goals (try (with_reducible repeat (first | assumption | apply State.serveWaitMany_StoreAccounts | apply State.modRecord_StoreAccounts)))
  all_goals (first | exact ⟨rfl, id⟩ | exact ⟨rfl, fun h => by cases h⟩)

theorem State.startCounts_StoreAccounts (s : State) (ref : CopyRef) (hinv : StoreAccounts s) : StoreAccounts (s.startCounts ref) := by
  simp only [State.startCounts]
  repeat' split
  all_goals (try (with_reducible repeat (first | assumption | apply State.modCopy_StoreAccounts | apply State.modRecord_StoreAccounts)))
  all_goals (first | exact ⟨rfl, id⟩ | exact ⟨rfl, fun h => by cases h⟩)

theorem State.dispatchCopy_StoreAccounts (s : State) (ref : CopyRef) (hinv : StoreAccounts s) : StoreAccounts (s.dispatchCopy ref) := by
  simp only [State.dispatchCopy]
  repeat' split
  all_goals (try (with_reducible repeat (first | assumption | apply State.startCounts_StoreAccounts | apply State.bindLocal_StoreAccounts | apply State.offerCopy_StoreAccounts | apply State.modRecord_StoreAccounts)))
  all_goals (first | exact ⟨rfl, id⟩ | exact ⟨rfl, fun h => by cases h⟩)

theorem State.dispatchAll_StoreAccounts (s : State) (l : List CopyRef) (hinv : StoreAccounts s) : StoreAccounts (State.dispatchAll s l) := by
  induction l generalizing s with
  | nil => exact hinv
  | cons x xs ih =>
    simp only [State.dispatchAll]
    repeat' split
    all_goals (try (with_reducible repeat (first | assumption | apply State.dispatchCopy_StoreAccounts | apply ih | apply State.modRecord_StoreAccounts)))
    all_goals (first | exact ⟨rfl, id⟩ | exact ⟨rfl, fun h => by cases h⟩)

theorem State.dispatchRecord_StoreAccounts (s : State) (r : RecIx) (hinv : StoreAccounts s) : StoreAccounts (s.dispatchRecord r) := by
  simp only [State.dispatchRecord]
  repeat' split
  all_goals (try (with_reducible repeat (first | assumption | apply State.dispatchAll_StoreAccounts | apply State.modRecord_StoreAccounts)))
  all_goals (first | exact ⟨rfl, id⟩ | exact ⟨rfl, fun h => by cases h⟩)

theorem State.dispatchRestart_StoreAccounts (s : State) (l : List CopyRef) (h : StoreAccounts s) : StoreAccounts (State.dispatchRestart s l).1 := by
  induction l generalizing s with
  | nil => exact h
  | cons x xs ih =>
    simp only [State.dispatchRestart]
    split
    · exact ih _ (State.bindLocal_StoreAccounts _ _ _ (State.startCounts_StoreAccounts _ _ h))
    · exact ih _ (State.setCopyState_StoreAccounts _ _ _ (State.startCounts_StoreAccounts _ _ h))

theorem State.holdOffEnds_StoreAccounts (s : State) (h : StoreAccounts s) : StoreAccounts s.holdOffEnds := by
  simp only [State.holdOffEnds]
  apply State.serveWaitList_StoreAccounts
  apply State.modRouter_StoreAccounts
  apply State.dispatchRestart_StoreAccounts
  apply State.modRouter_StoreAccounts
  exact State.modPort_StoreAccounts _ _ h

theorem State.enqueueOrRefuse_StoreAccounts (s : State) (n : Line) (ref : CopyRef) (hinv : StoreAccounts s) : StoreAccounts (s.enqueueOrRefuse n ref) := by
  simp only [State.enqueueOrRefuse]
  repeat' split
  all_goals (try (with_reducible repeat (first | assumption | apply State.enqueue_StoreAccounts | apply State.modCopy_StoreAccounts | apply State.setCopyState_StoreAccounts | apply State.dispatchCopy_StoreAccounts | apply State.modRecord_StoreAccounts)))
  all_goals (first | exact ⟨rfl, id⟩ | exact ⟨rfl, fun h => by cases h⟩)

theorem State.die_StoreAccounts (s : State) (k : CtxIx) (ref : CopyRef) (hinv : StoreAccounts s) : StoreAccounts (s.die k ref) := by
  simp only [State.die]
  repeat' split
  all_goals (try (with_reducible repeat (first | assumption | apply State.setCopyState_StoreAccounts | apply State.freeSend_StoreAccounts | apply State.modRouter_StoreAccounts | apply State.handOver_StoreAccounts | apply State.serveWaitList_StoreAccounts | apply State.modRecord_StoreAccounts)))
  all_goals (first | exact ⟨rfl, id⟩ | exact ⟨rfl, fun h => by cases h⟩)

theorem State.bindInstead_StoreAccounts (s : State) (k : CtxIx) (n : Line) (ref : CopyRef) (hinv : StoreAccounts s) : StoreAccounts (s.bindInstead k n ref) := by
  simp only [State.bindInstead]
  repeat' split
  all_goals (try (with_reducible repeat (first | assumption | apply State.freeSend_StoreAccounts | apply State.bindLocal_StoreAccounts | apply State.serveWaitList_StoreAccounts | apply State.modRecord_StoreAccounts)))
  all_goals (first | exact ⟨rfl, id⟩ | exact ⟨rfl, fun h => by cases h⟩)

theorem State.reoffer_StoreAccounts (s : State) (k : CtxIx) (ref : CopyRef) (next : Nat) (hinv : StoreAccounts s) : StoreAccounts (s.reoffer k ref next) := by
  simp only [State.reoffer]
  repeat' split
  all_goals (try (with_reducible repeat (first | assumption | apply State.bindInstead_StoreAccounts | apply State.modCopy_StoreAccounts | apply State.askOffer_StoreAccounts | apply State.modRecord_StoreAccounts)))
  all_goals (first | exact ⟨rfl, id⟩ | exact ⟨rfl, fun h => by cases h⟩)

theorem State.unclaimed_StoreAccounts (s : State) (k : CtxIx) (ref : CopyRef) (hinv : StoreAccounts s) : StoreAccounts (s.unclaimed k ref) := by
  simp only [State.unclaimed]
  repeat' split
  all_goals (try (with_reducible repeat (first | assumption | apply State.die_StoreAccounts | apply State.setCopyState_StoreAccounts | apply State.modSend_StoreAccounts | apply State.modRecord_StoreAccounts)))
  all_goals (first | exact ⟨rfl, id⟩ | exact ⟨rfl, fun h => by cases h⟩)

theorem State.spoiled_StoreAccounts (s : State) (k : CtxIx) (ref : CopyRef) (hinv : StoreAccounts s) : StoreAccounts (s.spoiled k ref) := by
  simp only [State.spoiled]
  repeat' split
  all_goals (try (with_reducible repeat (first | assumption | apply State.dropSend_StoreAccounts | apply State.modSend_StoreAccounts | apply State.modCopy_StoreAccounts | apply State.die_StoreAccounts | apply State.reoffer_StoreAccounts | apply State.modRecord_StoreAccounts)))
  all_goals (first | exact ⟨rfl, id⟩ | exact ⟨rfl, fun h => by cases h⟩)

theorem State.handed_StoreAccounts (s : State) (k : CtxIx) (ref : CopyRef) (hinv : StoreAccounts s) : StoreAccounts (s.handed k ref) := by
  simp only [State.handed]
  repeat' split
  all_goals (try (with_reducible repeat (first | assumption | apply State.settle_StoreAccounts | apply State.freeSend_StoreAccounts | apply State.serveWaitList_StoreAccounts | apply State.modRecord_StoreAccounts)))
  all_goals (first | exact ⟨rfl, id⟩ | exact ⟨rfl, fun h => by cases h⟩)

theorem State.sendsLook_StoreAccounts (s : State) (r : RecIx) (l : List CtxIx) (hinv : StoreAccounts s) : StoreAccounts (State.sendsLook s r l) := by
  induction l generalizing s with
  | nil => exact hinv
  | cons x xs ih =>
    simp only [State.sendsLook]
    repeat' split
    all_goals (try (with_reducible repeat (first | assumption | apply State.lookNext_StoreAccounts | apply ih | apply State.modRecord_StoreAccounts)))
    all_goals (first | exact ⟨rfl, id⟩ | exact ⟨rfl, fun h => by cases h⟩)

theorem State.linesLook_StoreAccounts (s : State) (r : RecIx) (oldCount : Nat) (oldComplete : Bool) (l : List Line) (hinv : StoreAccounts s) : StoreAccounts (State.linesLook s r oldCount oldComplete l) := by
  induction l generalizing s with
  | nil => exact hinv
  | cons x xs ih =>
    simp only [State.linesLook]
    repeat' split
    all_goals (try (with_reducible repeat (first | assumption | apply State.lineTextChanged_StoreAccounts | apply ih | apply State.modRecord_StoreAccounts)))
    all_goals (first | exact ⟨rfl, id⟩ | exact ⟨rfl, fun h => by cases h⟩)

theorem State.textChanged_StoreAccounts (s : State) (r : RecIx) (oldCount : Nat) (oldComplete : Bool) (hinv : StoreAccounts s) : StoreAccounts (s.textChanged r oldCount oldComplete) := by
  simp only [State.textChanged]
  repeat' split
  all_goals (try (with_reducible repeat (first | assumption | apply State.linesLook_StoreAccounts | apply State.sendsLook_StoreAccounts | apply State.supTextChanged_StoreAccounts | apply State.modRecord_StoreAccounts)))
  all_goals (first | exact ⟨rfl, id⟩ | exact ⟨rfl, fun h => by cases h⟩)

theorem State.cutShort_StoreAccounts (s : State) (r : RecIx) (hinv : StoreAccounts s) : StoreAccounts (s.cutShort r) := by
  simp only [State.cutShort]
  repeat' split
  all_goals (try (with_reducible repeat (first | assumption | apply State.textChanged_StoreAccounts | apply State.modRecord_StoreAccounts)))
  all_goals (first | exact ⟨rfl, id⟩ | exact ⟨rfl, fun h => by cases h⟩)

theorem State.dropSendOf_StoreAccounts (s : State) (ref : CopyRef) (hinv : StoreAccounts s) : StoreAccounts (s.dropSendOf ref) := by
  simp only [State.dropSendOf]
  repeat' split
  all_goals (try (with_reducible repeat (first | assumption | apply State.freeSend_StoreAccounts | apply State.modRecord_StoreAccounts)))
  all_goals (first | exact ⟨rfl, id⟩ | exact ⟨rfl, fun h => by cases h⟩)

theorem State.forgetCopy_StoreAccounts (s : State) (ref : CopyRef) (hinv : StoreAccounts s) : StoreAccounts (s.forgetCopy ref) := by
  simp only [State.forgetCopy]
  repeat' split
  all_goals (try (with_reducible repeat (first | assumption | apply State.modRouter_StoreAccounts | apply State.modRecord_StoreAccounts)))
  all_goals (first | exact ⟨rfl, id⟩ | exact ⟨rfl, fun h => by cases h⟩)

theorem State.withdrawCopy_StoreAccounts (s : State) (ref : CopyRef) (hinv : StoreAccounts s) : StoreAccounts (s.withdrawCopy ref) := by
  simp only [State.withdrawCopy]
  repeat' split
  all_goals (try (with_reducible repeat (first | assumption | apply State.withdraw_StoreAccounts | apply State.modRecord_StoreAccounts)))
  all_goals (first | exact ⟨rfl, id⟩ | exact ⟨rfl, fun h => by cases h⟩)

theorem State.discardRecord_StoreAccounts (s : State) (r : RecIx) (hinv : StoreAccounts s) : StoreAccounts (s.discardRecord r) := by
  simp only [State.discardRecord]
  repeat' split
  all_goals (try (with_reducible repeat (first | assumption | apply State.withdrawCopy_StoreAccounts | apply State.forgetCopy_StoreAccounts | apply State.dropSendOf_StoreAccounts | apply State.discardDead_StoreAccounts | apply State.freeRecord_StoreAccounts | apply State.serveWaitList_StoreAccounts | apply State.modRecord_StoreAccounts)))
  all_goals (first | exact ⟨rfl, id⟩ | exact ⟨rfl, fun h => by cases h⟩)

theorem State.endRecord_StoreAccounts (s : State) (r : RecIx) (hinv : StoreAccounts s) : StoreAccounts (s.endRecord r) := by
  simp only [State.endRecord]
  repeat' split
  all_goals (try (with_reducible repeat (first | assumption | apply State.cutShort_StoreAccounts | apply State.discardRecord_StoreAccounts | apply State.modRecord_StoreAccounts)))
  all_goals (first | exact ⟨rfl, id⟩ | exact ⟨rfl, fun h => by cases h⟩)

theorem State.endTakeRecord_StoreAccounts (s : State) (k : CtxIx) (t : Take) (hinv : StoreAccounts s) : StoreAccounts (s.endTakeRecord k t) := by
  simp only [State.endTakeRecord]
  repeat' split
  all_goals (try (with_reducible repeat (first | assumption | apply State.releaseReservation_StoreAccounts | apply State.endRecord_StoreAccounts | apply State.modRecord_StoreAccounts)))
  all_goals (first | exact ⟨rfl, id⟩ | exact ⟨rfl, fun h => by cases h⟩)

theorem State.dropClaim_StoreAccounts (s : State) (k : CtxIx) (hinv : StoreAccounts s) : StoreAccounts (s.dropClaim k) := by
  simp only [State.dropClaim]
  repeat' split
  all_goals (try (with_reducible repeat (first | assumption | apply State.freeTake_StoreAccounts | apply State.releaseReservation_StoreAccounts | apply State.unpledge_StoreAccounts | apply State.modRecord_StoreAccounts)))
  all_goals (first | exact ⟨rfl, id⟩ | exact ⟨rfl, fun h => by cases h⟩)

theorem State.giveUpTake_StoreAccounts (s : State) (k : CtxIx) (t : Take) (hinv : StoreAccounts s) : StoreAccounts (s.giveUpTake k t) := by
  simp only [State.giveUpTake]
  repeat' split
  all_goals (try (with_reducible repeat (first | assumption | apply State.tellPlaces_StoreAccounts | apply State.endTakeRecord_StoreAccounts | apply State.freeTake_StoreAccounts | apply State.addEnded_StoreAccounts | apply State.modRecord_StoreAccounts)))
  all_goals (first | exact ⟨rfl, id⟩ | exact ⟨rfl, fun h => by cases h⟩)

theorem State.abandonTake_StoreAccounts (s : State) (k : CtxIx) (t : Take) (reason : Reason) (hinv : StoreAccounts s) : StoreAccounts (s.abandonTake k t reason) := by
  simp only [State.abandonTake]
  repeat' split
  all_goals (try (with_reducible repeat (first | assumption | apply State.tellPlaces_StoreAccounts | apply State.modTake_StoreAccounts | apply State.askTake_StoreAccounts | apply State.endTakeRecord_StoreAccounts | apply State.modRecord_StoreAccounts)))
  all_goals (first | exact ⟨rfl, id⟩ | exact ⟨rfl, fun h => by cases h⟩)

theorem State.answerClose_StoreAccounts (s : State) (k : CtxIx) (hinv : StoreAccounts s) : StoreAccounts (s.answerClose k) := by
  simp only [State.answerClose]
  repeat' split
  all_goals (try (with_reducible repeat (first | assumption | apply State.modTake_StoreAccounts | apply State.modRecord_StoreAccounts)))
  all_goals (first | exact ⟨rfl, id⟩ | exact ⟨rfl, fun h => by cases h⟩)

theorem State.endTaking_StoreAccounts (s : State) (l : List RecIx) (hinv : StoreAccounts s) : StoreAccounts (State.endTaking s l) := by
  induction l generalizing s with
  | nil => exact hinv
  | cons x xs ih =>
    simp only [State.endTaking]
    repeat' split
    all_goals (try (with_reducible repeat (first | assumption | apply State.endRecord_StoreAccounts | apply ih | apply State.modRecord_StoreAccounts)))
    all_goals (first | exact ⟨rfl, id⟩ | exact ⟨rfl, fun h => by cases h⟩)

theorem State.returnCopies_StoreAccounts (s : State) (h : StoreAccounts s) : StoreAccounts s.returnCopies := by
  refine ⟨fun b => ?_, fun q hq => ?_, h.2.2⟩
  · have h1 := h.1 b
    simp only [State.returnCopies, Store.places, State.modRouter_store, State.modStore_store, Vector.toList_map, List.map_map] at h1 ⊢
    exact h1
  · have h1 := h.2.1 q
    simp only [State.returnCopies, State.record, State.modRouter_store, State.modStore_store, Fin.getElem_fin, Vector.getElem_map] at h1 hq ⊢
    exact h1 hq

theorem State.startHoldOff_StoreAccounts (s : State) (hinv : StoreAccounts s) : StoreAccounts (s.startHoldOff) := by
  simp only [State.startHoldOff]
  repeat' split
  all_goals (try (with_reducible repeat (first | assumption | apply State.holdOffEnds_StoreAccounts | apply State.modPort_StoreAccounts | apply State.modRecord_StoreAccounts)))
  all_goals (first | exact ⟨rfl, id⟩ | exact ⟨rfl, fun h => by cases h⟩)

theorem State.warmRestart_StoreAccounts (s : State) (sender : Slot) (received : Bool) (h : StoreAccounts s) :
    StoreAccounts (s.warmRestart sender received) := by
  simp only [State.warmRestart]
  apply State.startHoldOff_StoreAccounts
  apply State.post_StoreAccounts
  apply State.returnCopies_StoreAccounts
  apply State.placeFreed_StoreAccounts
  apply State.endTaking_StoreAccounts
  have hp : StoreAccounts ((s.modPort fun p => p.restarted received).refreshTenure) :=
    State.refreshTenure_StoreAccounts _ (State.modPort_StoreAccounts _ _ h)
  exact ⟨hp.1, hp.2.1, by simp [Store.reservationCount, Vector.getElem_replicate]⟩

theorem State.turnReview_StoreAccounts (s : State) (n : Line) (hinv : StoreAccounts s) : StoreAccounts (s.turnReview n) := by
  simp only [State.turnReview]
  repeat' split
  all_goals (try (with_reducible repeat (first | assumption | apply State.modLine_StoreAccounts | apply State.modRecord_StoreAccounts)))
  all_goals (first | exact ⟨rfl, id⟩ | exact ⟨rfl, fun h => by cases h⟩)

theorem State.turnWait_StoreAccounts (s : State) (n : Line) (hinv : StoreAccounts s) : StoreAccounts (s.turnWait n) := by
  simp only [State.turnWait]
  repeat' split
  all_goals (try (with_reducible repeat (first | assumption | apply State.modLine_StoreAccounts | apply State.modRecord_StoreAccounts)))
  all_goals (first | exact ⟨rfl, id⟩ | exact ⟨rfl, fun h => by cases h⟩)

theorem State.setRx_StoreAccounts (s : State) (n : Line) (st : RxState) (hinv : StoreAccounts s) : StoreAccounts (s.setRx n st) := by
  simp only [State.setRx]
  repeat' split
  all_goals (try (with_reducible repeat (first | assumption | apply State.modLine_StoreAccounts | apply State.modRecord_StoreAccounts)))
  all_goals (first | exact ⟨rfl, id⟩ | exact ⟨rfl, fun h => by cases h⟩)

theorem State.suspendRx_StoreAccounts (s : State) (n : Line) (hinv : StoreAccounts s) : StoreAccounts (s.suspendRx n) := by
  simp only [State.suspendRx]
  repeat' split
  all_goals (try (with_reducible repeat (first | assumption | apply State.setRx_StoreAccounts | apply State.modRecord_StoreAccounts)))
  all_goals (first | exact ⟨rfl, id⟩ | exact ⟨rfl, fun h => by cases h⟩)

theorem State.beginHeld_StoreAccounts (s : State) (n : Line) (hinv : StoreAccounts s) : StoreAccounts (s.beginHeld n) := by
  simp only [State.beginHeld]
  repeat' split
  all_goals (try (with_reducible repeat (first | assumption | apply State.modTx_StoreAccounts | apply State.suspendRx_StoreAccounts | apply State.modRecord_StoreAccounts)))
  all_goals (first | exact ⟨rfl, id⟩ | exact ⟨rfl, fun h => by cases h⟩)

theorem State.takeOrWithdraw_StoreAccounts (s : State) (n : Line) (hinv : StoreAccounts s) : StoreAccounts (s.takeOrWithdraw n) := by
  simp only [State.takeOrWithdraw]
  repeat' split
  all_goals (try (with_reducible repeat (first | assumption | apply State.chosen_StoreAccounts | apply State.beginHeld_StoreAccounts | apply State.modRecord_StoreAccounts)))
  all_goals (first | exact ⟨rfl, id⟩ | exact ⟨rfl, fun h => by cases h⟩)

theorem State.takenOff_StoreAccounts (s : State) (n : Line) (hinv : StoreAccounts s) : StoreAccounts (s.takenOff n) := by
  simp only [State.takenOff]
  repeat' split
  all_goals (try (with_reducible repeat (first | assumption | apply State.modTx_StoreAccounts | apply State.takeOrWithdraw_StoreAccounts | apply State.putBack_StoreAccounts | apply State.modRecord_StoreAccounts)))
  all_goals (first | exact ⟨rfl, id⟩ | exact ⟨rfl, fun h => by cases h⟩)

theorem State.leftHunt_StoreAccounts (s : State) (n : Line) (hinv : StoreAccounts s) : StoreAccounts (s.leftHunt n) := by
  simp only [State.leftHunt]
  repeat' split
  all_goals (try (with_reducible repeat (first | assumption | apply State.turnWait_StoreAccounts | apply State.takenOff_StoreAccounts | apply State.modRecord_StoreAccounts)))
  all_goals (first | exact ⟨rfl, id⟩ | exact ⟨rfl, fun h => by cases h⟩)

theorem State.returnToHunt_StoreAccounts (s : State) (n : Line) (hinv : StoreAccounts s) : StoreAccounts (s.returnToHunt n) := by
  simp only [State.returnToHunt]
  repeat' split
  all_goals (try (with_reducible repeat (first | assumption | apply State.turnReview_StoreAccounts | apply State.modAsm_StoreAccounts | apply State.modRecord_StoreAccounts)))
  all_goals (first | exact ⟨rfl, id⟩ | exact ⟨rfl, fun h => by cases h⟩)

theorem State.lineOverrun_StoreAccounts (s : State) (n : Line) (r : RecIx) (hinv : StoreAccounts s) : StoreAccounts (s.lineOverrun n r) := by
  simp only [State.lineOverrun]
  repeat' split
  all_goals (try (with_reducible repeat (first | assumption | apply State.modAsm_StoreAccounts | apply State.post_StoreAccounts | apply State.modRecord_StoreAccounts)))
  all_goals (first | exact ⟨rfl, id⟩ | exact ⟨rfl, fun h => by cases h⟩)

theorem State.appendChar_StoreAccounts (s : State) (r : RecIx) (c : Code) (hinv : StoreAccounts s) : StoreAccounts (s.appendChar r c) := by
  simp only [State.appendChar]
  repeat' split
  all_goals (try (with_reducible repeat (first | assumption | apply State.writeChar_StoreAccounts | apply State.textChanged_StoreAccounts | apply State.modRecord_StoreAccounts)))
  all_goals (first | exact ⟨rfl, id⟩ | exact ⟨rfl, fun h => by cases h⟩)

theorem State.storeChar_StoreAccounts (s : State) (n : Line) (r : RecIx) (c : Code) (h : StoreAccounts s) : StoreAccounts (s.storeChar n r c) := by
  simp only [State.storeChar]
  repeat' split
  · exact h
  · rename_i t e; exact State.appendChar_StoreAccounts _ _ _ (State.allocateBlock_StoreAccounts s t r e h)
  · exact State.lineOverrun_StoreAccounts _ _ _ h
  · exact State.appendChar_StoreAccounts _ _ _ h

theorem State.defaultHeading_StoreAccounts (s : State) (r : RecIx) (hinv : StoreAccounts s) : StoreAccounts (s.defaultHeading r) := by
  simp only [State.defaultHeading]
  repeat' split
  all_goals (try (with_reducible repeat (first | assumption | apply State.modRecord_StoreAccounts)))
  all_goals (first | exact ⟨rfl, id⟩ | exact ⟨rfl, fun h => by cases h⟩)

theorem State.fillTable_StoreAccounts (s : State) (n : Line) (r : RecIx) (stations : List StationCode) (hinv : StoreAccounts s) : StoreAccounts (s.fillTable n r stations) := by
  simp only [State.fillTable]
  repeat' split
  all_goals (try (with_reducible repeat (first | assumption | apply State.modAsm_StoreAccounts | apply State.modRecord_StoreAccounts)))
  all_goals (first | exact ⟨rfl, id⟩ | exact ⟨rfl, fun h => by cases h⟩)

theorem State.headingEnds_StoreAccounts (s : State) (n : Line) (r : RecIx) (stations : List StationCode) (hinv : StoreAccounts s) : StoreAccounts (s.headingEnds n r stations) := by
  simp only [State.headingEnds]
  repeat' split
  all_goals (try (with_reducible repeat (first | assumption | apply State.fillTable_StoreAccounts | apply State.dispatchRecord_StoreAccounts | apply State.modRecord_StoreAccounts)))
  all_goals (first | exact ⟨rfl, id⟩ | exact ⟨rfl, fun h => by cases h⟩)

theorem State.takeHeading_StoreAccounts (s : State) (n : Line) (r : RecIx) (h : Handed) (hinv : StoreAccounts s) : StoreAccounts (s.takeHeading n r h) := by
  simp only [State.takeHeading]
  repeat' split
  all_goals (try (with_reducible repeat (first | assumption | apply State.storeChar_StoreAccounts | apply State.modAsm_StoreAccounts | apply State.defaultHeading_StoreAccounts | apply State.headingEnds_StoreAccounts | apply State.modRecord_StoreAccounts)))
  all_goals (first | exact ⟨rfl, id⟩ | exact ⟨rfl, fun h => by cases h⟩)

theorem State.takeDesignator_StoreAccounts (s : State) (n : Line) (r : RecIx) (h : Handed) (hinv : StoreAccounts s) : StoreAccounts (s.takeDesignator n r h) := by
  simp only [State.takeDesignator]
  repeat' split
  all_goals (try (with_reducible repeat (first | assumption | apply State.storeChar_StoreAccounts | apply State.modAsm_StoreAccounts | apply State.modRecord_StoreAccounts)))
  all_goals (first | exact ⟨rfl, id⟩ | exact ⟨rfl, fun h => by cases h⟩)

theorem State.checkChannel_StoreAccounts (s : State) (n : Line) (r : RecIx) (received : Nat) (hinv : StoreAccounts s) : StoreAccounts (s.checkChannel n r received) := by
  simp only [State.checkChannel]
  repeat' split
  all_goals (try (with_reducible repeat (first | assumption | apply State.modAsm_StoreAccounts | apply State.post_StoreAccounts | apply State.modRecord_StoreAccounts)))
  all_goals (first | exact ⟨rfl, id⟩ | exact ⟨rfl, fun h => by cases h⟩)

theorem State.takeGroup_StoreAccounts (s : State) (n : Line) (r : RecIx) (h : Handed) (hinv : StoreAccounts s) : StoreAccounts (s.takeGroup n r h) := by
  simp only [State.takeGroup]
  repeat' split
  all_goals (try (with_reducible repeat (first | assumption | apply State.defaultHeading_StoreAccounts | apply State.modAsm_StoreAccounts | apply State.takeDesignator_StoreAccounts | apply State.checkChannel_StoreAccounts | apply State.modRecord_StoreAccounts)))
  all_goals (first | exact ⟨rfl, id⟩ | exact ⟨rfl, fun h => by cases h⟩)

theorem State.completeRecord_StoreAccounts (s : State) (r : RecIx) (truncated : Bool) (hinv : StoreAccounts s) : StoreAccounts (s.completeRecord r truncated) := by
  simp only [State.completeRecord]
  repeat' split
  all_goals (try (with_reducible repeat (first | assumption | apply State.tryFree_StoreAccounts | apply State.textChanged_StoreAccounts | apply State.modRecord_StoreAccounts)))
  all_goals (first | exact ⟨rfl, id⟩ | exact ⟨rfl, fun h => by cases h⟩)

theorem State.dispatchAtClose_StoreAccounts (s : State) (r : RecIx) (filled : Bool) (hinv : StoreAccounts s) : StoreAccounts (s.dispatchAtClose r filled) := by
  simp only [State.dispatchAtClose]
  repeat' split
  all_goals (try (with_reducible repeat (first | assumption | apply State.dispatchRecord_StoreAccounts | apply State.modRecord_StoreAccounts)))
  all_goals (first | exact ⟨rfl, id⟩ | exact ⟨rfl, fun h => by cases h⟩)

theorem State.malformedAtClose_StoreAccounts (s : State) (n : Line) (r : RecIx) (hinv : StoreAccounts s) : StoreAccounts (s.malformedAtClose n r) := by
  simp only [State.malformedAtClose]
  repeat' split
  all_goals (try (with_reducible repeat (first | assumption | apply State.fillTable_StoreAccounts | apply State.modRecord_StoreAccounts)))
  all_goals (first | exact ⟨rfl, id⟩ | exact ⟨rfl, fun h => by cases h⟩)

theorem State.closeByRun_StoreAccounts (s : State) (n : Line) (r : RecIx) (hinv : StoreAccounts s) : StoreAccounts (s.closeByRun n r) := by
  simp only [State.closeByRun]
  repeat' split
  all_goals (try (with_reducible repeat (first | assumption | apply State.malformedAtClose_StoreAccounts | apply State.completeRecord_StoreAccounts | apply State.dispatchAtClose_StoreAccounts | apply State.returnToHunt_StoreAccounts | apply State.freeRecord_StoreAccounts | apply State.modRecord_StoreAccounts)))
  all_goals (first | exact ⟨rfl, id⟩ | exact ⟨rfl, fun h => by cases h⟩)

theorem State.closeTruncated_StoreAccounts (s : State) (n : Line) (r : RecIx) (cause : TruncateCause) (hinv : StoreAccounts s) : StoreAccounts (s.closeTruncated n r cause) := by
  simp only [State.closeTruncated]
  repeat' split
  all_goals (try (with_reducible repeat (first | assumption | apply State.modAsm_StoreAccounts | apply State.malformedAtClose_StoreAccounts | apply State.completeRecord_StoreAccounts | apply State.post_StoreAccounts | apply State.dispatchAtClose_StoreAccounts | apply State.returnToHunt_StoreAccounts | apply State.freeRecord_StoreAccounts | apply State.modRecord_StoreAccounts)))
  all_goals (first | exact ⟨rfl, id⟩ | exact ⟨rfl, fun h => by cases h⟩)

theorem State.takeOrdinary_StoreAccounts (s : State) (n : Line) (r : RecIx) (h : Handed) (hinv : StoreAccounts s) : StoreAccounts (s.takeOrdinary n r h) := by
  simp only [State.takeOrdinary]
  repeat' split
  all_goals (try (with_reducible repeat (first | assumption | apply State.takeGroup_StoreAccounts | apply State.takeDesignator_StoreAccounts | apply State.takeHeading_StoreAccounts | apply State.storeChar_StoreAccounts | apply State.modRecord_StoreAccounts)))
  all_goals (first | exact ⟨rfl, id⟩ | exact ⟨rfl, fun h => by cases h⟩)

theorem State.takeAll_StoreAccounts (s : State) (n : Line) (r : RecIx) (l : List Handed) (hinv : StoreAccounts s) : StoreAccounts (State.takeAll s n r l) := by
  induction l generalizing s with
  | nil => exact hinv
  | cons x xs ih =>
    simp only [State.takeAll]
    repeat' split
    all_goals (try (with_reducible repeat (first | assumption | apply State.takeOrdinary_StoreAccounts | apply ih | apply State.modRecord_StoreAccounts)))
    all_goals (first | exact ⟨rfl, id⟩ | exact ⟨rfl, fun h => by cases h⟩)

theorem State.restartSilence_StoreAccounts (s : State) (n : Line) (hinv : StoreAccounts s) : StoreAccounts (s.restartSilence n) := by
  simp only [State.restartSilence]
  repeat' split
  all_goals (try (with_reducible repeat (first | assumption | apply State.modAsm_StoreAccounts | apply State.modRecord_StoreAccounts)))
  all_goals (first | exact ⟨rfl, id⟩ | exact ⟨rfl, fun h => by cases h⟩)

theorem State.messageChar_StoreAccounts (s : State) (n : Line) (r : RecIx) (h : Handed) (hinv : StoreAccounts s) : StoreAccounts (s.messageChar n r h) := by
  simp only [State.messageChar]
  repeat' split
  all_goals (try (with_reducible repeat (first | assumption | apply State.takeGroup_StoreAccounts | apply State.modAsm_StoreAccounts | apply State.closeByRun_StoreAccounts | apply State.takeAll_StoreAccounts | apply State.modRecord_StoreAccounts)))
  all_goals (first | exact ⟨rfl, id⟩ | exact ⟨rfl, fun h => by cases h⟩)

theorem State.countFraming_StoreAccounts (s : State) (r : RecIx) (framing : Bool) (hinv : StoreAccounts s) : StoreAccounts (s.countFraming r framing) := by
  simp only [State.countFraming]
  repeat' split
  all_goals (try (with_reducible repeat (first | assumption | apply State.modRecord_StoreAccounts)))
  all_goals (first | exact ⟨rfl, id⟩ | exact ⟨rfl, fun h => by cases h⟩)

/-- The lowest FREE record is FREE. -/
theorem Store.lowestFree_free {s : State} {r : RecIx} (h : s.store.lowestFree = some r) : (s.record r).state = .free := by
  have := List.find?_some h
  simpa [State.record] using this

theorem State.openMessage_StoreAccounts (s : State) (n : Line) (r : RecIx) (hr : (s.record r).state = .free)
    (hinv : StoreAccounts s) : StoreAccounts (s.openMessage n r) := by
  simp only [State.openMessage]
  apply State.leftHunt_StoreAccounts
  apply State.modAsm_StoreAccounts
  exact State.setUp_StoreAccounts s r _ hinv hr rfl

theorem State.loseMessage_StoreAccounts (s : State) (n : Line) (hinv : StoreAccounts s) : StoreAccounts (s.loseMessage n) := by
  simp only [State.loseMessage]
  repeat' split
  all_goals (try (with_reducible repeat (first | assumption | apply State.leftHunt_StoreAccounts | apply State.post_StoreAccounts | apply State.modAsm_StoreAccounts | apply State.modRecord_StoreAccounts)))
  all_goals (first | exact ⟨rfl, id⟩ | exact ⟨rfl, fun h => by cases h⟩)

theorem State.openingRunDone_StoreAccounts (s : State) (n : Line) (hinv : StoreAccounts s) : StoreAccounts (s.openingRunDone n) := by
  simp only [State.openingRunDone]
  split
  · split
    · rename_i e; exact State.openMessage_StoreAccounts s n _ (Store.lowestFree_free e) hinv
    · exact State.loseMessage_StoreAccounts s n hinv
  · exact State.loseMessage_StoreAccounts s n hinv

theorem State.huntChar_StoreAccounts (s : State) (n : Line) (h : Handed) (hinv : StoreAccounts s) : StoreAccounts (s.huntChar n h) := by
  simp only [State.huntChar]
  repeat' split
  all_goals (try (with_reducible repeat (first | assumption | apply State.modAsm_StoreAccounts | apply State.openingRunDone_StoreAccounts | apply State.modRecord_StoreAccounts)))
  all_goals (first | exact ⟨rfl, id⟩ | exact ⟨rfl, fun h => by cases h⟩)

theorem State.discardChar_StoreAccounts (s : State) (n : Line) (h : Handed) (hinv : StoreAccounts s) : StoreAccounts (s.discardChar n h) := by
  simp only [State.discardChar]
  repeat' split
  all_goals (try (with_reducible repeat (first | assumption | apply State.modAsm_StoreAccounts | apply State.returnToHunt_StoreAccounts | apply State.modRecord_StoreAccounts)))
  all_goals (first | exact ⟨rfl, id⟩ | exact ⟨rfl, fun h => by cases h⟩)

theorem State.handOverChar_StoreAccounts (s : State) (n : Line) (h : Handed) (framing : Bool) (hinv : StoreAccounts s) : StoreAccounts (s.handOverChar n h framing) := by
  simp only [State.handOverChar]
  repeat' split
  all_goals (try (with_reducible repeat (first | assumption | apply State.huntChar_StoreAccounts | apply State.discardChar_StoreAccounts | apply State.countFraming_StoreAccounts | apply State.messageChar_StoreAccounts | apply State.restartSilence_StoreAccounts | apply State.modRecord_StoreAccounts)))
  all_goals (first | exact ⟨rfl, id⟩ | exact ⟨rfl, fun h => by cases h⟩)

theorem State.asmLineOpen_StoreAccounts (s : State) (n : Line) (hinv : StoreAccounts s) : StoreAccounts (s.asmLineOpen n) := by
  simp only [State.asmLineOpen]
  repeat' split
  all_goals (try (with_reducible repeat (first | assumption | apply State.modAsm_StoreAccounts | apply State.returnToHunt_StoreAccounts | apply State.closeTruncated_StoreAccounts | apply State.modRecord_StoreAccounts)))
  all_goals (first | exact ⟨rfl, id⟩ | exact ⟨rfl, fun h => by cases h⟩)

theorem State.modCond_StoreAccounts (s : State) (n : Line) (pin : LoopPin) (f : Cond → Cond) (hinv : StoreAccounts s) : StoreAccounts (s.modCond n pin f) := by
  simp only [State.modCond]
  repeat' split
  all_goals (try (with_reducible repeat (first | assumption | apply State.modLine_StoreAccounts | apply State.modRecord_StoreAccounts)))
  all_goals (first | exact ⟨rfl, id⟩ | exact ⟨rfl, fun h => by cases h⟩)

theorem State.setPin_StoreAccounts (s : State) (n : Line) (pin : LoopPin) (level : Level) (hinv : StoreAccounts s) : StoreAccounts (s.setPin n pin level) := by
  simp only [State.setPin]
  repeat' split
  all_goals (try (with_reducible repeat (first | assumption | apply State.modLine_StoreAccounts | apply State.modRecord_StoreAccounts)))
  all_goals (first | exact ⟨rfl, id⟩ | exact ⟨rfl, fun h => by cases h⟩)

theorem State.readPin_StoreAccounts (s : State) (n : Line) (pin : LoopPin) (level : Level) (hinv : StoreAccounts s) : StoreAccounts (s.readPin n pin level) := by
  simp only [State.readPin]
  repeat' split
  all_goals (try (with_reducible repeat (first | assumption | apply State.setPin_StoreAccounts | apply State.modCond_StoreAccounts | apply State.turnReview_StoreAccounts | apply State.modRecord_StoreAccounts)))
  all_goals (first | exact ⟨rfl, id⟩ | exact ⟨rfl, fun h => by cases h⟩)

theorem State.setRxCase_StoreAccounts (s : State) (n : Line) (c : Case) (hinv : StoreAccounts s) : StoreAccounts (s.setRxCase n c) := by
  simp only [State.setRxCase]
  repeat' split
  all_goals (try (with_reducible repeat (first | assumption | apply State.modLine_StoreAccounts | apply State.modRecord_StoreAccounts)))
  all_goals (first | exact ⟨rfl, id⟩ | exact ⟨rfl, fun h => by cases h⟩)

theorem State.resumeRx_StoreAccounts (s : State) (n : Line) (hinv : StoreAccounts s) : StoreAccounts (s.resumeRx n) := by
  simp only [State.resumeRx]
  repeat' split
  all_goals (try (with_reducible repeat (first | assumption | apply State.setRxCase_StoreAccounts | apply State.setRx_StoreAccounts | apply State.modRecord_StoreAccounts)))
  all_goals (first | exact ⟨rfl, id⟩ | exact ⟨rfl, fun h => by cases h⟩)

theorem State.abandonTx_StoreAccounts (s : State) (n : Line) (hinv : StoreAccounts s) : StoreAccounts (s.abandonTx n) := by
  simp only [State.abandonTx]
  repeat' split
  all_goals (try (with_reducible repeat (first | assumption | apply State.modTx_StoreAccounts | apply State.resumeRx_StoreAccounts | apply State.modRecord_StoreAccounts)))
  all_goals (first | exact ⟨rfl, id⟩ | exact ⟨rfl, fun h => by cases h⟩)

theorem State.receiveLost_StoreAccounts (s : State) (n : Line) (hinv : StoreAccounts s) : StoreAccounts (s.receiveLost n) := by
  simp only [State.receiveLost]
  repeat' split
  all_goals (try (with_reducible repeat (first | assumption | apply State.setRx_StoreAccounts | apply State.asmLineOpen_StoreAccounts | apply State.modRecord_StoreAccounts)))
  all_goals (first | exact ⟨rfl, id⟩ | exact ⟨rfl, fun h => by cases h⟩)

theorem State.sendLost_StoreAccounts (s : State) (n : Line) (hinv : StoreAccounts s) : StoreAccounts (s.sendLost n) := by
  simp only [State.sendLost]
  repeat' split
  all_goals (try (with_reducible repeat (first | assumption | apply State.abandonTx_StoreAccounts | apply State.putBack_StoreAccounts | apply State.modRecord_StoreAccounts)))
  all_goals (first | exact ⟨rfl, id⟩ | exact ⟨rfl, fun h => by cases h⟩)

theorem State.spacingEnds_StoreAccounts (s : State) (n : Line) (pin : LoopPin) (hinv : StoreAccounts s) : StoreAccounts (s.spacingEnds n pin) := by
  simp only [State.spacingEnds]
  repeat' split
  all_goals (try (with_reducible repeat (first | assumption | apply State.modCond_StoreAccounts | apply State.modRecord_StoreAccounts)))
  all_goals (first | exact ⟨rfl, id⟩ | exact ⟨rfl, fun h => by cases h⟩)

theorem State.condOpens_StoreAccounts (s : State) (n : Line) (pin : LoopPin) (hinv : StoreAccounts s) : StoreAccounts (s.condOpens n pin) := by
  simp only [State.condOpens]
  repeat' split
  all_goals (try (with_reducible repeat (first | assumption | apply State.modCond_StoreAccounts | apply State.receiveLost_StoreAccounts | apply State.sendLost_StoreAccounts | apply State.turnWait_StoreAccounts | apply State.modRecord_StoreAccounts)))
  all_goals (first | exact ⟨rfl, id⟩ | exact ⟨rfl, fun h => by cases h⟩)

theorem State.condCloses_StoreAccounts (s : State) (n : Line) (pin : LoopPin) (hinv : StoreAccounts s) : StoreAccounts (s.condCloses n pin) := by
  simp only [State.condCloses]
  repeat' split
  all_goals (try (with_reducible repeat (first | assumption | apply State.modCond_StoreAccounts | apply State.setRx_StoreAccounts | apply State.post_StoreAccounts | apply State.turnReview_StoreAccounts | apply State.choose_StoreAccounts | apply State.modRecord_StoreAccounts)))
  all_goals (first | exact ⟨rfl, id⟩ | exact ⟨rfl, fun h => by cases h⟩)

theorem State.release_StoreAccounts (s : State) (l : List CopyRef) (hinv : StoreAccounts s) : StoreAccounts (State.release s l) := by
  induction l generalizing s with
  | nil => exact hinv
  | cons x xs ih =>
    simp only [State.release]
    repeat' split
    all_goals (try (with_reducible repeat (first | assumption | apply State.modCopy_StoreAccounts | apply ih | apply State.modRecord_StoreAccounts)))
    all_goals (first | exact ⟨rfl, id⟩ | exact ⟨rfl, fun h => by cases h⟩)

theorem State.releaseAndDispatch_StoreAccounts (s : State) (ref : CopyRef) (hinv : StoreAccounts s) : StoreAccounts (s.releaseAndDispatch ref) := by
  simp only [State.releaseAndDispatch]
  repeat' split
  all_goals (try (with_reducible repeat (first | assumption | apply State.release_StoreAccounts | apply State.dispatchAll_StoreAccounts | apply State.modRecord_StoreAccounts)))
  all_goals (first | exact ⟨rfl, id⟩ | exact ⟨rfl, fun h => by cases h⟩)

theorem State.releaseAll_StoreAccounts (s : State) (l : List CopyRef) (hinv : StoreAccounts s) : StoreAccounts (State.releaseAll s l) := by
  induction l generalizing s with
  | nil => exact hinv
  | cons x xs ih =>
    simp only [State.releaseAll]
    repeat' split
    all_goals (try (with_reducible repeat (first | assumption | apply State.releaseAndDispatch_StoreAccounts | apply ih | apply State.modRecord_StoreAccounts)))
    all_goals (first | exact ⟨rfl, id⟩ | exact ⟨rfl, fun h => by cases h⟩)

theorem State.lineFails_StoreAccounts (s : State) (n : Line) (pin : LoopPin) (hinv : StoreAccounts s) : StoreAccounts (s.lineFails n pin) := by
  simp only [State.lineFails]
  repeat' split
  all_goals (try (with_reducible repeat (first | assumption | apply State.modMotor_StoreAccounts | apply State.modSched_StoreAccounts | apply State.post_StoreAccounts | apply State.releaseAll_StoreAccounts | apply State.modRecord_StoreAccounts)))
  all_goals (first | exact ⟨rfl, id⟩ | exact ⟨rfl, fun h => by cases h⟩)

theorem State.condFails_StoreAccounts (s : State) (n : Line) (pin : LoopPin) (hinv : StoreAccounts s) : StoreAccounts (s.condFails n pin) := by
  simp only [State.condFails]
  repeat' split
  all_goals (try (with_reducible repeat (first | assumption | apply State.modCond_StoreAccounts | apply State.receiveLost_StoreAccounts | apply State.sendLost_StoreAccounts | apply State.lineFails_StoreAccounts | apply State.post_StoreAccounts | apply State.modRecord_StoreAccounts)))
  all_goals (first | exact ⟨rfl, id⟩ | exact ⟨rfl, fun h => by cases h⟩)

theorem State.enterRunning_StoreAccounts (s : State) (cfg : Cfg) (busy : Bool) : StoreAccounts (s.enterRunning cfg busy) :=
  ⟨by show ∀ b, Store.initial.places b = 1; decide +kernel,
   by show ∀ r : RecIx, Store.initial.records[r].state = .free → Store.initial.records[r].chain = []; decide +kernel,
   by show Store.initial.reservationCount ≤ Store.initial.freeList.length; decide +kernel⟩

theorem State.ownRestart_StoreAccounts (s : State) (h : StoreAccounts s) : StoreAccounts s.ownRestart := by
  unfold State.ownRestart
  apply State.refreshTenure_StoreAccounts
  apply State.modPort_StoreAccounts
  exact State.warmRestart_StoreAccounts s s.boot.slot false h

theorem State.endChar_StoreAccounts (s : State) (n : Line) (code : Code) (framing : Bool) (hinv : StoreAccounts s) : StoreAccounts (s.endChar n code framing) := by
  simp only [State.endChar]
  repeat' split
  all_goals (try (with_reducible repeat (first | assumption | apply State.readPin_StoreAccounts | apply State.setRxCase_StoreAccounts | apply State.setRx_StoreAccounts | apply State.handOverChar_StoreAccounts | apply State.modRecord_StoreAccounts)))
  all_goals (first | exact ⟨rfl, id⟩ | exact ⟨rfl, fun h => by cases h⟩)

theorem State.silenceEnds_StoreAccounts (s : State) (n : Line) (hinv : StoreAccounts s) : StoreAccounts (s.silenceEnds n) := by
  simp only [State.silenceEnds]
  repeat' split
  all_goals (try (with_reducible repeat (first | assumption | apply State.closeTruncated_StoreAccounts | apply State.modRecord_StoreAccounts)))
  all_goals (first | exact ⟨rfl, id⟩ | exact ⟨rfl, fun h => by cases h⟩)

theorem State.beginFill_StoreAccounts (s : State) (n : Line) (hinv : StoreAccounts s) : StoreAccounts (s.beginFill n) := by
  simp only [State.beginFill]
  repeat' split
  all_goals (try (with_reducible repeat (first | assumption | apply State.modTx_StoreAccounts | apply State.suspendRx_StoreAccounts | apply State.modRecord_StoreAccounts)))
  all_goals (first | exact ⟨rfl, id⟩ | exact ⟨rfl, fun h => by cases h⟩)

theorem State.finishChar_StoreAccounts (s : State) (n : Line) (c : TxChar) (hinv : StoreAccounts s) : StoreAccounts (s.finishChar n c) := by
  simp only [State.finishChar]
  repeat' split
  all_goals (try (with_reducible repeat (first | assumption | apply State.modTx_StoreAccounts | apply State.resumeRx_StoreAccounts | apply State.modRecord_StoreAccounts)))
  all_goals (first | exact ⟨rfl, id⟩ | exact ⟨rfl, fun h => by cases h⟩)

theorem State.shiftTakes_StoreAccounts (s : State) (n : Line) (hinv : StoreAccounts s) : StoreAccounts (s.shiftTakes n) := by
  simp only [State.shiftTakes]
  repeat' split
  all_goals (try (with_reducible repeat (first | assumption | apply State.beginHeld_StoreAccounts | apply State.beginFill_StoreAccounts | apply State.modRecord_StoreAccounts)))
  all_goals (first | exact ⟨rfl, id⟩ | exact ⟨rfl, fun h => by cases h⟩)

theorem State.shiftFollows_StoreAccounts (s : State) (n : Line) (held : Option TxChar) (hinv : StoreAccounts s) : StoreAccounts (s.shiftFollows n held) := by
  simp only [State.shiftFollows]
  repeat' split
  all_goals (try (with_reducible repeat (first | assumption | apply State.shiftTakes_StoreAccounts | apply State.modRecord_StoreAccounts)))
  all_goals (first | exact ⟨rfl, id⟩ | exact ⟨rfl, fun h => by cases h⟩)

theorem State.reportFill_StoreAccounts (s : State) (n : Line) (hinv : StoreAccounts s) : StoreAccounts (s.reportFill n) := by
  simp only [State.reportFill]
  repeat' split
  all_goals (try (with_reducible repeat (first | assumption | apply State.countFill_StoreAccounts | apply State.modRecord_StoreAccounts)))
  all_goals (first | exact ⟨rfl, id⟩ | exact ⟨rfl, fun h => by cases h⟩)

theorem State.round_StoreAccounts (s : State) (rivals : List Nat) (hinv : StoreAccounts s) : StoreAccounts (s.round rivals) := by
  simp only [State.round]
  repeat' split
  all_goals (try (with_reducible repeat (first | assumption | apply State.drive_StoreAccounts | apply State.modRecord_StoreAccounts)))
  all_goals (first | exact ⟨rfl, id⟩ | exact ⟨rfl, fun h => by cases h⟩)

theorem State.undrive_StoreAccounts (s : State) (hinv : StoreAccounts s) : StoreAccounts (s.undrive) := by
  simp only [State.undrive]
  repeat' split
  all_goals (try (with_reducible repeat (first | assumption | apply State.modPort_StoreAccounts | apply State.modRecord_StoreAccounts)))
  all_goals (first | exact ⟨rfl, id⟩ | exact ⟨rfl, fun h => by cases h⟩)

theorem State.offerReported_StoreAccounts (s : State) (k : CtxIx) (hinv : StoreAccounts s) : StoreAccounts (s.offerReported k) := by
  simp only [State.offerReported]
  repeat' split
  all_goals (try (with_reducible repeat (first | assumption | apply State.setSend_StoreAccounts | apply State.setCopyState_StoreAccounts | apply State.modRecord_StoreAccounts)))
  all_goals (first | exact ⟨rfl, id⟩ | exact ⟨rfl, fun h => by cases h⟩)

theorem State.claimReported_StoreAccounts (s : State) (k : CtxIx) (hinv : StoreAccounts s) : StoreAccounts (s.claimReported k) := by
  simp only [State.claimReported]
  split
  · rename_i t r ht e
    have h1 := State.setUp_StoreAccounts s r (fun rec => Record.relayed rec.gen t) hinv (Store.lowestFree_free e) rfl
    have h2 := State.setTake_StoreAccounts _ k (some (t.begun r)) (State.unpledge_StoreAccounts _ h1)
    split
    · exact State.enqueueOrRefuse_StoreAccounts _ _ _ h2
    · exact h2
  · exact hinv

theorem State.textReported_StoreAccounts (s : State) (k : CtxIx) (d : Driven) (hinv : StoreAccounts s) : StoreAccounts (s.textReported k d) := by
  simp only [State.textReported]
  repeat' split
  all_goals (try (with_reducible repeat (first | assumption | apply State.lookNext_StoreAccounts | apply State.modSend_StoreAccounts | apply State.modPort_StoreAccounts | apply State.modRecord_StoreAccounts)))
  all_goals (first | exact ⟨rfl, id⟩ | exact ⟨rfl, fun h => by cases h⟩)

theorem State.closeReported_StoreAccounts (s : State) (k : CtxIx) (hinv : StoreAccounts s) : StoreAccounts (s.closeReported k) := by
  simp only [State.closeReported]
  repeat' split
  all_goals (try (with_reducible repeat (first | assumption | apply State.setSend_StoreAccounts | apply State.setCopyState_StoreAccounts | apply State.modRecord_StoreAccounts)))
  all_goals (first | exact ⟨rfl, id⟩ | exact ⟨rfl, fun h => by cases h⟩)

theorem State.answerReported_StoreAccounts (s : State) (k : CtxIx) (hinv : StoreAccounts s) : StoreAccounts (s.answerReported k) := by
  simp only [State.answerReported]
  repeat' split
  all_goals (try (with_reducible repeat (first | assumption | apply State.freeTake_StoreAccounts | apply State.addEnded_StoreAccounts | apply State.modRecord_StoreAccounts)))
  all_goals (first | exact ⟨rfl, id⟩ | exact ⟨rfl, fun h => by cases h⟩)

theorem State.dropAnswer_StoreAccounts (s : State) (tag : Tag) (reason : Reason) (hinv : StoreAccounts s) : StoreAccounts (s.dropAnswer tag reason) := by
  simp only [State.dropAnswer]
  repeat' split
  all_goals (try (with_reducible repeat (first | assumption | apply State.modPort_StoreAccounts | apply State.modRecord_StoreAccounts)))
  all_goals (first | exact ⟨rfl, id⟩ | exact ⟨rfl, fun h => by cases h⟩)

theorem State.claim_StoreAccounts (s : State) (k : CtxIx) (t : Take) (h : StoreAccounts s)
    (hn : s.store.reservationCount + s.neededBlocks t.length ≤ s.store.freeList.length) : StoreAccounts (s.claim k t) := by
  simp only [State.claim]
  apply State.askTake_StoreAccounts
  apply State.pledge_StoreAccounts
  exact State.setReserved_StoreAccounts _ k _ (State.setTake_StoreAccounts _ _ _ h) (Nat.le_trans hn (Nat.le_add_right _ _))

theorem State.claimDecision_StoreAccounts (s : State) (tag : Tag) (cls : Precedence) (station : StationCode)
    (length : Option Nat) (cpm attempt : Nat) (h : StoreAccounts s) : StoreAccounts (s.claimDecision tag cls station length cpm attempt) := by
  simp only [State.claimDecision]
  repeat' split
  · rename_i ha
    simp only [Bool.and_eq_true, Store.admits, decide_eq_true_eq] at ha
    apply State.claim_StoreAccounts _ _ _ h
    simp only [Take.claiming]
    omega
  · exact h
  · exact h

theorem State.weighLost_StoreAccounts (s : State) (tag : Tag) (cls : Precedence) (attempt : Nat) (hinv : StoreAccounts s) : StoreAccounts (s.weighLost tag cls attempt) := by
  simp only [State.weighLost]
  repeat' split
  all_goals (try (with_reducible repeat (first | assumption | apply State.dropClaim_StoreAccounts | apply State.endTakeRecord_StoreAccounts | apply State.freeTake_StoreAccounts | apply State.addAnswer_StoreAccounts | apply State.addEnded_StoreAccounts | apply State.modRecord_StoreAccounts)))
  all_goals (first | exact ⟨rfl, id⟩ | exact ⟨rfl, fun h => by cases h⟩)

theorem State.weighOffer_StoreAccounts (s : State) (tag : Tag) (cls : Precedence) (station : StationCode) (length : Option Nat) (cpm attempt : Nat) (hinv : StoreAccounts s) : StoreAccounts (s.weighOffer tag cls station length cpm attempt) := by
  simp only [State.weighOffer]
  repeat' split
  all_goals (try (with_reducible repeat (first | assumption | apply State.tellPlaces_StoreAccounts | apply State.weighLost_StoreAccounts | apply State.dropEnded_StoreAccounts | apply State.claimDecision_StoreAccounts | apply State.modRecord_StoreAccounts)))
  all_goals (first | exact ⟨rfl, id⟩ | exact ⟨rfl, fun h => by cases h⟩)

theorem State.takeClaim_StoreAccounts (s : State) (k : CtxIx) (c : Send) (claimant : Slot) (hinv : StoreAccounts s) : StoreAccounts (s.takeClaim k c claimant) := by
  simp only [State.takeClaim]
  repeat' split
  all_goals (try (with_reducible repeat (first | assumption | apply State.setSend_StoreAccounts | apply State.setCopyState_StoreAccounts | apply State.lookNext_StoreAccounts | apply State.modRecord_StoreAccounts)))
  all_goals (first | exact ⟨rfl, id⟩ | exact ⟨rfl, fun h => by cases h⟩)

theorem State.judgeClaim_StoreAccounts (s : State) (tag : Tag) (claimant : Slot) (hinv : StoreAccounts s) : StoreAccounts (s.judgeClaim tag claimant) := by
  simp only [State.judgeClaim]
  repeat' split
  all_goals (try (with_reducible repeat (first | assumption | apply State.addAnswer_StoreAccounts | apply State.takeClaim_StoreAccounts | apply State.modRecord_StoreAccounts)))
  all_goals (first | exact ⟨rfl, id⟩ | exact ⟨rfl, fun h => by cases h⟩)

theorem State.hearRival_StoreAccounts (s : State) (tag : Tag) (hinv : StoreAccounts s) : StoreAccounts (s.hearRival tag) := by
  simp only [State.hearRival]
  repeat' split
  all_goals (try (with_reducible repeat (first | assumption | apply State.dropClaim_StoreAccounts | apply State.modRecord_StoreAccounts)))
  all_goals (first | exact ⟨rfl, id⟩ | exact ⟨rfl, fun h => by cases h⟩)

theorem State.appendBlock_StoreAccounts (s : State) (r : RecIx) (chars : List Code) (hinv : StoreAccounts s) : StoreAccounts (s.appendBlock r chars) := by
  simp only [State.appendBlock]
  repeat' split
  all_goals (try (with_reducible repeat (first | assumption | apply State.writeChars_StoreAccounts | apply State.textChanged_StoreAccounts | apply State.modRecord_StoreAccounts)))
  all_goals (first | exact ⟨rfl, id⟩ | exact ⟨rfl, fun h => by cases h⟩)

theorem State.takeOverrun_StoreAccounts (s : State) (k : CtxIx) (r : RecIx) (t : Take) (hinv : StoreAccounts s) : StoreAccounts (s.takeOverrun k r t) := by
  simp only [State.takeOverrun]
  repeat' split
  all_goals (try (with_reducible repeat (first | assumption | apply State.modTake_StoreAccounts | apply State.post_StoreAccounts | apply State.modRecord_StoreAccounts)))
  all_goals (first | exact ⟨rfl, id⟩ | exact ⟨rfl, fun h => by cases h⟩)

theorem State.storeBlock_StoreAccounts (s : State) (k : CtxIx) (r : RecIx) (t : Take) (chars : List Code) (h : StoreAccounts s) :
    StoreAccounts (s.storeBlock k r t chars) := by
  simp only [State.storeBlock]
  repeat' split
  · exact h
  · rename_i u e; exact State.appendBlock_StoreAccounts _ _ _ (State.relayedBlock_StoreAccounts s u k r e h)
  · exact State.takeOverrun_StoreAccounts _ _ _ _ h

theorem State.takeText_StoreAccounts (s : State) (k : CtxIx) (t : Take) (sequence : Nat) (chars : List Code) (hinv : StoreAccounts s) : StoreAccounts (s.takeText k t sequence chars) := by
  simp only [State.takeText]
  repeat' split
  all_goals (try (with_reducible repeat (first | assumption | apply State.dropClaim_StoreAccounts | apply State.storeBlock_StoreAccounts | apply State.modTake_StoreAccounts | apply State.abandonTake_StoreAccounts | apply State.modRecord_StoreAccounts)))
  all_goals (first | exact ⟨rfl, id⟩ | exact ⟨rfl, fun h => by cases h⟩)

theorem State.textEnded_StoreAccounts (s : State) (tag : Tag) (hinv : StoreAccounts s) : StoreAccounts (s.textEnded tag) := by
  simp only [State.textEnded]
  repeat' split
  all_goals (try (with_reducible repeat (first | assumption | apply State.addAnswer_StoreAccounts | apply State.modRecord_StoreAccounts)))
  all_goals (first | exact ⟨rfl, id⟩ | exact ⟨rfl, fun h => by cases h⟩)

theorem State.hearText_StoreAccounts (s : State) (tag : Tag) (sequence : Nat) (chars : List Code) (hinv : StoreAccounts s) : StoreAccounts (s.hearText tag sequence chars) := by
  simp only [State.hearText]
  repeat' split
  all_goals (try (with_reducible repeat (first | assumption | apply State.textEnded_StoreAccounts | apply State.takeText_StoreAccounts | apply State.modRecord_StoreAccounts)))
  all_goals (first | exact ⟨rfl, id⟩ | exact ⟨rfl, fun h => by cases h⟩)

theorem State.enqueueAccepted_StoreAccounts (s : State) (ref : CopyRef) (hinv : StoreAccounts s) : StoreAccounts (s.enqueueAccepted ref) := by
  simp only [State.enqueueAccepted]
  repeat' split
  all_goals (try (with_reducible repeat (first | assumption | apply State.enqueueOrRefuse_StoreAccounts | apply State.modRecord_StoreAccounts)))
  all_goals (first | exact ⟨rfl, id⟩ | exact ⟨rfl, fun h => by cases h⟩)

theorem State.acceptClose_StoreAccounts (s : State) (k : CtxIx) (r : RecIx) (overrun truncated : Bool) (mutilated : Nat) (hinv : StoreAccounts s) : StoreAccounts (s.acceptClose k r overrun truncated mutilated) := by
  simp only [State.acceptClose]
  repeat' split
  all_goals (try (with_reducible repeat (first | assumption | apply State.answerClose_StoreAccounts | apply State.textChanged_StoreAccounts | apply State.releaseReservation_StoreAccounts | apply State.enqueueAccepted_StoreAccounts | apply State.askTake_StoreAccounts | apply State.tryFree_StoreAccounts | apply State.modRecord_StoreAccounts)))
  all_goals (first | exact ⟨rfl, id⟩ | exact ⟨rfl, fun h => by cases h⟩)

theorem State.spoilClose_StoreAccounts (s : State) (k : CtxIx) (t : Take) (hinv : StoreAccounts s) : StoreAccounts (s.spoilClose k t) := by
  simp only [State.spoilClose]
  repeat' split
  all_goals (try (with_reducible repeat (first | assumption | apply State.tellPlaces_StoreAccounts | apply State.answerClose_StoreAccounts | apply State.askTake_StoreAccounts | apply State.spoiled_StoreAccounts | apply State.endTakeRecord_StoreAccounts | apply State.modRecord_StoreAccounts)))
  all_goals (first | exact ⟨rfl, id⟩ | exact ⟨rfl, fun h => by cases h⟩)

theorem State.takeClose_StoreAccounts (s : State) (k : CtxIx) (t : Take) (total check : Nat) (overrun truncated : Bool) (mutilated : Nat) (hinv : StoreAccounts s) : StoreAccounts (s.takeClose k t total check overrun truncated mutilated) := by
  simp only [State.takeClose]
  repeat' split
  all_goals (try (with_reducible repeat (first | assumption | apply State.dropClaim_StoreAccounts | apply State.acceptClose_StoreAccounts | apply State.spoilClose_StoreAccounts | apply State.modRecord_StoreAccounts)))
  all_goals (first | exact ⟨rfl, id⟩ | exact ⟨rfl, fun h => by cases h⟩)

theorem State.takerAbandons_StoreAccounts (s : State) (k : CtxIx) (ref : CopyRef) (hinv : StoreAccounts s) : StoreAccounts (s.takerAbandons k ref) := by
  simp only [State.takerAbandons]
  repeat' split
  all_goals (try (with_reducible repeat (first | assumption | apply State.spoiled_StoreAccounts | apply State.modRecord_StoreAccounts)))
  all_goals (first | exact ⟨rfl, id⟩ | exact ⟨rfl, fun h => by cases h⟩)

theorem State.originAbandons_StoreAccounts (s : State) (tag : Tag) (hinv : StoreAccounts s) : StoreAccounts (s.originAbandons tag) := by
  simp only [State.originAbandons]
  repeat' split
  all_goals (try (with_reducible repeat (first | assumption | apply State.dropClaim_StoreAccounts | apply State.giveUpTake_StoreAccounts | apply State.modRecord_StoreAccounts)))
  all_goals (first | exact ⟨rfl, id⟩ | exact ⟨rfl, fun h => by cases h⟩)

theorem State.modSupTx_StoreAccounts (s : State) (f : Tx → Tx) (hinv : StoreAccounts s) : StoreAccounts (s.modSupTx f) := by
  simp only [State.modSupTx]
  repeat' split
  all_goals (try (with_reducible repeat (first | assumption | apply State.modSup_StoreAccounts | apply State.modRecord_StoreAccounts)))
  all_goals (first | exact ⟨rfl, id⟩ | exact ⟨rfl, fun h => by cases h⟩)

theorem State.supFollows_StoreAccounts (s : State) (held : Option TxChar) (hinv : StoreAccounts s) : StoreAccounts (s.supFollows held) := by
  simp only [State.supFollows]
  repeat' split
  all_goals (try (with_reducible repeat (first | assumption | apply State.modSupTx_StoreAccounts | apply State.beginFill_StoreAccounts | apply State.modRecord_StoreAccounts)))
  all_goals (first | exact ⟨rfl, id⟩ | exact ⟨rfl, fun h => by cases h⟩)

theorem State.supCountFill_StoreAccounts (s : State) (hinv : StoreAccounts s) : StoreAccounts (s.supCountFill) := by
  simp only [State.supCountFill]
  repeat' split
  all_goals (try (with_reducible repeat (first | assumption | apply State.modCopy_StoreAccounts | apply State.modRecord_StoreAccounts)))
  all_goals (first | exact ⟨rfl, id⟩ | exact ⟨rfl, fun h => by cases h⟩)

end Sys2Proof.Machine
end

