-- ==== Sys2Proof/Laws/Channels.lean ====
section
/-! SUPPORT. Every shared operation keeps channel counters and inbound expectations within 1 to 999. -/

set_option linter.unusedTactic false
set_option linter.unreachableTactic false

namespace Sys2Proof.Machine

/-- The next of a number of 1 to 999 is one too. -/
theorem nextChannel_bounds (n : Nat) : 1 ≤ nextChannel n ∧ nextChannel n ≤ 999 := by
  unfold nextChannel
  split <;> omega

/-- The digit a value stands for is below 10. -/
theorem digitOf_lt (c : Code) (d : Nat) (h : digitOf c = some d) : d < 10 := by
  have := List.mem_of_find?_eq_some h
  simpa using this

/-- The number a channel group gives lies in 1 to 999. -/
theorem groupNumber_bounds (g : List Handed) (k : Nat) (h : groupNumber g = some k) : 1 ≤ k ∧ k ≤ 999 := by
  have hd : ∀ (x : Handed) (d : Nat), x.digit = some d → d < 10 := by
    intro x d e
    unfold Handed.digit at e
    split at e
    · exact digitOf_lt _ _ e
    · cases e
  unfold groupNumber at h
  split at h
  · split at h
    · rename_i a b c ea eb ec
      have := hd _ _ ea
      have := hd _ _ eb
      have := hd _ _ ec
      simp only at h
      split at h
      · rename_i hn
        cases h
        omega
      · cases h
    · cases h
  · cases h

/-- What the bounds say of one line. -/
theorem ChannelsBounded.modLine (s : State) (n : Line) (f : LineUnit → LineUnit) (h : ChannelsBounded s)
    (hc : 1 ≤ (f (s.line n)).sched.counter ∧ (f (s.line n)).sched.counter ≤ 999)
    (he : ∀ e, (f (s.line n)).asm.expectation = some e → 1 ≤ e ∧ e ≤ 999) : ChannelsBounded (s.modLine n f) := by
  intro m
  rw [State.modLine_line]
  split
  · rename_i e; subst e; exact ⟨hc, he⟩
  · exact h m

/-- A line may change in all but its counter and its expectation. -/
theorem State.modLine_ChannelsBounded (s : State) (n : Line) (f : LineUnit → LineUnit) (h : ChannelsBounded s)
    (hc : ∀ l, (f l).sched.counter = l.sched.counter) (he : ∀ l, (f l).asm.expectation = l.asm.expectation) :
    ChannelsBounded (s.modLine n f) :=
  .modLine s n f h (by rw [hc]; exact (h n).1) (by rw [he]; exact (h n).2)

/-- A scheduler may change in all but its counter. -/
theorem State.modSched_ChannelsBounded (s : State) (n : Line) (f : Sched → Sched) (h : ChannelsBounded s)
    (hc : ∀ c, (f c).counter = c.counter) : ChannelsBounded (s.modSched n f) :=
  State.modLine_ChannelsBounded s n _ h (fun l => hc l.sched) (fun _ => rfl)

/-- An assembler may change in all but its expectation. -/
theorem State.modAsm_ChannelsBounded (s : State) (n : Line) (f : Assembler → Assembler) (h : ChannelsBounded s)
    (he : ∀ a, (f a).expectation = a.expectation) : ChannelsBounded (s.modAsm n f) :=
  State.modLine_ChannelsBounded s n _ h (fun _ => rfl) (fun l => he l.asm)

theorem State.modTx_ChannelsBounded (s : State) (n : Line) (f : Tx → Tx) (hinv : ChannelsBounded s) : ChannelsBounded (s.modTx n f) := by
  simp only [State.modTx]
  repeat' split
  all_goals (try (with_reducible repeat (first | assumption | apply State.modLine_ChannelsBounded | apply State.modSched_ChannelsBounded | apply State.modAsm_ChannelsBounded)))
  all_goals (intro _; first | rfl | (simp only [Sched.track]; split <;> rfl))

theorem State.modMotor_ChannelsBounded (s : State) (n : Line) (f : Motor → Motor) (hinv : ChannelsBounded s) : ChannelsBounded (s.modMotor n f) := by
  simp only [State.modMotor]
  repeat' split
  all_goals (try (with_reducible repeat (first | assumption | apply State.modLine_ChannelsBounded | apply State.modSched_ChannelsBounded | apply State.modAsm_ChannelsBounded)))
  all_goals (intro _; first | rfl | (simp only [Sched.track]; split <;> rfl))

theorem State.modStore_ChannelsBounded (s : State) (f : Store → Store) (h : ChannelsBounded s) : ChannelsBounded (s.modStore f) := h

theorem State.modRouter_ChannelsBounded (s : State) (f : Router → Router) (h : ChannelsBounded s) : ChannelsBounded (s.modRouter f) := h

theorem State.modPort_ChannelsBounded (s : State) (f : Port → Port) (h : ChannelsBounded s) : ChannelsBounded (s.modPort f) := h

theorem State.modSup_ChannelsBounded (s : State) (f : Supervisor → Supervisor) (h : ChannelsBounded s) : ChannelsBounded (s.modSup f) := h

theorem State.modRecord_ChannelsBounded (s : State) (r : RecIx) (f : Record → Record) (hinv : ChannelsBounded s) : ChannelsBounded (s.modRecord r f) := by
  simp only [State.modRecord]
  repeat' split
  all_goals (try (with_reducible repeat (first | assumption | apply State.modStore_ChannelsBounded | apply State.modLine_ChannelsBounded | apply State.modSched_ChannelsBounded | apply State.modAsm_ChannelsBounded)))
  all_goals (intro _; first | rfl | (simp only [Sched.track]; split <;> rfl))

theorem State.modCopy_ChannelsBounded (s : State) (ref : CopyRef) (f : Copy → Copy) (hinv : ChannelsBounded s) : ChannelsBounded (s.modCopy ref f) := by
  simp only [State.modCopy]
  repeat' split
  all_goals (try (with_reducible repeat (first | assumption | apply State.modRecord_ChannelsBounded | apply State.modLine_ChannelsBounded | apply State.modSched_ChannelsBounded | apply State.modAsm_ChannelsBounded)))
  all_goals (intro _; first | rfl | (simp only [Sched.track]; split <;> rfl))

theorem State.setCopyState_ChannelsBounded (s : State) (ref : CopyRef) (st : CopyState) (hinv : ChannelsBounded s) : ChannelsBounded (s.setCopyState ref st) := by
  simp only [State.setCopyState]
  repeat' split
  all_goals (try (with_reducible repeat (first | assumption | apply State.modCopy_ChannelsBounded | apply State.modLine_ChannelsBounded | apply State.modSched_ChannelsBounded | apply State.modAsm_ChannelsBounded)))
  all_goals (intro _; first | rfl | (simp only [Sched.track]; split <;> rfl))

theorem State.writeChar_ChannelsBounded (s : State) (r : RecIx) (i : Nat) (c : Code) (hinv : ChannelsBounded s) : ChannelsBounded (s.writeChar r i c) := by
  simp only [State.writeChar]
  repeat' split
  all_goals (try (with_reducible repeat (first | assumption | apply State.modStore_ChannelsBounded | apply State.modLine_ChannelsBounded | apply State.modSched_ChannelsBounded | apply State.modAsm_ChannelsBounded)))
  all_goals (intro _; first | rfl | (simp only [Sched.track]; split <;> rfl))

theorem State.writeChars_ChannelsBounded (s : State) (r : RecIx) (i : Nat) (l : List Code) (hinv : ChannelsBounded s) : ChannelsBounded (State.writeChars s r i l) := by
  induction l generalizing s i with
  | nil => exact hinv
  | cons x xs ih =>
    simp only [State.writeChars]
    repeat' split
    all_goals (try (with_reducible repeat (first | assumption | apply State.writeChar_ChannelsBounded | apply ih | apply State.modLine_ChannelsBounded | apply State.modSched_ChannelsBounded | apply State.modAsm_ChannelsBounded)))
    all_goals (intro _; first | rfl | (simp only [Sched.track]; split <;> rfl))

theorem State.setReserved_ChannelsBounded (s : State) (k : CtxIx) (n : Nat) (hinv : ChannelsBounded s) : ChannelsBounded (s.setReserved k n) := by
  simp only [State.setReserved]
  repeat' split
  all_goals (try (with_reducible repeat (first | assumption | apply State.modStore_ChannelsBounded | apply State.modLine_ChannelsBounded | apply State.modSched_ChannelsBounded | apply State.modAsm_ChannelsBounded)))
  all_goals (intro _; first | rfl | (simp only [Sched.track]; split <;> rfl))

theorem State.releaseReservation_ChannelsBounded (s : State) (k : CtxIx) (hinv : ChannelsBounded s) : ChannelsBounded (s.releaseReservation k) := by
  simp only [State.releaseReservation]
  repeat' split
  all_goals (try (with_reducible repeat (first | assumption | apply State.setReserved_ChannelsBounded | apply State.modLine_ChannelsBounded | apply State.modSched_ChannelsBounded | apply State.modAsm_ChannelsBounded)))
  all_goals (intro _; first | rfl | (simp only [Sched.track]; split <;> rfl))

theorem State.pledge_ChannelsBounded (s : State) (h : ChannelsBounded s) : ChannelsBounded s.pledge := h

theorem State.drawBlock_ChannelsBounded (s t : State) (r : RecIx) (e : s.drawBlock r = some t) (h : ChannelsBounded s) : ChannelsBounded t := by
  unfold State.drawBlock at e
  split at e
  · cases e
  · split at e
    · cases e
    · cases e; exact h

theorem State.allocateBlock_ChannelsBounded (s t : State) (r : RecIx) (e : s.allocateBlock r = some t) (h : ChannelsBounded s) : ChannelsBounded t := by
  unfold State.allocateBlock at e
  split at e
  · exact State.drawBlock_ChannelsBounded s t r e h
  · cases e

theorem State.relayedBlock_ChannelsBounded (s t : State) (k : CtxIx) (r : RecIx) (e : s.relayedBlock k r = some t) (h : ChannelsBounded s) :
    ChannelsBounded t := by
  unfold State.relayedBlock at e
  simp only at e
  split at e
  · cases hd : s.drawBlock r with
    | none => simp [hd] at e
    | some u => simp [hd] at e; subst e; exact State.drawBlock_ChannelsBounded s u r hd h
  · exact State.allocateBlock_ChannelsBounded s t r e h

theorem State.unpledge_ChannelsBounded (s : State) (hinv : ChannelsBounded s) : ChannelsBounded (s.unpledge) := by
  simp only [State.unpledge]
  repeat' split
  all_goals (try (with_reducible repeat (first | assumption | apply State.modStore_ChannelsBounded | apply State.modLine_ChannelsBounded | apply State.modSched_ChannelsBounded | apply State.modAsm_ChannelsBounded)))
  all_goals (intro _; first | rfl | (simp only [Sched.track]; split <;> rfl))

theorem State.freeRecord_ChannelsBounded (s : State) (r : RecIx) (hinv : ChannelsBounded s) : ChannelsBounded (s.freeRecord r) := by
  simp only [State.freeRecord]
  repeat' split
  all_goals (try (with_reducible repeat (first | assumption | apply State.modStore_ChannelsBounded | apply State.modRecord_ChannelsBounded | apply State.modLine_ChannelsBounded | apply State.modSched_ChannelsBounded | apply State.modAsm_ChannelsBounded)))
  all_goals (intro _; first | rfl | (simp only [Sched.track]; split <;> rfl))

theorem State.tryFree_ChannelsBounded (s : State) (r : RecIx) (hinv : ChannelsBounded s) : ChannelsBounded (s.tryFree r) := by
  simp only [State.tryFree]
  repeat' split
  all_goals (try (with_reducible repeat (first | assumption | apply State.freeRecord_ChannelsBounded | apply State.modLine_ChannelsBounded | apply State.modSched_ChannelsBounded | apply State.modAsm_ChannelsBounded)))
  all_goals (intro _; first | rfl | (simp only [Sched.track]; split <;> rfl))

theorem State.settle_ChannelsBounded (s : State) (ref : CopyRef) (how : Settlement) (hinv : ChannelsBounded s) : ChannelsBounded (s.settle ref how) := by
  simp only [State.settle]
  repeat' split
  all_goals (try (with_reducible repeat (first | assumption | apply State.modRecord_ChannelsBounded | apply State.tryFree_ChannelsBounded | apply State.modLine_ChannelsBounded | apply State.modSched_ChannelsBounded | apply State.modAsm_ChannelsBounded)))
  all_goals (intro _; first | rfl | (simp only [Sched.track]; split <;> rfl))

theorem State.setSend_ChannelsBounded (s : State) (k : CtxIx) (c : Option Send) (hinv : ChannelsBounded s) : ChannelsBounded (s.setSend k c) := by
  simp only [State.setSend]
  repeat' split
  all_goals (try (with_reducible repeat (first | assumption | apply State.modPort_ChannelsBounded | apply State.modLine_ChannelsBounded | apply State.modSched_ChannelsBounded | apply State.modAsm_ChannelsBounded)))
  all_goals (intro _; first | rfl | (simp only [Sched.track]; split <;> rfl))

theorem State.setTake_ChannelsBounded (s : State) (k : CtxIx) (t : Option Take) (hinv : ChannelsBounded s) : ChannelsBounded (s.setTake k t) := by
  simp only [State.setTake]
  repeat' split
  all_goals (try (with_reducible repeat (first | assumption | apply State.modPort_ChannelsBounded | apply State.modLine_ChannelsBounded | apply State.modSched_ChannelsBounded | apply State.modAsm_ChannelsBounded)))
  all_goals (intro _; first | rfl | (simp only [Sched.track]; split <;> rfl))

theorem State.modSend_ChannelsBounded (s : State) (k : CtxIx) (f : Send → Send) (hinv : ChannelsBounded s) : ChannelsBounded (s.modSend k f) := by
  simp only [State.modSend]
  repeat' split
  all_goals (try (with_reducible repeat (first | assumption | apply State.setSend_ChannelsBounded | apply State.modLine_ChannelsBounded | apply State.modSched_ChannelsBounded | apply State.modAsm_ChannelsBounded)))
  all_goals (intro _; first | rfl | (simp only [Sched.track]; split <;> rfl))

theorem State.modTake_ChannelsBounded (s : State) (k : CtxIx) (f : Take → Take) (hinv : ChannelsBounded s) : ChannelsBounded (s.modTake k f) := by
  simp only [State.modTake]
  repeat' split
  all_goals (try (with_reducible repeat (first | assumption | apply State.setTake_ChannelsBounded | apply State.modLine_ChannelsBounded | apply State.modSched_ChannelsBounded | apply State.modAsm_ChannelsBounded)))
  all_goals (intro _; first | rfl | (simp only [Sched.track]; split <;> rfl))

theorem State.refreshTenure_ChannelsBounded (s : State) (hinv : ChannelsBounded s) : ChannelsBounded (s.refreshTenure) := by
  simp only [State.refreshTenure]
  repeat' split
  all_goals (try (with_reducible repeat (first | assumption | apply State.modPort_ChannelsBounded | apply State.modLine_ChannelsBounded | apply State.modSched_ChannelsBounded | apply State.modAsm_ChannelsBounded)))
  all_goals (intro _; first | rfl | (simp only [Sched.track]; split <;> rfl))

theorem State.endTenure_ChannelsBounded (s : State) (hinv : ChannelsBounded s) : ChannelsBounded (s.endTenure) := by
  simp only [State.endTenure]
  repeat' split
  all_goals (try (with_reducible repeat (first | assumption | apply State.refreshTenure_ChannelsBounded | apply State.modPort_ChannelsBounded | apply State.modLine_ChannelsBounded | apply State.modSched_ChannelsBounded | apply State.modAsm_ChannelsBounded)))
  all_goals (intro _; first | rfl | (simp only [Sched.track]; split <;> rfl))

theorem State.nextStamp_ChannelsBounded (s : State) (hinv : ChannelsBounded s) : ChannelsBounded (s.nextStamp) := by
  simp only [State.nextStamp]
  repeat' split
  all_goals (try (with_reducible repeat (first | assumption | apply State.modPort_ChannelsBounded | apply State.modLine_ChannelsBounded | apply State.modSched_ChannelsBounded | apply State.modAsm_ChannelsBounded)))
  all_goals (intro _; first | rfl | (simp only [Sched.track]; split <;> rfl))

theorem State.drive_ChannelsBounded (s : State) (source : FrameSource) (byRound : Bool) (hinv : ChannelsBounded s) : ChannelsBounded (s.drive source byRound) := by
  simp only [State.drive]
  repeat' split
  all_goals (try (with_reducible repeat (first | assumption | apply State.modPort_ChannelsBounded | apply State.modLine_ChannelsBounded | apply State.modSched_ChannelsBounded | apply State.modAsm_ChannelsBounded)))
  all_goals (intro _; first | rfl | (simp only [Sched.track]; split <;> rfl))

theorem State.deaden_ChannelsBounded (s : State) (source : FrameSource) (hinv : ChannelsBounded s) : ChannelsBounded (s.deaden source) := by
  simp only [State.deaden]
  repeat' split
  all_goals (try (with_reducible repeat (first | assumption | apply State.modPort_ChannelsBounded | apply State.modLine_ChannelsBounded | apply State.modSched_ChannelsBounded | apply State.modAsm_ChannelsBounded)))
  all_goals (intro _; first | rfl | (simp only [Sched.track]; split <;> rfl))

theorem State.askSend_ChannelsBounded (s : State) (k : CtxIx) (kind : SendKind) (hinv : ChannelsBounded s) : ChannelsBounded (s.askSend k kind) := by
  simp only [State.askSend]
  repeat' split
  all_goals (try (with_reducible repeat (first | assumption | apply State.deaden_ChannelsBounded | apply State.modSend_ChannelsBounded | apply State.nextStamp_ChannelsBounded | apply State.refreshTenure_ChannelsBounded | apply State.drive_ChannelsBounded | apply State.modLine_ChannelsBounded | apply State.modSched_ChannelsBounded | apply State.modAsm_ChannelsBounded)))
  all_goals (intro _; first | rfl | (simp only [Sched.track]; split <;> rfl))

theorem State.askTake_ChannelsBounded (s : State) (k : CtxIx) (kind : TakeKind) (hinv : ChannelsBounded s) : ChannelsBounded (s.askTake k kind) := by
  simp only [State.askTake]
  repeat' split
  all_goals (try (with_reducible repeat (first | assumption | apply State.deaden_ChannelsBounded | apply State.modTake_ChannelsBounded | apply State.nextStamp_ChannelsBounded | apply State.refreshTenure_ChannelsBounded | apply State.modLine_ChannelsBounded | apply State.modSched_ChannelsBounded | apply State.modAsm_ChannelsBounded)))
  all_goals (intro _; first | rfl | (simp only [Sched.track]; split <;> rfl))

theorem State.closeWindow_ChannelsBounded (s : State) (k : CtxIx) (hinv : ChannelsBounded s) : ChannelsBounded (s.closeWindow k) := by
  simp only [State.closeWindow]
  repeat' split
  all_goals (try (with_reducible repeat (first | assumption | apply State.endTenure_ChannelsBounded | apply State.refreshTenure_ChannelsBounded | apply State.modLine_ChannelsBounded | apply State.modSched_ChannelsBounded | apply State.modAsm_ChannelsBounded)))
  all_goals (intro _; first | rfl | (simp only [Sched.track]; split <;> rfl))

theorem State.dropSend_ChannelsBounded (s : State) (k : CtxIx) (hinv : ChannelsBounded s) : ChannelsBounded (s.dropSend k) := by
  simp only [State.dropSend]
  repeat' split
  all_goals (try (with_reducible repeat (first | assumption | apply State.deaden_ChannelsBounded | apply State.modSend_ChannelsBounded | apply State.closeWindow_ChannelsBounded | apply State.modLine_ChannelsBounded | apply State.modSched_ChannelsBounded | apply State.modAsm_ChannelsBounded)))
  all_goals (intro _; first | rfl | (simp only [Sched.track]; split <;> rfl))

theorem State.freeSend_ChannelsBounded (s : State) (k : CtxIx) (hinv : ChannelsBounded s) : ChannelsBounded (s.freeSend k) := by
  simp only [State.freeSend]
  repeat' split
  all_goals (try (with_reducible repeat (first | assumption | apply State.deaden_ChannelsBounded | apply State.setSend_ChannelsBounded | apply State.closeWindow_ChannelsBounded | apply State.modLine_ChannelsBounded | apply State.modSched_ChannelsBounded | apply State.modAsm_ChannelsBounded)))
  all_goals (intro _; first | rfl | (simp only [Sched.track]; split <;> rfl))

theorem State.freeTake_ChannelsBounded (s : State) (k : CtxIx) (hinv : ChannelsBounded s) : ChannelsBounded (s.freeTake k) := by
  simp only [State.freeTake]
  repeat' split
  all_goals (try (with_reducible repeat (first | assumption | apply State.deaden_ChannelsBounded | apply State.setTake_ChannelsBounded | apply State.refreshTenure_ChannelsBounded | apply State.modLine_ChannelsBounded | apply State.modSched_ChannelsBounded | apply State.modAsm_ChannelsBounded)))
  all_goals (intro _; first | rfl | (simp only [Sched.track]; split <;> rfl))

theorem State.addAnswer_ChannelsBounded (s : State) (tag : Tag) (reason : Reason) (cls : Precedence) (hinv : ChannelsBounded s) : ChannelsBounded (s.addAnswer tag reason cls) := by
  simp only [State.addAnswer]
  repeat' split
  all_goals (try (with_reducible repeat (first | assumption | apply State.modPort_ChannelsBounded | apply State.nextStamp_ChannelsBounded | apply State.refreshTenure_ChannelsBounded | apply State.modLine_ChannelsBounded | apply State.modSched_ChannelsBounded | apply State.modAsm_ChannelsBounded)))
  all_goals (intro _; first | rfl | (simp only [Sched.track]; split <;> rfl))

theorem State.addEnded_ChannelsBounded (s : State) (tag : Tag) (cls : Precedence) (hinv : ChannelsBounded s) : ChannelsBounded (s.addEnded tag cls) := by
  simp only [State.addEnded]
  repeat' split
  all_goals (try (with_reducible repeat (first | assumption | apply State.modPort_ChannelsBounded | apply State.modLine_ChannelsBounded | apply State.modSched_ChannelsBounded | apply State.modAsm_ChannelsBounded)))
  all_goals (intro _; first | rfl | (simp only [Sched.track]; split <;> rfl))

theorem State.dropEnded_ChannelsBounded (s : State) (tag : Tag) (hinv : ChannelsBounded s) : ChannelsBounded (s.dropEnded tag) := by
  simp only [State.dropEnded]
  repeat' split
  all_goals (try (with_reducible repeat (first | assumption | apply State.modPort_ChannelsBounded | apply State.modLine_ChannelsBounded | apply State.modSched_ChannelsBounded | apply State.modAsm_ChannelsBounded)))
  all_goals (intro _; first | rfl | (simp only [Sched.track]; split <;> rfl))

theorem State.askOffer_ChannelsBounded (s : State) (k : CtxIx) (hinv : ChannelsBounded s) : ChannelsBounded (s.askOffer k) := by
  simp only [State.askOffer]
  repeat' split
  all_goals (try (with_reducible repeat (first | assumption | apply State.setSend_ChannelsBounded | apply State.setCopyState_ChannelsBounded | apply State.askSend_ChannelsBounded | apply State.modLine_ChannelsBounded | apply State.modSched_ChannelsBounded | apply State.modAsm_ChannelsBounded)))
  all_goals (intro _; first | rfl | (simp only [Sched.track]; split <;> rfl))

theorem State.giveSend_ChannelsBounded (s : State) (k : CtxIx) (ref : CopyRef) (hinv : ChannelsBounded s) : ChannelsBounded (s.giveSend k ref) := by
  simp only [State.giveSend]
  repeat' split
  all_goals (try (with_reducible repeat (first | assumption | apply State.setSend_ChannelsBounded | apply State.askOffer_ChannelsBounded | apply State.modLine_ChannelsBounded | apply State.modSched_ChannelsBounded | apply State.modAsm_ChannelsBounded)))
  all_goals (intro _; first | rfl | (simp only [Sched.track]; split <;> rfl))

theorem State.lookNext_ChannelsBounded (s : State) (k : CtxIx) (hinv : ChannelsBounded s) : ChannelsBounded (s.lookNext k) := by
  simp only [State.lookNext]
  repeat' split
  all_goals (try (with_reducible repeat (first | assumption | apply State.askSend_ChannelsBounded | apply State.modLine_ChannelsBounded | apply State.modSched_ChannelsBounded | apply State.modAsm_ChannelsBounded)))
  all_goals (intro _; first | rfl | (simp only [Sched.track]; split <;> rfl))

theorem State.supGoTail_ChannelsBounded (s : State) (short : Bool) (hinv : ChannelsBounded s) : ChannelsBounded (s.supGoTail short) := by
  simp only [State.supGoTail]
  repeat' split
  all_goals (try (with_reducible repeat (first | assumption | apply State.modSup_ChannelsBounded | apply State.modLine_ChannelsBounded | apply State.modSched_ChannelsBounded | apply State.modAsm_ChannelsBounded)))
  all_goals (intro _; first | rfl | (simp only [Sched.track]; split <;> rfl))

theorem State.supLoadComposed_ChannelsBounded (s : State) (hinv : ChannelsBounded s) : ChannelsBounded (s.supLoadComposed) := by
  simp only [State.supLoadComposed]
  repeat' split
  all_goals (try (with_reducible repeat (first | assumption | apply State.modSup_ChannelsBounded | apply State.modLine_ChannelsBounded | apply State.modSched_ChannelsBounded | apply State.modAsm_ChannelsBounded)))
  all_goals (intro _; first | rfl | (simp only [Sched.track]; split <;> rfl))

theorem State.supLineLoaded_ChannelsBounded (s : State) (hinv : ChannelsBounded s) : ChannelsBounded (s.supLineLoaded) := by
  simp only [State.supLineLoaded]
  repeat' split
  all_goals (try (with_reducible repeat (first | assumption | apply State.supGoTail_ChannelsBounded | apply State.modSup_ChannelsBounded | apply State.modLine_ChannelsBounded | apply State.modSched_ChannelsBounded | apply State.modAsm_ChannelsBounded)))
  all_goals (intro _; first | rfl | (simp only [Sched.track]; split <;> rfl))

theorem State.supServeLine_ChannelsBounded (s : State) (hinv : ChannelsBounded s) : ChannelsBounded (s.supServeLine) := by
  simp only [State.supServeLine]
  repeat' split
  all_goals (try (with_reducible repeat (first | assumption | apply State.supLoadComposed_ChannelsBounded | apply State.supLineLoaded_ChannelsBounded | apply State.modLine_ChannelsBounded | apply State.modSched_ChannelsBounded | apply State.modAsm_ChannelsBounded)))
  all_goals (intro _; first | rfl | (simp only [Sched.track]; split <;> rfl))

theorem State.supServeText_ChannelsBounded (s : State) (ref : CopyRef) (hinv : ChannelsBounded s) : ChannelsBounded (s.supServeText ref) := by
  simp only [State.supServeText]
  repeat' split
  all_goals (try (with_reducible repeat (first | assumption | apply State.modSup_ChannelsBounded | apply State.supGoTail_ChannelsBounded | apply State.supLoadComposed_ChannelsBounded | apply State.modLine_ChannelsBounded | apply State.modSched_ChannelsBounded | apply State.modAsm_ChannelsBounded)))
  all_goals (intro _; first | rfl | (simp only [Sched.track]; split <;> rfl))

theorem State.supServe_ChannelsBounded (s : State) (hinv : ChannelsBounded s) : ChannelsBounded (s.supServe) := by
  simp only [State.supServe]
  repeat' split
  all_goals (try (with_reducible repeat (first | assumption | apply State.supServeLine_ChannelsBounded | apply State.supServeText_ChannelsBounded | apply State.supLoadComposed_ChannelsBounded | apply State.modLine_ChannelsBounded | apply State.modSched_ChannelsBounded | apply State.modAsm_ChannelsBounded)))
  all_goals (intro _; first | rfl | (simp only [Sched.track]; split <;> rfl))

theorem State.beginPrint_ChannelsBounded (s : State) (hinv : ChannelsBounded s) : ChannelsBounded (s.beginPrint) := by
  simp only [State.beginPrint]
  repeat' split
  all_goals (try (with_reducible repeat (first | assumption | apply State.supServe_ChannelsBounded | apply State.modSup_ChannelsBounded | apply State.modLine_ChannelsBounded | apply State.modSched_ChannelsBounded | apply State.modAsm_ChannelsBounded)))
  all_goals (intro _; first | rfl | (simp only [Sched.track]; split <;> rfl))

theorem State.chosen_ChannelsBounded (s : State) (hinv : ChannelsBounded s) : ChannelsBounded s.chosen := hinv

theorem State.handOverMany_ChannelsBounded (s : State) (l : Nat) (hinv : ChannelsBounded s) : ChannelsBounded (State.handOverMany s l) := by
  induction l generalizing s with
  | zero => exact hinv
  | succ k ih =>
    simp only [State.handOverMany]
    repeat' split
    all_goals (try (with_reducible repeat (first | assumption | apply State.modRouter_ChannelsBounded | apply State.setCopyState_ChannelsBounded | apply State.modSup_ChannelsBounded | apply State.beginPrint_ChannelsBounded | apply ih | apply State.modLine_ChannelsBounded | apply State.modSched_ChannelsBounded | apply State.modAsm_ChannelsBounded)))
    all_goals (intro _; first | rfl | (simp only [Sched.track]; split <;> rfl))

theorem State.handOver_ChannelsBounded (s : State) (hinv : ChannelsBounded s) : ChannelsBounded (s.handOver) := by
  simp only [State.handOver]
  repeat' split
  all_goals (try (with_reducible repeat (first | assumption | apply State.handOverMany_ChannelsBounded | apply State.modLine_ChannelsBounded | apply State.modSched_ChannelsBounded | apply State.modAsm_ChannelsBounded)))
  all_goals (intro _; first | rfl | (simp only [Sched.track]; split <;> rfl))

theorem State.handOverSought_ChannelsBounded (s : State) (l : Nat) (h : ChannelsBounded s) : ChannelsBounded (State.handOverSought s l) := by
  induction l generalizing s with
  | zero => exact h
  | succ k ih =>
    simp only [State.handOverSought]
    repeat' split
    · exact h
    · exact State.chosen_ChannelsBounded s h
    · exact ih _ (State.handOverMany_ChannelsBounded _ 1 (State.chosen_ChannelsBounded s h))

theorem State.post_ChannelsBounded (s : State) (n : Notice) (hinv : ChannelsBounded s) : ChannelsBounded (s.post n) := by
  simp only [State.post]
  repeat' split
  all_goals (try (with_reducible repeat (first | assumption | apply State.modSup_ChannelsBounded | apply State.beginPrint_ChannelsBounded | apply State.handOver_ChannelsBounded | apply State.modLine_ChannelsBounded | apply State.modSched_ChannelsBounded | apply State.modAsm_ChannelsBounded)))
  all_goals (intro _; first | rfl | (simp only [Sched.track]; split <;> rfl))

theorem State.postAll_ChannelsBounded (s : State) (l : List Notice) (hinv : ChannelsBounded s) : ChannelsBounded (State.postAll s l) := by
  induction l generalizing s with
  | nil => exact hinv
  | cons x xs ih =>
    simp only [State.postAll]
    repeat' split
    all_goals (try (with_reducible repeat (first | assumption | apply State.post_ChannelsBounded | apply ih | apply State.modLine_ChannelsBounded | apply State.modSched_ChannelsBounded | apply State.modAsm_ChannelsBounded)))
    all_goals (intro _; first | rfl | (simp only [Sched.track]; split <;> rfl))

theorem State.placeFreed_ChannelsBounded (s before : State) (sought : Bool) (hinv : ChannelsBounded s) : ChannelsBounded (s.placeFreed before sought) := by
  simp only [State.placeFreed]
  repeat' split
  all_goals (try (with_reducible repeat (first | assumption | apply State.chosen_ChannelsBounded | apply State.handOver_ChannelsBounded | apply State.handOverSought_ChannelsBounded | apply State.modLine_ChannelsBounded | apply State.modSched_ChannelsBounded | apply State.modAsm_ChannelsBounded)))
  all_goals (intro _; first | rfl | (simp only [Sched.track]; split <;> rfl))

theorem State.tellPlaces_ChannelsBounded (s before : State) (hinv : ChannelsBounded s) : ChannelsBounded (s.tellPlaces before) :=
  State.placeFreed_ChannelsBounded s before _ hinv

theorem State.itemEnded_ChannelsBounded (s : State) (hinv : ChannelsBounded s) : ChannelsBounded (s.itemEnded) := by
  simp only [State.itemEnded]
  repeat' split
  all_goals (try (with_reducible repeat (first | assumption | apply State.tellPlaces_ChannelsBounded | apply State.modSup_ChannelsBounded | apply State.settle_ChannelsBounded | apply State.placeFreed_ChannelsBounded | apply State.beginPrint_ChannelsBounded | apply State.modLine_ChannelsBounded | apply State.modSched_ChannelsBounded | apply State.modAsm_ChannelsBounded)))
  all_goals (intro _; first | rfl | (simp only [Sched.track]; split <;> rfl))

theorem State.discardHead_ChannelsBounded (s : State) (hinv : ChannelsBounded s) : ChannelsBounded (s.discardHead) := by
  simp only [State.discardHead]
  repeat' split
  all_goals (try (with_reducible repeat (first | assumption | apply State.modSup_ChannelsBounded | apply State.supGoTail_ChannelsBounded | apply State.supLoadComposed_ChannelsBounded | apply State.modLine_ChannelsBounded | apply State.modSched_ChannelsBounded | apply State.modAsm_ChannelsBounded)))
  all_goals (intro _; first | rfl | (simp only [Sched.track]; split <;> rfl))

theorem State.discardDead_ChannelsBounded (s : State) (r : RecIx) (g : Gen) (hinv : ChannelsBounded s) : ChannelsBounded (s.discardDead r g) := by
  simp only [State.discardDead]
  repeat' split
  all_goals (try (with_reducible repeat (first | assumption | apply State.modRouter_ChannelsBounded | apply State.discardHead_ChannelsBounded | apply State.modSup_ChannelsBounded | apply State.modLine_ChannelsBounded | apply State.modSched_ChannelsBounded | apply State.modAsm_ChannelsBounded)))
  all_goals (intro _; first | rfl | (simp only [Sched.track]; split <;> rfl))

theorem State.supTextChanged_ChannelsBounded (s : State) (r : RecIx) (hinv : ChannelsBounded s) : ChannelsBounded (s.supTextChanged r) := by
  simp only [State.supTextChanged]
  repeat' split
  all_goals (try (with_reducible repeat (first | assumption | apply State.supServe_ChannelsBounded | apply State.modLine_ChannelsBounded | apply State.modSched_ChannelsBounded | apply State.modAsm_ChannelsBounded)))
  all_goals (intro _; first | rfl | (simp only [Sched.track]; split <;> rfl))

theorem State.motorEnqueue_ChannelsBounded (s : State) (n : Line) (hinv : ChannelsBounded s) : ChannelsBounded (s.motorEnqueue n) := by
  simp only [State.motorEnqueue]
  repeat' split
  all_goals (try (with_reducible repeat (first | assumption | apply State.modMotor_ChannelsBounded | apply State.modLine_ChannelsBounded | apply State.modSched_ChannelsBounded | apply State.modAsm_ChannelsBounded)))
  all_goals (intro _; first | rfl | (simp only [Sched.track]; split <;> rfl))

theorem State.motorEmpty_ChannelsBounded (s : State) (n : Line) (hinv : ChannelsBounded s) : ChannelsBounded (s.motorEmpty n) := by
  simp only [State.motorEmpty]
  repeat' split
  all_goals (try (with_reducible repeat (first | assumption | apply State.modMotor_ChannelsBounded | apply State.modLine_ChannelsBounded | apply State.modSched_ChannelsBounded | apply State.modAsm_ChannelsBounded)))
  all_goals (intro _; first | rfl | (simp only [Sched.track]; split <;> rfl))

theorem State.loadChar_ChannelsBounded (s : State) (n : Line) (c : TxChar) (hinv : ChannelsBounded s) : ChannelsBounded (s.loadChar n c) := by
  simp only [State.loadChar]
  repeat' split
  all_goals (try (with_reducible repeat (first | assumption | apply State.modTx_ChannelsBounded | apply State.modLine_ChannelsBounded | apply State.modSched_ChannelsBounded | apply State.modAsm_ChannelsBounded)))
  all_goals (intro _; first | rfl | (simp only [Sched.track]; split <;> rfl))

theorem State.loadNextComposed_ChannelsBounded (s : State) (n : Line) (hinv : ChannelsBounded s) : ChannelsBounded (s.loadNextComposed n) := by
  simp only [State.loadNextComposed]
  repeat' split
  all_goals (try (with_reducible repeat (first | assumption | apply State.loadChar_ChannelsBounded | apply State.modLine_ChannelsBounded | apply State.modSched_ChannelsBounded | apply State.modAsm_ChannelsBounded)))
  all_goals (intro _; first | rfl | (simp only [Sched.track]; split <;> rfl))

theorem State.serveHead_ChannelsBounded (s : State) (n : Line) (hinv : ChannelsBounded s) : ChannelsBounded (s.serveHead n) := by
  simp only [State.serveHead]
  repeat' split
  all_goals (try (with_reducible repeat (first | assumption | apply State.loadNextComposed_ChannelsBounded | apply State.modLine_ChannelsBounded | apply State.modSched_ChannelsBounded | apply State.modAsm_ChannelsBounded)))
  all_goals (intro _; first | rfl | (simp only [Sched.track]; split <;> rfl))

theorem State.enterTail_ChannelsBounded (s : State) (n : Line) (r : Record) (hinv : ChannelsBounded s) : ChannelsBounded (s.enterTail n r) := by
  simp only [State.enterTail]
  repeat' split
  all_goals (try (with_reducible repeat (first | assumption | apply State.modLine_ChannelsBounded | apply State.modSched_ChannelsBounded | apply State.modAsm_ChannelsBounded)))
  all_goals (intro _; first | rfl | (simp only [Sched.track]; split <;> rfl))

theorem State.serveText_ChannelsBounded (s : State) (n : Line) (ref : CopyRef) (hinv : ChannelsBounded s) : ChannelsBounded (s.serveText n ref) := by
  simp only [State.serveText]
  repeat' split
  all_goals (try (with_reducible repeat (first | assumption | apply State.loadChar_ChannelsBounded | apply State.enterTail_ChannelsBounded | apply State.loadNextComposed_ChannelsBounded | apply State.modLine_ChannelsBounded | apply State.modSched_ChannelsBounded | apply State.modAsm_ChannelsBounded)))
  all_goals (intro _; first | rfl | (simp only [Sched.track]; split <;> rfl))

theorem State.serveLine_ChannelsBounded (s : State) (n : Line) (hinv : ChannelsBounded s) : ChannelsBounded (s.serveLine n) := by
  simp only [State.serveLine]
  repeat' split
  all_goals (try (with_reducible repeat (first | assumption | apply State.serveHead_ChannelsBounded | apply State.serveText_ChannelsBounded | apply State.loadNextComposed_ChannelsBounded | apply State.modLine_ChannelsBounded | apply State.modSched_ChannelsBounded | apply State.modAsm_ChannelsBounded)))
  all_goals (intro _; first | rfl | (simp only [Sched.track]; split <;> rfl))

theorem State.numberCopy_ChannelsBounded (s : State) (n : Line) (ref : CopyRef) (h : ChannelsBounded s) : ChannelsBounded (s.numberCopy n ref) := by
  simp only [State.numberCopy]
  split
  · exact h
  · have hc : ChannelsBounded (s.modCopy ref fun c => { c with channel := some (s.line n).sched.counter }) := State.modCopy_ChannelsBounded _ _ _ h
    exact .modLine _ n _ hc (nextChannel_bounds _) (hc n).2

theorem State.startFresh_ChannelsBounded (s : State) (n : Line) (e : QEntry) (hinv : ChannelsBounded s) : ChannelsBounded (s.startFresh n e) := by
  simp only [State.startFresh]
  repeat' split
  all_goals (try (with_reducible repeat (first | assumption | apply State.numberCopy_ChannelsBounded | apply State.setCopyState_ChannelsBounded | apply State.modTx_ChannelsBounded | apply State.serveLine_ChannelsBounded | apply State.modLine_ChannelsBounded | apply State.modSched_ChannelsBounded | apply State.modAsm_ChannelsBounded)))
  all_goals (intro _; first | rfl | (simp only [Sched.track]; split <;> rfl))

theorem State.startResume_ChannelsBounded (s : State) (n : Line) (e : QEntry) (hinv : ChannelsBounded s) : ChannelsBounded (s.startResume n e) := by
  simp only [State.startResume]
  repeat' split
  all_goals (try (with_reducible repeat (first | assumption | apply State.numberCopy_ChannelsBounded | apply State.setCopyState_ChannelsBounded | apply State.modCopy_ChannelsBounded | apply State.modTx_ChannelsBounded | apply State.serveLine_ChannelsBounded | apply State.modLine_ChannelsBounded | apply State.modSched_ChannelsBounded | apply State.modAsm_ChannelsBounded)))
  all_goals (intro _; first | rfl | (simp only [Sched.track]; split <;> rfl))

theorem State.choose_ChannelsBounded (s : State) (n : Line) (hinv : ChannelsBounded s) : ChannelsBounded (s.choose n) := by
  simp only [State.choose]
  repeat' split
  all_goals (try (with_reducible repeat (first | assumption | apply State.startFresh_ChannelsBounded | apply State.startResume_ChannelsBounded | apply State.modLine_ChannelsBounded | apply State.modSched_ChannelsBounded | apply State.modAsm_ChannelsBounded)))
  all_goals (intro _; first | rfl | (simp only [Sched.track]; split <;> rfl))

theorem State.beginInterruption_ChannelsBounded (s : State) (n : Line) (hinv : ChannelsBounded s) : ChannelsBounded (s.beginInterruption n) := by
  simp only [State.beginInterruption]
  repeat' split
  all_goals (try (with_reducible repeat (first | assumption | apply State.serveLine_ChannelsBounded | apply State.modTx_ChannelsBounded | apply State.modLine_ChannelsBounded | apply State.modSched_ChannelsBounded | apply State.modAsm_ChannelsBounded)))
  all_goals (intro _; first | rfl | (simp only [Sched.track]; split <;> rfl))

theorem State.preemptTest_ChannelsBounded (s : State) (n : Line) (hinv : ChannelsBounded s) : ChannelsBounded (s.preemptTest n) := by
  simp only [State.preemptTest]
  repeat' split
  all_goals (try (with_reducible repeat (first | assumption | apply State.beginInterruption_ChannelsBounded | apply State.modLine_ChannelsBounded | apply State.modSched_ChannelsBounded | apply State.modAsm_ChannelsBounded)))
  all_goals (intro _; first | rfl | (simp only [Sched.track]; split <;> rfl))

theorem State.reconsiderMark_ChannelsBounded (s : State) (n : Line) (hinv : ChannelsBounded s) : ChannelsBounded (s.reconsiderMark n) := by
  simp only [State.reconsiderMark]
  repeat' split
  all_goals (try (with_reducible repeat (first | assumption | apply State.modLine_ChannelsBounded | apply State.modSched_ChannelsBounded | apply State.modAsm_ChannelsBounded)))
  all_goals (intro _; first | rfl | (simp only [Sched.track]; split <;> rfl))

theorem State.lookAgain_ChannelsBounded (s : State) (n : Line) (hinv : ChannelsBounded s) : ChannelsBounded (s.lookAgain n) := by
  simp only [State.lookAgain]
  repeat' split
  all_goals (try (with_reducible repeat (first | assumption | apply State.preemptTest_ChannelsBounded | apply State.choose_ChannelsBounded | apply State.modLine_ChannelsBounded | apply State.modSched_ChannelsBounded | apply State.modAsm_ChannelsBounded)))
  all_goals (intro _; first | rfl | (simp only [Sched.track]; split <;> rfl))

theorem State.enqueue_ChannelsBounded (s : State) (n : Line) (ref : CopyRef) (hinv : ChannelsBounded s) : ChannelsBounded (s.enqueue n ref) := by
  simp only [State.enqueue]
  repeat' split
  all_goals (try (with_reducible repeat (first | assumption | apply State.setCopyState_ChannelsBounded | apply State.motorEnqueue_ChannelsBounded | apply State.lookAgain_ChannelsBounded | apply State.choose_ChannelsBounded | apply State.modLine_ChannelsBounded | apply State.modSched_ChannelsBounded | apply State.modAsm_ChannelsBounded)))
  all_goals (intro _; first | rfl | (simp only [Sched.track]; split <;> rfl))

theorem State.clearCurrent_ChannelsBounded (s : State) (n : Line) (hinv : ChannelsBounded s) : ChannelsBounded (s.clearCurrent n) := by
  simp only [State.clearCurrent]
  repeat' split
  all_goals (try (with_reducible repeat (first | assumption | apply State.modTx_ChannelsBounded | apply State.modLine_ChannelsBounded | apply State.modSched_ChannelsBounded | apply State.modAsm_ChannelsBounded)))
  all_goals (intro _; first | rfl | (simp only [Sched.track]; split <;> rfl))

theorem State.putBack_ChannelsBounded (s : State) (n : Line) (hinv : ChannelsBounded s) : ChannelsBounded (s.putBack n) := by
  simp only [State.putBack]
  repeat' split
  all_goals (try (with_reducible repeat (first | assumption | apply State.clearCurrent_ChannelsBounded | apply State.modCopy_ChannelsBounded | apply State.setCopyState_ChannelsBounded | apply State.motorEnqueue_ChannelsBounded | apply State.modLine_ChannelsBounded | apply State.modSched_ChannelsBounded | apply State.modAsm_ChannelsBounded)))
  all_goals (intro _; first | rfl | (simp only [Sched.track]; split <;> rfl))

theorem State.withdraw_ChannelsBounded (s : State) (n : Line) (ref : CopyRef) (hinv : ChannelsBounded s) : ChannelsBounded (s.withdraw n ref) := by
  simp only [State.withdraw]
  repeat' split
  all_goals (try (with_reducible repeat (first | assumption | apply State.reconsiderMark_ChannelsBounded | apply State.motorEmpty_ChannelsBounded | apply State.modLine_ChannelsBounded | apply State.modSched_ChannelsBounded | apply State.modAsm_ChannelsBounded)))
  all_goals (intro _; first | rfl | (simp only [Sched.track]; split <;> rfl))

theorem State.delivered_ChannelsBounded (s : State) (n : Line) (e : QEntry) (hinv : ChannelsBounded s) : ChannelsBounded (s.delivered n e) := by
  simp only [State.delivered]
  repeat' split
  all_goals (try (with_reducible repeat (first | assumption | apply State.settle_ChannelsBounded | apply State.clearCurrent_ChannelsBounded | apply State.choose_ChannelsBounded | apply State.motorEmpty_ChannelsBounded | apply State.modLine_ChannelsBounded | apply State.modSched_ChannelsBounded | apply State.modAsm_ChannelsBounded)))
  all_goals (intro _; first | rfl | (simp only [Sched.track]; split <;> rfl))

theorem State.pushCurrent_ChannelsBounded (s : State) (n : Line) (e : QEntry) (hinv : ChannelsBounded s) : ChannelsBounded (s.pushCurrent n e) := by
  simp only [State.pushCurrent]
  repeat' split
  all_goals (try (with_reducible repeat (first | assumption | apply State.modCopy_ChannelsBounded | apply State.clearCurrent_ChannelsBounded | apply State.choose_ChannelsBounded | apply State.modLine_ChannelsBounded | apply State.modSched_ChannelsBounded | apply State.modAsm_ChannelsBounded)))
  all_goals (intro _; first | rfl | (simp only [Sched.track]; split <;> rfl))

theorem State.reportSent_ChannelsBounded (s : State) (n : Line) (c : TxChar) (hinv : ChannelsBounded s) : ChannelsBounded (s.reportSent n c) := by
  simp only [State.reportSent]
  repeat' split
  all_goals (try (with_reducible repeat (first | assumption | apply State.pushCurrent_ChannelsBounded | apply State.delivered_ChannelsBounded | apply State.beginInterruption_ChannelsBounded | apply State.modLine_ChannelsBounded | apply State.modSched_ChannelsBounded | apply State.modAsm_ChannelsBounded)))
  all_goals (intro _; first | rfl | (simp only [Sched.track]; split <;> rfl))

theorem State.countFill_ChannelsBounded (s : State) (ref : CopyRef) (hinv : ChannelsBounded s) : ChannelsBounded (s.countFill ref) := by
  simp only [State.countFill]
  repeat' split
  all_goals (try (with_reducible repeat (first | assumption | apply State.modCopy_ChannelsBounded | apply State.modLine_ChannelsBounded | apply State.modSched_ChannelsBounded | apply State.modAsm_ChannelsBounded)))
  all_goals (intro _; first | rfl | (simp only [Sched.track]; split <;> rfl))

theorem State.lineTextChanged_ChannelsBounded (s : State) (n : Line) (r : RecIx) (oldCount : Nat) (oldComplete : Bool) (hinv : ChannelsBounded s) : ChannelsBounded (s.lineTextChanged n r oldCount oldComplete) := by
  simp only [State.lineTextChanged]
  repeat' split
  all_goals (try (with_reducible repeat (first | assumption | apply State.serveLine_ChannelsBounded | apply State.lookAgain_ChannelsBounded | apply State.modLine_ChannelsBounded | apply State.modSched_ChannelsBounded | apply State.modAsm_ChannelsBounded)))
  all_goals (intro _; first | rfl | (simp only [Sched.track]; split <;> rfl))

theorem State.bindLocal_ChannelsBounded (s : State) (n : Line) (ref : CopyRef) (hinv : ChannelsBounded s) : ChannelsBounded (s.bindLocal n ref) := by
  simp only [State.bindLocal]
  repeat' split
  all_goals (try (with_reducible repeat (first | assumption | apply State.modCopy_ChannelsBounded | apply State.enqueue_ChannelsBounded | apply State.modLine_ChannelsBounded | apply State.modSched_ChannelsBounded | apply State.modAsm_ChannelsBounded)))
  all_goals (intro _; first | rfl | (simp only [Sched.track]; split <;> rfl))

theorem State.startSeries_ChannelsBounded (s : State) (k : CtxIx) (ref : CopyRef) (hinv : ChannelsBounded s) : ChannelsBounded (s.startSeries k ref) := by
  simp only [State.startSeries]
  repeat' split
  all_goals (try (with_reducible repeat (first | assumption | apply State.modCopy_ChannelsBounded | apply State.giveSend_ChannelsBounded | apply State.modLine_ChannelsBounded | apply State.modSched_ChannelsBounded | apply State.modAsm_ChannelsBounded)))
  all_goals (intro _; first | rfl | (simp only [Sched.track]; split <;> rfl))

theorem State.waitForContext_ChannelsBounded (s : State) (ref : CopyRef) (hinv : ChannelsBounded s) : ChannelsBounded (s.waitForContext ref) := by
  simp only [State.waitForContext]
  repeat' split
  all_goals (try (with_reducible repeat (first | assumption | apply State.setCopyState_ChannelsBounded | apply State.modRouter_ChannelsBounded | apply State.modLine_ChannelsBounded | apply State.modSched_ChannelsBounded | apply State.modAsm_ChannelsBounded)))
  all_goals (intro _; first | rfl | (simp only [Sched.track]; split <;> rfl))

theorem State.offerCopy_ChannelsBounded (s : State) (ref : CopyRef) (hinv : ChannelsBounded s) : ChannelsBounded (s.offerCopy ref) := by
  simp only [State.offerCopy]
  repeat' split
  all_goals (try (with_reducible repeat (first | assumption | apply State.startSeries_ChannelsBounded | apply State.waitForContext_ChannelsBounded | apply State.modLine_ChannelsBounded | apply State.modSched_ChannelsBounded | apply State.modAsm_ChannelsBounded)))
  all_goals (intro _; first | rfl | (simp only [Sched.track]; split <;> rfl))

theorem State.serveWaitMany_ChannelsBounded (s : State) (l : Nat) (hinv : ChannelsBounded s) : ChannelsBounded (State.serveWaitMany s l) := by
  induction l generalizing s with
  | zero => exact hinv
  | succ k ih =>
    simp only [State.serveWaitMany]
    repeat' split
    all_goals (try (with_reducible repeat (first | assumption | apply State.modRouter_ChannelsBounded | apply State.bindLocal_ChannelsBounded | apply State.startSeries_ChannelsBounded | apply ih | apply State.modLine_ChannelsBounded | apply State.modSched_ChannelsBounded | apply State.modAsm_ChannelsBounded)))
    all_goals (intro _; first | rfl | (simp only [Sched.track]; split <;> rfl))

theorem State.serveWaitList_ChannelsBounded (s : State) (hinv : ChannelsBounded s) : ChannelsBounded (s.serveWaitList) := by
  simp only [State.serveWaitList]
  repeat' split
  all_goals (try (with_reducible repeat (first | assumption | apply State.serveWaitMany_ChannelsBounded | apply State.modLine_ChannelsBounded | apply State.modSched_ChannelsBounded | apply State.modAsm_ChannelsBounded)))
  all_goals (intro _; first | rfl | (simp only [Sched.track]; split <;> rfl))

theorem State.startCounts_ChannelsBounded (s : State) (ref : CopyRef) (hinv : ChannelsBounded s) : ChannelsBounded (s.startCounts ref) := by
  simp only [State.startCounts]
  repeat' split
  all_goals (try (with_reducible repeat (first | assumption | apply State.modCopy_ChannelsBounded | apply State.modLine_ChannelsBounded | apply State.modSched_ChannelsBounded | apply State.modAsm_ChannelsBounded)))
  all_goals (intro _; first | rfl | (simp only [Sched.track]; split <;> rfl))

theorem State.dispatchCopy_ChannelsBounded (s : State) (ref : CopyRef) (hinv : ChannelsBounded s) : ChannelsBounded (s.dispatchCopy ref) := by
  simp only [State.dispatchCopy]
  repeat' split
  all_goals (try (with_reducible repeat (first | assumption | apply State.startCounts_ChannelsBounded | apply State.bindLocal_ChannelsBounded | apply State.offerCopy_ChannelsBounded | apply State.modLine_ChannelsBounded | apply State.modSched_ChannelsBounded | apply State.modAsm_ChannelsBounded)))
  all_goals (intro _; first | rfl | (simp only [Sched.track]; split <;> rfl))

theorem State.dispatchAll_ChannelsBounded (s : State) (l : List CopyRef) (hinv : ChannelsBounded s) : ChannelsBounded (State.dispatchAll s l) := by
  induction l generalizing s with
  | nil => exact hinv
  | cons x xs ih =>
    simp only [State.dispatchAll]
    repeat' split
    all_goals (try (with_reducible repeat (first | assumption | apply State.dispatchCopy_ChannelsBounded | apply ih | apply State.modLine_ChannelsBounded | apply State.modSched_ChannelsBounded | apply State.modAsm_ChannelsBounded)))
    all_goals (intro _; first | rfl | (simp only [Sched.track]; split <;> rfl))

theorem State.dispatchRecord_ChannelsBounded (s : State) (r : RecIx) (hinv : ChannelsBounded s) : ChannelsBounded (s.dispatchRecord r) := by
  simp only [State.dispatchRecord]
  repeat' split
  all_goals (try (with_reducible repeat (first | assumption | apply State.dispatchAll_ChannelsBounded | apply State.modLine_ChannelsBounded | apply State.modSched_ChannelsBounded | apply State.modAsm_ChannelsBounded)))
  all_goals (intro _; first | rfl | (simp only [Sched.track]; split <;> rfl))

theorem State.dispatchRestart_ChannelsBounded (s : State) (l : List CopyRef) (h : ChannelsBounded s) : ChannelsBounded (State.dispatchRestart s l).1 := by
  induction l generalizing s with
  | nil => exact h
  | cons x xs ih =>
    simp only [State.dispatchRestart]
    split
    · exact ih _ (State.bindLocal_ChannelsBounded _ _ _ (State.startCounts_ChannelsBounded _ _ h))
    · exact ih _ (State.setCopyState_ChannelsBounded _ _ _ (State.startCounts_ChannelsBounded _ _ h))

theorem State.holdOffEnds_ChannelsBounded (s : State) (h : ChannelsBounded s) : ChannelsBounded s.holdOffEnds := by
  simp only [State.holdOffEnds]
  apply State.serveWaitList_ChannelsBounded
  apply State.modRouter_ChannelsBounded
  apply State.dispatchRestart_ChannelsBounded
  apply State.modRouter_ChannelsBounded
  exact State.modPort_ChannelsBounded _ _ h

theorem State.enqueueOrRefuse_ChannelsBounded (s : State) (n : Line) (ref : CopyRef) (hinv : ChannelsBounded s) : ChannelsBounded (s.enqueueOrRefuse n ref) := by
  simp only [State.enqueueOrRefuse]
  repeat' split
  all_goals (try (with_reducible repeat (first | assumption | apply State.enqueue_ChannelsBounded | apply State.modCopy_ChannelsBounded | apply State.setCopyState_ChannelsBounded | apply State.dispatchCopy_ChannelsBounded | apply State.modLine_ChannelsBounded | apply State.modSched_ChannelsBounded | apply State.modAsm_ChannelsBounded)))
  all_goals (intro _; first | rfl | (simp only [Sched.track]; split <;> rfl))

theorem State.die_ChannelsBounded (s : State) (k : CtxIx) (ref : CopyRef) (hinv : ChannelsBounded s) : ChannelsBounded (s.die k ref) := by
  simp only [State.die]
  repeat' split
  all_goals (try (with_reducible repeat (first | assumption | apply State.setCopyState_ChannelsBounded | apply State.freeSend_ChannelsBounded | apply State.modRouter_ChannelsBounded | apply State.handOver_ChannelsBounded | apply State.serveWaitList_ChannelsBounded | apply State.modLine_ChannelsBounded | apply State.modSched_ChannelsBounded | apply State.modAsm_ChannelsBounded)))
  all_goals (intro _; first | rfl | (simp only [Sched.track]; split <;> rfl))

theorem State.bindInstead_ChannelsBounded (s : State) (k : CtxIx) (n : Line) (ref : CopyRef) (hinv : ChannelsBounded s) : ChannelsBounded (s.bindInstead k n ref) := by
  simp only [State.bindInstead]
  repeat' split
  all_goals (try (with_reducible repeat (first | assumption | apply State.freeSend_ChannelsBounded | apply State.bindLocal_ChannelsBounded | apply State.serveWaitList_ChannelsBounded | apply State.modLine_ChannelsBounded | apply State.modSched_ChannelsBounded | apply State.modAsm_ChannelsBounded)))
  all_goals (intro _; first | rfl | (simp only [Sched.track]; split <;> rfl))

theorem State.reoffer_ChannelsBounded (s : State) (k : CtxIx) (ref : CopyRef) (next : Nat) (hinv : ChannelsBounded s) : ChannelsBounded (s.reoffer k ref next) := by
  simp only [State.reoffer]
  repeat' split
  all_goals (try (with_reducible repeat (first | assumption | apply State.bindInstead_ChannelsBounded | apply State.modCopy_ChannelsBounded | apply State.askOffer_ChannelsBounded | apply State.modLine_ChannelsBounded | apply State.modSched_ChannelsBounded | apply State.modAsm_ChannelsBounded)))
  all_goals (intro _; first | rfl | (simp only [Sched.track]; split <;> rfl))

theorem State.unclaimed_ChannelsBounded (s : State) (k : CtxIx) (ref : CopyRef) (hinv : ChannelsBounded s) : ChannelsBounded (s.unclaimed k ref) := by
  simp only [State.unclaimed]
  repeat' split
  all_goals (try (with_reducible repeat (first | assumption | apply State.die_ChannelsBounded | apply State.setCopyState_ChannelsBounded | apply State.modSend_ChannelsBounded | apply State.modLine_ChannelsBounded | apply State.modSched_ChannelsBounded | apply State.modAsm_ChannelsBounded)))
  all_goals (intro _; first | rfl | (simp only [Sched.track]; split <;> rfl))

theorem State.spoiled_ChannelsBounded (s : State) (k : CtxIx) (ref : CopyRef) (hinv : ChannelsBounded s) : ChannelsBounded (s.spoiled k ref) := by
  simp only [State.spoiled]
  repeat' split
  all_goals (try (with_reducible repeat (first | assumption | apply State.dropSend_ChannelsBounded | apply State.modSend_ChannelsBounded | apply State.modCopy_ChannelsBounded | apply State.die_ChannelsBounded | apply State.reoffer_ChannelsBounded | apply State.modLine_ChannelsBounded | apply State.modSched_ChannelsBounded | apply State.modAsm_ChannelsBounded)))
  all_goals (intro _; first | rfl | (simp only [Sched.track]; split <;> rfl))

theorem State.handed_ChannelsBounded (s : State) (k : CtxIx) (ref : CopyRef) (hinv : ChannelsBounded s) : ChannelsBounded (s.handed k ref) := by
  simp only [State.handed]
  repeat' split
  all_goals (try (with_reducible repeat (first | assumption | apply State.settle_ChannelsBounded | apply State.freeSend_ChannelsBounded | apply State.serveWaitList_ChannelsBounded | apply State.modLine_ChannelsBounded | apply State.modSched_ChannelsBounded | apply State.modAsm_ChannelsBounded)))
  all_goals (intro _; first | rfl | (simp only [Sched.track]; split <;> rfl))

theorem State.sendsLook_ChannelsBounded (s : State) (r : RecIx) (l : List CtxIx) (hinv : ChannelsBounded s) : ChannelsBounded (State.sendsLook s r l) := by
  induction l generalizing s with
  | nil => exact hinv
  | cons x xs ih =>
    simp only [State.sendsLook]
    repeat' split
    all_goals (try (with_reducible repeat (first | assumption | apply State.lookNext_ChannelsBounded | apply ih | apply State.modLine_ChannelsBounded | apply State.modSched_ChannelsBounded | apply State.modAsm_ChannelsBounded)))
    all_goals (intro _; first | rfl | (simp only [Sched.track]; split <;> rfl))

theorem State.linesLook_ChannelsBounded (s : State) (r : RecIx) (oldCount : Nat) (oldComplete : Bool) (l : List Line) (hinv : ChannelsBounded s) : ChannelsBounded (State.linesLook s r oldCount oldComplete l) := by
  induction l generalizing s with
  | nil => exact hinv
  | cons x xs ih =>
    simp only [State.linesLook]
    repeat' split
    all_goals (try (with_reducible repeat (first | assumption | apply State.lineTextChanged_ChannelsBounded | apply ih | apply State.modLine_ChannelsBounded | apply State.modSched_ChannelsBounded | apply State.modAsm_ChannelsBounded)))
    all_goals (intro _; first | rfl | (simp only [Sched.track]; split <;> rfl))

theorem State.textChanged_ChannelsBounded (s : State) (r : RecIx) (oldCount : Nat) (oldComplete : Bool) (hinv : ChannelsBounded s) : ChannelsBounded (s.textChanged r oldCount oldComplete) := by
  simp only [State.textChanged]
  repeat' split
  all_goals (try (with_reducible repeat (first | assumption | apply State.linesLook_ChannelsBounded | apply State.sendsLook_ChannelsBounded | apply State.supTextChanged_ChannelsBounded | apply State.modLine_ChannelsBounded | apply State.modSched_ChannelsBounded | apply State.modAsm_ChannelsBounded)))
  all_goals (intro _; first | rfl | (simp only [Sched.track]; split <;> rfl))

theorem State.cutShort_ChannelsBounded (s : State) (r : RecIx) (hinv : ChannelsBounded s) : ChannelsBounded (s.cutShort r) := by
  simp only [State.cutShort]
  repeat' split
  all_goals (try (with_reducible repeat (first | assumption | apply State.modRecord_ChannelsBounded | apply State.textChanged_ChannelsBounded | apply State.modLine_ChannelsBounded | apply State.modSched_ChannelsBounded | apply State.modAsm_ChannelsBounded)))
  all_goals (intro _; first | rfl | (simp only [Sched.track]; split <;> rfl))

theorem State.dropSendOf_ChannelsBounded (s : State) (ref : CopyRef) (hinv : ChannelsBounded s) : ChannelsBounded (s.dropSendOf ref) := by
  simp only [State.dropSendOf]
  repeat' split
  all_goals (try (with_reducible repeat (first | assumption | apply State.freeSend_ChannelsBounded | apply State.modLine_ChannelsBounded | apply State.modSched_ChannelsBounded | apply State.modAsm_ChannelsBounded)))
  all_goals (intro _; first | rfl | (simp only [Sched.track]; split <;> rfl))

theorem State.forgetCopy_ChannelsBounded (s : State) (ref : CopyRef) (hinv : ChannelsBounded s) : ChannelsBounded (s.forgetCopy ref) := by
  simp only [State.forgetCopy]
  repeat' split
  all_goals (try (with_reducible repeat (first | assumption | apply State.modRouter_ChannelsBounded | apply State.modLine_ChannelsBounded | apply State.modSched_ChannelsBounded | apply State.modAsm_ChannelsBounded)))
  all_goals (intro _; first | rfl | (simp only [Sched.track]; split <;> rfl))

theorem State.withdrawCopy_ChannelsBounded (s : State) (ref : CopyRef) (hinv : ChannelsBounded s) : ChannelsBounded (s.withdrawCopy ref) := by
  simp only [State.withdrawCopy]
  repeat' split
  all_goals (try (with_reducible repeat (first | assumption | apply State.withdraw_ChannelsBounded | apply State.modLine_ChannelsBounded | apply State.modSched_ChannelsBounded | apply State.modAsm_ChannelsBounded)))
  all_goals (intro _; first | rfl | (simp only [Sched.track]; split <;> rfl))

theorem State.discardRecord_ChannelsBounded (s : State) (r : RecIx) (hinv : ChannelsBounded s) : ChannelsBounded (s.discardRecord r) := by
  simp only [State.discardRecord]
  repeat' split
  all_goals (try (with_reducible repeat (first | assumption | apply State.withdrawCopy_ChannelsBounded | apply State.forgetCopy_ChannelsBounded | apply State.dropSendOf_ChannelsBounded | apply State.discardDead_ChannelsBounded | apply State.freeRecord_ChannelsBounded | apply State.serveWaitList_ChannelsBounded | apply State.modLine_ChannelsBounded | apply State.modSched_ChannelsBounded | apply State.modAsm_ChannelsBounded)))
  all_goals (intro _; first | rfl | (simp only [Sched.track]; split <;> rfl))

theorem State.endRecord_ChannelsBounded (s : State) (r : RecIx) (hinv : ChannelsBounded s) : ChannelsBounded (s.endRecord r) := by
  simp only [State.endRecord]
  repeat' split
  all_goals (try (with_reducible repeat (first | assumption | apply State.cutShort_ChannelsBounded | apply State.discardRecord_ChannelsBounded | apply State.modLine_ChannelsBounded | apply State.modSched_ChannelsBounded | apply State.modAsm_ChannelsBounded)))
  all_goals (intro _; first | rfl | (simp only [Sched.track]; split <;> rfl))

theorem State.endTakeRecord_ChannelsBounded (s : State) (k : CtxIx) (t : Take) (hinv : ChannelsBounded s) : ChannelsBounded (s.endTakeRecord k t) := by
  simp only [State.endTakeRecord]
  repeat' split
  all_goals (try (with_reducible repeat (first | assumption | apply State.releaseReservation_ChannelsBounded | apply State.endRecord_ChannelsBounded | apply State.modLine_ChannelsBounded | apply State.modSched_ChannelsBounded | apply State.modAsm_ChannelsBounded)))
  all_goals (intro _; first | rfl | (simp only [Sched.track]; split <;> rfl))

theorem State.dropClaim_ChannelsBounded (s : State) (k : CtxIx) (hinv : ChannelsBounded s) : ChannelsBounded (s.dropClaim k) := by
  simp only [State.dropClaim]
  repeat' split
  all_goals (try (with_reducible repeat (first | assumption | apply State.freeTake_ChannelsBounded | apply State.releaseReservation_ChannelsBounded | apply State.unpledge_ChannelsBounded | apply State.modLine_ChannelsBounded | apply State.modSched_ChannelsBounded | apply State.modAsm_ChannelsBounded)))
  all_goals (intro _; first | rfl | (simp only [Sched.track]; split <;> rfl))

theorem State.giveUpTake_ChannelsBounded (s : State) (k : CtxIx) (t : Take) (hinv : ChannelsBounded s) : ChannelsBounded (s.giveUpTake k t) := by
  simp only [State.giveUpTake]
  repeat' split
  all_goals (try (with_reducible repeat (first | assumption | apply State.tellPlaces_ChannelsBounded | apply State.endTakeRecord_ChannelsBounded | apply State.freeTake_ChannelsBounded | apply State.addEnded_ChannelsBounded | apply State.modLine_ChannelsBounded | apply State.modSched_ChannelsBounded | apply State.modAsm_ChannelsBounded)))
  all_goals (intro _; first | rfl | (simp only [Sched.track]; split <;> rfl))

theorem State.abandonTake_ChannelsBounded (s : State) (k : CtxIx) (t : Take) (reason : Reason) (hinv : ChannelsBounded s) : ChannelsBounded (s.abandonTake k t reason) := by
  simp only [State.abandonTake]
  repeat' split
  all_goals (try (with_reducible repeat (first | assumption | apply State.tellPlaces_ChannelsBounded | apply State.modTake_ChannelsBounded | apply State.askTake_ChannelsBounded | apply State.endTakeRecord_ChannelsBounded | apply State.modLine_ChannelsBounded | apply State.modSched_ChannelsBounded | apply State.modAsm_ChannelsBounded)))
  all_goals (intro _; first | rfl | (simp only [Sched.track]; split <;> rfl))

theorem State.answerClose_ChannelsBounded (s : State) (k : CtxIx) (hinv : ChannelsBounded s) : ChannelsBounded (s.answerClose k) := by
  simp only [State.answerClose]
  repeat' split
  all_goals (try (with_reducible repeat (first | assumption | apply State.modTake_ChannelsBounded | apply State.modLine_ChannelsBounded | apply State.modSched_ChannelsBounded | apply State.modAsm_ChannelsBounded)))
  all_goals (intro _; first | rfl | (simp only [Sched.track]; split <;> rfl))

theorem State.endTaking_ChannelsBounded (s : State) (l : List RecIx) (hinv : ChannelsBounded s) : ChannelsBounded (State.endTaking s l) := by
  induction l generalizing s with
  | nil => exact hinv
  | cons x xs ih =>
    simp only [State.endTaking]
    repeat' split
    all_goals (try (with_reducible repeat (first | assumption | apply State.endRecord_ChannelsBounded | apply ih | apply State.modLine_ChannelsBounded | apply State.modSched_ChannelsBounded | apply State.modAsm_ChannelsBounded)))
    all_goals (intro _; first | rfl | (simp only [Sched.track]; split <;> rfl))

theorem State.returnCopies_ChannelsBounded (s : State) (hinv : ChannelsBounded s) : ChannelsBounded (s.returnCopies) := by
  simp only [State.returnCopies]
  repeat' split
  all_goals (try (with_reducible repeat (first | assumption | apply State.modStore_ChannelsBounded | apply State.modRouter_ChannelsBounded | apply State.modLine_ChannelsBounded | apply State.modSched_ChannelsBounded | apply State.modAsm_ChannelsBounded)))
  all_goals (intro _; first | rfl | (simp only [Sched.track]; split <;> rfl))

theorem State.startHoldOff_ChannelsBounded (s : State) (hinv : ChannelsBounded s) : ChannelsBounded (s.startHoldOff) := by
  simp only [State.startHoldOff]
  repeat' split
  all_goals (try (with_reducible repeat (first | assumption | apply State.holdOffEnds_ChannelsBounded | apply State.modPort_ChannelsBounded | apply State.modLine_ChannelsBounded | apply State.modSched_ChannelsBounded | apply State.modAsm_ChannelsBounded)))
  all_goals (intro _; first | rfl | (simp only [Sched.track]; split <;> rfl))

theorem State.warmRestart_ChannelsBounded (s : State) (sender : Slot) (received : Bool) (hinv : ChannelsBounded s) : ChannelsBounded (s.warmRestart sender received) := by
  simp only [State.warmRestart]
  repeat' split
  all_goals (try (with_reducible repeat (first | assumption | apply State.modPort_ChannelsBounded | apply State.refreshTenure_ChannelsBounded | apply State.modStore_ChannelsBounded | apply State.placeFreed_ChannelsBounded | apply State.endTaking_ChannelsBounded | apply State.returnCopies_ChannelsBounded | apply State.post_ChannelsBounded | apply State.startHoldOff_ChannelsBounded | apply State.modLine_ChannelsBounded | apply State.modSched_ChannelsBounded | apply State.modAsm_ChannelsBounded)))
  all_goals (intro _; first | rfl | (simp only [Sched.track]; split <;> rfl))

theorem State.turnReview_ChannelsBounded (s : State) (n : Line) (hinv : ChannelsBounded s) : ChannelsBounded (s.turnReview n) := by
  simp only [State.turnReview]
  repeat' split
  all_goals (try (with_reducible repeat (first | assumption | apply State.modLine_ChannelsBounded | apply State.modSched_ChannelsBounded | apply State.modAsm_ChannelsBounded)))
  all_goals (intro _; first | rfl | (simp only [Sched.track]; split <;> rfl))

theorem State.turnWait_ChannelsBounded (s : State) (n : Line) (hinv : ChannelsBounded s) : ChannelsBounded (s.turnWait n) := by
  simp only [State.turnWait]
  repeat' split
  all_goals (try (with_reducible repeat (first | assumption | apply State.modLine_ChannelsBounded | apply State.modSched_ChannelsBounded | apply State.modAsm_ChannelsBounded)))
  all_goals (intro _; first | rfl | (simp only [Sched.track]; split <;> rfl))

theorem State.setRx_ChannelsBounded (s : State) (n : Line) (st : RxState) (hinv : ChannelsBounded s) : ChannelsBounded (s.setRx n st) := by
  simp only [State.setRx]
  repeat' split
  all_goals (try (with_reducible repeat (first | assumption | apply State.modLine_ChannelsBounded | apply State.modSched_ChannelsBounded | apply State.modAsm_ChannelsBounded)))
  all_goals (intro _; first | rfl | (simp only [Sched.track]; split <;> rfl))

theorem State.suspendRx_ChannelsBounded (s : State) (n : Line) (hinv : ChannelsBounded s) : ChannelsBounded (s.suspendRx n) := by
  simp only [State.suspendRx]
  repeat' split
  all_goals (try (with_reducible repeat (first | assumption | apply State.setRx_ChannelsBounded | apply State.modLine_ChannelsBounded | apply State.modSched_ChannelsBounded | apply State.modAsm_ChannelsBounded)))
  all_goals (intro _; first | rfl | (simp only [Sched.track]; split <;> rfl))

theorem State.beginHeld_ChannelsBounded (s : State) (n : Line) (hinv : ChannelsBounded s) : ChannelsBounded (s.beginHeld n) := by
  simp only [State.beginHeld]
  repeat' split
  all_goals (try (with_reducible repeat (first | assumption | apply State.modTx_ChannelsBounded | apply State.suspendRx_ChannelsBounded | apply State.modLine_ChannelsBounded | apply State.modSched_ChannelsBounded | apply State.modAsm_ChannelsBounded)))
  all_goals (intro _; first | rfl | (simp only [Sched.track]; split <;> rfl))

theorem State.takeOrWithdraw_ChannelsBounded (s : State) (n : Line) (hinv : ChannelsBounded s) : ChannelsBounded (s.takeOrWithdraw n) := by
  simp only [State.takeOrWithdraw]
  repeat' split
  all_goals (try (with_reducible repeat (first | assumption | apply State.chosen_ChannelsBounded | apply State.beginHeld_ChannelsBounded | apply State.modLine_ChannelsBounded | apply State.modSched_ChannelsBounded | apply State.modAsm_ChannelsBounded)))
  all_goals (intro _; first | rfl | (simp only [Sched.track]; split <;> rfl))

theorem State.takenOff_ChannelsBounded (s : State) (n : Line) (hinv : ChannelsBounded s) : ChannelsBounded (s.takenOff n) := by
  simp only [State.takenOff]
  repeat' split
  all_goals (try (with_reducible repeat (first | assumption | apply State.modTx_ChannelsBounded | apply State.takeOrWithdraw_ChannelsBounded | apply State.putBack_ChannelsBounded | apply State.modLine_ChannelsBounded | apply State.modSched_ChannelsBounded | apply State.modAsm_ChannelsBounded)))
  all_goals (intro _; first | rfl | (simp only [Sched.track]; split <;> rfl))

theorem State.leftHunt_ChannelsBounded (s : State) (n : Line) (hinv : ChannelsBounded s) : ChannelsBounded (s.leftHunt n) := by
  simp only [State.leftHunt]
  repeat' split
  all_goals (try (with_reducible repeat (first | assumption | apply State.turnWait_ChannelsBounded | apply State.takenOff_ChannelsBounded | apply State.modLine_ChannelsBounded | apply State.modSched_ChannelsBounded | apply State.modAsm_ChannelsBounded)))
  all_goals (intro _; first | rfl | (simp only [Sched.track]; split <;> rfl))

theorem State.returnToHunt_ChannelsBounded (s : State) (n : Line) (hinv : ChannelsBounded s) : ChannelsBounded (s.returnToHunt n) := by
  simp only [State.returnToHunt]
  repeat' split
  all_goals (try (with_reducible repeat (first | assumption | apply State.turnReview_ChannelsBounded | apply State.modLine_ChannelsBounded | apply State.modSched_ChannelsBounded | apply State.modAsm_ChannelsBounded)))
  all_goals (intro _; first | rfl | (simp only [Sched.track]; split <;> rfl))

theorem State.lineOverrun_ChannelsBounded (s : State) (n : Line) (r : RecIx) (hinv : ChannelsBounded s) : ChannelsBounded (s.lineOverrun n r) := by
  simp only [State.lineOverrun]
  repeat' split
  all_goals (try (with_reducible repeat (first | assumption | apply State.modRecord_ChannelsBounded | apply State.post_ChannelsBounded | apply State.modLine_ChannelsBounded | apply State.modSched_ChannelsBounded | apply State.modAsm_ChannelsBounded)))
  all_goals (intro _; first | rfl | (simp only [Sched.track]; split <;> rfl))

theorem State.appendChar_ChannelsBounded (s : State) (r : RecIx) (c : Code) (hinv : ChannelsBounded s) : ChannelsBounded (s.appendChar r c) := by
  simp only [State.appendChar]
  repeat' split
  all_goals (try (with_reducible repeat (first | assumption | apply State.writeChar_ChannelsBounded | apply State.modRecord_ChannelsBounded | apply State.textChanged_ChannelsBounded | apply State.modLine_ChannelsBounded | apply State.modSched_ChannelsBounded | apply State.modAsm_ChannelsBounded)))
  all_goals (intro _; first | rfl | (simp only [Sched.track]; split <;> rfl))

theorem State.storeChar_ChannelsBounded (s : State) (n : Line) (r : RecIx) (c : Code) (h : ChannelsBounded s) : ChannelsBounded (s.storeChar n r c) := by
  simp only [State.storeChar]
  repeat' split
  · exact h
  · rename_i t e; exact State.appendChar_ChannelsBounded _ _ _ (State.allocateBlock_ChannelsBounded s t r e h)
  · exact State.lineOverrun_ChannelsBounded _ _ _ h
  · exact State.appendChar_ChannelsBounded _ _ _ h

theorem State.defaultHeading_ChannelsBounded (s : State) (r : RecIx) (hinv : ChannelsBounded s) : ChannelsBounded (s.defaultHeading r) := by
  simp only [State.defaultHeading]
  repeat' split
  all_goals (try (with_reducible repeat (first | assumption | apply State.modRecord_ChannelsBounded | apply State.modLine_ChannelsBounded | apply State.modSched_ChannelsBounded | apply State.modAsm_ChannelsBounded)))
  all_goals (intro _; first | rfl | (simp only [Sched.track]; split <;> rfl))

theorem State.fillTable_ChannelsBounded (s : State) (n : Line) (r : RecIx) (stations : List StationCode) (hinv : ChannelsBounded s) : ChannelsBounded (s.fillTable n r stations) := by
  simp only [State.fillTable]
  repeat' split
  all_goals (try (with_reducible repeat (first | assumption | apply State.modRecord_ChannelsBounded | apply State.modLine_ChannelsBounded | apply State.modSched_ChannelsBounded | apply State.modAsm_ChannelsBounded)))
  all_goals (intro _; first | rfl | (simp only [Sched.track]; split <;> rfl))

theorem State.headingEnds_ChannelsBounded (s : State) (n : Line) (r : RecIx) (stations : List StationCode) (hinv : ChannelsBounded s) : ChannelsBounded (s.headingEnds n r stations) := by
  simp only [State.headingEnds]
  repeat' split
  all_goals (try (with_reducible repeat (first | assumption | apply State.fillTable_ChannelsBounded | apply State.dispatchRecord_ChannelsBounded | apply State.modLine_ChannelsBounded | apply State.modSched_ChannelsBounded | apply State.modAsm_ChannelsBounded)))
  all_goals (intro _; first | rfl | (simp only [Sched.track]; split <;> rfl))

/-- The heading parse leaves the expectation alone. -/
theorem Assembler.parseLimited_expectation (a b : Assembler) (h : Handed) (d : Bool)
    (e : a.parseLimited h = .going b d) : b.expectation = a.expectation := by
  have hp : a.parse h = .going b d → b.expectation = a.expectation := by
    intro e
    unfold Assembler.parse Assembler.codeDone at e
    repeat' split at e
    all_goals first
      | (cases e; done)
      | (injection e with e1 e2; subst e1; first | rfl | (split <;> rfl))
  unfold Assembler.parseLimited at e
  split at e
  · rename_i a' d' e'
    split at e
    · cases e
    · cases e; exact hp e'
  · cases e
  · cases e

theorem State.takeHeading_ChannelsBounded (s : State) (n : Line) (r : RecIx) (h : Handed) (hinv : ChannelsBounded s) : ChannelsBounded (s.takeHeading n r h) := by
  simp only [State.takeHeading]
  have h1 : ChannelsBounded ((s.storeChar n r h.code).modAsm n fun a => { a with headingChars := a.headingChars + 1 }) :=
    State.modAsm_ChannelsBounded _ _ _ (State.storeChar_ChannelsBounded _ _ _ _ hinv) (fun _ => rfl)
  generalize (s.storeChar n r h.code).modAsm n (fun a => { a with headingChars := a.headingChars + 1 }) = u at h1
  split
  · rename_i a d e
    have h2 : ChannelsBounded (u.modAsm n fun _ => a) :=
      .modLine _ n _ h1 (h1 n).1 (fun x hx => (h1 n).2 x (by rw [← Assembler.parseLimited_expectation _ _ _ _ e]; exact hx))
    split
    · exact State.defaultHeading_ChannelsBounded _ _ h2
    · exact h2
  · apply State.headingEnds_ChannelsBounded
    split
    · exact State.defaultHeading_ChannelsBounded _ _ h1
    · exact h1
  · exact State.headingEnds_ChannelsBounded _ _ _ _ h1

theorem State.takeDesignator_ChannelsBounded (s : State) (n : Line) (r : RecIx) (h : Handed) (hinv : ChannelsBounded s) : ChannelsBounded (s.takeDesignator n r h) := by
  simp only [State.takeDesignator]
  repeat' split
  all_goals (try (with_reducible repeat (first | assumption | apply State.modRecord_ChannelsBounded | apply State.storeChar_ChannelsBounded | apply State.modLine_ChannelsBounded | apply State.modSched_ChannelsBounded | apply State.modAsm_ChannelsBounded)))
  all_goals (intro _; first | rfl | (simp only [Sched.track]; split <;> rfl))

theorem State.checkChannel_ChannelsBounded (s : State) (n : Line) (r : RecIx) (k : Nat) (h : ChannelsBounded s) : ChannelsBounded (s.checkChannel n r k) := by
  have h1 : ChannelsBounded ((s.modRecord r fun rec => { rec with inbound := some k }).modAsm n fun a =>
      { a with expectation := some (nextChannel k) }) :=
    .modLine _ n _ (State.modRecord_ChannelsBounded _ _ _ h) (h n).1
      (fun e he => by simp only [Option.some.injEq] at he; subst he; exact nextChannel_bounds k)
  simp only [State.checkChannel]
  repeat' split
  · exact h1
  · exact h1
  · exact State.post_ChannelsBounded _ _ (State.modRecord_ChannelsBounded _ _ _ h1)

theorem State.takeGroup_ChannelsBounded (s : State) (n : Line) (r : RecIx) (h : Handed) (hinv : ChannelsBounded s) : ChannelsBounded (s.takeGroup n r h) := by
  simp only [State.takeGroup]
  repeat' split
  · exact State.takeDesignator_ChannelsBounded _ _ _ _ (State.modAsm_ChannelsBounded _ _ _ (State.defaultHeading_ChannelsBounded _ _ hinv) (fun _ => rfl))
  · exact State.modAsm_ChannelsBounded _ _ _ hinv (fun _ => rfl)
  · exact State.checkChannel_ChannelsBounded _ _ _ _ (State.modAsm_ChannelsBounded _ _ _ hinv (fun _ => rfl))
  · exact State.defaultHeading_ChannelsBounded _ _ (State.modAsm_ChannelsBounded _ _ _ hinv (fun _ => rfl))

theorem State.completeRecord_ChannelsBounded (s : State) (r : RecIx) (truncated : Bool) (hinv : ChannelsBounded s) : ChannelsBounded (s.completeRecord r truncated) := by
  simp only [State.completeRecord]
  repeat' split
  all_goals (try (with_reducible repeat (first | assumption | apply State.tryFree_ChannelsBounded | apply State.modRecord_ChannelsBounded | apply State.textChanged_ChannelsBounded | apply State.modLine_ChannelsBounded | apply State.modSched_ChannelsBounded | apply State.modAsm_ChannelsBounded)))
  all_goals (intro _; first | rfl | (simp only [Sched.track]; split <;> rfl))

theorem State.dispatchAtClose_ChannelsBounded (s : State) (r : RecIx) (filled : Bool) (hinv : ChannelsBounded s) : ChannelsBounded (s.dispatchAtClose r filled) := by
  simp only [State.dispatchAtClose]
  repeat' split
  all_goals (try (with_reducible repeat (first | assumption | apply State.dispatchRecord_ChannelsBounded | apply State.modLine_ChannelsBounded | apply State.modSched_ChannelsBounded | apply State.modAsm_ChannelsBounded)))
  all_goals (intro _; first | rfl | (simp only [Sched.track]; split <;> rfl))

theorem State.malformedAtClose_ChannelsBounded (s : State) (n : Line) (r : RecIx) (hinv : ChannelsBounded s) : ChannelsBounded (s.malformedAtClose n r) := by
  simp only [State.malformedAtClose]
  repeat' split
  all_goals (try (with_reducible repeat (first | assumption | apply State.fillTable_ChannelsBounded | apply State.modLine_ChannelsBounded | apply State.modSched_ChannelsBounded | apply State.modAsm_ChannelsBounded)))
  all_goals (intro _; first | rfl | (simp only [Sched.track]; split <;> rfl))

theorem State.closeByRun_ChannelsBounded (s : State) (n : Line) (r : RecIx) (hinv : ChannelsBounded s) : ChannelsBounded (s.closeByRun n r) := by
  simp only [State.closeByRun]
  repeat' split
  all_goals (try (with_reducible repeat (first | assumption | apply State.malformedAtClose_ChannelsBounded | apply State.completeRecord_ChannelsBounded | apply State.dispatchAtClose_ChannelsBounded | apply State.returnToHunt_ChannelsBounded | apply State.freeRecord_ChannelsBounded | apply State.modLine_ChannelsBounded | apply State.modSched_ChannelsBounded | apply State.modAsm_ChannelsBounded)))
  all_goals (intro _; first | rfl | (simp only [Sched.track]; split <;> rfl))

theorem State.closeTruncated_ChannelsBounded (s : State) (n : Line) (r : RecIx) (cause : TruncateCause) (hinv : ChannelsBounded s) : ChannelsBounded (s.closeTruncated n r cause) := by
  simp only [State.closeTruncated]
  repeat' split
  all_goals (try (with_reducible repeat (first | assumption | apply State.malformedAtClose_ChannelsBounded | apply State.completeRecord_ChannelsBounded | apply State.post_ChannelsBounded | apply State.dispatchAtClose_ChannelsBounded | apply State.returnToHunt_ChannelsBounded | apply State.freeRecord_ChannelsBounded | apply State.modLine_ChannelsBounded | apply State.modSched_ChannelsBounded | apply State.modAsm_ChannelsBounded)))
  all_goals (intro _; first | rfl | (simp only [Sched.track]; split <;> rfl))

theorem State.takeOrdinary_ChannelsBounded (s : State) (n : Line) (r : RecIx) (h : Handed) (hinv : ChannelsBounded s) : ChannelsBounded (s.takeOrdinary n r h) := by
  simp only [State.takeOrdinary]
  repeat' split
  all_goals (try (with_reducible repeat (first | assumption | apply State.takeGroup_ChannelsBounded | apply State.takeDesignator_ChannelsBounded | apply State.takeHeading_ChannelsBounded | apply State.storeChar_ChannelsBounded | apply State.modLine_ChannelsBounded | apply State.modSched_ChannelsBounded | apply State.modAsm_ChannelsBounded)))
  all_goals (intro _; first | rfl | (simp only [Sched.track]; split <;> rfl))

theorem State.takeAll_ChannelsBounded (s : State) (n : Line) (r : RecIx) (l : List Handed) (hinv : ChannelsBounded s) : ChannelsBounded (State.takeAll s n r l) := by
  induction l generalizing s with
  | nil => exact hinv
  | cons x xs ih =>
    simp only [State.takeAll]
    repeat' split
    all_goals (try (with_reducible repeat (first | assumption | apply State.takeOrdinary_ChannelsBounded | apply ih | apply State.modLine_ChannelsBounded | apply State.modSched_ChannelsBounded | apply State.modAsm_ChannelsBounded)))
    all_goals (intro _; first | rfl | (simp only [Sched.track]; split <;> rfl))

theorem State.restartSilence_ChannelsBounded (s : State) (n : Line) (hinv : ChannelsBounded s) : ChannelsBounded (s.restartSilence n) := by
  simp only [State.restartSilence]
  repeat' split
  all_goals (try (with_reducible repeat (first | assumption | apply State.modLine_ChannelsBounded | apply State.modSched_ChannelsBounded | apply State.modAsm_ChannelsBounded)))
  all_goals (intro _; first | rfl | (simp only [Sched.track]; split <;> rfl))

theorem State.messageChar_ChannelsBounded (s : State) (n : Line) (r : RecIx) (h : Handed) (hinv : ChannelsBounded s) : ChannelsBounded (s.messageChar n r h) := by
  simp only [State.messageChar]
  repeat' split
  all_goals (try (with_reducible repeat (first | assumption | apply State.takeGroup_ChannelsBounded | apply State.closeByRun_ChannelsBounded | apply State.takeAll_ChannelsBounded | apply State.modLine_ChannelsBounded | apply State.modSched_ChannelsBounded | apply State.modAsm_ChannelsBounded)))
  all_goals (intro _; first | rfl | (simp only [Sched.track]; split <;> rfl))

theorem State.countFraming_ChannelsBounded (s : State) (r : RecIx) (framing : Bool) (hinv : ChannelsBounded s) : ChannelsBounded (s.countFraming r framing) := by
  simp only [State.countFraming]
  repeat' split
  all_goals (try (with_reducible repeat (first | assumption | apply State.modRecord_ChannelsBounded | apply State.modLine_ChannelsBounded | apply State.modSched_ChannelsBounded | apply State.modAsm_ChannelsBounded)))
  all_goals (intro _; first | rfl | (simp only [Sched.track]; split <;> rfl))

theorem State.openMessage_ChannelsBounded (s : State) (n : Line) (r : RecIx) (hinv : ChannelsBounded s) : ChannelsBounded (s.openMessage n r) := by
  simp only [State.openMessage]
  repeat' split
  all_goals (try (with_reducible repeat (first | assumption | apply State.leftHunt_ChannelsBounded | apply State.modRecord_ChannelsBounded | apply State.modLine_ChannelsBounded | apply State.modSched_ChannelsBounded | apply State.modAsm_ChannelsBounded)))
  all_goals (intro _; first | rfl | (simp only [Sched.track]; split <;> rfl))

theorem State.loseMessage_ChannelsBounded (s : State) (n : Line) (hinv : ChannelsBounded s) : ChannelsBounded (s.loseMessage n) := by
  simp only [State.loseMessage]
  repeat' split
  all_goals (try (with_reducible repeat (first | assumption | apply State.leftHunt_ChannelsBounded | apply State.post_ChannelsBounded | apply State.modLine_ChannelsBounded | apply State.modSched_ChannelsBounded | apply State.modAsm_ChannelsBounded)))
  all_goals (intro _; first | rfl | (simp only [Sched.track]; split <;> rfl))

theorem State.openingRunDone_ChannelsBounded (s : State) (n : Line) (hinv : ChannelsBounded s) : ChannelsBounded (s.openingRunDone n) := by
  simp only [State.openingRunDone]
  repeat' split
  all_goals (try (with_reducible repeat (first | assumption | apply State.openMessage_ChannelsBounded | apply State.loseMessage_ChannelsBounded | apply State.modLine_ChannelsBounded | apply State.modSched_ChannelsBounded | apply State.modAsm_ChannelsBounded)))
  all_goals (intro _; first | rfl | (simp only [Sched.track]; split <;> rfl))

theorem State.huntChar_ChannelsBounded (s : State) (n : Line) (h : Handed) (hinv : ChannelsBounded s) : ChannelsBounded (s.huntChar n h) := by
  simp only [State.huntChar]
  repeat' split
  all_goals (try (with_reducible repeat (first | assumption | apply State.openingRunDone_ChannelsBounded | apply State.modLine_ChannelsBounded | apply State.modSched_ChannelsBounded | apply State.modAsm_ChannelsBounded)))
  all_goals (intro _; first | rfl | (simp only [Sched.track]; split <;> rfl))

theorem State.discardChar_ChannelsBounded (s : State) (n : Line) (h : Handed) (hinv : ChannelsBounded s) : ChannelsBounded (s.discardChar n h) := by
  simp only [State.discardChar]
  repeat' split
  all_goals (try (with_reducible repeat (first | assumption | apply State.returnToHunt_ChannelsBounded | apply State.modLine_ChannelsBounded | apply State.modSched_ChannelsBounded | apply State.modAsm_ChannelsBounded)))
  all_goals (intro _; first | rfl | (simp only [Sched.track]; split <;> rfl))

theorem State.handOverChar_ChannelsBounded (s : State) (n : Line) (h : Handed) (framing : Bool) (hinv : ChannelsBounded s) : ChannelsBounded (s.handOverChar n h framing) := by
  simp only [State.handOverChar]
  repeat' split
  all_goals (try (with_reducible repeat (first | assumption | apply State.huntChar_ChannelsBounded | apply State.discardChar_ChannelsBounded | apply State.countFraming_ChannelsBounded | apply State.messageChar_ChannelsBounded | apply State.restartSilence_ChannelsBounded | apply State.modLine_ChannelsBounded | apply State.modSched_ChannelsBounded | apply State.modAsm_ChannelsBounded)))
  all_goals (intro _; first | rfl | (simp only [Sched.track]; split <;> rfl))

theorem State.asmLineOpen_ChannelsBounded (s : State) (n : Line) (hinv : ChannelsBounded s) : ChannelsBounded (s.asmLineOpen n) := by
  simp only [State.asmLineOpen]
  repeat' split
  all_goals (try (with_reducible repeat (first | assumption | apply State.returnToHunt_ChannelsBounded | apply State.closeTruncated_ChannelsBounded | apply State.modLine_ChannelsBounded | apply State.modSched_ChannelsBounded | apply State.modAsm_ChannelsBounded)))
  all_goals (intro _; first | rfl | (simp only [Sched.track]; split <;> rfl))

theorem State.modCond_ChannelsBounded (s : State) (n : Line) (pin : LoopPin) (f : Cond → Cond) (h : ChannelsBounded s) : ChannelsBounded (s.modCond n pin f) := by
  cases pin <;> exact State.modLine_ChannelsBounded _ _ _ h (fun _ => rfl) (fun _ => rfl)

theorem State.setPin_ChannelsBounded (s : State) (n : Line) (pin : LoopPin) (level : Level) (h : ChannelsBounded s) : ChannelsBounded (s.setPin n pin level) := by
  cases pin <;> exact State.modLine_ChannelsBounded _ _ _ h (fun _ => rfl) (fun _ => rfl)

theorem State.readPin_ChannelsBounded (s : State) (n : Line) (pin : LoopPin) (level : Level) (hinv : ChannelsBounded s) : ChannelsBounded (s.readPin n pin level) := by
  simp only [State.readPin]
  repeat' split
  all_goals (try (with_reducible repeat (first | assumption | apply State.setPin_ChannelsBounded | apply State.modCond_ChannelsBounded | apply State.turnReview_ChannelsBounded | apply State.modLine_ChannelsBounded | apply State.modSched_ChannelsBounded | apply State.modAsm_ChannelsBounded)))
  all_goals (intro _; first | rfl | (simp only [Sched.track]; split <;> rfl))

theorem State.setRxCase_ChannelsBounded (s : State) (n : Line) (c : Case) (hinv : ChannelsBounded s) : ChannelsBounded (s.setRxCase n c) := by
  simp only [State.setRxCase]
  repeat' split
  all_goals (try (with_reducible repeat (first | assumption | apply State.modLine_ChannelsBounded | apply State.modSched_ChannelsBounded | apply State.modAsm_ChannelsBounded)))
  all_goals (intro _; first | rfl | (simp only [Sched.track]; split <;> rfl))

theorem State.resumeRx_ChannelsBounded (s : State) (n : Line) (hinv : ChannelsBounded s) : ChannelsBounded (s.resumeRx n) := by
  simp only [State.resumeRx]
  repeat' split
  all_goals (try (with_reducible repeat (first | assumption | apply State.setRxCase_ChannelsBounded | apply State.setRx_ChannelsBounded | apply State.modLine_ChannelsBounded | apply State.modSched_ChannelsBounded | apply State.modAsm_ChannelsBounded)))
  all_goals (intro _; first | rfl | (simp only [Sched.track]; split <;> rfl))

theorem State.abandonTx_ChannelsBounded (s : State) (n : Line) (hinv : ChannelsBounded s) : ChannelsBounded (s.abandonTx n) := by
  simp only [State.abandonTx]
  repeat' split
  all_goals (try (with_reducible repeat (first | assumption | apply State.modTx_ChannelsBounded | apply State.resumeRx_ChannelsBounded | apply State.modLine_ChannelsBounded | apply State.modSched_ChannelsBounded | apply State.modAsm_ChannelsBounded)))
  all_goals (intro _; first | rfl | (simp only [Sched.track]; split <;> rfl))

theorem State.receiveLost_ChannelsBounded (s : State) (n : Line) (hinv : ChannelsBounded s) : ChannelsBounded (s.receiveLost n) := by
  simp only [State.receiveLost]
  repeat' split
  all_goals (try (with_reducible repeat (first | assumption | apply State.setRx_ChannelsBounded | apply State.asmLineOpen_ChannelsBounded | apply State.modLine_ChannelsBounded | apply State.modSched_ChannelsBounded | apply State.modAsm_ChannelsBounded)))
  all_goals (intro _; first | rfl | (simp only [Sched.track]; split <;> rfl))

theorem State.sendLost_ChannelsBounded (s : State) (n : Line) (hinv : ChannelsBounded s) : ChannelsBounded (s.sendLost n) := by
  simp only [State.sendLost]
  repeat' split
  all_goals (try (with_reducible repeat (first | assumption | apply State.abandonTx_ChannelsBounded | apply State.putBack_ChannelsBounded | apply State.modLine_ChannelsBounded | apply State.modSched_ChannelsBounded | apply State.modAsm_ChannelsBounded)))
  all_goals (intro _; first | rfl | (simp only [Sched.track]; split <;> rfl))

theorem State.spacingEnds_ChannelsBounded (s : State) (n : Line) (pin : LoopPin) (hinv : ChannelsBounded s) : ChannelsBounded (s.spacingEnds n pin) := by
  simp only [State.spacingEnds]
  repeat' split
  all_goals (try (with_reducible repeat (first | assumption | apply State.modCond_ChannelsBounded | apply State.modLine_ChannelsBounded | apply State.modSched_ChannelsBounded | apply State.modAsm_ChannelsBounded)))
  all_goals (intro _; first | rfl | (simp only [Sched.track]; split <;> rfl))

theorem State.condOpens_ChannelsBounded (s : State) (n : Line) (pin : LoopPin) (hinv : ChannelsBounded s) : ChannelsBounded (s.condOpens n pin) := by
  simp only [State.condOpens]
  repeat' split
  all_goals (try (with_reducible repeat (first | assumption | apply State.modCond_ChannelsBounded | apply State.receiveLost_ChannelsBounded | apply State.sendLost_ChannelsBounded | apply State.turnWait_ChannelsBounded | apply State.modLine_ChannelsBounded | apply State.modSched_ChannelsBounded | apply State.modAsm_ChannelsBounded)))
  all_goals (intro _; first | rfl | (simp only [Sched.track]; split <;> rfl))

theorem State.condCloses_ChannelsBounded (s : State) (n : Line) (pin : LoopPin) (hinv : ChannelsBounded s) : ChannelsBounded (s.condCloses n pin) := by
  simp only [State.condCloses]
  repeat' split
  all_goals (try (with_reducible repeat (first | assumption | apply State.modCond_ChannelsBounded | apply State.setRx_ChannelsBounded | apply State.post_ChannelsBounded | apply State.turnReview_ChannelsBounded | apply State.choose_ChannelsBounded | apply State.modLine_ChannelsBounded | apply State.modSched_ChannelsBounded | apply State.modAsm_ChannelsBounded)))
  all_goals (intro _; first | rfl | (simp only [Sched.track]; split <;> rfl))

theorem State.release_ChannelsBounded (s : State) (l : List CopyRef) (hinv : ChannelsBounded s) : ChannelsBounded (State.release s l) := by
  induction l generalizing s with
  | nil => exact hinv
  | cons x xs ih =>
    simp only [State.release]
    repeat' split
    all_goals (try (with_reducible repeat (first | assumption | apply State.modCopy_ChannelsBounded | apply ih | apply State.modLine_ChannelsBounded | apply State.modSched_ChannelsBounded | apply State.modAsm_ChannelsBounded)))
    all_goals (intro _; first | rfl | (simp only [Sched.track]; split <;> rfl))

theorem State.releaseAndDispatch_ChannelsBounded (s : State) (ref : CopyRef) (hinv : ChannelsBounded s) : ChannelsBounded (s.releaseAndDispatch ref) := by
  simp only [State.releaseAndDispatch]
  repeat' split
  all_goals (try (with_reducible repeat (first | assumption | apply State.release_ChannelsBounded | apply State.dispatchAll_ChannelsBounded | apply State.modLine_ChannelsBounded | apply State.modSched_ChannelsBounded | apply State.modAsm_ChannelsBounded)))
  all_goals (intro _; first | rfl | (simp only [Sched.track]; split <;> rfl))

theorem State.releaseAll_ChannelsBounded (s : State) (l : List CopyRef) (hinv : ChannelsBounded s) : ChannelsBounded (State.releaseAll s l) := by
  induction l generalizing s with
  | nil => exact hinv
  | cons x xs ih =>
    simp only [State.releaseAll]
    repeat' split
    all_goals (try (with_reducible repeat (first | assumption | apply State.releaseAndDispatch_ChannelsBounded | apply ih | apply State.modLine_ChannelsBounded | apply State.modSched_ChannelsBounded | apply State.modAsm_ChannelsBounded)))
    all_goals (intro _; first | rfl | (simp only [Sched.track]; split <;> rfl))

theorem State.lineFails_ChannelsBounded (s : State) (n : Line) (pin : LoopPin) (hinv : ChannelsBounded s) : ChannelsBounded (s.lineFails n pin) := by
  simp only [State.lineFails]
  repeat' split
  all_goals (try (with_reducible repeat (first | assumption | apply State.modMotor_ChannelsBounded | apply State.post_ChannelsBounded | apply State.releaseAll_ChannelsBounded | apply State.modLine_ChannelsBounded | apply State.modSched_ChannelsBounded | apply State.modAsm_ChannelsBounded)))
  all_goals (intro _; first | rfl | (simp only [Sched.track]; split <;> rfl))

theorem State.condFails_ChannelsBounded (s : State) (n : Line) (pin : LoopPin) (hinv : ChannelsBounded s) : ChannelsBounded (s.condFails n pin) := by
  simp only [State.condFails]
  repeat' split
  all_goals (try (with_reducible repeat (first | assumption | apply State.modCond_ChannelsBounded | apply State.receiveLost_ChannelsBounded | apply State.sendLost_ChannelsBounded | apply State.lineFails_ChannelsBounded | apply State.post_ChannelsBounded | apply State.modLine_ChannelsBounded | apply State.modSched_ChannelsBounded | apply State.modAsm_ChannelsBounded)))
  all_goals (intro _; first | rfl | (simp only [Sched.track]; split <;> rfl))

theorem State.enterRunning_ChannelsBounded (s : State) (cfg : Cfg) (busy : Bool) : ChannelsBounded (s.enterRunning cfg busy) := by
  intro n
  simp [State.enterRunning, State.line, LineUnit.entering, LineUnit.held, Sched.initial, Assembler.initial]

theorem State.ownRestart_ChannelsBounded (s : State) (h : ChannelsBounded s) : ChannelsBounded s.ownRestart := by
  unfold State.ownRestart
  apply State.refreshTenure_ChannelsBounded
  apply State.modPort_ChannelsBounded
  exact State.warmRestart_ChannelsBounded s s.boot.slot false h

theorem State.endChar_ChannelsBounded (s : State) (n : Line) (code : Code) (framing : Bool) (hinv : ChannelsBounded s) : ChannelsBounded (s.endChar n code framing) := by
  simp only [State.endChar]
  repeat' split
  all_goals (try (with_reducible repeat (first | assumption | apply State.readPin_ChannelsBounded | apply State.setRxCase_ChannelsBounded | apply State.setRx_ChannelsBounded | apply State.handOverChar_ChannelsBounded | apply State.modLine_ChannelsBounded | apply State.modSched_ChannelsBounded | apply State.modAsm_ChannelsBounded)))
  all_goals (intro _; first | rfl | (simp only [Sched.track]; split <;> rfl))

theorem State.silenceEnds_ChannelsBounded (s : State) (n : Line) (hinv : ChannelsBounded s) : ChannelsBounded (s.silenceEnds n) := by
  simp only [State.silenceEnds]
  repeat' split
  all_goals (try (with_reducible repeat (first | assumption | apply State.closeTruncated_ChannelsBounded | apply State.modLine_ChannelsBounded | apply State.modSched_ChannelsBounded | apply State.modAsm_ChannelsBounded)))
  all_goals (intro _; first | rfl | (simp only [Sched.track]; split <;> rfl))

theorem State.beginFill_ChannelsBounded (s : State) (n : Line) (hinv : ChannelsBounded s) : ChannelsBounded (s.beginFill n) := by
  simp only [State.beginFill]
  repeat' split
  all_goals (try (with_reducible repeat (first | assumption | apply State.modTx_ChannelsBounded | apply State.suspendRx_ChannelsBounded | apply State.modLine_ChannelsBounded | apply State.modSched_ChannelsBounded | apply State.modAsm_ChannelsBounded)))
  all_goals (intro _; first | rfl | (simp only [Sched.track]; split <;> rfl))

theorem State.finishChar_ChannelsBounded (s : State) (n : Line) (c : TxChar) (hinv : ChannelsBounded s) : ChannelsBounded (s.finishChar n c) := by
  simp only [State.finishChar]
  repeat' split
  all_goals (try (with_reducible repeat (first | assumption | apply State.modTx_ChannelsBounded | apply State.resumeRx_ChannelsBounded | apply State.modLine_ChannelsBounded | apply State.modSched_ChannelsBounded | apply State.modAsm_ChannelsBounded)))
  all_goals (intro _; first | rfl | (simp only [Sched.track]; split <;> rfl))

theorem State.shiftTakes_ChannelsBounded (s : State) (n : Line) (hinv : ChannelsBounded s) : ChannelsBounded (s.shiftTakes n) := by
  simp only [State.shiftTakes]
  repeat' split
  all_goals (try (with_reducible repeat (first | assumption | apply State.beginHeld_ChannelsBounded | apply State.beginFill_ChannelsBounded | apply State.modLine_ChannelsBounded | apply State.modSched_ChannelsBounded | apply State.modAsm_ChannelsBounded)))
  all_goals (intro _; first | rfl | (simp only [Sched.track]; split <;> rfl))

theorem State.shiftFollows_ChannelsBounded (s : State) (n : Line) (held : Option TxChar) (hinv : ChannelsBounded s) : ChannelsBounded (s.shiftFollows n held) := by
  simp only [State.shiftFollows]
  repeat' split
  all_goals (try (with_reducible repeat (first | assumption | apply State.shiftTakes_ChannelsBounded | apply State.modLine_ChannelsBounded | apply State.modSched_ChannelsBounded | apply State.modAsm_ChannelsBounded)))
  all_goals (intro _; first | rfl | (simp only [Sched.track]; split <;> rfl))

theorem State.reportFill_ChannelsBounded (s : State) (n : Line) (hinv : ChannelsBounded s) : ChannelsBounded (s.reportFill n) := by
  simp only [State.reportFill]
  repeat' split
  all_goals (try (with_reducible repeat (first | assumption | apply State.countFill_ChannelsBounded | apply State.modLine_ChannelsBounded | apply State.modSched_ChannelsBounded | apply State.modAsm_ChannelsBounded)))
  all_goals (intro _; first | rfl | (simp only [Sched.track]; split <;> rfl))

theorem State.round_ChannelsBounded (s : State) (rivals : List Nat) (hinv : ChannelsBounded s) : ChannelsBounded (s.round rivals) := by
  simp only [State.round]
  repeat' split
  all_goals (try (with_reducible repeat (first | assumption | apply State.drive_ChannelsBounded | apply State.modLine_ChannelsBounded | apply State.modSched_ChannelsBounded | apply State.modAsm_ChannelsBounded)))
  all_goals (intro _; first | rfl | (simp only [Sched.track]; split <;> rfl))

theorem State.undrive_ChannelsBounded (s : State) (hinv : ChannelsBounded s) : ChannelsBounded (s.undrive) := by
  simp only [State.undrive]
  repeat' split
  all_goals (try (with_reducible repeat (first | assumption | apply State.modPort_ChannelsBounded | apply State.modLine_ChannelsBounded | apply State.modSched_ChannelsBounded | apply State.modAsm_ChannelsBounded)))
  all_goals (intro _; first | rfl | (simp only [Sched.track]; split <;> rfl))

theorem State.offerReported_ChannelsBounded (s : State) (k : CtxIx) (hinv : ChannelsBounded s) : ChannelsBounded (s.offerReported k) := by
  simp only [State.offerReported]
  repeat' split
  all_goals (try (with_reducible repeat (first | assumption | apply State.setSend_ChannelsBounded | apply State.setCopyState_ChannelsBounded | apply State.modLine_ChannelsBounded | apply State.modSched_ChannelsBounded | apply State.modAsm_ChannelsBounded)))
  all_goals (intro _; first | rfl | (simp only [Sched.track]; split <;> rfl))

theorem State.claimReported_ChannelsBounded (s : State) (k : CtxIx) (hinv : ChannelsBounded s) : ChannelsBounded (s.claimReported k) := by
  simp only [State.claimReported]
  repeat' split
  all_goals (try (with_reducible repeat (first | assumption | apply State.modRecord_ChannelsBounded | apply State.unpledge_ChannelsBounded | apply State.setTake_ChannelsBounded | apply State.enqueueOrRefuse_ChannelsBounded | apply State.modLine_ChannelsBounded | apply State.modSched_ChannelsBounded | apply State.modAsm_ChannelsBounded)))
  all_goals (intro _; first | rfl | (simp only [Sched.track]; split <;> rfl))

theorem State.textReported_ChannelsBounded (s : State) (k : CtxIx) (d : Driven) (hinv : ChannelsBounded s) : ChannelsBounded (s.textReported k d) := by
  simp only [State.textReported]
  repeat' split
  all_goals (try (with_reducible repeat (first | assumption | apply State.lookNext_ChannelsBounded | apply State.modSend_ChannelsBounded | apply State.modPort_ChannelsBounded | apply State.modLine_ChannelsBounded | apply State.modSched_ChannelsBounded | apply State.modAsm_ChannelsBounded)))
  all_goals (intro _; first | rfl | (simp only [Sched.track]; split <;> rfl))

theorem State.closeReported_ChannelsBounded (s : State) (k : CtxIx) (hinv : ChannelsBounded s) : ChannelsBounded (s.closeReported k) := by
  simp only [State.closeReported]
  repeat' split
  all_goals (try (with_reducible repeat (first | assumption | apply State.setSend_ChannelsBounded | apply State.setCopyState_ChannelsBounded | apply State.modLine_ChannelsBounded | apply State.modSched_ChannelsBounded | apply State.modAsm_ChannelsBounded)))
  all_goals (intro _; first | rfl | (simp only [Sched.track]; split <;> rfl))

theorem State.answerReported_ChannelsBounded (s : State) (k : CtxIx) (hinv : ChannelsBounded s) : ChannelsBounded (s.answerReported k) := by
  simp only [State.answerReported]
  repeat' split
  all_goals (try (with_reducible repeat (first | assumption | apply State.freeTake_ChannelsBounded | apply State.addEnded_ChannelsBounded | apply State.modLine_ChannelsBounded | apply State.modSched_ChannelsBounded | apply State.modAsm_ChannelsBounded)))
  all_goals (intro _; first | rfl | (simp only [Sched.track]; split <;> rfl))

theorem State.dropAnswer_ChannelsBounded (s : State) (tag : Tag) (reason : Reason) (hinv : ChannelsBounded s) : ChannelsBounded (s.dropAnswer tag reason) := by
  simp only [State.dropAnswer]
  repeat' split
  all_goals (try (with_reducible repeat (first | assumption | apply State.modPort_ChannelsBounded | apply State.modLine_ChannelsBounded | apply State.modSched_ChannelsBounded | apply State.modAsm_ChannelsBounded)))
  all_goals (intro _; first | rfl | (simp only [Sched.track]; split <;> rfl))

theorem State.claim_ChannelsBounded (s : State) (k : CtxIx) (t : Take) (hinv : ChannelsBounded s) : ChannelsBounded (s.claim k t) := by
  simp only [State.claim]
  repeat' split
  all_goals (try (with_reducible repeat (first | assumption | apply State.setTake_ChannelsBounded | apply State.setReserved_ChannelsBounded | apply State.pledge_ChannelsBounded | apply State.askTake_ChannelsBounded | apply State.modLine_ChannelsBounded | apply State.modSched_ChannelsBounded | apply State.modAsm_ChannelsBounded)))
  all_goals (intro _; first | rfl | (simp only [Sched.track]; split <;> rfl))

theorem State.claimDecision_ChannelsBounded (s : State) (tag : Tag) (cls : Precedence) (station : StationCode) (length : Option Nat) (cpm attempt : Nat) (hinv : ChannelsBounded s) : ChannelsBounded (s.claimDecision tag cls station length cpm attempt) := by
  simp only [State.claimDecision]
  repeat' split
  all_goals (try (with_reducible repeat (first | assumption | apply State.claim_ChannelsBounded | apply State.modLine_ChannelsBounded | apply State.modSched_ChannelsBounded | apply State.modAsm_ChannelsBounded)))
  all_goals (intro _; first | rfl | (simp only [Sched.track]; split <;> rfl))

theorem State.weighLost_ChannelsBounded (s : State) (tag : Tag) (cls : Precedence) (attempt : Nat) (hinv : ChannelsBounded s) : ChannelsBounded (s.weighLost tag cls attempt) := by
  simp only [State.weighLost]
  repeat' split
  all_goals (try (with_reducible repeat (first | assumption | apply State.dropClaim_ChannelsBounded | apply State.endTakeRecord_ChannelsBounded | apply State.freeTake_ChannelsBounded | apply State.addAnswer_ChannelsBounded | apply State.addEnded_ChannelsBounded | apply State.modLine_ChannelsBounded | apply State.modSched_ChannelsBounded | apply State.modAsm_ChannelsBounded)))
  all_goals (intro _; first | rfl | (simp only [Sched.track]; split <;> rfl))

theorem State.weighOffer_ChannelsBounded (s : State) (tag : Tag) (cls : Precedence) (station : StationCode) (length : Option Nat) (cpm attempt : Nat) (hinv : ChannelsBounded s) : ChannelsBounded (s.weighOffer tag cls station length cpm attempt) := by
  simp only [State.weighOffer]
  repeat' split
  all_goals (try (with_reducible repeat (first | assumption | apply State.tellPlaces_ChannelsBounded | apply State.weighLost_ChannelsBounded | apply State.dropEnded_ChannelsBounded | apply State.claimDecision_ChannelsBounded | apply State.modLine_ChannelsBounded | apply State.modSched_ChannelsBounded | apply State.modAsm_ChannelsBounded)))
  all_goals (intro _; first | rfl | (simp only [Sched.track]; split <;> rfl))

theorem State.takeClaim_ChannelsBounded (s : State) (k : CtxIx) (c : Send) (claimant : Slot) (hinv : ChannelsBounded s) : ChannelsBounded (s.takeClaim k c claimant) := by
  simp only [State.takeClaim]
  repeat' split
  all_goals (try (with_reducible repeat (first | assumption | apply State.setSend_ChannelsBounded | apply State.setCopyState_ChannelsBounded | apply State.lookNext_ChannelsBounded | apply State.modLine_ChannelsBounded | apply State.modSched_ChannelsBounded | apply State.modAsm_ChannelsBounded)))
  all_goals (intro _; first | rfl | (simp only [Sched.track]; split <;> rfl))

theorem State.judgeClaim_ChannelsBounded (s : State) (tag : Tag) (claimant : Slot) (hinv : ChannelsBounded s) : ChannelsBounded (s.judgeClaim tag claimant) := by
  simp only [State.judgeClaim]
  repeat' split
  all_goals (try (with_reducible repeat (first | assumption | apply State.addAnswer_ChannelsBounded | apply State.takeClaim_ChannelsBounded | apply State.modLine_ChannelsBounded | apply State.modSched_ChannelsBounded | apply State.modAsm_ChannelsBounded)))
  all_goals (intro _; first | rfl | (simp only [Sched.track]; split <;> rfl))

theorem State.hearRival_ChannelsBounded (s : State) (tag : Tag) (hinv : ChannelsBounded s) : ChannelsBounded (s.hearRival tag) := by
  simp only [State.hearRival]
  repeat' split
  all_goals (try (with_reducible repeat (first | assumption | apply State.dropClaim_ChannelsBounded | apply State.modLine_ChannelsBounded | apply State.modSched_ChannelsBounded | apply State.modAsm_ChannelsBounded)))
  all_goals (intro _; first | rfl | (simp only [Sched.track]; split <;> rfl))

theorem State.appendBlock_ChannelsBounded (s : State) (r : RecIx) (chars : List Code) (hinv : ChannelsBounded s) : ChannelsBounded (s.appendBlock r chars) := by
  simp only [State.appendBlock]
  repeat' split
  all_goals (try (with_reducible repeat (first | assumption | apply State.writeChars_ChannelsBounded | apply State.modRecord_ChannelsBounded | apply State.textChanged_ChannelsBounded | apply State.modLine_ChannelsBounded | apply State.modSched_ChannelsBounded | apply State.modAsm_ChannelsBounded)))
  all_goals (intro _; first | rfl | (simp only [Sched.track]; split <;> rfl))

theorem State.takeOverrun_ChannelsBounded (s : State) (k : CtxIx) (r : RecIx) (t : Take) (hinv : ChannelsBounded s) : ChannelsBounded (s.takeOverrun k r t) := by
  simp only [State.takeOverrun]
  repeat' split
  all_goals (try (with_reducible repeat (first | assumption | apply State.modRecord_ChannelsBounded | apply State.modTake_ChannelsBounded | apply State.post_ChannelsBounded | apply State.modLine_ChannelsBounded | apply State.modSched_ChannelsBounded | apply State.modAsm_ChannelsBounded)))
  all_goals (intro _; first | rfl | (simp only [Sched.track]; split <;> rfl))

theorem State.storeBlock_ChannelsBounded (s : State) (k : CtxIx) (r : RecIx) (t : Take) (chars : List Code) (h : ChannelsBounded s) :
    ChannelsBounded (s.storeBlock k r t chars) := by
  simp only [State.storeBlock]
  repeat' split
  · exact h
  · rename_i u e; exact State.appendBlock_ChannelsBounded _ _ _ (State.relayedBlock_ChannelsBounded s u k r e h)
  · exact State.takeOverrun_ChannelsBounded _ _ _ _ h

theorem State.takeText_ChannelsBounded (s : State) (k : CtxIx) (t : Take) (sequence : Nat) (chars : List Code) (hinv : ChannelsBounded s) : ChannelsBounded (s.takeText k t sequence chars) := by
  simp only [State.takeText]
  repeat' split
  all_goals (try (with_reducible repeat (first | assumption | apply State.dropClaim_ChannelsBounded | apply State.storeBlock_ChannelsBounded | apply State.modTake_ChannelsBounded | apply State.abandonTake_ChannelsBounded | apply State.modLine_ChannelsBounded | apply State.modSched_ChannelsBounded | apply State.modAsm_ChannelsBounded)))
  all_goals (intro _; first | rfl | (simp only [Sched.track]; split <;> rfl))

theorem State.textEnded_ChannelsBounded (s : State) (tag : Tag) (hinv : ChannelsBounded s) : ChannelsBounded (s.textEnded tag) := by
  simp only [State.textEnded]
  repeat' split
  all_goals (try (with_reducible repeat (first | assumption | apply State.addAnswer_ChannelsBounded | apply State.modLine_ChannelsBounded | apply State.modSched_ChannelsBounded | apply State.modAsm_ChannelsBounded)))
  all_goals (intro _; first | rfl | (simp only [Sched.track]; split <;> rfl))

theorem State.hearText_ChannelsBounded (s : State) (tag : Tag) (sequence : Nat) (chars : List Code) (hinv : ChannelsBounded s) : ChannelsBounded (s.hearText tag sequence chars) := by
  simp only [State.hearText]
  repeat' split
  all_goals (try (with_reducible repeat (first | assumption | apply State.textEnded_ChannelsBounded | apply State.takeText_ChannelsBounded | apply State.modLine_ChannelsBounded | apply State.modSched_ChannelsBounded | apply State.modAsm_ChannelsBounded)))
  all_goals (intro _; first | rfl | (simp only [Sched.track]; split <;> rfl))

theorem State.enqueueAccepted_ChannelsBounded (s : State) (ref : CopyRef) (hinv : ChannelsBounded s) : ChannelsBounded (s.enqueueAccepted ref) := by
  simp only [State.enqueueAccepted]
  repeat' split
  all_goals (try (with_reducible repeat (first | assumption | apply State.enqueueOrRefuse_ChannelsBounded | apply State.modLine_ChannelsBounded | apply State.modSched_ChannelsBounded | apply State.modAsm_ChannelsBounded)))
  all_goals (intro _; first | rfl | (simp only [Sched.track]; split <;> rfl))

theorem State.acceptClose_ChannelsBounded (s : State) (k : CtxIx) (r : RecIx) (overrun truncated : Bool) (mutilated : Nat) (hinv : ChannelsBounded s) : ChannelsBounded (s.acceptClose k r overrun truncated mutilated) := by
  simp only [State.acceptClose]
  repeat' split
  all_goals (try (with_reducible repeat (first | assumption | apply State.answerClose_ChannelsBounded | apply State.modRecord_ChannelsBounded | apply State.textChanged_ChannelsBounded | apply State.releaseReservation_ChannelsBounded | apply State.enqueueAccepted_ChannelsBounded | apply State.askTake_ChannelsBounded | apply State.tryFree_ChannelsBounded | apply State.modLine_ChannelsBounded | apply State.modSched_ChannelsBounded | apply State.modAsm_ChannelsBounded)))
  all_goals (intro _; first | rfl | (simp only [Sched.track]; split <;> rfl))

theorem State.spoilClose_ChannelsBounded (s : State) (k : CtxIx) (t : Take) (hinv : ChannelsBounded s) : ChannelsBounded (s.spoilClose k t) := by
  simp only [State.spoilClose]
  repeat' split
  all_goals (try (with_reducible repeat (first | assumption | apply State.tellPlaces_ChannelsBounded | apply State.answerClose_ChannelsBounded | apply State.askTake_ChannelsBounded | apply State.spoiled_ChannelsBounded | apply State.endTakeRecord_ChannelsBounded | apply State.modLine_ChannelsBounded | apply State.modSched_ChannelsBounded | apply State.modAsm_ChannelsBounded)))
  all_goals (intro _; first | rfl | (simp only [Sched.track]; split <;> rfl))

theorem State.takeClose_ChannelsBounded (s : State) (k : CtxIx) (t : Take) (total check : Nat) (overrun truncated : Bool) (mutilated : Nat) (hinv : ChannelsBounded s) : ChannelsBounded (s.takeClose k t total check overrun truncated mutilated) := by
  simp only [State.takeClose]
  repeat' split
  all_goals (try (with_reducible repeat (first | assumption | apply State.dropClaim_ChannelsBounded | apply State.acceptClose_ChannelsBounded | apply State.spoilClose_ChannelsBounded | apply State.modLine_ChannelsBounded | apply State.modSched_ChannelsBounded | apply State.modAsm_ChannelsBounded)))
  all_goals (intro _; first | rfl | (simp only [Sched.track]; split <;> rfl))

theorem State.takerAbandons_ChannelsBounded (s : State) (k : CtxIx) (ref : CopyRef) (hinv : ChannelsBounded s) : ChannelsBounded (s.takerAbandons k ref) := by
  simp only [State.takerAbandons]
  repeat' split
  all_goals (try (with_reducible repeat (first | assumption | apply State.spoiled_ChannelsBounded | apply State.modLine_ChannelsBounded | apply State.modSched_ChannelsBounded | apply State.modAsm_ChannelsBounded)))
  all_goals (intro _; first | rfl | (simp only [Sched.track]; split <;> rfl))

theorem State.originAbandons_ChannelsBounded (s : State) (tag : Tag) (hinv : ChannelsBounded s) : ChannelsBounded (s.originAbandons tag) := by
  simp only [State.originAbandons]
  repeat' split
  all_goals (try (with_reducible repeat (first | assumption | apply State.dropClaim_ChannelsBounded | apply State.giveUpTake_ChannelsBounded | apply State.modLine_ChannelsBounded | apply State.modSched_ChannelsBounded | apply State.modAsm_ChannelsBounded)))
  all_goals (intro _; first | rfl | (simp only [Sched.track]; split <;> rfl))

theorem State.modSupTx_ChannelsBounded (s : State) (f : Tx → Tx) (hinv : ChannelsBounded s) : ChannelsBounded (s.modSupTx f) := by
  simp only [State.modSupTx]
  repeat' split
  all_goals (try (with_reducible repeat (first | assumption | apply State.modSup_ChannelsBounded | apply State.modLine_ChannelsBounded | apply State.modSched_ChannelsBounded | apply State.modAsm_ChannelsBounded)))
  all_goals (intro _; first | rfl | (simp only [Sched.track]; split <;> rfl))

theorem State.supFollows_ChannelsBounded (s : State) (held : Option TxChar) (hinv : ChannelsBounded s) : ChannelsBounded (s.supFollows held) := by
  simp only [State.supFollows]
  repeat' split
  all_goals (try (with_reducible repeat (first | assumption | apply State.modSupTx_ChannelsBounded | apply State.beginFill_ChannelsBounded | apply State.modLine_ChannelsBounded | apply State.modSched_ChannelsBounded | apply State.modAsm_ChannelsBounded)))
  all_goals (intro _; first | rfl | (simp only [Sched.track]; split <;> rfl))

theorem State.supCountFill_ChannelsBounded (s : State) (hinv : ChannelsBounded s) : ChannelsBounded (s.supCountFill) := by
  simp only [State.supCountFill]
  repeat' split
  all_goals (try (with_reducible repeat (first | assumption | apply State.modCopy_ChannelsBounded | apply State.modLine_ChannelsBounded | apply State.modSched_ChannelsBounded | apply State.modAsm_ChannelsBounded)))
  all_goals (intro _; first | rfl | (simp only [Sched.track]; split <;> rfl))

end Sys2Proof.Machine
end

