-- ==== Sys2Proof/Laws/Loops.lean ====
section
/-! SUPPORT. What nothing but a line's own readings, conditions and shift stage touches: its inputs, receiver and conditions. -/

set_option linter.unusedTactic false
set_option linter.unreachableTactic false

namespace Sys2Proof.Machine

/-- The inputs, receiver and conditions of line `m`. -/
def State.loops (s : State) (m : Line) : Level × Level × Receiver × Cond × Cond :=
  let l := s.line m
  (l.loopIn, l.sense, l.rx, l.condIn, l.condSense)

@[simp] theorem State.modStore_loops (s : State) (f : Store → Store) (m : Line) :
    (s.modStore f).loops m = s.loops m := rfl

@[simp] theorem State.modSched_loops (s : State) (n : Line) (f : Sched → Sched) (m : Line) :
    (s.modSched n f).loops m = s.loops m := by
  simp only [State.loops, State.modSched_line]
  split <;> rfl

@[simp] theorem State.modAsm_loops (s : State) (n : Line) (f : Assembler → Assembler) (m : Line) :
    (s.modAsm n f).loops m = s.loops m := by
  simp only [State.loops, State.modAsm_line]
  split <;> rfl

@[simp] theorem State.modTx_loops (s : State) (n : Line) (f : Tx → Tx) (m : Line) :
    (s.modTx n f).loops m = s.loops m := by
  simp only [State.loops, State.modTx_line]
  split <;> rfl

@[simp] theorem State.modMotor_loops (s : State) (n : Line) (f : Motor → Motor) (m : Line) :
    (s.modMotor n f).loops m = s.loops m := by
  simp only [State.loops, State.modMotor_line]
  split <;> rfl

@[simp] theorem State.modRouter_loops (s : State) (f : Router → Router) (m : Line) : (s.modRouter f).loops m = s.loops m := rfl

@[simp] theorem State.modPort_loops (s : State) (f : Port → Port) (m : Line) : (s.modPort f).loops m = s.loops m := rfl

@[simp] theorem State.modSup_loops (s : State) (f : Supervisor → Supervisor) (m : Line) : (s.modSup f).loops m = s.loops m := rfl

@[simp] theorem State.modRecord_loops (s : State) (r : RecIx) (f : Record → Record) (m : Line) : (s.modRecord r f).loops m = s.loops m := by
  simp only [State.modRecord]
  repeat' split
  all_goals simp

@[simp] theorem State.modCopy_loops (s : State) (ref : CopyRef) (f : Copy → Copy) (m : Line) : (s.modCopy ref f).loops m = s.loops m := by
  simp only [State.modCopy]
  repeat' split
  all_goals simp

@[simp] theorem State.setCopyState_loops (s : State) (ref : CopyRef) (st : CopyState) (m : Line) : (s.setCopyState ref st).loops m = s.loops m := by
  simp only [State.setCopyState]
  repeat' split
  all_goals simp

@[simp] theorem State.writeChar_loops (s : State) (r : RecIx) (i : Nat) (c : Code) (m : Line) : (s.writeChar r i c).loops m = s.loops m := by
  simp only [State.writeChar]
  repeat' split
  all_goals simp

@[simp] theorem State.writeChars_loops (s : State) (r : RecIx) (i : Nat) (l : List Code) (m : Line) : (State.writeChars s r i l).loops m = s.loops m := by
  induction l generalizing s i with
  | nil => rfl
  | cons x xs ih =>
    simp only [State.writeChars]
    repeat' split
    all_goals simp [ih]

@[simp] theorem State.setReserved_loops (s : State) (k : CtxIx) (n : Nat) (m : Line) : (s.setReserved k n).loops m = s.loops m := by
  simp only [State.setReserved]
  repeat' split
  all_goals simp

@[simp] theorem State.releaseReservation_loops (s : State) (k : CtxIx) (m : Line) : (s.releaseReservation k).loops m = s.loops m := by
  simp only [State.releaseReservation]
  repeat' split
  all_goals simp

@[simp] theorem State.pledge_loops (s : State) (m : Line) : s.pledge.loops m = s.loops m := rfl

theorem State.drawBlock_loops (s t : State) (r : RecIx) (m : Line) (h : s.drawBlock r = some t) : t.loops m = s.loops m := by
  unfold State.drawBlock at h
  split at h
  · cases h
  · split at h
    · cases h
    · cases h; simp

theorem State.allocateBlock_loops (s t : State) (r : RecIx) (m : Line) (h : s.allocateBlock r = some t) : t.loops m = s.loops m := by
  unfold State.allocateBlock at h
  split at h
  · exact State.drawBlock_loops s t r m h
  · cases h

theorem State.relayedBlock_loops (s t : State) (k : CtxIx) (r : RecIx) (m : Line) (h : s.relayedBlock k r = some t) :
    t.loops m = s.loops m := by
  unfold State.relayedBlock at h
  simp only at h
  split at h
  · cases hd : s.drawBlock r with
    | none => simp [hd] at h
    | some u => simp [hd] at h; subst h; simpa using State.drawBlock_loops s u r m hd
  · exact State.allocateBlock_loops s t r m h

@[simp] theorem State.unpledge_loops (s : State) (m : Line) : (s.unpledge).loops m = s.loops m := by
  simp only [State.unpledge]
  repeat' split
  all_goals simp

@[simp] theorem State.freeRecord_loops (s : State) (r : RecIx) (m : Line) : (s.freeRecord r).loops m = s.loops m := by
  simp only [State.freeRecord]
  repeat' split
  all_goals simp

@[simp] theorem State.tryFree_loops (s : State) (r : RecIx) (m : Line) : (s.tryFree r).loops m = s.loops m := by
  simp only [State.tryFree]
  repeat' split
  all_goals simp

@[simp] theorem State.settle_loops (s : State) (ref : CopyRef) (how : Settlement) (m : Line) : (s.settle ref how).loops m = s.loops m := by
  simp only [State.settle]
  repeat' split
  all_goals simp

@[simp] theorem State.setSend_loops (s : State) (k : CtxIx) (c : Option Send) (m : Line) : (s.setSend k c).loops m = s.loops m := by
  simp only [State.setSend]
  repeat' split
  all_goals simp

@[simp] theorem State.setTake_loops (s : State) (k : CtxIx) (t : Option Take) (m : Line) : (s.setTake k t).loops m = s.loops m := by
  simp only [State.setTake]
  repeat' split
  all_goals simp

@[simp] theorem State.modSend_loops (s : State) (k : CtxIx) (f : Send → Send) (m : Line) : (s.modSend k f).loops m = s.loops m := by
  simp only [State.modSend]
  repeat' split
  all_goals simp

@[simp] theorem State.modTake_loops (s : State) (k : CtxIx) (f : Take → Take) (m : Line) : (s.modTake k f).loops m = s.loops m := by
  simp only [State.modTake]
  repeat' split
  all_goals simp

@[simp] theorem State.refreshTenure_loops (s : State) (m : Line) : (s.refreshTenure).loops m = s.loops m := by
  simp only [State.refreshTenure]
  repeat' split
  all_goals simp

@[simp] theorem State.endTenure_loops (s : State) (m : Line) : (s.endTenure).loops m = s.loops m := by
  simp only [State.endTenure]
  repeat' split
  all_goals simp

@[simp] theorem State.nextStamp_loops (s : State) (m : Line) : (s.nextStamp).loops m = s.loops m := by
  simp only [State.nextStamp]
  repeat' split
  all_goals simp

@[simp] theorem State.drive_loops (s : State) (source : FrameSource) (byRound : Bool) (m : Line) : (s.drive source byRound).loops m = s.loops m := by
  simp only [State.drive]
  repeat' split
  all_goals simp

@[simp] theorem State.deaden_loops (s : State) (source : FrameSource) (m : Line) : (s.deaden source).loops m = s.loops m := by
  simp only [State.deaden]
  repeat' split
  all_goals simp

@[simp] theorem State.askSend_loops (s : State) (k : CtxIx) (kind : SendKind) (m : Line) : (s.askSend k kind).loops m = s.loops m := by
  simp only [State.askSend]
  repeat' split
  all_goals simp

@[simp] theorem State.askTake_loops (s : State) (k : CtxIx) (kind : TakeKind) (m : Line) : (s.askTake k kind).loops m = s.loops m := by
  simp only [State.askTake]
  repeat' split
  all_goals simp

@[simp] theorem State.closeWindow_loops (s : State) (k : CtxIx) (m : Line) : (s.closeWindow k).loops m = s.loops m := by
  simp only [State.closeWindow]
  repeat' split
  all_goals simp

@[simp] theorem State.dropSend_loops (s : State) (k : CtxIx) (m : Line) : (s.dropSend k).loops m = s.loops m := by
  simp only [State.dropSend]
  repeat' split
  all_goals simp

@[simp] theorem State.freeSend_loops (s : State) (k : CtxIx) (m : Line) : (s.freeSend k).loops m = s.loops m := by
  simp only [State.freeSend]
  repeat' split
  all_goals simp

@[simp] theorem State.freeTake_loops (s : State) (k : CtxIx) (m : Line) : (s.freeTake k).loops m = s.loops m := by
  simp only [State.freeTake]
  repeat' split
  all_goals simp

@[simp] theorem State.addAnswer_loops (s : State) (tag : Tag) (reason : Reason) (cls : Precedence) (m : Line) : (s.addAnswer tag reason cls).loops m = s.loops m := by
  simp only [State.addAnswer]
  repeat' split
  all_goals simp

@[simp] theorem State.addEnded_loops (s : State) (tag : Tag) (cls : Precedence) (m : Line) : (s.addEnded tag cls).loops m = s.loops m := by
  simp only [State.addEnded]
  repeat' split
  all_goals simp

@[simp] theorem State.dropEnded_loops (s : State) (tag : Tag) (m : Line) : (s.dropEnded tag).loops m = s.loops m := by
  simp only [State.dropEnded]
  repeat' split
  all_goals simp

@[simp] theorem State.askOffer_loops (s : State) (k : CtxIx) (m : Line) : (s.askOffer k).loops m = s.loops m := by
  simp only [State.askOffer]
  repeat' split
  all_goals simp

@[simp] theorem State.giveSend_loops (s : State) (k : CtxIx) (ref : CopyRef) (m : Line) : (s.giveSend k ref).loops m = s.loops m := by
  simp only [State.giveSend]
  repeat' split
  all_goals simp

@[simp] theorem State.lookNext_loops (s : State) (k : CtxIx) (m : Line) : (s.lookNext k).loops m = s.loops m := by
  simp only [State.lookNext]
  repeat' split
  all_goals simp

@[simp] theorem State.supGoTail_loops (s : State) (short : Bool) (m : Line) : (s.supGoTail short).loops m = s.loops m := by
  simp only [State.supGoTail]
  repeat' split
  all_goals simp

@[simp] theorem State.supLoadComposed_loops (s : State) (m : Line) : (s.supLoadComposed).loops m = s.loops m := by
  simp only [State.supLoadComposed]
  repeat' split
  all_goals simp

@[simp] theorem State.supLineLoaded_loops (s : State) (m : Line) : (s.supLineLoaded).loops m = s.loops m := by
  simp only [State.supLineLoaded]
  repeat' split
  all_goals simp

@[simp] theorem State.supServeLine_loops (s : State) (m : Line) : (s.supServeLine).loops m = s.loops m := by
  simp only [State.supServeLine]
  repeat' split
  all_goals simp

@[simp] theorem State.supServeText_loops (s : State) (ref : CopyRef) (m : Line) : (s.supServeText ref).loops m = s.loops m := by
  simp only [State.supServeText]
  repeat' split
  all_goals simp

@[simp] theorem State.supServe_loops (s : State) (m : Line) : (s.supServe).loops m = s.loops m := by
  simp only [State.supServe]
  repeat' split
  all_goals simp

@[simp] theorem State.beginPrint_loops (s : State) (m : Line) : (s.beginPrint).loops m = s.loops m := by
  simp only [State.beginPrint]
  repeat' split
  all_goals simp

@[simp] theorem State.chosen_loops (s : State) (m : Line) : s.chosen.loops m = s.loops m := rfl

@[simp] theorem State.handOverMany_loops (s : State) (l : Nat) (m : Line) : (State.handOverMany s l).loops m = s.loops m := by
  induction l generalizing s with
  | zero => rfl
  | succ k ih =>
    simp only [State.handOverMany]
    repeat' split
    all_goals simp [ih]

@[simp] theorem State.handOver_loops (s : State) (m : Line) : (s.handOver).loops m = s.loops m := by
  simp only [State.handOver]
  repeat' split
  all_goals simp

@[simp] theorem State.handOverSought_loops (s : State) (l : Nat) (m : Line) : (State.handOverSought s l).loops m = s.loops m := by
  induction l generalizing s with
  | zero => rfl
  | succ k ih =>
    simp only [State.handOverSought]
    repeat' split
    all_goals simp [ih]

@[simp] theorem State.post_loops (s : State) (n : Notice) (m : Line) : (s.post n).loops m = s.loops m := by
  simp only [State.post]
  repeat' split
  all_goals simp

@[simp] theorem State.postAll_loops (s : State) (l : List Notice) (m : Line) : (State.postAll s l).loops m = s.loops m := by
  induction l generalizing s with
  | nil => rfl
  | cons x xs ih =>
    simp only [State.postAll]
    repeat' split
    all_goals simp [ih]

@[simp] theorem State.placeFreed_loops (s before : State) (sought : Bool) (m : Line) : (s.placeFreed before sought).loops m = s.loops m := by
  simp only [State.placeFreed]
  repeat' split
  all_goals simp

@[simp] theorem State.tellPlaces_loops (s before : State) (m : Line) : (s.tellPlaces before).loops m = s.loops m := by
  simp only [State.tellPlaces]
  repeat' split
  all_goals simp

@[simp] theorem State.itemEnded_loops (s : State) (m : Line) : (s.itemEnded).loops m = s.loops m := by
  simp only [State.itemEnded]
  repeat' split
  all_goals simp

@[simp] theorem State.discardHead_loops (s : State) (m : Line) : (s.discardHead).loops m = s.loops m := by
  simp only [State.discardHead]
  repeat' split
  all_goals simp

@[simp] theorem State.discardDead_loops (s : State) (r : RecIx) (g : Gen) (m : Line) : (s.discardDead r g).loops m = s.loops m := by
  simp only [State.discardDead]
  repeat' split
  all_goals simp

@[simp] theorem State.supTextChanged_loops (s : State) (r : RecIx) (m : Line) : (s.supTextChanged r).loops m = s.loops m := by
  simp only [State.supTextChanged]
  repeat' split
  all_goals simp

@[simp] theorem State.motorEnqueue_loops (s : State) (n : Line) (m : Line) : (s.motorEnqueue n).loops m = s.loops m := by
  simp only [State.motorEnqueue]
  repeat' split
  all_goals simp

@[simp] theorem State.motorEmpty_loops (s : State) (n : Line) (m : Line) : (s.motorEmpty n).loops m = s.loops m := by
  simp only [State.motorEmpty]
  repeat' split
  all_goals simp

@[simp] theorem State.loadChar_loops (s : State) (n : Line) (c : TxChar) (m : Line) : (s.loadChar n c).loops m = s.loops m := by
  simp only [State.loadChar]
  repeat' split
  all_goals simp

@[simp] theorem State.loadNextComposed_loops (s : State) (n : Line) (m : Line) : (s.loadNextComposed n).loops m = s.loops m := by
  simp only [State.loadNextComposed]
  repeat' split
  all_goals simp

@[simp] theorem State.serveHead_loops (s : State) (n : Line) (m : Line) : (s.serveHead n).loops m = s.loops m := by
  simp only [State.serveHead]
  repeat' split
  all_goals simp

@[simp] theorem State.enterTail_loops (s : State) (n : Line) (r : Record) (m : Line) : (s.enterTail n r).loops m = s.loops m := by
  simp only [State.enterTail]
  repeat' split
  all_goals simp

@[simp] theorem State.serveText_loops (s : State) (n : Line) (ref : CopyRef) (m : Line) : (s.serveText n ref).loops m = s.loops m := by
  simp only [State.serveText]
  repeat' split
  all_goals simp

@[simp] theorem State.serveLine_loops (s : State) (n : Line) (m : Line) : (s.serveLine n).loops m = s.loops m := by
  simp only [State.serveLine]
  repeat' split
  all_goals simp

@[simp] theorem State.numberCopy_loops (s : State) (n : Line) (ref : CopyRef) (m : Line) : (s.numberCopy n ref).loops m = s.loops m := by
  simp only [State.numberCopy]
  repeat' split
  all_goals simp

@[simp] theorem State.startFresh_loops (s : State) (n : Line) (e : QEntry) (m : Line) : (s.startFresh n e).loops m = s.loops m := by
  simp only [State.startFresh]
  repeat' split
  all_goals simp

@[simp] theorem State.startResume_loops (s : State) (n : Line) (e : QEntry) (m : Line) : (s.startResume n e).loops m = s.loops m := by
  simp only [State.startResume]
  repeat' split
  all_goals simp

@[simp] theorem State.choose_loops (s : State) (n : Line) (m : Line) : (s.choose n).loops m = s.loops m := by
  simp only [State.choose]
  repeat' split
  all_goals simp

@[simp] theorem State.beginInterruption_loops (s : State) (n : Line) (m : Line) : (s.beginInterruption n).loops m = s.loops m := by
  simp only [State.beginInterruption]
  repeat' split
  all_goals simp

@[simp] theorem State.preemptTest_loops (s : State) (n : Line) (m : Line) : (s.preemptTest n).loops m = s.loops m := by
  simp only [State.preemptTest]
  repeat' split
  all_goals simp

@[simp] theorem State.reconsiderMark_loops (s : State) (n : Line) (m : Line) : (s.reconsiderMark n).loops m = s.loops m := by
  simp only [State.reconsiderMark]
  repeat' split
  all_goals simp

@[simp] theorem State.lookAgain_loops (s : State) (n : Line) (m : Line) : (s.lookAgain n).loops m = s.loops m := by
  simp only [State.lookAgain]
  repeat' split
  all_goals simp

@[simp] theorem State.enqueue_loops (s : State) (n : Line) (ref : CopyRef) (m : Line) : (s.enqueue n ref).loops m = s.loops m := by
  simp only [State.enqueue]
  repeat' split
  all_goals simp

@[simp] theorem State.clearCurrent_loops (s : State) (n : Line) (m : Line) : (s.clearCurrent n).loops m = s.loops m := by
  simp only [State.clearCurrent]
  repeat' split
  all_goals simp

@[simp] theorem State.putBack_loops (s : State) (n : Line) (m : Line) : (s.putBack n).loops m = s.loops m := by
  simp only [State.putBack]
  repeat' split
  all_goals simp

@[simp] theorem State.withdraw_loops (s : State) (n : Line) (ref : CopyRef) (m : Line) : (s.withdraw n ref).loops m = s.loops m := by
  simp only [State.withdraw]
  repeat' split
  all_goals simp

@[simp] theorem State.delivered_loops (s : State) (n : Line) (e : QEntry) (m : Line) : (s.delivered n e).loops m = s.loops m := by
  simp only [State.delivered]
  repeat' split
  all_goals simp

@[simp] theorem State.pushCurrent_loops (s : State) (n : Line) (e : QEntry) (m : Line) : (s.pushCurrent n e).loops m = s.loops m := by
  simp only [State.pushCurrent]
  repeat' split
  all_goals simp

@[simp] theorem State.reportSent_loops (s : State) (n : Line) (c : TxChar) (m : Line) : (s.reportSent n c).loops m = s.loops m := by
  simp only [State.reportSent]
  repeat' split
  all_goals simp

@[simp] theorem State.countFill_loops (s : State) (ref : CopyRef) (m : Line) : (s.countFill ref).loops m = s.loops m := by
  simp only [State.countFill]
  repeat' split
  all_goals simp

@[simp] theorem State.lineTextChanged_loops (s : State) (n : Line) (r : RecIx) (oldCount : Nat) (oldComplete : Bool) (m : Line) : (s.lineTextChanged n r oldCount oldComplete).loops m = s.loops m := by
  simp only [State.lineTextChanged]
  repeat' split
  all_goals simp

@[simp] theorem State.bindLocal_loops (s : State) (n : Line) (ref : CopyRef) (m : Line) : (s.bindLocal n ref).loops m = s.loops m := by
  simp only [State.bindLocal]
  repeat' split
  all_goals simp

@[simp] theorem State.startSeries_loops (s : State) (k : CtxIx) (ref : CopyRef) (m : Line) : (s.startSeries k ref).loops m = s.loops m := by
  simp only [State.startSeries]
  repeat' split
  all_goals simp

@[simp] theorem State.waitForContext_loops (s : State) (ref : CopyRef) (m : Line) : (s.waitForContext ref).loops m = s.loops m := by
  simp only [State.waitForContext]
  repeat' split
  all_goals simp

@[simp] theorem State.offerCopy_loops (s : State) (ref : CopyRef) (m : Line) : (s.offerCopy ref).loops m = s.loops m := by
  simp only [State.offerCopy]
  repeat' split
  all_goals simp

@[simp] theorem State.serveWaitMany_loops (s : State) (l : Nat) (m : Line) : (State.serveWaitMany s l).loops m = s.loops m := by
  induction l generalizing s with
  | zero => rfl
  | succ k ih =>
    simp only [State.serveWaitMany]
    repeat' split
    all_goals simp [ih]

@[simp] theorem State.serveWaitList_loops (s : State) (m : Line) : (s.serveWaitList).loops m = s.loops m := by
  simp only [State.serveWaitList]
  repeat' split
  all_goals simp

@[simp] theorem State.startCounts_loops (s : State) (ref : CopyRef) (m : Line) : (s.startCounts ref).loops m = s.loops m := by
  simp only [State.startCounts]
  repeat' split
  all_goals simp

@[simp] theorem State.dispatchCopy_loops (s : State) (ref : CopyRef) (m : Line) : (s.dispatchCopy ref).loops m = s.loops m := by
  simp only [State.dispatchCopy]
  repeat' split
  all_goals simp

@[simp] theorem State.dispatchAll_loops (s : State) (l : List CopyRef) (m : Line) : (State.dispatchAll s l).loops m = s.loops m := by
  induction l generalizing s with
  | nil => rfl
  | cons x xs ih =>
    simp only [State.dispatchAll]
    repeat' split
    all_goals simp [ih]

@[simp] theorem State.dispatchRecord_loops (s : State) (r : RecIx) (m : Line) : (s.dispatchRecord r).loops m = s.loops m := by
  simp only [State.dispatchRecord]
  repeat' split
  all_goals simp

theorem State.dispatchRestart_loops (s : State) (l : List CopyRef) (m : Line) :
    (State.dispatchRestart s l).1.loops m = s.loops m := by
  induction l generalizing s with
  | nil => rfl
  | cons x xs ih =>
    simp only [State.dispatchRestart]
    split <;> simp [ih]

@[simp] theorem State.holdOffEnds_loops (s : State) (m : Line) : s.holdOffEnds.loops m = s.loops m := by
  simp [State.holdOffEnds, State.dispatchRestart_loops]

@[simp] theorem State.enqueueOrRefuse_loops (s : State) (n : Line) (ref : CopyRef) (m : Line) : (s.enqueueOrRefuse n ref).loops m = s.loops m := by
  simp only [State.enqueueOrRefuse]
  repeat' split
  all_goals simp

@[simp] theorem State.die_loops (s : State) (k : CtxIx) (ref : CopyRef) (m : Line) : (s.die k ref).loops m = s.loops m := by
  simp only [State.die]
  repeat' split
  all_goals simp

@[simp] theorem State.bindInstead_loops (s : State) (k : CtxIx) (n : Line) (ref : CopyRef) (m : Line) : (s.bindInstead k n ref).loops m = s.loops m := by
  simp only [State.bindInstead]
  repeat' split
  all_goals simp

@[simp] theorem State.reoffer_loops (s : State) (k : CtxIx) (ref : CopyRef) (next : Nat) (m : Line) : (s.reoffer k ref next).loops m = s.loops m := by
  simp only [State.reoffer]
  repeat' split
  all_goals simp

@[simp] theorem State.unclaimed_loops (s : State) (k : CtxIx) (ref : CopyRef) (m : Line) : (s.unclaimed k ref).loops m = s.loops m := by
  simp only [State.unclaimed]
  repeat' split
  all_goals simp

@[simp] theorem State.spoiled_loops (s : State) (k : CtxIx) (ref : CopyRef) (m : Line) : (s.spoiled k ref).loops m = s.loops m := by
  simp only [State.spoiled]
  repeat' split
  all_goals simp

@[simp] theorem State.handed_loops (s : State) (k : CtxIx) (ref : CopyRef) (m : Line) : (s.handed k ref).loops m = s.loops m := by
  simp only [State.handed]
  repeat' split
  all_goals simp

@[simp] theorem State.sendsLook_loops (s : State) (r : RecIx) (l : List CtxIx) (m : Line) : (State.sendsLook s r l).loops m = s.loops m := by
  induction l generalizing s with
  | nil => rfl
  | cons x xs ih =>
    simp only [State.sendsLook]
    repeat' split
    all_goals simp [ih]

@[simp] theorem State.linesLook_loops (s : State) (r : RecIx) (oldCount : Nat) (oldComplete : Bool) (l : List Line) (m : Line) : (State.linesLook s r oldCount oldComplete l).loops m = s.loops m := by
  induction l generalizing s with
  | nil => rfl
  | cons x xs ih =>
    simp only [State.linesLook]
    repeat' split
    all_goals simp [ih]

@[simp] theorem State.textChanged_loops (s : State) (r : RecIx) (oldCount : Nat) (oldComplete : Bool) (m : Line) : (s.textChanged r oldCount oldComplete).loops m = s.loops m := by
  simp only [State.textChanged]
  repeat' split
  all_goals simp

@[simp] theorem State.cutShort_loops (s : State) (r : RecIx) (m : Line) : (s.cutShort r).loops m = s.loops m := by
  simp only [State.cutShort]
  repeat' split
  all_goals simp

@[simp] theorem State.dropSendOf_loops (s : State) (ref : CopyRef) (m : Line) : (s.dropSendOf ref).loops m = s.loops m := by
  simp only [State.dropSendOf]
  repeat' split
  all_goals simp

@[simp] theorem State.forgetCopy_loops (s : State) (ref : CopyRef) (m : Line) : (s.forgetCopy ref).loops m = s.loops m := by
  simp only [State.forgetCopy]
  repeat' split
  all_goals simp

@[simp] theorem State.withdrawCopy_loops (s : State) (ref : CopyRef) (m : Line) : (s.withdrawCopy ref).loops m = s.loops m := by
  simp only [State.withdrawCopy]
  repeat' split
  all_goals simp

@[simp] theorem State.discardRecord_loops (s : State) (r : RecIx) (m : Line) : (s.discardRecord r).loops m = s.loops m := by
  simp only [State.discardRecord]
  repeat' split
  all_goals simp

@[simp] theorem State.endRecord_loops (s : State) (r : RecIx) (m : Line) : (s.endRecord r).loops m = s.loops m := by
  simp only [State.endRecord]
  repeat' split
  all_goals simp

@[simp] theorem State.endTakeRecord_loops (s : State) (k : CtxIx) (t : Take) (m : Line) : (s.endTakeRecord k t).loops m = s.loops m := by
  simp only [State.endTakeRecord]
  repeat' split
  all_goals simp

@[simp] theorem State.dropClaim_loops (s : State) (k : CtxIx) (m : Line) : (s.dropClaim k).loops m = s.loops m := by
  simp only [State.dropClaim]
  repeat' split
  all_goals simp

@[simp] theorem State.giveUpTake_loops (s : State) (k : CtxIx) (t : Take) (m : Line) : (s.giveUpTake k t).loops m = s.loops m := by
  simp only [State.giveUpTake]
  repeat' split
  all_goals simp

@[simp] theorem State.abandonTake_loops (s : State) (k : CtxIx) (t : Take) (reason : Reason) (m : Line) : (s.abandonTake k t reason).loops m = s.loops m := by
  simp only [State.abandonTake]
  repeat' split
  all_goals simp

@[simp] theorem State.answerClose_loops (s : State) (k : CtxIx) (m : Line) : (s.answerClose k).loops m = s.loops m := by
  simp only [State.answerClose]
  repeat' split
  all_goals simp

@[simp] theorem State.endTaking_loops (s : State) (l : List RecIx) (m : Line) : (State.endTaking s l).loops m = s.loops m := by
  induction l generalizing s with
  | nil => rfl
  | cons x xs ih =>
    simp only [State.endTaking]
    repeat' split
    all_goals simp [ih]

@[simp] theorem State.returnCopies_loops (s : State) (m : Line) : (s.returnCopies).loops m = s.loops m := by
  simp only [State.returnCopies]
  repeat' split
  all_goals simp

@[simp] theorem State.startHoldOff_loops (s : State) (m : Line) : (s.startHoldOff).loops m = s.loops m := by
  simp only [State.startHoldOff]
  repeat' split
  all_goals simp

@[simp] theorem State.warmRestart_loops (s : State) (sender : Slot) (received : Bool) (m : Line) : (s.warmRestart sender received).loops m = s.loops m := by
  simp only [State.warmRestart]
  repeat' split
  all_goals simp

@[simp] theorem State.turnReview_loops (s : State) (n : Line) (m : Line) : (s.turnReview n).loops m = s.loops m := by
  simp only [State.loops, State.turnReview, State.modLine_line]
  split <;> rfl

@[simp] theorem State.turnWait_loops (s : State) (n : Line) (m : Line) : (s.turnWait n).loops m = s.loops m := by
  simp only [State.loops, State.turnWait, State.modLine_line]
  split <;> rfl

/-- The same with the receiver in WAIT_MARK. -/
def atWaitMark (l : Level × Level × Receiver × Cond × Cond) : Level × Level × Receiver × Cond × Cond :=
  (l.1, l.2.1, { l.2.2.1 with state := .waitMark }, l.2.2.2)

theorem State.suspendRx_loops (s : State) (n m : Line) :
    (s.suspendRx n).loops m = s.loops m ∨ (s.suspendRx n).loops m = atWaitMark (s.loops m) := by
  simp only [State.suspendRx]
  split
  · simp only [State.loops, State.setRx_line]
    split
    · exact .inr rfl
    · exact .inl rfl
  · exact .inl rfl

theorem State.beginHeld_loops (s : State) (n m : Line) :
    (s.beginHeld n).loops m = s.loops m ∨ (s.beginHeld n).loops m = atWaitMark (s.loops m) := by
  have h := State.suspendRx_loops (s.modTx n Tx.begin) n m
  rw [State.modTx_loops] at h
  exact h

theorem State.takeOrWithdraw_loops (s : State) (n m : Line) :
    (s.takeOrWithdraw n).loops m = s.loops m ∨ (s.takeOrWithdraw n).loops m = atWaitMark (s.loops m) := by
  simp only [State.takeOrWithdraw]
  repeat' split
  · exact State.beginHeld_loops s.chosen n m
  · exact .inl rfl
  · exact .inl rfl

theorem State.takenOff_loops (s : State) (n m : Line) :
    (s.takenOff n).loops m = s.loops m ∨ (s.takenOff n).loops m = atWaitMark (s.loops m) := by
  simpa [State.takenOff] using State.takeOrWithdraw_loops s n m

/-- Leaving HUNT leaves the inputs and conditions, and puts a receiver in WAIT_MARK if it moves one (R8, R150). -/
theorem State.leftHunt_loops (s : State) (n m : Line) :
    (s.leftHunt n).loops m = s.loops m ∨ (s.leftHunt n).loops m = atWaitMark (s.loops m) := by
  simp only [State.leftHunt]
  repeat' split
  · simpa using State.takenOff_loops (s.turnWait n) n m
  · exact .inl (State.turnWait_loops s n m)
  · exact .inl rfl

theorem State.leftHunt_loops_of {s u : State} {n m : Line} (e : u.loops m = s.loops m) :
    (u.leftHunt n).loops m = s.loops m ∨ (u.leftHunt n).loops m = atWaitMark (s.loops m) :=
  e ▸ State.leftHunt_loops u n m

@[simp] theorem State.returnToHunt_loops (s : State) (n : Line) (m : Line) : (s.returnToHunt n).loops m = s.loops m := by
  simp only [State.returnToHunt]
  repeat' split
  all_goals simp

@[simp] theorem State.lineOverrun_loops (s : State) (n : Line) (r : RecIx) (m : Line) : (s.lineOverrun n r).loops m = s.loops m := by
  simp only [State.lineOverrun]
  repeat' split
  all_goals simp

@[simp] theorem State.appendChar_loops (s : State) (r : RecIx) (c : Code) (m : Line) : (s.appendChar r c).loops m = s.loops m := by
  simp only [State.appendChar]
  repeat' split
  all_goals simp

@[simp] theorem State.storeChar_loops (s : State) (n : Line) (r : RecIx) (c : Code) (m : Line) :
    (s.storeChar n r c).loops m = s.loops m := by
  simp only [State.storeChar]
  repeat' split
  · rfl
  · rename_i t h; simp [State.allocateBlock_loops s t r m h]
  all_goals simp

@[simp] theorem State.defaultHeading_loops (s : State) (r : RecIx) (m : Line) : (s.defaultHeading r).loops m = s.loops m := by
  simp only [State.defaultHeading]
  repeat' split
  all_goals simp

@[simp] theorem State.fillTable_loops (s : State) (n : Line) (r : RecIx) (stations : List StationCode) (m : Line) : (s.fillTable n r stations).loops m = s.loops m := by
  simp only [State.fillTable]
  repeat' split
  all_goals simp

@[simp] theorem State.headingEnds_loops (s : State) (n : Line) (r : RecIx) (stations : List StationCode) (m : Line) : (s.headingEnds n r stations).loops m = s.loops m := by
  simp only [State.headingEnds]
  repeat' split
  all_goals simp

@[simp] theorem State.takeHeading_loops (s : State) (n : Line) (r : RecIx) (h : Handed) (m : Line) : (s.takeHeading n r h).loops m = s.loops m := by
  simp only [State.takeHeading]
  repeat' split
  all_goals simp

@[simp] theorem State.takeDesignator_loops (s : State) (n : Line) (r : RecIx) (h : Handed) (m : Line) : (s.takeDesignator n r h).loops m = s.loops m := by
  simp only [State.takeDesignator]
  repeat' split
  all_goals simp

@[simp] theorem State.checkChannel_loops (s : State) (n : Line) (r : RecIx) (received : Nat) (m : Line) : (s.checkChannel n r received).loops m = s.loops m := by
  simp only [State.checkChannel]
  repeat' split
  all_goals simp

@[simp] theorem State.takeGroup_loops (s : State) (n : Line) (r : RecIx) (h : Handed) (m : Line) : (s.takeGroup n r h).loops m = s.loops m := by
  simp only [State.takeGroup]
  repeat' split
  all_goals simp

@[simp] theorem State.completeRecord_loops (s : State) (r : RecIx) (truncated : Bool) (m : Line) : (s.completeRecord r truncated).loops m = s.loops m := by
  simp only [State.completeRecord]
  repeat' split
  all_goals simp

@[simp] theorem State.dispatchAtClose_loops (s : State) (r : RecIx) (filled : Bool) (m : Line) : (s.dispatchAtClose r filled).loops m = s.loops m := by
  simp only [State.dispatchAtClose]
  repeat' split
  all_goals simp

@[simp] theorem State.malformedAtClose_loops (s : State) (n : Line) (r : RecIx) (m : Line) : (s.malformedAtClose n r).loops m = s.loops m := by
  simp only [State.malformedAtClose]
  repeat' split
  all_goals simp

@[simp] theorem State.closeByRun_loops (s : State) (n : Line) (r : RecIx) (m : Line) : (s.closeByRun n r).loops m = s.loops m := by
  simp only [State.closeByRun]
  repeat' split
  all_goals simp

@[simp] theorem State.closeTruncated_loops (s : State) (n : Line) (r : RecIx) (cause : TruncateCause) (m : Line) : (s.closeTruncated n r cause).loops m = s.loops m := by
  simp only [State.closeTruncated]
  repeat' split
  all_goals simp

@[simp] theorem State.takeOrdinary_loops (s : State) (n : Line) (r : RecIx) (h : Handed) (m : Line) : (s.takeOrdinary n r h).loops m = s.loops m := by
  simp only [State.takeOrdinary]
  repeat' split
  all_goals simp

@[simp] theorem State.takeAll_loops (s : State) (n : Line) (r : RecIx) (l : List Handed) (m : Line) : (State.takeAll s n r l).loops m = s.loops m := by
  induction l generalizing s with
  | nil => rfl
  | cons x xs ih =>
    simp only [State.takeAll]
    repeat' split
    all_goals simp [ih]

@[simp] theorem State.restartSilence_loops (s : State) (n : Line) (m : Line) : (s.restartSilence n).loops m = s.loops m := by
  simp only [State.restartSilence]
  repeat' split
  all_goals simp

@[simp] theorem State.messageChar_loops (s : State) (n : Line) (r : RecIx) (h : Handed) (m : Line) : (s.messageChar n r h).loops m = s.loops m := by
  simp only [State.messageChar]
  repeat' split
  all_goals simp

@[simp] theorem State.countFraming_loops (s : State) (r : RecIx) (framing : Bool) (m : Line) : (s.countFraming r framing).loops m = s.loops m := by
  simp only [State.countFraming]
  repeat' split
  all_goals simp

theorem State.openMessage_loops (s : State) (n : Line) (r : RecIx) (m : Line) :
    (s.openMessage n r).loops m = s.loops m ∨ (s.openMessage n r).loops m = atWaitMark (s.loops m) :=
  State.leftHunt_loops_of (by simp)

theorem State.loseMessage_loops (s : State) (n : Line) (m : Line) :
    (s.loseMessage n).loops m = s.loops m ∨ (s.loseMessage n).loops m = atWaitMark (s.loops m) :=
  State.leftHunt_loops_of (by simp)

theorem State.openingRunDone_loops (s : State) (n : Line) (m : Line) :
    (s.openingRunDone n).loops m = s.loops m ∨ (s.openingRunDone n).loops m = atWaitMark (s.loops m) := by
  unfold State.openingRunDone
  cases s.store.recordAvailable with
  | false => exact State.loseMessage_loops s n m
  | true =>
    cases s.store.lowestFree with
    | none => exact State.loseMessage_loops s n m
    | some r => exact State.openMessage_loops s n r m

theorem State.huntChar_loops (s : State) (n : Line) (h : Handed) (m : Line) :
    (s.huntChar n h).loops m = s.loops m ∨ (s.huntChar n h).loops m = atWaitMark (s.loops m) := by
  simp only [State.huntChar]
  repeat' split
  · exact .inl (by simp)
  · exact State.openingRunDone_loops _ _ m
  · exact .inl (by simp)

@[simp] theorem State.discardChar_loops (s : State) (n : Line) (h : Handed) (m : Line) : (s.discardChar n h).loops m = s.loops m := by
  simp only [State.discardChar]
  repeat' split
  all_goals simp

/-- A character handed over leaves the inputs and conditions, and puts a receiver in WAIT_MARK if it moves one (R8, R150). -/
theorem State.handOverChar_loops (s : State) (n : Line) (h : Handed) (framing : Bool) (m : Line) :
    (s.handOverChar n h framing).loops m = s.loops m ∨ (s.handOverChar n h framing).loops m = atWaitMark (s.loops m) := by
  simp only [State.handOverChar]
  repeat' split
  · exact State.huntChar_loops s n h m
  all_goals exact .inl (by simp)

@[simp] theorem State.asmLineOpen_loops (s : State) (n : Line) (m : Line) : (s.asmLineOpen n).loops m = s.loops m := by
  simp only [State.asmLineOpen]
  repeat' split
  all_goals simp

@[simp] theorem State.round_loops (s : State) (rivals : List Nat) (m : Line) : (s.round rivals).loops m = s.loops m := by
  simp only [State.round]
  repeat' split
  all_goals simp

@[simp] theorem State.undrive_loops (s : State) (m : Line) : (s.undrive).loops m = s.loops m := by
  simp only [State.undrive]
  repeat' split
  all_goals simp

@[simp] theorem State.offerReported_loops (s : State) (k : CtxIx) (m : Line) : (s.offerReported k).loops m = s.loops m := by
  simp only [State.offerReported]
  repeat' split
  all_goals simp

@[simp] theorem State.claimReported_loops (s : State) (k : CtxIx) (m : Line) : (s.claimReported k).loops m = s.loops m := by
  simp only [State.claimReported]
  repeat' split
  all_goals simp

@[simp] theorem State.textReported_loops (s : State) (k : CtxIx) (d : Driven) (m : Line) : (s.textReported k d).loops m = s.loops m := by
  simp only [State.textReported]
  repeat' split
  all_goals simp

@[simp] theorem State.closeReported_loops (s : State) (k : CtxIx) (m : Line) : (s.closeReported k).loops m = s.loops m := by
  simp only [State.closeReported]
  repeat' split
  all_goals simp

@[simp] theorem State.answerReported_loops (s : State) (k : CtxIx) (m : Line) : (s.answerReported k).loops m = s.loops m := by
  simp only [State.answerReported]
  repeat' split
  all_goals simp

@[simp] theorem State.dropAnswer_loops (s : State) (tag : Tag) (reason : Reason) (m : Line) : (s.dropAnswer tag reason).loops m = s.loops m := by
  simp only [State.dropAnswer]
  repeat' split
  all_goals simp

@[simp] theorem State.claim_loops (s : State) (k : CtxIx) (t : Take) (m : Line) : (s.claim k t).loops m = s.loops m := by
  simp only [State.claim]
  repeat' split
  all_goals simp

@[simp] theorem State.claimDecision_loops (s : State) (tag : Tag) (cls : Precedence) (station : StationCode) (length : Option Nat) (cpm attempt : Nat) (m : Line) : (s.claimDecision tag cls station length cpm attempt).loops m = s.loops m := by
  simp only [State.claimDecision]
  repeat' split
  all_goals simp

@[simp] theorem State.weighLost_loops (s : State) (tag : Tag) (cls : Precedence) (attempt : Nat) (m : Line) : (s.weighLost tag cls attempt).loops m = s.loops m := by
  simp only [State.weighLost]
  repeat' split
  all_goals simp

@[simp] theorem State.weighOffer_loops (s : State) (tag : Tag) (cls : Precedence) (station : StationCode) (length : Option Nat) (cpm attempt : Nat) (m : Line) : (s.weighOffer tag cls station length cpm attempt).loops m = s.loops m := by
  simp only [State.weighOffer]
  repeat' split
  all_goals simp

@[simp] theorem State.takeClaim_loops (s : State) (k : CtxIx) (c : Send) (claimant : Slot) (m : Line) : (s.takeClaim k c claimant).loops m = s.loops m := by
  simp only [State.takeClaim]
  repeat' split
  all_goals simp

@[simp] theorem State.judgeClaim_loops (s : State) (tag : Tag) (claimant : Slot) (m : Line) : (s.judgeClaim tag claimant).loops m = s.loops m := by
  simp only [State.judgeClaim]
  repeat' split
  all_goals simp

@[simp] theorem State.hearRival_loops (s : State) (tag : Tag) (m : Line) : (s.hearRival tag).loops m = s.loops m := by
  simp only [State.hearRival]
  repeat' split
  all_goals simp

@[simp] theorem State.appendBlock_loops (s : State) (r : RecIx) (chars : List Code) (m : Line) : (s.appendBlock r chars).loops m = s.loops m := by
  simp only [State.appendBlock]
  repeat' split
  all_goals simp

@[simp] theorem State.takeOverrun_loops (s : State) (k : CtxIx) (r : RecIx) (t : Take) (m : Line) : (s.takeOverrun k r t).loops m = s.loops m := by
  simp only [State.takeOverrun]
  repeat' split
  all_goals simp

@[simp] theorem State.storeBlock_loops (s : State) (k : CtxIx) (r : RecIx) (t : Take) (chars : List Code) (m : Line) :
    (s.storeBlock k r t chars).loops m = s.loops m := by
  simp only [State.storeBlock]
  repeat' split
  · rfl
  · rename_i u h; simp [State.relayedBlock_loops s u k r m h]
  · simp

@[simp] theorem State.takeText_loops (s : State) (k : CtxIx) (t : Take) (sequence : Nat) (chars : List Code) (m : Line) : (s.takeText k t sequence chars).loops m = s.loops m := by
  simp only [State.takeText]
  repeat' split
  all_goals simp

@[simp] theorem State.textEnded_loops (s : State) (tag : Tag) (m : Line) : (s.textEnded tag).loops m = s.loops m := by
  simp only [State.textEnded]
  repeat' split
  all_goals simp

@[simp] theorem State.hearText_loops (s : State) (tag : Tag) (sequence : Nat) (chars : List Code) (m : Line) : (s.hearText tag sequence chars).loops m = s.loops m := by
  simp only [State.hearText]
  repeat' split
  all_goals simp

@[simp] theorem State.enqueueAccepted_loops (s : State) (ref : CopyRef) (m : Line) : (s.enqueueAccepted ref).loops m = s.loops m := by
  simp only [State.enqueueAccepted]
  repeat' split
  all_goals simp

@[simp] theorem State.acceptClose_loops (s : State) (k : CtxIx) (r : RecIx) (overrun truncated : Bool) (mutilated : Nat) (m : Line) : (s.acceptClose k r overrun truncated mutilated).loops m = s.loops m := by
  simp only [State.acceptClose]
  repeat' split
  all_goals simp

@[simp] theorem State.spoilClose_loops (s : State) (k : CtxIx) (t : Take) (m : Line) : (s.spoilClose k t).loops m = s.loops m := by
  simp only [State.spoilClose]
  repeat' split
  all_goals simp

@[simp] theorem State.takeClose_loops (s : State) (k : CtxIx) (t : Take) (total check : Nat) (overrun truncated : Bool) (mutilated : Nat) (m : Line) : (s.takeClose k t total check overrun truncated mutilated).loops m = s.loops m := by
  simp only [State.takeClose]
  repeat' split
  all_goals simp

@[simp] theorem State.takerAbandons_loops (s : State) (k : CtxIx) (ref : CopyRef) (m : Line) : (s.takerAbandons k ref).loops m = s.loops m := by
  simp only [State.takerAbandons]
  repeat' split
  all_goals simp

@[simp] theorem State.originAbandons_loops (s : State) (tag : Tag) (m : Line) : (s.originAbandons tag).loops m = s.loops m := by
  simp only [State.originAbandons]
  repeat' split
  all_goals simp

@[simp] theorem State.modSupTx_loops (s : State) (f : Tx → Tx) (m : Line) : (s.modSupTx f).loops m = s.loops m := by
  simp only [State.modSupTx]
  repeat' split
  all_goals simp

@[simp] theorem State.supFollows_loops (s : State) (held : Option TxChar) (m : Line) : (s.supFollows held).loops m = s.loops m := by
  simp only [State.supFollows]
  repeat' split
  all_goals simp

@[simp] theorem State.supCountFill_loops (s : State) (m : Line) : (s.supCountFill).loops m = s.loops m := by
  simp only [State.supCountFill]
  repeat' split
  all_goals simp

end Sys2Proof.Machine
end

