-- ==== Sys2Proof/Laws/LineCase.lean ====
section
/-! SUPPORT. Only a character sent to its end sets a line case. -/

set_option linter.unusedTactic false
set_option linter.unreachableTactic false

set_option linter.unusedSimpArgs false

namespace Sys2Proof.Machine

/-- The line case of line `m` (R14). -/
def State.lineCase (s : State) (m : Line) : Case := (s.line m).tx.lineCase

@[simp] theorem State.modStore_lineCase (s : State) (f : Store → Store) (m : Line) :
    (s.modStore f).lineCase m = s.lineCase m := rfl

@[simp] theorem State.modSched_lineCase (s : State) (n : Line) (f : Sched → Sched) (m : Line) :
    (s.modSched n f).lineCase m = s.lineCase m := by
  simp only [State.lineCase, State.modSched_line]
  split <;> rfl

@[simp] theorem State.modAsm_lineCase (s : State) (n : Line) (f : Assembler → Assembler) (m : Line) :
    (s.modAsm n f).lineCase m = s.lineCase m := by
  simp only [State.lineCase, State.modAsm_line]
  split <;> rfl

/-- A transmitter that changes in all but its line case. -/
theorem State.modTx_lineCase (s : State) (n : Line) (f : Tx → Tx) (m : Line)
    (h : ∀ t, (f t).lineCase = t.lineCase) : (s.modTx n f).lineCase m = s.lineCase m := by
  simp only [State.lineCase, State.modTx_line]
  split
  · exact h _
  · rfl

@[simp] theorem State.modMotor_lineCase (s : State) (n : Line) (f : Motor → Motor) (m : Line) :
    (s.modMotor n f).lineCase m = s.lineCase m := by
  simp only [State.lineCase, State.modMotor_line]
  split <;> rfl

@[simp] theorem State.modRouter_lineCase (s : State) (f : Router → Router) (m : Line) : (s.modRouter f).lineCase m = s.lineCase m := rfl

@[simp] theorem State.modPort_lineCase (s : State) (f : Port → Port) (m : Line) : (s.modPort f).lineCase m = s.lineCase m := rfl

@[simp] theorem State.modSup_lineCase (s : State) (f : Supervisor → Supervisor) (m : Line) : (s.modSup f).lineCase m = s.lineCase m := rfl

@[simp] theorem State.modRecord_lineCase (s : State) (r : RecIx) (f : Record → Record) (m : Line) : (s.modRecord r f).lineCase m = s.lineCase m := by
  simp only [State.modRecord]
  repeat' split
  all_goals simp [State.modTx_lineCase, Tx.load, Tx.beginFill]

@[simp] theorem State.modCopy_lineCase (s : State) (ref : CopyRef) (f : Copy → Copy) (m : Line) : (s.modCopy ref f).lineCase m = s.lineCase m := by
  simp only [State.modCopy]
  repeat' split
  all_goals simp [State.modTx_lineCase, Tx.load, Tx.beginFill]

@[simp] theorem State.setCopyState_lineCase (s : State) (ref : CopyRef) (st : CopyState) (m : Line) : (s.setCopyState ref st).lineCase m = s.lineCase m := by
  simp only [State.setCopyState]
  repeat' split
  all_goals simp [State.modTx_lineCase, Tx.load, Tx.beginFill]

@[simp] theorem State.writeChar_lineCase (s : State) (r : RecIx) (i : Nat) (c : Code) (m : Line) : (s.writeChar r i c).lineCase m = s.lineCase m := by
  simp only [State.writeChar]
  repeat' split
  all_goals simp [State.modTx_lineCase, Tx.load, Tx.beginFill]

@[simp] theorem State.writeChars_lineCase (s : State) (r : RecIx) (i : Nat) (l : List Code) (m : Line) : (State.writeChars s r i l).lineCase m = s.lineCase m := by
  induction l generalizing s i with
  | nil => rfl
  | cons x xs ih =>
    simp only [State.writeChars]
    repeat' split
    all_goals simp [ih]

@[simp] theorem State.setReserved_lineCase (s : State) (k : CtxIx) (n : Nat) (m : Line) : (s.setReserved k n).lineCase m = s.lineCase m := by
  simp only [State.setReserved]
  repeat' split
  all_goals simp [State.modTx_lineCase, Tx.load, Tx.beginFill]

@[simp] theorem State.releaseReservation_lineCase (s : State) (k : CtxIx) (m : Line) : (s.releaseReservation k).lineCase m = s.lineCase m := by
  simp only [State.releaseReservation]
  repeat' split
  all_goals simp [State.modTx_lineCase, Tx.load, Tx.beginFill]

@[simp] theorem State.pledge_lineCase (s : State) (m : Line) : s.pledge.lineCase m = s.lineCase m := rfl

theorem State.drawBlock_lineCase (s t : State) (r : RecIx) (m : Line) (h : s.drawBlock r = some t) : t.lineCase m = s.lineCase m := by
  unfold State.drawBlock at h
  split at h
  · cases h
  · split at h
    · cases h
    · cases h; simp

theorem State.allocateBlock_lineCase (s t : State) (r : RecIx) (m : Line) (h : s.allocateBlock r = some t) : t.lineCase m = s.lineCase m := by
  unfold State.allocateBlock at h
  split at h
  · exact State.drawBlock_lineCase s t r m h
  · cases h

theorem State.relayedBlock_lineCase (s t : State) (k : CtxIx) (r : RecIx) (m : Line) (h : s.relayedBlock k r = some t) :
    t.lineCase m = s.lineCase m := by
  unfold State.relayedBlock at h
  simp only at h
  split at h
  · cases hd : s.drawBlock r with
    | none => simp [hd] at h
    | some u => simp [hd] at h; subst h; simpa using State.drawBlock_lineCase s u r m hd
  · exact State.allocateBlock_lineCase s t r m h

@[simp] theorem State.unpledge_lineCase (s : State) (m : Line) : (s.unpledge).lineCase m = s.lineCase m := by
  simp only [State.unpledge]
  repeat' split
  all_goals simp [State.modTx_lineCase, Tx.load, Tx.beginFill]

@[simp] theorem State.freeRecord_lineCase (s : State) (r : RecIx) (m : Line) : (s.freeRecord r).lineCase m = s.lineCase m := by
  simp only [State.freeRecord]
  repeat' split
  all_goals simp [State.modTx_lineCase, Tx.load, Tx.beginFill]

@[simp] theorem State.tryFree_lineCase (s : State) (r : RecIx) (m : Line) : (s.tryFree r).lineCase m = s.lineCase m := by
  simp only [State.tryFree]
  repeat' split
  all_goals simp [State.modTx_lineCase, Tx.load, Tx.beginFill]

@[simp] theorem State.settle_lineCase (s : State) (ref : CopyRef) (how : Settlement) (m : Line) : (s.settle ref how).lineCase m = s.lineCase m := by
  simp only [State.settle]
  repeat' split
  all_goals simp [State.modTx_lineCase, Tx.load, Tx.beginFill]

@[simp] theorem State.setSend_lineCase (s : State) (k : CtxIx) (c : Option Send) (m : Line) : (s.setSend k c).lineCase m = s.lineCase m := by
  simp only [State.setSend]
  repeat' split
  all_goals simp [State.modTx_lineCase, Tx.load, Tx.beginFill]

@[simp] theorem State.setTake_lineCase (s : State) (k : CtxIx) (t : Option Take) (m : Line) : (s.setTake k t).lineCase m = s.lineCase m := by
  simp only [State.setTake]
  repeat' split
  all_goals simp [State.modTx_lineCase, Tx.load, Tx.beginFill]

@[simp] theorem State.modSend_lineCase (s : State) (k : CtxIx) (f : Send → Send) (m : Line) : (s.modSend k f).lineCase m = s.lineCase m := by
  simp only [State.modSend]
  repeat' split
  all_goals simp [State.modTx_lineCase, Tx.load, Tx.beginFill]

@[simp] theorem State.modTake_lineCase (s : State) (k : CtxIx) (f : Take → Take) (m : Line) : (s.modTake k f).lineCase m = s.lineCase m := by
  simp only [State.modTake]
  repeat' split
  all_goals simp [State.modTx_lineCase, Tx.load, Tx.beginFill]

@[simp] theorem State.refreshTenure_lineCase (s : State) (m : Line) : (s.refreshTenure).lineCase m = s.lineCase m := by
  simp only [State.refreshTenure]
  repeat' split
  all_goals simp [State.modTx_lineCase, Tx.load, Tx.beginFill]

@[simp] theorem State.endTenure_lineCase (s : State) (m : Line) : (s.endTenure).lineCase m = s.lineCase m := by
  simp only [State.endTenure]
  repeat' split
  all_goals simp [State.modTx_lineCase, Tx.load, Tx.beginFill]

@[simp] theorem State.nextStamp_lineCase (s : State) (m : Line) : (s.nextStamp).lineCase m = s.lineCase m := by
  simp only [State.nextStamp]
  repeat' split
  all_goals simp [State.modTx_lineCase, Tx.load, Tx.beginFill]

@[simp] theorem State.drive_lineCase (s : State) (source : FrameSource) (byRound : Bool) (m : Line) : (s.drive source byRound).lineCase m = s.lineCase m := by
  simp only [State.drive]
  repeat' split
  all_goals simp [State.modTx_lineCase, Tx.load, Tx.beginFill]

@[simp] theorem State.deaden_lineCase (s : State) (source : FrameSource) (m : Line) : (s.deaden source).lineCase m = s.lineCase m := by
  simp only [State.deaden]
  repeat' split
  all_goals simp [State.modTx_lineCase, Tx.load, Tx.beginFill]

@[simp] theorem State.askSend_lineCase (s : State) (k : CtxIx) (kind : SendKind) (m : Line) : (s.askSend k kind).lineCase m = s.lineCase m := by
  simp only [State.askSend]
  repeat' split
  all_goals simp [State.modTx_lineCase, Tx.load, Tx.beginFill]

@[simp] theorem State.askTake_lineCase (s : State) (k : CtxIx) (kind : TakeKind) (m : Line) : (s.askTake k kind).lineCase m = s.lineCase m := by
  simp only [State.askTake]
  repeat' split
  all_goals simp [State.modTx_lineCase, Tx.load, Tx.beginFill]

@[simp] theorem State.closeWindow_lineCase (s : State) (k : CtxIx) (m : Line) : (s.closeWindow k).lineCase m = s.lineCase m := by
  simp only [State.closeWindow]
  repeat' split
  all_goals simp [State.modTx_lineCase, Tx.load, Tx.beginFill]

@[simp] theorem State.dropSend_lineCase (s : State) (k : CtxIx) (m : Line) : (s.dropSend k).lineCase m = s.lineCase m := by
  simp only [State.dropSend]
  repeat' split
  all_goals simp [State.modTx_lineCase, Tx.load, Tx.beginFill]

@[simp] theorem State.freeSend_lineCase (s : State) (k : CtxIx) (m : Line) : (s.freeSend k).lineCase m = s.lineCase m := by
  simp only [State.freeSend]
  repeat' split
  all_goals simp [State.modTx_lineCase, Tx.load, Tx.beginFill]

@[simp] theorem State.freeTake_lineCase (s : State) (k : CtxIx) (m : Line) : (s.freeTake k).lineCase m = s.lineCase m := by
  simp only [State.freeTake]
  repeat' split
  all_goals simp [State.modTx_lineCase, Tx.load, Tx.beginFill]

@[simp] theorem State.addAnswer_lineCase (s : State) (tag : Tag) (reason : Reason) (cls : Precedence) (m : Line) : (s.addAnswer tag reason cls).lineCase m = s.lineCase m := by
  simp only [State.addAnswer]
  repeat' split
  all_goals simp [State.modTx_lineCase, Tx.load, Tx.beginFill]

@[simp] theorem State.addEnded_lineCase (s : State) (tag : Tag) (cls : Precedence) (m : Line) : (s.addEnded tag cls).lineCase m = s.lineCase m := by
  simp only [State.addEnded]
  repeat' split
  all_goals simp [State.modTx_lineCase, Tx.load, Tx.beginFill]

@[simp] theorem State.dropEnded_lineCase (s : State) (tag : Tag) (m : Line) : (s.dropEnded tag).lineCase m = s.lineCase m := by
  simp only [State.dropEnded]
  repeat' split
  all_goals simp [State.modTx_lineCase, Tx.load, Tx.beginFill]

@[simp] theorem State.askOffer_lineCase (s : State) (k : CtxIx) (m : Line) : (s.askOffer k).lineCase m = s.lineCase m := by
  simp only [State.askOffer]
  repeat' split
  all_goals simp [State.modTx_lineCase, Tx.load, Tx.beginFill]

@[simp] theorem State.giveSend_lineCase (s : State) (k : CtxIx) (ref : CopyRef) (m : Line) : (s.giveSend k ref).lineCase m = s.lineCase m := by
  simp only [State.giveSend]
  repeat' split
  all_goals simp [State.modTx_lineCase, Tx.load, Tx.beginFill]

@[simp] theorem State.lookNext_lineCase (s : State) (k : CtxIx) (m : Line) : (s.lookNext k).lineCase m = s.lineCase m := by
  simp only [State.lookNext]
  repeat' split
  all_goals simp [State.modTx_lineCase, Tx.load, Tx.beginFill]

@[simp] theorem State.supGoTail_lineCase (s : State) (short : Bool) (m : Line) : (s.supGoTail short).lineCase m = s.lineCase m := by
  simp only [State.supGoTail]
  repeat' split
  all_goals simp [State.modTx_lineCase, Tx.load, Tx.beginFill]

@[simp] theorem State.supLoadComposed_lineCase (s : State) (m : Line) : (s.supLoadComposed).lineCase m = s.lineCase m := by
  simp only [State.supLoadComposed]
  repeat' split
  all_goals simp [State.modTx_lineCase, Tx.load, Tx.beginFill]

@[simp] theorem State.supLineLoaded_lineCase (s : State) (m : Line) : (s.supLineLoaded).lineCase m = s.lineCase m := by
  simp only [State.supLineLoaded]
  repeat' split
  all_goals simp [State.modTx_lineCase, Tx.load, Tx.beginFill]

@[simp] theorem State.supServeLine_lineCase (s : State) (m : Line) : (s.supServeLine).lineCase m = s.lineCase m := by
  simp only [State.supServeLine]
  repeat' split
  all_goals simp [State.modTx_lineCase, Tx.load, Tx.beginFill]

@[simp] theorem State.supServeText_lineCase (s : State) (ref : CopyRef) (m : Line) : (s.supServeText ref).lineCase m = s.lineCase m := by
  simp only [State.supServeText]
  repeat' split
  all_goals simp [State.modTx_lineCase, Tx.load, Tx.beginFill]

@[simp] theorem State.supServe_lineCase (s : State) (m : Line) : (s.supServe).lineCase m = s.lineCase m := by
  simp only [State.supServe]
  repeat' split
  all_goals simp [State.modTx_lineCase, Tx.load, Tx.beginFill]

@[simp] theorem State.beginPrint_lineCase (s : State) (m : Line) : (s.beginPrint).lineCase m = s.lineCase m := by
  simp only [State.beginPrint]
  repeat' split
  all_goals simp [State.modTx_lineCase, Tx.load, Tx.beginFill]

@[simp] theorem State.chosen_lineCase (s : State) (m : Line) : s.chosen.lineCase m = s.lineCase m := rfl

@[simp] theorem State.handOverMany_lineCase (s : State) (l : Nat) (m : Line) : (State.handOverMany s l).lineCase m = s.lineCase m := by
  induction l generalizing s with
  | zero => rfl
  | succ k ih =>
    simp only [State.handOverMany]
    repeat' split
    all_goals simp [ih]

@[simp] theorem State.handOver_lineCase (s : State) (m : Line) : (s.handOver).lineCase m = s.lineCase m := by
  simp only [State.handOver]
  repeat' split
  all_goals simp [State.modTx_lineCase, Tx.load, Tx.beginFill]

@[simp] theorem State.handOverSought_lineCase (s : State) (l : Nat) (m : Line) : (State.handOverSought s l).lineCase m = s.lineCase m := by
  induction l generalizing s with
  | zero => rfl
  | succ k ih =>
    simp only [State.handOverSought]
    repeat' split
    all_goals simp [ih]

@[simp] theorem State.post_lineCase (s : State) (n : Notice) (m : Line) : (s.post n).lineCase m = s.lineCase m := by
  simp only [State.post]
  repeat' split
  all_goals simp [State.modTx_lineCase, Tx.load, Tx.beginFill]

@[simp] theorem State.postAll_lineCase (s : State) (l : List Notice) (m : Line) : (State.postAll s l).lineCase m = s.lineCase m := by
  induction l generalizing s with
  | nil => rfl
  | cons x xs ih =>
    simp only [State.postAll]
    repeat' split
    all_goals simp [ih]

@[simp] theorem State.placeFreed_lineCase (s before : State) (sought : Bool) (m : Line) : (s.placeFreed before sought).lineCase m = s.lineCase m := by
  simp only [State.placeFreed]
  repeat' split
  all_goals simp [State.modTx_lineCase, Tx.load, Tx.beginFill]

@[simp] theorem State.tellPlaces_lineCase (s before : State) (m : Line) : (s.tellPlaces before).lineCase m = s.lineCase m := by
  simp only [State.tellPlaces]
  repeat' split
  all_goals simp [State.modTx_lineCase, Tx.load, Tx.beginFill]

@[simp] theorem State.itemEnded_lineCase (s : State) (m : Line) : (s.itemEnded).lineCase m = s.lineCase m := by
  simp only [State.itemEnded]
  repeat' split
  all_goals simp [State.modTx_lineCase, Tx.load, Tx.beginFill]

@[simp] theorem State.discardHead_lineCase (s : State) (m : Line) : (s.discardHead).lineCase m = s.lineCase m := by
  simp only [State.discardHead]
  repeat' split
  all_goals simp [State.modTx_lineCase, Tx.load, Tx.beginFill]

@[simp] theorem State.discardDead_lineCase (s : State) (r : RecIx) (g : Gen) (m : Line) : (s.discardDead r g).lineCase m = s.lineCase m := by
  simp only [State.discardDead]
  repeat' split
  all_goals simp [State.modTx_lineCase, Tx.load, Tx.beginFill]

@[simp] theorem State.supTextChanged_lineCase (s : State) (r : RecIx) (m : Line) : (s.supTextChanged r).lineCase m = s.lineCase m := by
  simp only [State.supTextChanged]
  repeat' split
  all_goals simp [State.modTx_lineCase, Tx.load, Tx.beginFill]

@[simp] theorem State.motorEnqueue_lineCase (s : State) (n : Line) (m : Line) : (s.motorEnqueue n).lineCase m = s.lineCase m := by
  simp only [State.motorEnqueue]
  repeat' split
  all_goals simp [State.modTx_lineCase, Tx.load, Tx.beginFill]

@[simp] theorem State.motorEmpty_lineCase (s : State) (n : Line) (m : Line) : (s.motorEmpty n).lineCase m = s.lineCase m := by
  simp only [State.motorEmpty]
  repeat' split
  all_goals simp [State.modTx_lineCase, Tx.load, Tx.beginFill]

@[simp] theorem State.loadChar_lineCase (s : State) (n : Line) (c : TxChar) (m : Line) : (s.loadChar n c).lineCase m = s.lineCase m := by
  simp only [State.loadChar]
  repeat' split
  all_goals simp [State.modTx_lineCase, Tx.load, Tx.beginFill]

@[simp] theorem State.loadNextComposed_lineCase (s : State) (n : Line) (m : Line) : (s.loadNextComposed n).lineCase m = s.lineCase m := by
  simp only [State.loadNextComposed]
  repeat' split
  all_goals simp [State.modTx_lineCase, Tx.load, Tx.beginFill]

@[simp] theorem State.serveHead_lineCase (s : State) (n : Line) (m : Line) : (s.serveHead n).lineCase m = s.lineCase m := by
  simp only [State.serveHead]
  repeat' split
  all_goals simp [State.modTx_lineCase, Tx.load, Tx.beginFill]

@[simp] theorem State.enterTail_lineCase (s : State) (n : Line) (r : Record) (m : Line) : (s.enterTail n r).lineCase m = s.lineCase m := by
  simp only [State.enterTail]
  repeat' split
  all_goals simp [State.modTx_lineCase, Tx.load, Tx.beginFill]

@[simp] theorem State.serveText_lineCase (s : State) (n : Line) (ref : CopyRef) (m : Line) : (s.serveText n ref).lineCase m = s.lineCase m := by
  simp only [State.serveText]
  repeat' split
  all_goals simp [State.modTx_lineCase, Tx.load, Tx.beginFill]

@[simp] theorem State.serveLine_lineCase (s : State) (n : Line) (m : Line) : (s.serveLine n).lineCase m = s.lineCase m := by
  simp only [State.serveLine]
  repeat' split
  all_goals simp [State.modTx_lineCase, Tx.load, Tx.beginFill]

@[simp] theorem State.numberCopy_lineCase (s : State) (n : Line) (ref : CopyRef) (m : Line) : (s.numberCopy n ref).lineCase m = s.lineCase m := by
  simp only [State.numberCopy]
  repeat' split
  all_goals simp [State.modTx_lineCase, Tx.load, Tx.beginFill]

@[simp] theorem State.startFresh_lineCase (s : State) (n : Line) (e : QEntry) (m : Line) : (s.startFresh n e).lineCase m = s.lineCase m := by
  simp only [State.startFresh]
  repeat' split
  all_goals simp [State.modTx_lineCase, Tx.load, Tx.beginFill]

@[simp] theorem State.startResume_lineCase (s : State) (n : Line) (e : QEntry) (m : Line) : (s.startResume n e).lineCase m = s.lineCase m := by
  simp only [State.startResume]
  repeat' split
  all_goals simp [State.modTx_lineCase, Tx.load, Tx.beginFill]

@[simp] theorem State.choose_lineCase (s : State) (n : Line) (m : Line) : (s.choose n).lineCase m = s.lineCase m := by
  simp only [State.choose]
  repeat' split
  all_goals simp [State.modTx_lineCase, Tx.load, Tx.beginFill]

@[simp] theorem State.beginInterruption_lineCase (s : State) (n : Line) (m : Line) : (s.beginInterruption n).lineCase m = s.lineCase m := by
  simp only [State.beginInterruption]
  repeat' split
  all_goals simp [State.modTx_lineCase, Tx.load, Tx.beginFill]

@[simp] theorem State.preemptTest_lineCase (s : State) (n : Line) (m : Line) : (s.preemptTest n).lineCase m = s.lineCase m := by
  simp only [State.preemptTest]
  repeat' split
  all_goals simp [State.modTx_lineCase, Tx.load, Tx.beginFill]

@[simp] theorem State.reconsiderMark_lineCase (s : State) (n : Line) (m : Line) : (s.reconsiderMark n).lineCase m = s.lineCase m := by
  simp only [State.reconsiderMark]
  repeat' split
  all_goals simp [State.modTx_lineCase, Tx.load, Tx.beginFill]

@[simp] theorem State.lookAgain_lineCase (s : State) (n : Line) (m : Line) : (s.lookAgain n).lineCase m = s.lineCase m := by
  simp only [State.lookAgain]
  repeat' split
  all_goals simp [State.modTx_lineCase, Tx.load, Tx.beginFill]

@[simp] theorem State.enqueue_lineCase (s : State) (n : Line) (ref : CopyRef) (m : Line) : (s.enqueue n ref).lineCase m = s.lineCase m := by
  simp only [State.enqueue]
  repeat' split
  all_goals simp [State.modTx_lineCase, Tx.load, Tx.beginFill]

@[simp] theorem State.clearCurrent_lineCase (s : State) (n : Line) (m : Line) : (s.clearCurrent n).lineCase m = s.lineCase m := by
  simp only [State.clearCurrent]
  repeat' split
  all_goals simp [State.modTx_lineCase, Tx.load, Tx.beginFill]

@[simp] theorem State.putBack_lineCase (s : State) (n : Line) (m : Line) : (s.putBack n).lineCase m = s.lineCase m := by
  simp only [State.putBack]
  repeat' split
  all_goals simp [State.modTx_lineCase, Tx.load, Tx.beginFill]

@[simp] theorem State.withdraw_lineCase (s : State) (n : Line) (ref : CopyRef) (m : Line) : (s.withdraw n ref).lineCase m = s.lineCase m := by
  simp only [State.withdraw]
  repeat' split
  all_goals simp [State.modTx_lineCase, Tx.load, Tx.beginFill]

@[simp] theorem State.delivered_lineCase (s : State) (n : Line) (e : QEntry) (m : Line) : (s.delivered n e).lineCase m = s.lineCase m := by
  simp only [State.delivered]
  repeat' split
  all_goals simp [State.modTx_lineCase, Tx.load, Tx.beginFill]

@[simp] theorem State.pushCurrent_lineCase (s : State) (n : Line) (e : QEntry) (m : Line) : (s.pushCurrent n e).lineCase m = s.lineCase m := by
  simp only [State.pushCurrent]
  repeat' split
  all_goals simp [State.modTx_lineCase, Tx.load, Tx.beginFill]

@[simp] theorem State.reportSent_lineCase (s : State) (n : Line) (c : TxChar) (m : Line) : (s.reportSent n c).lineCase m = s.lineCase m := by
  simp only [State.reportSent]
  repeat' split
  all_goals simp [State.modTx_lineCase, Tx.load, Tx.beginFill]

@[simp] theorem State.countFill_lineCase (s : State) (ref : CopyRef) (m : Line) : (s.countFill ref).lineCase m = s.lineCase m := by
  simp only [State.countFill]
  repeat' split
  all_goals simp [State.modTx_lineCase, Tx.load, Tx.beginFill]

@[simp] theorem State.lineTextChanged_lineCase (s : State) (n : Line) (r : RecIx) (oldCount : Nat) (oldComplete : Bool) (m : Line) : (s.lineTextChanged n r oldCount oldComplete).lineCase m = s.lineCase m := by
  simp only [State.lineTextChanged]
  repeat' split
  all_goals simp [State.modTx_lineCase, Tx.load, Tx.beginFill]

@[simp] theorem State.bindLocal_lineCase (s : State) (n : Line) (ref : CopyRef) (m : Line) : (s.bindLocal n ref).lineCase m = s.lineCase m := by
  simp only [State.bindLocal]
  repeat' split
  all_goals simp [State.modTx_lineCase, Tx.load, Tx.beginFill]

@[simp] theorem State.startSeries_lineCase (s : State) (k : CtxIx) (ref : CopyRef) (m : Line) : (s.startSeries k ref).lineCase m = s.lineCase m := by
  simp only [State.startSeries]
  repeat' split
  all_goals simp [State.modTx_lineCase, Tx.load, Tx.beginFill]

@[simp] theorem State.waitForContext_lineCase (s : State) (ref : CopyRef) (m : Line) : (s.waitForContext ref).lineCase m = s.lineCase m := by
  simp only [State.waitForContext]
  repeat' split
  all_goals simp [State.modTx_lineCase, Tx.load, Tx.beginFill]

@[simp] theorem State.offerCopy_lineCase (s : State) (ref : CopyRef) (m : Line) : (s.offerCopy ref).lineCase m = s.lineCase m := by
  simp only [State.offerCopy]
  repeat' split
  all_goals simp [State.modTx_lineCase, Tx.load, Tx.beginFill]

@[simp] theorem State.serveWaitMany_lineCase (s : State) (l : Nat) (m : Line) : (State.serveWaitMany s l).lineCase m = s.lineCase m := by
  induction l generalizing s with
  | zero => rfl
  | succ k ih =>
    simp only [State.serveWaitMany]
    repeat' split
    all_goals simp [ih]

@[simp] theorem State.serveWaitList_lineCase (s : State) (m : Line) : (s.serveWaitList).lineCase m = s.lineCase m := by
  simp only [State.serveWaitList]
  repeat' split
  all_goals simp [State.modTx_lineCase, Tx.load, Tx.beginFill]

@[simp] theorem State.startCounts_lineCase (s : State) (ref : CopyRef) (m : Line) : (s.startCounts ref).lineCase m = s.lineCase m := by
  simp only [State.startCounts]
  repeat' split
  all_goals simp [State.modTx_lineCase, Tx.load, Tx.beginFill]

@[simp] theorem State.dispatchCopy_lineCase (s : State) (ref : CopyRef) (m : Line) : (s.dispatchCopy ref).lineCase m = s.lineCase m := by
  simp only [State.dispatchCopy]
  repeat' split
  all_goals simp [State.modTx_lineCase, Tx.load, Tx.beginFill]

@[simp] theorem State.dispatchAll_lineCase (s : State) (l : List CopyRef) (m : Line) : (State.dispatchAll s l).lineCase m = s.lineCase m := by
  induction l generalizing s with
  | nil => rfl
  | cons x xs ih =>
    simp only [State.dispatchAll]
    repeat' split
    all_goals simp [ih]

@[simp] theorem State.dispatchRecord_lineCase (s : State) (r : RecIx) (m : Line) : (s.dispatchRecord r).lineCase m = s.lineCase m := by
  simp only [State.dispatchRecord]
  repeat' split
  all_goals simp [State.modTx_lineCase, Tx.load, Tx.beginFill]

theorem State.dispatchRestart_lineCase (s : State) (l : List CopyRef) (m : Line) :
    (State.dispatchRestart s l).1.lineCase m = s.lineCase m := by
  induction l generalizing s with
  | nil => rfl
  | cons x xs ih =>
    simp only [State.dispatchRestart]
    split <;> simp [ih]

@[simp] theorem State.holdOffEnds_lineCase (s : State) (m : Line) : s.holdOffEnds.lineCase m = s.lineCase m := by
  simp [State.holdOffEnds, State.dispatchRestart_lineCase]

@[simp] theorem State.enqueueOrRefuse_lineCase (s : State) (n : Line) (ref : CopyRef) (m : Line) : (s.enqueueOrRefuse n ref).lineCase m = s.lineCase m := by
  simp only [State.enqueueOrRefuse]
  repeat' split
  all_goals simp [State.modTx_lineCase, Tx.load, Tx.beginFill]

@[simp] theorem State.die_lineCase (s : State) (k : CtxIx) (ref : CopyRef) (m : Line) : (s.die k ref).lineCase m = s.lineCase m := by
  simp only [State.die]
  repeat' split
  all_goals simp [State.modTx_lineCase, Tx.load, Tx.beginFill]

@[simp] theorem State.bindInstead_lineCase (s : State) (k : CtxIx) (n : Line) (ref : CopyRef) (m : Line) : (s.bindInstead k n ref).lineCase m = s.lineCase m := by
  simp only [State.bindInstead]
  repeat' split
  all_goals simp [State.modTx_lineCase, Tx.load, Tx.beginFill]

@[simp] theorem State.reoffer_lineCase (s : State) (k : CtxIx) (ref : CopyRef) (next : Nat) (m : Line) : (s.reoffer k ref next).lineCase m = s.lineCase m := by
  simp only [State.reoffer]
  repeat' split
  all_goals simp [State.modTx_lineCase, Tx.load, Tx.beginFill]

@[simp] theorem State.unclaimed_lineCase (s : State) (k : CtxIx) (ref : CopyRef) (m : Line) : (s.unclaimed k ref).lineCase m = s.lineCase m := by
  simp only [State.unclaimed]
  repeat' split
  all_goals simp [State.modTx_lineCase, Tx.load, Tx.beginFill]

@[simp] theorem State.spoiled_lineCase (s : State) (k : CtxIx) (ref : CopyRef) (m : Line) : (s.spoiled k ref).lineCase m = s.lineCase m := by
  simp only [State.spoiled]
  repeat' split
  all_goals simp [State.modTx_lineCase, Tx.load, Tx.beginFill]

@[simp] theorem State.handed_lineCase (s : State) (k : CtxIx) (ref : CopyRef) (m : Line) : (s.handed k ref).lineCase m = s.lineCase m := by
  simp only [State.handed]
  repeat' split
  all_goals simp [State.modTx_lineCase, Tx.load, Tx.beginFill]

@[simp] theorem State.sendsLook_lineCase (s : State) (r : RecIx) (l : List CtxIx) (m : Line) : (State.sendsLook s r l).lineCase m = s.lineCase m := by
  induction l generalizing s with
  | nil => rfl
  | cons x xs ih =>
    simp only [State.sendsLook]
    repeat' split
    all_goals simp [ih]

@[simp] theorem State.linesLook_lineCase (s : State) (r : RecIx) (oldCount : Nat) (oldComplete : Bool) (l : List Line) (m : Line) : (State.linesLook s r oldCount oldComplete l).lineCase m = s.lineCase m := by
  induction l generalizing s with
  | nil => rfl
  | cons x xs ih =>
    simp only [State.linesLook]
    repeat' split
    all_goals simp [ih]

@[simp] theorem State.textChanged_lineCase (s : State) (r : RecIx) (oldCount : Nat) (oldComplete : Bool) (m : Line) : (s.textChanged r oldCount oldComplete).lineCase m = s.lineCase m := by
  simp only [State.textChanged]
  repeat' split
  all_goals simp [State.modTx_lineCase, Tx.load, Tx.beginFill]

@[simp] theorem State.cutShort_lineCase (s : State) (r : RecIx) (m : Line) : (s.cutShort r).lineCase m = s.lineCase m := by
  simp only [State.cutShort]
  repeat' split
  all_goals simp [State.modTx_lineCase, Tx.load, Tx.beginFill]

@[simp] theorem State.dropSendOf_lineCase (s : State) (ref : CopyRef) (m : Line) : (s.dropSendOf ref).lineCase m = s.lineCase m := by
  simp only [State.dropSendOf]
  repeat' split
  all_goals simp [State.modTx_lineCase, Tx.load, Tx.beginFill]

@[simp] theorem State.forgetCopy_lineCase (s : State) (ref : CopyRef) (m : Line) : (s.forgetCopy ref).lineCase m = s.lineCase m := by
  simp only [State.forgetCopy]
  repeat' split
  all_goals simp [State.modTx_lineCase, Tx.load, Tx.beginFill]

@[simp] theorem State.withdrawCopy_lineCase (s : State) (ref : CopyRef) (m : Line) : (s.withdrawCopy ref).lineCase m = s.lineCase m := by
  simp only [State.withdrawCopy]
  repeat' split
  all_goals simp [State.modTx_lineCase, Tx.load, Tx.beginFill]

@[simp] theorem State.discardRecord_lineCase (s : State) (r : RecIx) (m : Line) : (s.discardRecord r).lineCase m = s.lineCase m := by
  simp only [State.discardRecord]
  repeat' split
  all_goals simp [State.modTx_lineCase, Tx.load, Tx.beginFill]

@[simp] theorem State.endRecord_lineCase (s : State) (r : RecIx) (m : Line) : (s.endRecord r).lineCase m = s.lineCase m := by
  simp only [State.endRecord]
  repeat' split
  all_goals simp [State.modTx_lineCase, Tx.load, Tx.beginFill]

@[simp] theorem State.endTakeRecord_lineCase (s : State) (k : CtxIx) (t : Take) (m : Line) : (s.endTakeRecord k t).lineCase m = s.lineCase m := by
  simp only [State.endTakeRecord]
  repeat' split
  all_goals simp [State.modTx_lineCase, Tx.load, Tx.beginFill]

@[simp] theorem State.dropClaim_lineCase (s : State) (k : CtxIx) (m : Line) : (s.dropClaim k).lineCase m = s.lineCase m := by
  simp only [State.dropClaim]
  repeat' split
  all_goals simp [State.modTx_lineCase, Tx.load, Tx.beginFill]

@[simp] theorem State.giveUpTake_lineCase (s : State) (k : CtxIx) (t : Take) (m : Line) : (s.giveUpTake k t).lineCase m = s.lineCase m := by
  simp only [State.giveUpTake]
  repeat' split
  all_goals simp [State.modTx_lineCase, Tx.load, Tx.beginFill]

@[simp] theorem State.abandonTake_lineCase (s : State) (k : CtxIx) (t : Take) (reason : Reason) (m : Line) : (s.abandonTake k t reason).lineCase m = s.lineCase m := by
  simp only [State.abandonTake]
  repeat' split
  all_goals simp [State.modTx_lineCase, Tx.load, Tx.beginFill]

@[simp] theorem State.answerClose_lineCase (s : State) (k : CtxIx) (m : Line) : (s.answerClose k).lineCase m = s.lineCase m := by
  simp only [State.answerClose]
  repeat' split
  all_goals simp [State.modTx_lineCase, Tx.load, Tx.beginFill]

@[simp] theorem State.endTaking_lineCase (s : State) (l : List RecIx) (m : Line) : (State.endTaking s l).lineCase m = s.lineCase m := by
  induction l generalizing s with
  | nil => rfl
  | cons x xs ih =>
    simp only [State.endTaking]
    repeat' split
    all_goals simp [ih]

@[simp] theorem State.returnCopies_lineCase (s : State) (m : Line) : (s.returnCopies).lineCase m = s.lineCase m := by
  simp only [State.returnCopies]
  repeat' split
  all_goals simp [State.modTx_lineCase, Tx.load, Tx.beginFill]

@[simp] theorem State.startHoldOff_lineCase (s : State) (m : Line) : (s.startHoldOff).lineCase m = s.lineCase m := by
  simp only [State.startHoldOff]
  repeat' split
  all_goals simp [State.modTx_lineCase, Tx.load, Tx.beginFill]

@[simp] theorem State.warmRestart_lineCase (s : State) (sender : Slot) (received : Bool) (m : Line) : (s.warmRestart sender received).lineCase m = s.lineCase m := by
  simp only [State.warmRestart]
  repeat' split
  all_goals simp [State.modTx_lineCase, Tx.load, Tx.beginFill]

@[simp] theorem State.turnReview_lineCase (s : State) (n : Line) (m : Line) : (s.turnReview n).lineCase m = s.lineCase m := by
  simp only [State.lineCase, State.turnReview, State.modLine_line]
  split <;> rfl

@[simp] theorem State.turnWait_lineCase (s : State) (n : Line) (m : Line) : (s.turnWait n).lineCase m = s.lineCase m := by
  simp only [State.lineCase, State.turnWait, State.modLine_line]
  split <;> rfl

@[simp] theorem State.setRx_lineCase (s : State) (n : Line) (st : RxState) (m : Line) : (s.setRx n st).lineCase m = s.lineCase m := by
  simp only [State.lineCase, State.setRx, State.modLine_line]
  split <;> rfl

@[simp] theorem State.suspendRx_lineCase (s : State) (n : Line) (m : Line) : (s.suspendRx n).lineCase m = s.lineCase m := by
  simp only [State.suspendRx]
  repeat' split
  all_goals simp [State.modTx_lineCase, Tx.load, Tx.beginFill]

/-- The next character to begin leaves the line case. -/
theorem Tx.begin_lineCase (t : Tx) : t.begin.lineCase = t.lineCase := by
  unfold Tx.begin
  repeat' split
  all_goals rfl

@[simp] theorem State.beginHeld_lineCase (s : State) (n m : Line) : (s.beginHeld n).lineCase m = s.lineCase m := by
  simp [State.beginHeld, State.modTx_lineCase _ _ _ _ Tx.begin_lineCase]

@[simp] theorem State.takeOrWithdraw_lineCase (s : State) (n : Line) (m : Line) : (s.takeOrWithdraw n).lineCase m = s.lineCase m := by
  simp only [State.takeOrWithdraw]
  repeat' split
  all_goals simp [State.modTx_lineCase, Tx.load, Tx.beginFill]

@[simp] theorem State.takenOff_lineCase (s : State) (n : Line) (m : Line) : (s.takenOff n).lineCase m = s.lineCase m := by
  simp only [State.takenOff]
  repeat' split
  all_goals simp [State.modTx_lineCase, Tx.load, Tx.beginFill]

@[simp] theorem State.leftHunt_lineCase (s : State) (n : Line) (m : Line) : (s.leftHunt n).lineCase m = s.lineCase m := by
  simp only [State.leftHunt]
  repeat' split
  all_goals simp [State.modTx_lineCase, Tx.load, Tx.beginFill]

@[simp] theorem State.returnToHunt_lineCase (s : State) (n : Line) (m : Line) : (s.returnToHunt n).lineCase m = s.lineCase m := by
  simp only [State.returnToHunt]
  repeat' split
  all_goals simp [State.modTx_lineCase, Tx.load, Tx.beginFill]

@[simp] theorem State.lineOverrun_lineCase (s : State) (n : Line) (r : RecIx) (m : Line) : (s.lineOverrun n r).lineCase m = s.lineCase m := by
  simp only [State.lineOverrun]
  repeat' split
  all_goals simp [State.modTx_lineCase, Tx.load, Tx.beginFill]

@[simp] theorem State.appendChar_lineCase (s : State) (r : RecIx) (c : Code) (m : Line) : (s.appendChar r c).lineCase m = s.lineCase m := by
  simp only [State.appendChar]
  repeat' split
  all_goals simp [State.modTx_lineCase, Tx.load, Tx.beginFill]

@[simp] theorem State.storeChar_lineCase (s : State) (n : Line) (r : RecIx) (c : Code) (m : Line) :
    (s.storeChar n r c).lineCase m = s.lineCase m := by
  simp only [State.storeChar]
  repeat' split
  · rfl
  · rename_i t h; simp [State.allocateBlock_lineCase s t r m h]
  all_goals simp

@[simp] theorem State.defaultHeading_lineCase (s : State) (r : RecIx) (m : Line) : (s.defaultHeading r).lineCase m = s.lineCase m := by
  simp only [State.defaultHeading]
  repeat' split
  all_goals simp [State.modTx_lineCase, Tx.load, Tx.beginFill]

@[simp] theorem State.fillTable_lineCase (s : State) (n : Line) (r : RecIx) (stations : List StationCode) (m : Line) : (s.fillTable n r stations).lineCase m = s.lineCase m := by
  simp only [State.fillTable]
  repeat' split
  all_goals simp [State.modTx_lineCase, Tx.load, Tx.beginFill]

@[simp] theorem State.headingEnds_lineCase (s : State) (n : Line) (r : RecIx) (stations : List StationCode) (m : Line) : (s.headingEnds n r stations).lineCase m = s.lineCase m := by
  simp only [State.headingEnds]
  repeat' split
  all_goals simp [State.modTx_lineCase, Tx.load, Tx.beginFill]

@[simp] theorem State.takeHeading_lineCase (s : State) (n : Line) (r : RecIx) (h : Handed) (m : Line) : (s.takeHeading n r h).lineCase m = s.lineCase m := by
  simp only [State.takeHeading]
  repeat' split
  all_goals simp [State.modTx_lineCase, Tx.load, Tx.beginFill]

@[simp] theorem State.takeDesignator_lineCase (s : State) (n : Line) (r : RecIx) (h : Handed) (m : Line) : (s.takeDesignator n r h).lineCase m = s.lineCase m := by
  simp only [State.takeDesignator]
  repeat' split
  all_goals simp [State.modTx_lineCase, Tx.load, Tx.beginFill]

@[simp] theorem State.checkChannel_lineCase (s : State) (n : Line) (r : RecIx) (received : Nat) (m : Line) : (s.checkChannel n r received).lineCase m = s.lineCase m := by
  simp only [State.checkChannel]
  repeat' split
  all_goals simp [State.modTx_lineCase, Tx.load, Tx.beginFill]

@[simp] theorem State.takeGroup_lineCase (s : State) (n : Line) (r : RecIx) (h : Handed) (m : Line) : (s.takeGroup n r h).lineCase m = s.lineCase m := by
  simp only [State.takeGroup]
  repeat' split
  all_goals simp [State.modTx_lineCase, Tx.load, Tx.beginFill]

@[simp] theorem State.completeRecord_lineCase (s : State) (r : RecIx) (truncated : Bool) (m : Line) : (s.completeRecord r truncated).lineCase m = s.lineCase m := by
  simp only [State.completeRecord]
  repeat' split
  all_goals simp [State.modTx_lineCase, Tx.load, Tx.beginFill]

@[simp] theorem State.dispatchAtClose_lineCase (s : State) (r : RecIx) (filled : Bool) (m : Line) : (s.dispatchAtClose r filled).lineCase m = s.lineCase m := by
  simp only [State.dispatchAtClose]
  repeat' split
  all_goals simp [State.modTx_lineCase, Tx.load, Tx.beginFill]

@[simp] theorem State.malformedAtClose_lineCase (s : State) (n : Line) (r : RecIx) (m : Line) : (s.malformedAtClose n r).lineCase m = s.lineCase m := by
  simp only [State.malformedAtClose]
  repeat' split
  all_goals simp [State.modTx_lineCase, Tx.load, Tx.beginFill]

@[simp] theorem State.closeByRun_lineCase (s : State) (n : Line) (r : RecIx) (m : Line) : (s.closeByRun n r).lineCase m = s.lineCase m := by
  simp only [State.closeByRun]
  repeat' split
  all_goals simp [State.modTx_lineCase, Tx.load, Tx.beginFill]

@[simp] theorem State.closeTruncated_lineCase (s : State) (n : Line) (r : RecIx) (cause : TruncateCause) (m : Line) : (s.closeTruncated n r cause).lineCase m = s.lineCase m := by
  simp only [State.closeTruncated]
  repeat' split
  all_goals simp [State.modTx_lineCase, Tx.load, Tx.beginFill]

@[simp] theorem State.takeOrdinary_lineCase (s : State) (n : Line) (r : RecIx) (h : Handed) (m : Line) : (s.takeOrdinary n r h).lineCase m = s.lineCase m := by
  simp only [State.takeOrdinary]
  repeat' split
  all_goals simp [State.modTx_lineCase, Tx.load, Tx.beginFill]

@[simp] theorem State.takeAll_lineCase (s : State) (n : Line) (r : RecIx) (l : List Handed) (m : Line) : (State.takeAll s n r l).lineCase m = s.lineCase m := by
  induction l generalizing s with
  | nil => rfl
  | cons x xs ih =>
    simp only [State.takeAll]
    repeat' split
    all_goals simp [ih]

@[simp] theorem State.restartSilence_lineCase (s : State) (n : Line) (m : Line) : (s.restartSilence n).lineCase m = s.lineCase m := by
  simp only [State.restartSilence]
  repeat' split
  all_goals simp [State.modTx_lineCase, Tx.load, Tx.beginFill]

@[simp] theorem State.messageChar_lineCase (s : State) (n : Line) (r : RecIx) (h : Handed) (m : Line) : (s.messageChar n r h).lineCase m = s.lineCase m := by
  simp only [State.messageChar]
  repeat' split
  all_goals simp [State.modTx_lineCase, Tx.load, Tx.beginFill]

@[simp] theorem State.countFraming_lineCase (s : State) (r : RecIx) (framing : Bool) (m : Line) : (s.countFraming r framing).lineCase m = s.lineCase m := by
  simp only [State.countFraming]
  repeat' split
  all_goals simp [State.modTx_lineCase, Tx.load, Tx.beginFill]

@[simp] theorem State.openMessage_lineCase (s : State) (n : Line) (r : RecIx) (m : Line) : (s.openMessage n r).lineCase m = s.lineCase m := by
  simp only [State.openMessage]
  repeat' split
  all_goals simp [State.modTx_lineCase, Tx.load, Tx.beginFill]

@[simp] theorem State.loseMessage_lineCase (s : State) (n : Line) (m : Line) : (s.loseMessage n).lineCase m = s.lineCase m := by
  simp only [State.loseMessage]
  repeat' split
  all_goals simp [State.modTx_lineCase, Tx.load, Tx.beginFill]

@[simp] theorem State.openingRunDone_lineCase (s : State) (n : Line) (m : Line) : (s.openingRunDone n).lineCase m = s.lineCase m := by
  simp only [State.openingRunDone]
  repeat' split
  all_goals simp [State.modTx_lineCase, Tx.load, Tx.beginFill]

@[simp] theorem State.huntChar_lineCase (s : State) (n : Line) (h : Handed) (m : Line) : (s.huntChar n h).lineCase m = s.lineCase m := by
  simp only [State.huntChar]
  repeat' split
  all_goals simp [State.modTx_lineCase, Tx.load, Tx.beginFill]

@[simp] theorem State.discardChar_lineCase (s : State) (n : Line) (h : Handed) (m : Line) : (s.discardChar n h).lineCase m = s.lineCase m := by
  simp only [State.discardChar]
  repeat' split
  all_goals simp [State.modTx_lineCase, Tx.load, Tx.beginFill]

@[simp] theorem State.handOverChar_lineCase (s : State) (n : Line) (h : Handed) (framing : Bool) (m : Line) : (s.handOverChar n h framing).lineCase m = s.lineCase m := by
  simp only [State.handOverChar]
  repeat' split
  all_goals simp [State.modTx_lineCase, Tx.load, Tx.beginFill]

@[simp] theorem State.asmLineOpen_lineCase (s : State) (n : Line) (m : Line) : (s.asmLineOpen n).lineCase m = s.lineCase m := by
  simp only [State.asmLineOpen]
  repeat' split
  all_goals simp [State.modTx_lineCase, Tx.load, Tx.beginFill]

@[simp] theorem State.modCond_lineCase (s : State) (n : Line) (pin : LoopPin) (f : Cond → Cond) (m : Line) :
    (s.modCond n pin f).lineCase m = s.lineCase m := by
  cases pin <;> simp only [State.lineCase, State.modCond, State.modLine_line] <;> split <;> rfl

@[simp] theorem State.setPin_lineCase (s : State) (n : Line) (pin : LoopPin) (level : Level) (m : Line) :
    (s.setPin n pin level).lineCase m = s.lineCase m := by
  cases pin <;> simp only [State.lineCase, State.setPin, State.modLine_line] <;> split <;> rfl

@[simp] theorem State.readPin_lineCase (s : State) (n : Line) (pin : LoopPin) (level : Level) (m : Line) : (s.readPin n pin level).lineCase m = s.lineCase m := by
  simp only [State.readPin]
  repeat' split
  all_goals simp [State.modTx_lineCase, Tx.load, Tx.beginFill]

@[simp] theorem State.setRxCase_lineCase (s : State) (n : Line) (c : Case) (m : Line) : (s.setRxCase n c).lineCase m = s.lineCase m := by
  simp only [State.lineCase, State.setRxCase, State.modLine_line]
  split <;> rfl

@[simp] theorem State.resumeRx_lineCase (s : State) (n : Line) (m : Line) : (s.resumeRx n).lineCase m = s.lineCase m := by
  simp only [State.resumeRx]
  repeat' split
  all_goals simp [State.modTx_lineCase, Tx.load, Tx.beginFill]

@[simp] theorem State.abandonTx_lineCase (s : State) (n : Line) (m : Line) : (s.abandonTx n).lineCase m = s.lineCase m := by
  simp only [State.abandonTx]
  repeat' split
  all_goals simp [State.modTx_lineCase, Tx.load, Tx.beginFill]

@[simp] theorem State.receiveLost_lineCase (s : State) (n : Line) (m : Line) : (s.receiveLost n).lineCase m = s.lineCase m := by
  simp only [State.receiveLost]
  repeat' split
  all_goals simp [State.modTx_lineCase, Tx.load, Tx.beginFill]

@[simp] theorem State.sendLost_lineCase (s : State) (n : Line) (m : Line) : (s.sendLost n).lineCase m = s.lineCase m := by
  simp only [State.sendLost]
  repeat' split
  all_goals simp [State.modTx_lineCase, Tx.load, Tx.beginFill]

@[simp] theorem State.spacingEnds_lineCase (s : State) (n : Line) (pin : LoopPin) (m : Line) : (s.spacingEnds n pin).lineCase m = s.lineCase m := by
  simp only [State.spacingEnds]
  repeat' split
  all_goals simp [State.modTx_lineCase, Tx.load, Tx.beginFill]

@[simp] theorem State.condOpens_lineCase (s : State) (n : Line) (pin : LoopPin) (m : Line) : (s.condOpens n pin).lineCase m = s.lineCase m := by
  simp only [State.condOpens]
  repeat' split
  all_goals simp [State.modTx_lineCase, Tx.load, Tx.beginFill]

@[simp] theorem State.condCloses_lineCase (s : State) (n : Line) (pin : LoopPin) (m : Line) : (s.condCloses n pin).lineCase m = s.lineCase m := by
  simp only [State.condCloses]
  repeat' split
  all_goals simp [State.modTx_lineCase, Tx.load, Tx.beginFill]

@[simp] theorem State.release_lineCase (s : State) (l : List CopyRef) (m : Line) : (State.release s l).lineCase m = s.lineCase m := by
  induction l generalizing s with
  | nil => rfl
  | cons x xs ih =>
    simp only [State.release]
    repeat' split
    all_goals simp [ih]

@[simp] theorem State.releaseAndDispatch_lineCase (s : State) (ref : CopyRef) (m : Line) : (s.releaseAndDispatch ref).lineCase m = s.lineCase m := by
  simp only [State.releaseAndDispatch]
  repeat' split
  all_goals simp [State.modTx_lineCase, Tx.load, Tx.beginFill]

@[simp] theorem State.releaseAll_lineCase (s : State) (l : List CopyRef) (m : Line) : (State.releaseAll s l).lineCase m = s.lineCase m := by
  induction l generalizing s with
  | nil => rfl
  | cons x xs ih =>
    simp only [State.releaseAll]
    repeat' split
    all_goals simp [ih]

@[simp] theorem State.lineFails_lineCase (s : State) (n : Line) (pin : LoopPin) (m : Line) : (s.lineFails n pin).lineCase m = s.lineCase m := by
  simp only [State.lineFails]
  repeat' split
  all_goals simp [State.modTx_lineCase, Tx.load, Tx.beginFill]

@[simp] theorem State.condFails_lineCase (s : State) (n : Line) (pin : LoopPin) (m : Line) : (s.condFails n pin).lineCase m = s.lineCase m := by
  simp only [State.condFails]
  repeat' split
  all_goals simp [State.modTx_lineCase, Tx.load, Tx.beginFill]

@[simp] theorem State.endChar_lineCase (s : State) (n : Line) (code : Code) (framing : Bool) (m : Line) : (s.endChar n code framing).lineCase m = s.lineCase m := by
  simp only [State.endChar]
  repeat' split
  all_goals simp [State.modTx_lineCase, Tx.load, Tx.beginFill]

@[simp] theorem State.silenceEnds_lineCase (s : State) (n : Line) (m : Line) : (s.silenceEnds n).lineCase m = s.lineCase m := by
  simp only [State.silenceEnds]
  repeat' split
  all_goals simp [State.modTx_lineCase, Tx.load, Tx.beginFill]

@[simp] theorem State.reportFill_lineCase (s : State) (n : Line) (m : Line) : (s.reportFill n).lineCase m = s.lineCase m := by
  simp only [State.reportFill]
  repeat' split
  all_goals simp [State.modTx_lineCase, Tx.load, Tx.beginFill]

@[simp] theorem State.round_lineCase (s : State) (rivals : List Nat) (m : Line) : (s.round rivals).lineCase m = s.lineCase m := by
  simp only [State.round]
  repeat' split
  all_goals simp [State.modTx_lineCase, Tx.load, Tx.beginFill]

@[simp] theorem State.undrive_lineCase (s : State) (m : Line) : (s.undrive).lineCase m = s.lineCase m := by
  simp only [State.undrive]
  repeat' split
  all_goals simp [State.modTx_lineCase, Tx.load, Tx.beginFill]

@[simp] theorem State.offerReported_lineCase (s : State) (k : CtxIx) (m : Line) : (s.offerReported k).lineCase m = s.lineCase m := by
  simp only [State.offerReported]
  repeat' split
  all_goals simp [State.modTx_lineCase, Tx.load, Tx.beginFill]

@[simp] theorem State.claimReported_lineCase (s : State) (k : CtxIx) (m : Line) : (s.claimReported k).lineCase m = s.lineCase m := by
  simp only [State.claimReported]
  repeat' split
  all_goals simp [State.modTx_lineCase, Tx.load, Tx.beginFill]

@[simp] theorem State.textReported_lineCase (s : State) (k : CtxIx) (d : Driven) (m : Line) : (s.textReported k d).lineCase m = s.lineCase m := by
  simp only [State.textReported]
  repeat' split
  all_goals simp [State.modTx_lineCase, Tx.load, Tx.beginFill]

@[simp] theorem State.closeReported_lineCase (s : State) (k : CtxIx) (m : Line) : (s.closeReported k).lineCase m = s.lineCase m := by
  simp only [State.closeReported]
  repeat' split
  all_goals simp [State.modTx_lineCase, Tx.load, Tx.beginFill]

@[simp] theorem State.answerReported_lineCase (s : State) (k : CtxIx) (m : Line) : (s.answerReported k).lineCase m = s.lineCase m := by
  simp only [State.answerReported]
  repeat' split
  all_goals simp [State.modTx_lineCase, Tx.load, Tx.beginFill]

@[simp] theorem State.dropAnswer_lineCase (s : State) (tag : Tag) (reason : Reason) (m : Line) : (s.dropAnswer tag reason).lineCase m = s.lineCase m := by
  simp only [State.dropAnswer]
  repeat' split
  all_goals simp [State.modTx_lineCase, Tx.load, Tx.beginFill]

@[simp] theorem State.claim_lineCase (s : State) (k : CtxIx) (t : Take) (m : Line) : (s.claim k t).lineCase m = s.lineCase m := by
  simp only [State.claim]
  repeat' split
  all_goals simp [State.modTx_lineCase, Tx.load, Tx.beginFill]

@[simp] theorem State.claimDecision_lineCase (s : State) (tag : Tag) (cls : Precedence) (station : StationCode) (length : Option Nat) (cpm attempt : Nat) (m : Line) : (s.claimDecision tag cls station length cpm attempt).lineCase m = s.lineCase m := by
  simp only [State.claimDecision]
  repeat' split
  all_goals simp [State.modTx_lineCase, Tx.load, Tx.beginFill]

@[simp] theorem State.weighLost_lineCase (s : State) (tag : Tag) (cls : Precedence) (attempt : Nat) (m : Line) : (s.weighLost tag cls attempt).lineCase m = s.lineCase m := by
  simp only [State.weighLost]
  repeat' split
  all_goals simp [State.modTx_lineCase, Tx.load, Tx.beginFill]

@[simp] theorem State.weighOffer_lineCase (s : State) (tag : Tag) (cls : Precedence) (station : StationCode) (length : Option Nat) (cpm attempt : Nat) (m : Line) : (s.weighOffer tag cls station length cpm attempt).lineCase m = s.lineCase m := by
  simp only [State.weighOffer]
  repeat' split
  all_goals simp [State.modTx_lineCase, Tx.load, Tx.beginFill]

@[simp] theorem State.takeClaim_lineCase (s : State) (k : CtxIx) (c : Send) (claimant : Slot) (m : Line) : (s.takeClaim k c claimant).lineCase m = s.lineCase m := by
  simp only [State.takeClaim]
  repeat' split
  all_goals simp [State.modTx_lineCase, Tx.load, Tx.beginFill]

@[simp] theorem State.judgeClaim_lineCase (s : State) (tag : Tag) (claimant : Slot) (m : Line) : (s.judgeClaim tag claimant).lineCase m = s.lineCase m := by
  simp only [State.judgeClaim]
  repeat' split
  all_goals simp [State.modTx_lineCase, Tx.load, Tx.beginFill]

@[simp] theorem State.hearRival_lineCase (s : State) (tag : Tag) (m : Line) : (s.hearRival tag).lineCase m = s.lineCase m := by
  simp only [State.hearRival]
  repeat' split
  all_goals simp [State.modTx_lineCase, Tx.load, Tx.beginFill]

@[simp] theorem State.appendBlock_lineCase (s : State) (r : RecIx) (chars : List Code) (m : Line) : (s.appendBlock r chars).lineCase m = s.lineCase m := by
  simp only [State.appendBlock]
  repeat' split
  all_goals simp [State.modTx_lineCase, Tx.load, Tx.beginFill]

@[simp] theorem State.takeOverrun_lineCase (s : State) (k : CtxIx) (r : RecIx) (t : Take) (m : Line) : (s.takeOverrun k r t).lineCase m = s.lineCase m := by
  simp only [State.takeOverrun]
  repeat' split
  all_goals simp [State.modTx_lineCase, Tx.load, Tx.beginFill]

@[simp] theorem State.storeBlock_lineCase (s : State) (k : CtxIx) (r : RecIx) (t : Take) (chars : List Code) (m : Line) :
    (s.storeBlock k r t chars).lineCase m = s.lineCase m := by
  simp only [State.storeBlock]
  repeat' split
  · rfl
  · rename_i u h; simp [State.relayedBlock_lineCase s u k r m h]
  · simp

@[simp] theorem State.takeText_lineCase (s : State) (k : CtxIx) (t : Take) (sequence : Nat) (chars : List Code) (m : Line) : (s.takeText k t sequence chars).lineCase m = s.lineCase m := by
  simp only [State.takeText]
  repeat' split
  all_goals simp [State.modTx_lineCase, Tx.load, Tx.beginFill]

@[simp] theorem State.textEnded_lineCase (s : State) (tag : Tag) (m : Line) : (s.textEnded tag).lineCase m = s.lineCase m := by
  simp only [State.textEnded]
  repeat' split
  all_goals simp [State.modTx_lineCase, Tx.load, Tx.beginFill]

@[simp] theorem State.hearText_lineCase (s : State) (tag : Tag) (sequence : Nat) (chars : List Code) (m : Line) : (s.hearText tag sequence chars).lineCase m = s.lineCase m := by
  simp only [State.hearText]
  repeat' split
  all_goals simp [State.modTx_lineCase, Tx.load, Tx.beginFill]

@[simp] theorem State.enqueueAccepted_lineCase (s : State) (ref : CopyRef) (m : Line) : (s.enqueueAccepted ref).lineCase m = s.lineCase m := by
  simp only [State.enqueueAccepted]
  repeat' split
  all_goals simp [State.modTx_lineCase, Tx.load, Tx.beginFill]

@[simp] theorem State.acceptClose_lineCase (s : State) (k : CtxIx) (r : RecIx) (overrun truncated : Bool) (mutilated : Nat) (m : Line) : (s.acceptClose k r overrun truncated mutilated).lineCase m = s.lineCase m := by
  simp only [State.acceptClose]
  repeat' split
  all_goals simp [State.modTx_lineCase, Tx.load, Tx.beginFill]

@[simp] theorem State.spoilClose_lineCase (s : State) (k : CtxIx) (t : Take) (m : Line) : (s.spoilClose k t).lineCase m = s.lineCase m := by
  simp only [State.spoilClose]
  repeat' split
  all_goals simp [State.modTx_lineCase, Tx.load, Tx.beginFill]

@[simp] theorem State.takeClose_lineCase (s : State) (k : CtxIx) (t : Take) (total check : Nat) (overrun truncated : Bool) (mutilated : Nat) (m : Line) : (s.takeClose k t total check overrun truncated mutilated).lineCase m = s.lineCase m := by
  simp only [State.takeClose]
  repeat' split
  all_goals simp [State.modTx_lineCase, Tx.load, Tx.beginFill]

@[simp] theorem State.takerAbandons_lineCase (s : State) (k : CtxIx) (ref : CopyRef) (m : Line) : (s.takerAbandons k ref).lineCase m = s.lineCase m := by
  simp only [State.takerAbandons]
  repeat' split
  all_goals simp [State.modTx_lineCase, Tx.load, Tx.beginFill]

@[simp] theorem State.originAbandons_lineCase (s : State) (tag : Tag) (m : Line) : (s.originAbandons tag).lineCase m = s.lineCase m := by
  simp only [State.originAbandons]
  repeat' split
  all_goals simp [State.modTx_lineCase, Tx.load, Tx.beginFill]

@[simp] theorem State.modSupTx_lineCase (s : State) (f : Tx → Tx) (m : Line) : (s.modSupTx f).lineCase m = s.lineCase m := by
  simp only [State.modSupTx]
  repeat' split
  all_goals simp [State.modTx_lineCase, Tx.load, Tx.beginFill]

@[simp] theorem State.supFollows_lineCase (s : State) (held : Option TxChar) (m : Line) : (s.supFollows held).lineCase m = s.lineCase m := by
  simp only [State.supFollows]
  repeat' split
  all_goals simp [State.modTx_lineCase, Tx.load, Tx.beginFill]

@[simp] theorem State.supCountFill_lineCase (s : State) (m : Line) : (s.supCountFill).lineCase m = s.lineCase m := by
  simp only [State.supCountFill]
  repeat' split
  all_goals simp [State.modTx_lineCase, Tx.load, Tx.beginFill]

end Sys2Proof.Machine
end

