-- ==== Sys2Proof/Laws/Places.lean ====
section
/-! SUPPORT. What the operations that meet a free choice can do, said once: places that fall free, the withdrawal on a HALF line, and the join of a copy. -/

namespace Sys2Proof.Machine

/-! ### Places of the supervisor queue (R75, R160) -/

/-- With no dead copy waiting, or no place free, nothing is handed over (R160). -/
theorem State.handOverMany_of_served (s : State) (h : DeadCopiesServed s) (fuel : Nat) :
    s.handOverMany fuel = s := by
  cases fuel with
  | zero => rfl
  | succ k =>
    rcases h with h | h
    · simp [State.handOverMany, h]
    · have : s.sup.places = 0 := by simp only [Supervisor.places, Config.supervisorPlaces]; omega
      cases hd : s.router.deadList <;> simp [State.handOverMany, hd, this]

theorem State.handOver_of_served (s : State) (h : DeadCopiesServed s) : s.handOver = s :=
  s.handOverMany_of_served h _

/-- Places that a notice seeks too: with no dead copy waiting or no place free nothing happens, the choice
leaves the places to the notice, or the head of the dead wait list takes one and the rest are sought again
(R75, R160, log 31). -/
theorem State.handOverSought_cases (s : State) (fuel : Nat) :
    DeadCopiesServed s ∧ s.handOverSought (fuel + 1) = s ∨
    ¬DeadCopiesServed s ∧ Config.noticeFirst s.choices = true ∧ s.handOverSought (fuel + 1) = s.chosen ∨
    ¬DeadCopiesServed s ∧ Config.noticeFirst s.choices = false ∧
      s.handOverSought (fuel + 1) = (s.chosen.handOverMany 1).handOverSought fuel := by
  have hp : (s.sup.places = 0 || s.router.deadList.isEmpty) = true ↔ DeadCopiesServed s := by
    rw [Bool.or_eq_true, List.isEmpty_iff, decide_eq_true_iff, Or.comm]
    simp [DeadCopiesServed, Supervisor.places, Config.supervisorPlaces, Nat.sub_eq_zero_iff_le]
  simp only [State.handOverSought]
  split
  · rename_i h; exact .inl ⟨hp.1 h, rfl⟩
  · rename_i h
    have hn := fun hd => h (hp.2 hd)
    split
    · rename_i hc; exact .inr (.inl ⟨hn, hc, rfl⟩)
    · rename_i hc; exact .inr (.inr ⟨hn, by simpa using hc, rfl⟩)

/-- Places that fall free: none did, or a notice seeks them, or they are handed over at once (R75, R160). -/
theorem State.placeFreed_cases (s before : State) (sought : Bool) :
    s.sup.places ≤ before.sup.places ∧ s.placeFreed before sought = s ∨
    before.sup.places < s.sup.places ∧
      (sought = true ∧ s.placeFreed before sought = s.handOverSought Config.supervisorPlaces ∨
        sought = false ∧ s.placeFreed before sought = s.handOver) := by
  simp only [State.placeFreed]
  split
  · rename_i h; exact .inl ⟨h, rfl⟩
  · rename_i h; cases sought <;> simp [Nat.lt_of_not_le h]

/-- A place that no notice seeks goes to the dead wait list at once (R160). -/
theorem State.placeFreed_unsought (s before : State) (h : before.sup.places < s.sup.places) :
    s.placeFreed before false = s.handOver := by
  simp [State.placeFreed, Nat.not_le.mpr h]

/-! ### The withdrawal on a HALF line (R150) -/

/-- The shift stage cannot take the held character, or the choice withdraws it first, or the shift stage has
taken it (R150 item 1, R12, log 31). -/
theorem State.takeOrWithdraw_cases (s : State) (n : Line) :
    s.mayBegin n = false ∧ s.takeOrWithdraw n = s ∨
    s.mayBegin n = true ∧ Config.shiftFirst s.choices = false ∧ s.takeOrWithdraw n = s.chosen ∨
    s.mayBegin n = true ∧ Config.shiftFirst s.choices = true ∧ s.takeOrWithdraw n = s.chosen.beginHeld n := by
  simp only [State.takeOrWithdraw]
  split
  · rename_i h
    split
    · rename_i hc; exact .inr (.inr ⟨h, hc, rfl⟩)
    · rename_i hc; exact .inr (.inl ⟨h, by simpa using hc, rfl⟩)
  · rename_i h; exact .inl ⟨by simpa using h, rfl⟩

/-! ### The join of a copy (R56, R67) -/

/-- The test of the copy table is that of R56 and R67. -/
theorem boundThere_iff (s : State) (n : Line) (ref : CopyRef) (i : CopyIx) :
    BoundThere s n ref i ↔ (i ≠ ref.ix && i.val < (s.record ref.record).copies.length &&
      joinable n (s.copy ⟨ref.record, i⟩)) = true := by
  have hc : ∀ y, CopyIs s ⟨ref.record, i⟩ y ↔
      i.val < (s.record ref.record).copies.length ∧ s.copy ⟨ref.record, i⟩ = y := by
    intro y
    simp only [CopyIs, State.copy, Record.copy, List.getElem?_eq_some_iff]
    constructor
    · rintro ⟨hl, rfl⟩; simp [hl]
    · rintro ⟨hl, rfl⟩; simp [hl]
  simp only [BoundThere, joinable, hc, Bool.and_eq_true, decide_eq_true_eq, Option.isNone_iff_eq_none]
  exact ⟨fun ⟨h, y, ⟨hl, e⟩, h1, h2, h3⟩ => e ▸ ⟨⟨h, hl⟩, ⟨h1, h2⟩, h3⟩,
    fun ⟨⟨h, hl⟩, ⟨h1, h2⟩, h3⟩ => ⟨h, _, ⟨hl, rfl⟩, h1, h2, h3⟩⟩

/-- A copy joins another one of its record that is bound to the line, not itself joined and not SETTLED,
and the lowest-numbered of several (R56, R67). -/
theorem State.partner_eq_some {s : State} {n : Line} {ref : CopyRef} {i : CopyIx} (h : s.partner n ref = some i) :
    BoundThere s n ref i ∧ ∀ j, j < i → ¬BoundThere s n ref j := by
  simp only [boundThere_iff]
  unfold State.partner at h
  refine ⟨by simpa using List.find?_some h, fun j hj => ?_⟩
  obtain ⟨as, bs, hl, ha⟩ := (List.find?_eq_some_iff_append.mp h).2
  have hs : (as ++ i :: bs).Pairwise (· < ·) := hl ▸ List.pairwise_lt_finRange 6
  have hm : j ∈ as ++ i :: bs := hl ▸ List.mem_finRange j
  rcases List.mem_append.mp hm with hm | hm
  · simpa only [Bool.not_eq_true, Bool.not_eq_eq_eq_not, Bool.not_true] using ha j hm
  · have := (List.pairwise_append.mp hs).2.1
    rcases List.mem_cons.mp hm with rfl | hm
    · exact absurd hj (lt_irrefl _)
    · exact absurd ((List.pairwise_cons.mp this).1 j hm) (lt_asymm hj)

/-- A copy joins none exactly when no other copy of its record is bound there (R67). -/
theorem State.partner_eq_none {s : State} {n : Line} {ref : CopyRef} :
    s.partner n ref = none ↔ ∀ i, ¬BoundThere s n ref i := by
  simp [State.partner, boundThere_iff, List.find?_eq_none]

end Sys2Proof.Machine
end

