-- ==== Sys2Proof/Laws/Pool.lean ====
section
/-! SUPPORT. The block pool's memory: every memory operation keeps its canonical form, reset has it, and a read after a write gives the value written or what stood there. -/

set_option linter.unusedTactic false
set_option linter.unreachableTactic false

namespace Sys2Proof.Machine

/-- Every cell of a pool lies above an address. -/
def poolAbove (a : Nat) (m : List Host.Cell) : Prop := ∀ c ∈ m, a < c.1

/-- The canonical form of a longer pool, in parts. -/
theorem poolWf_cons (b : Nat) (w : Byte) (rest : List Host.Cell) :
    poolWf ((b, w) :: rest) = true ↔ w ≠ 0 ∧ poolAbove b rest ∧ poolWf rest = true := by
  simp [poolWf, poolAbove, and_assoc]

/-- A write above an address leaves the pool above it. -/
theorem poolWrite_above (m : List Host.Cell) (a b : Nat) (v : Byte) (hb : b < a) (h : poolAbove b m) :
    poolAbove b (poolWrite m a v) := by
  induction m with
  | nil =>
    intro c hc
    simp only [poolWrite] at hc
    split at hc
    · cases hc
    · cases List.mem_singleton.1 hc; exact hb
  | cons x rest ih =>
    have hx : b < x.1 := h x (by simp)
    have hr : poolAbove b rest := fun c hc => h c (by simp [hc])
    intro c hc
    simp only [poolWrite] at hc
    split at hc
    · split at hc
      · exact h c hc
      · rcases List.mem_cons.1 hc with rfl | hc
        · exact hb
        · exact h c hc
    · split at hc
      · split at hc
        · exact hr c hc
        · rcases List.mem_cons.1 hc with rfl | hc
          · exact hb
          · exact hr c hc
      · rcases List.mem_cons.1 hc with rfl | hc
        · exact hx
        · exact ih hr c hc

/-- A write keeps the canonical form. -/
theorem poolWrite_wf (m : List Host.Cell) (a : Nat) (v : Byte) (h : poolWf m = true) :
    poolWf (poolWrite m a v) = true := by
  induction m with
  | nil =>
    simp only [poolWrite]
    split
    · rfl
    · rename_i hv; exact (poolWf_cons _ _ _).2 ⟨hv, (fun _ hc => nomatch hc), rfl⟩
  | cons x rest ih =>
    obtain ⟨b, w⟩ := x
    obtain ⟨hw, ha, hr⟩ := (poolWf_cons b w rest).1 h
    simp only [poolWrite]
    split
    · rename_i hab
      split
      · exact h
      · rename_i hv
        refine (poolWf_cons _ _ _).2 ⟨hv, ?_, h⟩
        intro c hc
        rcases List.mem_cons.1 hc with rfl | hc
        · exact hab
        · exact Nat.lt_trans hab (ha c hc)
    · rename_i hab
      split
      · rename_i e
        split
        · exact hr
        · rename_i hv; subst e; exact (poolWf_cons _ _ _).2 ⟨hv, ha, hr⟩
      · rename_i e
        have : b < a := by omega
        exact (poolWf_cons _ _ _).2 ⟨hw, poolWrite_above rest a b v this ha, ih hr⟩

/-- An address below every cell reads as an unlisted slot does. -/
theorem poolRead_above (m : List Host.Cell) (a : Nat) (h : poolAbove a m) : poolRead m a = 0 := by
  induction m with
  | nil => rfl
  | cons x rest ih =>
    obtain ⟨b, w⟩ := x
    have hb : a < b := h (b, w) (by simp)
    have hr : poolAbove a rest := fun c hc => h c (by simp [hc])
    simp [poolRead, Nat.ne_of_lt hb, ih hr]

/-- The slot written reads as the value written. -/
theorem poolRead_poolWrite_same (m : List Host.Cell) (a : Nat) (v : Byte) (h : poolWf m = true) :
    poolRead (poolWrite m a v) a = v := by
  induction m with
  | nil =>
    simp only [poolWrite]
    split
    · rename_i hv; simp [poolRead, hv]
    · simp [poolRead]
  | cons x rest ih =>
    obtain ⟨b, w⟩ := x
    obtain ⟨hw, ha, hr⟩ := (poolWf_cons b w rest).1 h
    simp only [poolWrite]
    split
    · rename_i hab
      split
      · rename_i hv
        subst hv
        apply poolRead_above
        intro c hc
        rcases List.mem_cons.1 hc with rfl | hc
        · exact hab
        · exact Nat.lt_trans hab (ha c hc)
      · simp [poolRead]
    · split
      · rename_i e
        subst e
        split
        · rename_i hv; subst hv; exact poolRead_above rest a ha
        · simp [poolRead]
      · rename_i e
        simp [poolRead, e, ih hr]

/-- Every other slot reads as before. -/
theorem poolRead_poolWrite_ne (m : List Host.Cell) (a b : Nat) (v : Byte) (hne : b ≠ a) :
    poolRead (poolWrite m a v) b = poolRead m b := by
  induction m with
  | nil =>
    simp only [poolWrite]
    split <;> simp [poolRead, hne]
  | cons x rest ih =>
    obtain ⟨c, w⟩ := x
    simp only [poolWrite]
    split
    · split
      · rfl
      · simp [poolRead, hne]
    · split
      · rename_i e
        subst e
        split <;> simp [poolRead, hne]
      · simp only [poolRead, ih]

/-- Writing a character keeps the pool's canonical form. -/
theorem State.writeChar_poolWf (s : State) (r : RecIx) (i : Nat) (c : Code)
    (h : poolWf s.store.pool = true) : poolWf (s.writeChar r i c).store.pool = true := by
  simp only [State.writeChar]
  split
  · exact poolWrite_wf _ _ _ h
  · exact h

/-- Writing a run of characters keeps the pool's canonical form. -/
theorem State.writeChars_poolWf (s : State) (r : RecIx) (i : Nat) (cs : List Code)
    (h : poolWf s.store.pool = true) : poolWf (s.writeChars r i cs).store.pool = true := by
  induction cs generalizing s i with
  | nil => exact h
  | cons c cs ih => exact ih _ _ (State.writeChar_poolWf s r i c h)

/-- The pool of the reset state has the canonical form. -/
theorem State.reset_poolWf : poolWf State.reset.store.pool = true := rfl

/-- A character goes to its own slot and leaves every other slot as it was. -/
theorem State.writeChar_read (s : State) (r : RecIx) (i : Nat) (c : Code) (a b : Nat)
    (ha : (s.record r).address i = some a) (h : poolWf s.store.pool = true) :
    poolRead (s.writeChar r i c).store.pool b =
      if b = a then c.setWidth 8 else poolRead s.store.pool b := by
  simp only [State.writeChar, ha, State.modStore_store]
  split
  · rename_i e; subst e; exact poolRead_poolWrite_same _ _ _ h
  · rename_i e; exact poolRead_poolWrite_ne _ _ _ _ e

end Sys2Proof.Machine
end

