-- ==== Sys2Proof/Laws/PoolFrame.lean ====
section
/-! SUPPORT. Which operations leave every character slot of the pool as it was: all but those that store a character. -/

set_option linter.unusedTactic false
set_option linter.unreachableTactic false

namespace Sys2Proof.Machine

@[simp] theorem State.modLine_pool (s : State) (n : Line) (f : LineUnit → LineUnit) : (s.modLine n f).store.pool = s.store.pool := rfl

@[simp] theorem State.modSched_pool (s : State) (n : Line) (f : Sched → Sched) : (s.modSched n f).store.pool = s.store.pool := by
  simp only [State.modSched]
  repeat' split
  all_goals simp

@[simp] theorem State.modAsm_pool (s : State) (n : Line) (f : Assembler → Assembler) : (s.modAsm n f).store.pool = s.store.pool := by
  simp only [State.modAsm]
  repeat' split
  all_goals simp

@[simp] theorem State.modTx_pool (s : State) (n : Line) (f : Tx → Tx) : (s.modTx n f).store.pool = s.store.pool := by
  simp only [State.modTx]
  repeat' split
  all_goals simp

@[simp] theorem State.modMotor_pool (s : State) (n : Line) (f : Motor → Motor) : (s.modMotor n f).store.pool = s.store.pool := by
  simp only [State.modMotor]
  repeat' split
  all_goals simp

@[simp] theorem State.modRouter_pool (s : State) (f : Router → Router) : (s.modRouter f).store.pool = s.store.pool := rfl

@[simp] theorem State.modPort_pool (s : State) (f : Port → Port) : (s.modPort f).store.pool = s.store.pool := rfl

@[simp] theorem State.modSup_pool (s : State) (f : Supervisor → Supervisor) : (s.modSup f).store.pool = s.store.pool := rfl

@[simp] theorem State.modRecord_pool (s : State) (r : RecIx) (f : Record → Record) :
    (s.modRecord r f).store.pool = s.store.pool := rfl

@[simp] theorem State.modCopy_pool (s : State) (ref : CopyRef) (f : Copy → Copy) : (s.modCopy ref f).store.pool = s.store.pool := by
  simp only [State.modCopy]
  repeat' split
  all_goals simp

@[simp] theorem State.setCopyState_pool (s : State) (ref : CopyRef) (st : CopyState) : (s.setCopyState ref st).store.pool = s.store.pool := by
  simp only [State.setCopyState]
  repeat' split
  all_goals simp

@[simp] theorem State.setReserved_pool (s : State) (k : CtxIx) (n : Nat) : (s.setReserved k n).store.pool = s.store.pool := rfl

@[simp] theorem State.releaseReservation_pool (s : State) (k : CtxIx) : (s.releaseReservation k).store.pool = s.store.pool := by
  simp only [State.releaseReservation]
  repeat' split
  all_goals simp

@[simp] theorem State.pledge_pool (s : State) : s.pledge.store.pool = s.store.pool := rfl

theorem State.drawBlock_pool (s t : State) (r : RecIx) (h : s.drawBlock r = some t) : t.store.pool = s.store.pool := by
  unfold State.drawBlock at h
  split at h
  · cases h
  · split at h
    · cases h
    · cases h; simp

theorem State.allocateBlock_pool (s t : State) (r : RecIx) (h : s.allocateBlock r = some t) : t.store.pool = s.store.pool := by
  unfold State.allocateBlock at h
  split at h
  · exact State.drawBlock_pool s t r  h
  · cases h

theorem State.relayedBlock_pool (s t : State) (k : CtxIx) (r : RecIx) (h : s.relayedBlock k r = some t) :
    t.store.pool = s.store.pool := by
  unfold State.relayedBlock at h
  simp only at h
  split at h
  · cases hd : s.drawBlock r with
    | none => simp [hd] at h
    | some u => simp [hd] at h; subst h; simpa using State.drawBlock_pool s u r  hd
  · exact State.allocateBlock_pool s t r  h

@[simp] theorem State.unpledge_pool (s : State) : (s.unpledge).store.pool = s.store.pool := rfl

@[simp] theorem State.freeRecord_pool (s : State) (r : RecIx) : (s.freeRecord r).store.pool = s.store.pool := rfl

@[simp] theorem State.tryFree_pool (s : State) (r : RecIx) : (s.tryFree r).store.pool = s.store.pool := by
  simp only [State.tryFree]
  repeat' split
  all_goals simp

@[simp] theorem State.settle_pool (s : State) (ref : CopyRef) (how : Settlement) : (s.settle ref how).store.pool = s.store.pool := by
  simp only [State.settle]
  repeat' split
  all_goals simp

@[simp] theorem State.setSend_pool (s : State) (k : CtxIx) (c : Option Send) : (s.setSend k c).store.pool = s.store.pool := by
  simp only [State.setSend]
  repeat' split
  all_goals simp

@[simp] theorem State.setTake_pool (s : State) (k : CtxIx) (t : Option Take) : (s.setTake k t).store.pool = s.store.pool := by
  simp only [State.setTake]
  repeat' split
  all_goals simp

@[simp] theorem State.modSend_pool (s : State) (k : CtxIx) (f : Send → Send) : (s.modSend k f).store.pool = s.store.pool := by
  simp only [State.modSend]
  repeat' split
  all_goals simp

@[simp] theorem State.modTake_pool (s : State) (k : CtxIx) (f : Take → Take) : (s.modTake k f).store.pool = s.store.pool := by
  simp only [State.modTake]
  repeat' split
  all_goals simp

@[simp] theorem State.refreshTenure_pool (s : State) : (s.refreshTenure).store.pool = s.store.pool := by
  simp only [State.refreshTenure]
  repeat' split
  all_goals simp

@[simp] theorem State.endTenure_pool (s : State) : (s.endTenure).store.pool = s.store.pool := by
  simp only [State.endTenure]
  repeat' split
  all_goals simp

@[simp] theorem State.nextStamp_pool (s : State) : (s.nextStamp).store.pool = s.store.pool := by
  simp only [State.nextStamp]
  repeat' split
  all_goals simp

@[simp] theorem State.drive_pool (s : State) (source : FrameSource) (byRound : Bool) : (s.drive source byRound).store.pool = s.store.pool := by
  simp only [State.drive]
  repeat' split
  all_goals simp

@[simp] theorem State.deaden_pool (s : State) (source : FrameSource) : (s.deaden source).store.pool = s.store.pool := by
  simp only [State.deaden]
  repeat' split
  all_goals simp

@[simp] theorem State.askSend_pool (s : State) (k : CtxIx) (kind : SendKind) : (s.askSend k kind).store.pool = s.store.pool := by
  simp only [State.askSend]
  repeat' split
  all_goals simp

@[simp] theorem State.askTake_pool (s : State) (k : CtxIx) (kind : TakeKind) : (s.askTake k kind).store.pool = s.store.pool := by
  simp only [State.askTake]
  repeat' split
  all_goals simp

@[simp] theorem State.closeWindow_pool (s : State) (k : CtxIx) : (s.closeWindow k).store.pool = s.store.pool := by
  simp only [State.closeWindow]
  repeat' split
  all_goals simp

@[simp] theorem State.dropSend_pool (s : State) (k : CtxIx) : (s.dropSend k).store.pool = s.store.pool := by
  simp only [State.dropSend]
  repeat' split
  all_goals simp

@[simp] theorem State.freeSend_pool (s : State) (k : CtxIx) : (s.freeSend k).store.pool = s.store.pool := by
  simp only [State.freeSend]
  repeat' split
  all_goals simp

@[simp] theorem State.freeTake_pool (s : State) (k : CtxIx) : (s.freeTake k).store.pool = s.store.pool := by
  simp only [State.freeTake]
  repeat' split
  all_goals simp

@[simp] theorem State.addAnswer_pool (s : State) (tag : Tag) (reason : Reason) (cls : Precedence) : (s.addAnswer tag reason cls).store.pool = s.store.pool := by
  simp only [State.addAnswer]
  repeat' split
  all_goals simp

@[simp] theorem State.addEnded_pool (s : State) (tag : Tag) (cls : Precedence) : (s.addEnded tag cls).store.pool = s.store.pool := by
  simp only [State.addEnded]
  repeat' split
  all_goals simp

@[simp] theorem State.dropEnded_pool (s : State) (tag : Tag) : (s.dropEnded tag).store.pool = s.store.pool := by
  simp only [State.dropEnded]
  repeat' split
  all_goals simp

@[simp] theorem State.askOffer_pool (s : State) (k : CtxIx) : (s.askOffer k).store.pool = s.store.pool := by
  simp only [State.askOffer]
  repeat' split
  all_goals simp

@[simp] theorem State.giveSend_pool (s : State) (k : CtxIx) (ref : CopyRef) : (s.giveSend k ref).store.pool = s.store.pool := by
  simp only [State.giveSend]
  repeat' split
  all_goals simp

@[simp] theorem State.lookNext_pool (s : State) (k : CtxIx) : (s.lookNext k).store.pool = s.store.pool := by
  simp only [State.lookNext]
  repeat' split
  all_goals simp

@[simp] theorem State.supGoTail_pool (s : State) (short : Bool) : (s.supGoTail short).store.pool = s.store.pool := by
  simp only [State.supGoTail]
  repeat' split
  all_goals simp

@[simp] theorem State.supLoadComposed_pool (s : State) : (s.supLoadComposed).store.pool = s.store.pool := by
  simp only [State.supLoadComposed]
  repeat' split
  all_goals simp

@[simp] theorem State.supLineLoaded_pool (s : State) : (s.supLineLoaded).store.pool = s.store.pool := by
  simp only [State.supLineLoaded]
  repeat' split
  all_goals simp

@[simp] theorem State.supServeLine_pool (s : State) : (s.supServeLine).store.pool = s.store.pool := by
  simp only [State.supServeLine]
  repeat' split
  all_goals simp

@[simp] theorem State.supServeText_pool (s : State) (ref : CopyRef) : (s.supServeText ref).store.pool = s.store.pool := by
  simp only [State.supServeText]
  repeat' split
  all_goals simp

@[simp] theorem State.supServe_pool (s : State) : (s.supServe).store.pool = s.store.pool := by
  simp only [State.supServe]
  repeat' split
  all_goals simp

@[simp] theorem State.beginPrint_pool (s : State) : (s.beginPrint).store.pool = s.store.pool := by
  simp only [State.beginPrint]
  repeat' split
  all_goals simp

@[simp] theorem State.chosen_pool (s : State) : s.chosen.store.pool = s.store.pool := rfl

@[simp] theorem State.handOverMany_pool (s : State) (l : Nat) : (State.handOverMany s l).store.pool = s.store.pool := by
  induction l generalizing s with
  | zero => rfl
  | succ k ih =>
    simp only [State.handOverMany]
    repeat' split
    all_goals simp [ih]

@[simp] theorem State.handOver_pool (s : State) : (s.handOver).store.pool = s.store.pool := by
  simp only [State.handOver]
  repeat' split
  all_goals simp

@[simp] theorem State.handOverSought_pool (s : State) (l : Nat) : (State.handOverSought s l).store.pool = s.store.pool := by
  induction l generalizing s with
  | zero => rfl
  | succ k ih =>
    simp only [State.handOverSought]
    repeat' split
    all_goals simp [ih]

@[simp] theorem State.post_pool (s : State) (n : Notice) : (s.post n).store.pool = s.store.pool := by
  simp only [State.post]
  repeat' split
  all_goals simp

@[simp] theorem State.postAll_pool (s : State) (l : List Notice) : (State.postAll s l).store.pool = s.store.pool := by
  induction l generalizing s with
  | nil => rfl
  | cons x xs ih =>
    simp only [State.postAll]
    repeat' split
    all_goals simp [ih]

@[simp] theorem State.placeFreed_pool (s before : State) (sought : Bool) : (s.placeFreed before sought).store.pool = s.store.pool := by
  simp only [State.placeFreed]
  repeat' split
  all_goals simp

@[simp] theorem State.tellPlaces_pool (s before : State) : (s.tellPlaces before).store.pool = s.store.pool := by
  simp only [State.tellPlaces]
  repeat' split
  all_goals simp

@[simp] theorem State.itemEnded_pool (s : State) : (s.itemEnded).store.pool = s.store.pool := by
  simp only [State.itemEnded]
  repeat' split
  all_goals simp

@[simp] theorem State.discardHead_pool (s : State) : (s.discardHead).store.pool = s.store.pool := by
  simp only [State.discardHead]
  repeat' split
  all_goals simp

@[simp] theorem State.discardDead_pool (s : State) (r : RecIx) (g : Gen) : (s.discardDead r g).store.pool = s.store.pool := by
  simp only [State.discardDead]
  repeat' split
  all_goals simp

@[simp] theorem State.supTextChanged_pool (s : State) (r : RecIx) : (s.supTextChanged r).store.pool = s.store.pool := by
  simp only [State.supTextChanged]
  repeat' split
  all_goals simp

@[simp] theorem State.motorEnqueue_pool (s : State) (n : Line) : (s.motorEnqueue n).store.pool = s.store.pool := by
  simp only [State.motorEnqueue]
  repeat' split
  all_goals simp

@[simp] theorem State.motorEmpty_pool (s : State) (n : Line) : (s.motorEmpty n).store.pool = s.store.pool := by
  simp only [State.motorEmpty]
  repeat' split
  all_goals simp

@[simp] theorem State.loadChar_pool (s : State) (n : Line) (c : TxChar) : (s.loadChar n c).store.pool = s.store.pool := by
  simp only [State.loadChar]
  repeat' split
  all_goals simp

@[simp] theorem State.loadNextComposed_pool (s : State) (n : Line) : (s.loadNextComposed n).store.pool = s.store.pool := by
  simp only [State.loadNextComposed]
  repeat' split
  all_goals simp

@[simp] theorem State.serveHead_pool (s : State) (n : Line) : (s.serveHead n).store.pool = s.store.pool := by
  simp only [State.serveHead]
  repeat' split
  all_goals simp

@[simp] theorem State.enterTail_pool (s : State) (n : Line) (r : Record) : (s.enterTail n r).store.pool = s.store.pool := by
  simp only [State.enterTail]
  repeat' split
  all_goals simp

@[simp] theorem State.serveText_pool (s : State) (n : Line) (ref : CopyRef) : (s.serveText n ref).store.pool = s.store.pool := by
  simp only [State.serveText]
  repeat' split
  all_goals simp

@[simp] theorem State.serveLine_pool (s : State) (n : Line) : (s.serveLine n).store.pool = s.store.pool := by
  simp only [State.serveLine]
  repeat' split
  all_goals simp

@[simp] theorem State.numberCopy_pool (s : State) (n : Line) (ref : CopyRef) : (s.numberCopy n ref).store.pool = s.store.pool := by
  simp only [State.numberCopy]
  repeat' split
  all_goals simp

@[simp] theorem State.startFresh_pool (s : State) (n : Line) (e : QEntry) : (s.startFresh n e).store.pool = s.store.pool := by
  simp only [State.startFresh]
  repeat' split
  all_goals simp

@[simp] theorem State.startResume_pool (s : State) (n : Line) (e : QEntry) : (s.startResume n e).store.pool = s.store.pool := by
  simp only [State.startResume]
  repeat' split
  all_goals simp

@[simp] theorem State.choose_pool (s : State) (n : Line) : (s.choose n).store.pool = s.store.pool := by
  simp only [State.choose]
  repeat' split
  all_goals simp

@[simp] theorem State.beginInterruption_pool (s : State) (n : Line) : (s.beginInterruption n).store.pool = s.store.pool := by
  simp only [State.beginInterruption]
  repeat' split
  all_goals simp

@[simp] theorem State.preemptTest_pool (s : State) (n : Line) : (s.preemptTest n).store.pool = s.store.pool := by
  simp only [State.preemptTest]
  repeat' split
  all_goals simp

@[simp] theorem State.reconsiderMark_pool (s : State) (n : Line) : (s.reconsiderMark n).store.pool = s.store.pool := by
  simp only [State.reconsiderMark]
  repeat' split
  all_goals simp

@[simp] theorem State.lookAgain_pool (s : State) (n : Line) : (s.lookAgain n).store.pool = s.store.pool := by
  simp only [State.lookAgain]
  repeat' split
  all_goals simp

@[simp] theorem State.enqueue_pool (s : State) (n : Line) (ref : CopyRef) : (s.enqueue n ref).store.pool = s.store.pool := by
  simp only [State.enqueue]
  repeat' split
  all_goals simp

@[simp] theorem State.clearCurrent_pool (s : State) (n : Line) : (s.clearCurrent n).store.pool = s.store.pool := by
  simp only [State.clearCurrent]
  repeat' split
  all_goals simp

@[simp] theorem State.putBack_pool (s : State) (n : Line) : (s.putBack n).store.pool = s.store.pool := by
  simp only [State.putBack]
  repeat' split
  all_goals simp

@[simp] theorem State.withdraw_pool (s : State) (n : Line) (ref : CopyRef) : (s.withdraw n ref).store.pool = s.store.pool := by
  simp only [State.withdraw]
  repeat' split
  all_goals simp

@[simp] theorem State.delivered_pool (s : State) (n : Line) (e : QEntry) : (s.delivered n e).store.pool = s.store.pool := by
  simp only [State.delivered]
  repeat' split
  all_goals simp

@[simp] theorem State.pushCurrent_pool (s : State) (n : Line) (e : QEntry) : (s.pushCurrent n e).store.pool = s.store.pool := by
  simp only [State.pushCurrent]
  repeat' split
  all_goals simp

@[simp] theorem State.reportSent_pool (s : State) (n : Line) (c : TxChar) : (s.reportSent n c).store.pool = s.store.pool := by
  simp only [State.reportSent]
  repeat' split
  all_goals simp

@[simp] theorem State.countFill_pool (s : State) (ref : CopyRef) : (s.countFill ref).store.pool = s.store.pool := by
  simp only [State.countFill]
  repeat' split
  all_goals simp

@[simp] theorem State.lineTextChanged_pool (s : State) (n : Line) (r : RecIx) (oldCount : Nat) (oldComplete : Bool) : (s.lineTextChanged n r oldCount oldComplete).store.pool = s.store.pool := by
  simp only [State.lineTextChanged]
  repeat' split
  all_goals simp

@[simp] theorem State.bindLocal_pool (s : State) (n : Line) (ref : CopyRef) : (s.bindLocal n ref).store.pool = s.store.pool := by
  simp only [State.bindLocal]
  repeat' split
  all_goals simp

@[simp] theorem State.startSeries_pool (s : State) (k : CtxIx) (ref : CopyRef) : (s.startSeries k ref).store.pool = s.store.pool := by
  simp only [State.startSeries]
  repeat' split
  all_goals simp

@[simp] theorem State.waitForContext_pool (s : State) (ref : CopyRef) : (s.waitForContext ref).store.pool = s.store.pool := by
  simp only [State.waitForContext]
  repeat' split
  all_goals simp

@[simp] theorem State.offerCopy_pool (s : State) (ref : CopyRef) : (s.offerCopy ref).store.pool = s.store.pool := by
  simp only [State.offerCopy]
  repeat' split
  all_goals simp

@[simp] theorem State.serveWaitMany_pool (s : State) (l : Nat) : (State.serveWaitMany s l).store.pool = s.store.pool := by
  induction l generalizing s with
  | zero => rfl
  | succ k ih =>
    simp only [State.serveWaitMany]
    repeat' split
    all_goals simp [ih]

@[simp] theorem State.serveWaitList_pool (s : State) : (s.serveWaitList).store.pool = s.store.pool := by
  simp only [State.serveWaitList]
  repeat' split
  all_goals simp

@[simp] theorem State.startCounts_pool (s : State) (ref : CopyRef) : (s.startCounts ref).store.pool = s.store.pool := by
  simp only [State.startCounts]
  repeat' split
  all_goals simp

@[simp] theorem State.dispatchCopy_pool (s : State) (ref : CopyRef) : (s.dispatchCopy ref).store.pool = s.store.pool := by
  simp only [State.dispatchCopy]
  repeat' split
  all_goals simp

@[simp] theorem State.dispatchAll_pool (s : State) (l : List CopyRef) : (State.dispatchAll s l).store.pool = s.store.pool := by
  induction l generalizing s with
  | nil => rfl
  | cons x xs ih =>
    simp only [State.dispatchAll]
    repeat' split
    all_goals simp [ih]

@[simp] theorem State.dispatchRecord_pool (s : State) (r : RecIx) : (s.dispatchRecord r).store.pool = s.store.pool := by
  simp only [State.dispatchRecord]
  repeat' split
  all_goals simp

theorem State.dispatchRestart_pool (s : State) (l : List CopyRef) :
    (State.dispatchRestart s l).1.store.pool = s.store.pool := by
  induction l generalizing s with
  | nil => rfl
  | cons x xs ih =>
    simp only [State.dispatchRestart]
    split <;> simp [ih]

@[simp] theorem State.holdOffEnds_pool (s : State) : s.holdOffEnds.store.pool = s.store.pool := by
  simp [State.holdOffEnds, State.dispatchRestart_pool]

@[simp] theorem State.enqueueOrRefuse_pool (s : State) (n : Line) (ref : CopyRef) : (s.enqueueOrRefuse n ref).store.pool = s.store.pool := by
  simp only [State.enqueueOrRefuse]
  repeat' split
  all_goals simp

@[simp] theorem State.die_pool (s : State) (k : CtxIx) (ref : CopyRef) : (s.die k ref).store.pool = s.store.pool := by
  simp only [State.die]
  repeat' split
  all_goals simp

@[simp] theorem State.bindInstead_pool (s : State) (k : CtxIx) (n : Line) (ref : CopyRef) : (s.bindInstead k n ref).store.pool = s.store.pool := by
  simp only [State.bindInstead]
  repeat' split
  all_goals simp

@[simp] theorem State.reoffer_pool (s : State) (k : CtxIx) (ref : CopyRef) (next : Nat) : (s.reoffer k ref next).store.pool = s.store.pool := by
  simp only [State.reoffer]
  repeat' split
  all_goals simp

@[simp] theorem State.unclaimed_pool (s : State) (k : CtxIx) (ref : CopyRef) : (s.unclaimed k ref).store.pool = s.store.pool := by
  simp only [State.unclaimed]
  repeat' split
  all_goals simp

@[simp] theorem State.spoiled_pool (s : State) (k : CtxIx) (ref : CopyRef) : (s.spoiled k ref).store.pool = s.store.pool := by
  simp only [State.spoiled]
  repeat' split
  all_goals simp

@[simp] theorem State.handed_pool (s : State) (k : CtxIx) (ref : CopyRef) : (s.handed k ref).store.pool = s.store.pool := by
  simp only [State.handed]
  repeat' split
  all_goals simp

@[simp] theorem State.sendsLook_pool (s : State) (r : RecIx) (l : List CtxIx) : (State.sendsLook s r l).store.pool = s.store.pool := by
  induction l generalizing s with
  | nil => rfl
  | cons x xs ih =>
    simp only [State.sendsLook]
    repeat' split
    all_goals simp [ih]

@[simp] theorem State.linesLook_pool (s : State) (r : RecIx) (oldCount : Nat) (oldComplete : Bool) (l : List Line) : (State.linesLook s r oldCount oldComplete l).store.pool = s.store.pool := by
  induction l generalizing s with
  | nil => rfl
  | cons x xs ih =>
    simp only [State.linesLook]
    repeat' split
    all_goals simp [ih]

@[simp] theorem State.textChanged_pool (s : State) (r : RecIx) (oldCount : Nat) (oldComplete : Bool) : (s.textChanged r oldCount oldComplete).store.pool = s.store.pool := by
  simp only [State.textChanged]
  repeat' split
  all_goals simp

@[simp] theorem State.cutShort_pool (s : State) (r : RecIx) : (s.cutShort r).store.pool = s.store.pool := by
  simp only [State.cutShort]
  repeat' split
  all_goals simp

@[simp] theorem State.dropSendOf_pool (s : State) (ref : CopyRef) : (s.dropSendOf ref).store.pool = s.store.pool := by
  simp only [State.dropSendOf]
  repeat' split
  all_goals simp

@[simp] theorem State.forgetCopy_pool (s : State) (ref : CopyRef) : (s.forgetCopy ref).store.pool = s.store.pool := by
  simp only [State.forgetCopy]
  repeat' split
  all_goals simp

@[simp] theorem State.withdrawCopy_pool (s : State) (ref : CopyRef) : (s.withdrawCopy ref).store.pool = s.store.pool := by
  simp only [State.withdrawCopy]
  repeat' split
  all_goals simp

@[simp] theorem State.discardRecord_pool (s : State) (r : RecIx) : (s.discardRecord r).store.pool = s.store.pool := by
  simp only [State.discardRecord]
  repeat' split
  all_goals simp

@[simp] theorem State.endRecord_pool (s : State) (r : RecIx) : (s.endRecord r).store.pool = s.store.pool := by
  simp only [State.endRecord]
  repeat' split
  all_goals simp

@[simp] theorem State.endTakeRecord_pool (s : State) (k : CtxIx) (t : Take) : (s.endTakeRecord k t).store.pool = s.store.pool := by
  simp only [State.endTakeRecord]
  repeat' split
  all_goals simp

@[simp] theorem State.dropClaim_pool (s : State) (k : CtxIx) : (s.dropClaim k).store.pool = s.store.pool := by
  simp only [State.dropClaim]
  repeat' split
  all_goals simp

@[simp] theorem State.giveUpTake_pool (s : State) (k : CtxIx) (t : Take) : (s.giveUpTake k t).store.pool = s.store.pool := by
  simp only [State.giveUpTake]
  repeat' split
  all_goals simp

@[simp] theorem State.abandonTake_pool (s : State) (k : CtxIx) (t : Take) (reason : Reason) : (s.abandonTake k t reason).store.pool = s.store.pool := by
  simp only [State.abandonTake]
  repeat' split
  all_goals simp

@[simp] theorem State.answerClose_pool (s : State) (k : CtxIx) : (s.answerClose k).store.pool = s.store.pool := by
  simp only [State.answerClose]
  repeat' split
  all_goals simp

@[simp] theorem State.endTaking_pool (s : State) (l : List RecIx) : (State.endTaking s l).store.pool = s.store.pool := by
  induction l generalizing s with
  | nil => rfl
  | cons x xs ih =>
    simp only [State.endTaking]
    repeat' split
    all_goals simp [ih]

@[simp] theorem State.returnCopies_pool (s : State) : (s.returnCopies).store.pool = s.store.pool := by
  simp only [State.returnCopies]
  repeat' split
  all_goals simp

@[simp] theorem State.startHoldOff_pool (s : State) : (s.startHoldOff).store.pool = s.store.pool := by
  simp only [State.startHoldOff]
  repeat' split
  all_goals simp

@[simp] theorem State.warmRestart_pool (s : State) (sender : Slot) (received : Bool) : (s.warmRestart sender received).store.pool = s.store.pool := by
  simp only [State.warmRestart]
  repeat' split
  all_goals simp

@[simp] theorem State.turnReview_pool (s : State) (n : Line) : (s.turnReview n).store.pool = s.store.pool := by
  simp only [State.turnReview]
  repeat' split
  all_goals simp

@[simp] theorem State.turnWait_pool (s : State) (n : Line) : (s.turnWait n).store.pool = s.store.pool := by
  simp only [State.turnWait]
  repeat' split
  all_goals simp

@[simp] theorem State.setRx_pool (s : State) (n : Line) (st : RxState) : (s.setRx n st).store.pool = s.store.pool := by
  simp only [State.setRx]
  repeat' split
  all_goals simp

@[simp] theorem State.suspendRx_pool (s : State) (n : Line) : (s.suspendRx n).store.pool = s.store.pool := by
  simp only [State.suspendRx]
  repeat' split
  all_goals simp

@[simp] theorem State.beginHeld_pool (s : State) (n : Line) : (s.beginHeld n).store.pool = s.store.pool := by
  simp only [State.beginHeld]
  repeat' split
  all_goals simp

@[simp] theorem State.takeOrWithdraw_pool (s : State) (n : Line) : (s.takeOrWithdraw n).store.pool = s.store.pool := by
  simp only [State.takeOrWithdraw]
  repeat' split
  all_goals simp

@[simp] theorem State.takenOff_pool (s : State) (n : Line) : (s.takenOff n).store.pool = s.store.pool := by
  simp only [State.takenOff]
  repeat' split
  all_goals simp

@[simp] theorem State.leftHunt_pool (s : State) (n : Line) : (s.leftHunt n).store.pool = s.store.pool := by
  simp only [State.leftHunt]
  repeat' split
  all_goals simp

@[simp] theorem State.returnToHunt_pool (s : State) (n : Line) : (s.returnToHunt n).store.pool = s.store.pool := by
  simp only [State.returnToHunt]
  repeat' split
  all_goals simp

@[simp] theorem State.lineOverrun_pool (s : State) (n : Line) (r : RecIx) : (s.lineOverrun n r).store.pool = s.store.pool := by
  simp only [State.lineOverrun]
  repeat' split
  all_goals simp

@[simp] theorem State.defaultHeading_pool (s : State) (r : RecIx) : (s.defaultHeading r).store.pool = s.store.pool := by
  simp only [State.defaultHeading]
  repeat' split
  all_goals simp

@[simp] theorem State.fillTable_pool (s : State) (n : Line) (r : RecIx) (stations : List StationCode) : (s.fillTable n r stations).store.pool = s.store.pool := by
  simp only [State.fillTable]
  repeat' split
  all_goals simp

@[simp] theorem State.headingEnds_pool (s : State) (n : Line) (r : RecIx) (stations : List StationCode) : (s.headingEnds n r stations).store.pool = s.store.pool := by
  simp only [State.headingEnds]
  repeat' split
  all_goals simp

@[simp] theorem State.checkChannel_pool (s : State) (n : Line) (r : RecIx) (received : Nat) : (s.checkChannel n r received).store.pool = s.store.pool := by
  simp only [State.checkChannel]
  repeat' split
  all_goals simp

@[simp] theorem State.completeRecord_pool (s : State) (r : RecIx) (truncated : Bool) : (s.completeRecord r truncated).store.pool = s.store.pool := by
  simp only [State.completeRecord]
  repeat' split
  all_goals simp

@[simp] theorem State.dispatchAtClose_pool (s : State) (r : RecIx) (filled : Bool) : (s.dispatchAtClose r filled).store.pool = s.store.pool := by
  simp only [State.dispatchAtClose]
  repeat' split
  all_goals simp

@[simp] theorem State.malformedAtClose_pool (s : State) (n : Line) (r : RecIx) : (s.malformedAtClose n r).store.pool = s.store.pool := by
  simp only [State.malformedAtClose]
  repeat' split
  all_goals simp

@[simp] theorem State.closeByRun_pool (s : State) (n : Line) (r : RecIx) : (s.closeByRun n r).store.pool = s.store.pool := by
  simp only [State.closeByRun]
  repeat' split
  all_goals simp

@[simp] theorem State.closeTruncated_pool (s : State) (n : Line) (r : RecIx) (cause : TruncateCause) : (s.closeTruncated n r cause).store.pool = s.store.pool := by
  simp only [State.closeTruncated]
  repeat' split
  all_goals simp

@[simp] theorem State.restartSilence_pool (s : State) (n : Line) : (s.restartSilence n).store.pool = s.store.pool := by
  simp only [State.restartSilence]
  repeat' split
  all_goals simp

@[simp] theorem State.countFraming_pool (s : State) (r : RecIx) (framing : Bool) : (s.countFraming r framing).store.pool = s.store.pool := by
  simp only [State.countFraming]
  repeat' split
  all_goals simp

@[simp] theorem State.openMessage_pool (s : State) (n : Line) (r : RecIx) : (s.openMessage n r).store.pool = s.store.pool := by
  simp only [State.openMessage]
  repeat' split
  all_goals simp

@[simp] theorem State.loseMessage_pool (s : State) (n : Line) : (s.loseMessage n).store.pool = s.store.pool := by
  simp only [State.loseMessage]
  repeat' split
  all_goals simp

@[simp] theorem State.openingRunDone_pool (s : State) (n : Line) : (s.openingRunDone n).store.pool = s.store.pool := by
  simp only [State.openingRunDone]
  repeat' split
  all_goals simp

@[simp] theorem State.huntChar_pool (s : State) (n : Line) (h : Handed) : (s.huntChar n h).store.pool = s.store.pool := by
  simp only [State.huntChar]
  repeat' split
  all_goals simp

@[simp] theorem State.discardChar_pool (s : State) (n : Line) (h : Handed) : (s.discardChar n h).store.pool = s.store.pool := by
  simp only [State.discardChar]
  repeat' split
  all_goals simp

@[simp] theorem State.asmLineOpen_pool (s : State) (n : Line) : (s.asmLineOpen n).store.pool = s.store.pool := by
  simp only [State.asmLineOpen]
  repeat' split
  all_goals simp

@[simp] theorem State.modCond_pool (s : State) (n : Line) (pin : LoopPin) (f : Cond → Cond) : (s.modCond n pin f).store.pool = s.store.pool := by
  simp only [State.modCond]
  repeat' split
  all_goals simp

@[simp] theorem State.setPin_pool (s : State) (n : Line) (pin : LoopPin) (level : Level) : (s.setPin n pin level).store.pool = s.store.pool := by
  simp only [State.setPin]
  repeat' split
  all_goals simp

@[simp] theorem State.readPin_pool (s : State) (n : Line) (pin : LoopPin) (level : Level) : (s.readPin n pin level).store.pool = s.store.pool := by
  simp only [State.readPin]
  repeat' split
  all_goals simp

@[simp] theorem State.setRxCase_pool (s : State) (n : Line) (c : Case) : (s.setRxCase n c).store.pool = s.store.pool := by
  simp only [State.setRxCase]
  repeat' split
  all_goals simp

@[simp] theorem State.resumeRx_pool (s : State) (n : Line) : (s.resumeRx n).store.pool = s.store.pool := by
  simp only [State.resumeRx]
  repeat' split
  all_goals simp

@[simp] theorem State.abandonTx_pool (s : State) (n : Line) : (s.abandonTx n).store.pool = s.store.pool := by
  simp only [State.abandonTx]
  repeat' split
  all_goals simp

@[simp] theorem State.receiveLost_pool (s : State) (n : Line) : (s.receiveLost n).store.pool = s.store.pool := by
  simp only [State.receiveLost]
  repeat' split
  all_goals simp

@[simp] theorem State.sendLost_pool (s : State) (n : Line) : (s.sendLost n).store.pool = s.store.pool := by
  simp only [State.sendLost]
  repeat' split
  all_goals simp

@[simp] theorem State.spacingEnds_pool (s : State) (n : Line) (pin : LoopPin) : (s.spacingEnds n pin).store.pool = s.store.pool := by
  simp only [State.spacingEnds]
  repeat' split
  all_goals simp

@[simp] theorem State.condOpens_pool (s : State) (n : Line) (pin : LoopPin) : (s.condOpens n pin).store.pool = s.store.pool := by
  simp only [State.condOpens]
  repeat' split
  all_goals simp

@[simp] theorem State.condCloses_pool (s : State) (n : Line) (pin : LoopPin) : (s.condCloses n pin).store.pool = s.store.pool := by
  simp only [State.condCloses]
  repeat' split
  all_goals simp

@[simp] theorem State.release_pool (s : State) (l : List CopyRef) : (State.release s l).store.pool = s.store.pool := by
  induction l generalizing s with
  | nil => rfl
  | cons x xs ih =>
    simp only [State.release]
    repeat' split
    all_goals simp [ih]

@[simp] theorem State.releaseAndDispatch_pool (s : State) (ref : CopyRef) : (s.releaseAndDispatch ref).store.pool = s.store.pool := by
  simp only [State.releaseAndDispatch]
  repeat' split
  all_goals simp

@[simp] theorem State.releaseAll_pool (s : State) (l : List CopyRef) : (State.releaseAll s l).store.pool = s.store.pool := by
  induction l generalizing s with
  | nil => rfl
  | cons x xs ih =>
    simp only [State.releaseAll]
    repeat' split
    all_goals simp [ih]

@[simp] theorem State.lineFails_pool (s : State) (n : Line) (pin : LoopPin) : (s.lineFails n pin).store.pool = s.store.pool := by
  simp only [State.lineFails]
  repeat' split
  all_goals simp

@[simp] theorem State.condFails_pool (s : State) (n : Line) (pin : LoopPin) : (s.condFails n pin).store.pool = s.store.pool := by
  simp only [State.condFails]
  repeat' split
  all_goals simp

@[simp] theorem State.silenceEnds_pool (s : State) (n : Line) : (s.silenceEnds n).store.pool = s.store.pool := by
  simp only [State.silenceEnds]
  repeat' split
  all_goals simp

@[simp] theorem State.beginFill_pool (s : State) (n : Line) : (s.beginFill n).store.pool = s.store.pool := by
  simp only [State.beginFill]
  repeat' split
  all_goals simp

@[simp] theorem State.finishChar_pool (s : State) (n : Line) (c : TxChar) : (s.finishChar n c).store.pool = s.store.pool := by
  simp only [State.finishChar]
  repeat' split
  all_goals simp

@[simp] theorem State.shiftTakes_pool (s : State) (n : Line) : (s.shiftTakes n).store.pool = s.store.pool := by
  simp only [State.shiftTakes]
  repeat' split
  all_goals simp

@[simp] theorem State.shiftFollows_pool (s : State) (n : Line) (held : Option TxChar) : (s.shiftFollows n held).store.pool = s.store.pool := by
  simp only [State.shiftFollows]
  repeat' split
  all_goals simp

@[simp] theorem State.reportFill_pool (s : State) (n : Line) : (s.reportFill n).store.pool = s.store.pool := by
  simp only [State.reportFill]
  repeat' split
  all_goals simp

@[simp] theorem State.round_pool (s : State) (rivals : List Nat) : (s.round rivals).store.pool = s.store.pool := by
  simp only [State.round]
  repeat' split
  all_goals simp

@[simp] theorem State.undrive_pool (s : State) : (s.undrive).store.pool = s.store.pool := by
  simp only [State.undrive]
  repeat' split
  all_goals simp

@[simp] theorem State.offerReported_pool (s : State) (k : CtxIx) : (s.offerReported k).store.pool = s.store.pool := by
  simp only [State.offerReported]
  repeat' split
  all_goals simp

@[simp] theorem State.claimReported_pool (s : State) (k : CtxIx) : (s.claimReported k).store.pool = s.store.pool := by
  simp only [State.claimReported]
  repeat' split
  all_goals simp

@[simp] theorem State.textReported_pool (s : State) (k : CtxIx) (d : Driven) : (s.textReported k d).store.pool = s.store.pool := by
  simp only [State.textReported]
  repeat' split
  all_goals simp

@[simp] theorem State.closeReported_pool (s : State) (k : CtxIx) : (s.closeReported k).store.pool = s.store.pool := by
  simp only [State.closeReported]
  repeat' split
  all_goals simp

@[simp] theorem State.answerReported_pool (s : State) (k : CtxIx) : (s.answerReported k).store.pool = s.store.pool := by
  simp only [State.answerReported]
  repeat' split
  all_goals simp

@[simp] theorem State.dropAnswer_pool (s : State) (tag : Tag) (reason : Reason) : (s.dropAnswer tag reason).store.pool = s.store.pool := by
  simp only [State.dropAnswer]
  repeat' split
  all_goals simp

@[simp] theorem State.claim_pool (s : State) (k : CtxIx) (t : Take) : (s.claim k t).store.pool = s.store.pool := by
  simp only [State.claim]
  repeat' split
  all_goals simp

@[simp] theorem State.claimDecision_pool (s : State) (tag : Tag) (cls : Precedence) (station : StationCode) (length : Option Nat) (cpm attempt : Nat) : (s.claimDecision tag cls station length cpm attempt).store.pool = s.store.pool := by
  simp only [State.claimDecision]
  repeat' split
  all_goals simp

@[simp] theorem State.weighLost_pool (s : State) (tag : Tag) (cls : Precedence) (attempt : Nat) : (s.weighLost tag cls attempt).store.pool = s.store.pool := by
  simp only [State.weighLost]
  repeat' split
  all_goals simp

@[simp] theorem State.weighOffer_pool (s : State) (tag : Tag) (cls : Precedence) (station : StationCode) (length : Option Nat) (cpm attempt : Nat) : (s.weighOffer tag cls station length cpm attempt).store.pool = s.store.pool := by
  simp only [State.weighOffer]
  repeat' split
  all_goals simp

@[simp] theorem State.takeClaim_pool (s : State) (k : CtxIx) (c : Send) (claimant : Slot) : (s.takeClaim k c claimant).store.pool = s.store.pool := by
  simp only [State.takeClaim]
  repeat' split
  all_goals simp

@[simp] theorem State.judgeClaim_pool (s : State) (tag : Tag) (claimant : Slot) : (s.judgeClaim tag claimant).store.pool = s.store.pool := by
  simp only [State.judgeClaim]
  repeat' split
  all_goals simp

@[simp] theorem State.hearRival_pool (s : State) (tag : Tag) : (s.hearRival tag).store.pool = s.store.pool := by
  simp only [State.hearRival]
  repeat' split
  all_goals simp

@[simp] theorem State.takeOverrun_pool (s : State) (k : CtxIx) (r : RecIx) (t : Take) : (s.takeOverrun k r t).store.pool = s.store.pool := by
  simp only [State.takeOverrun]
  repeat' split
  all_goals simp

@[simp] theorem State.textEnded_pool (s : State) (tag : Tag) : (s.textEnded tag).store.pool = s.store.pool := by
  simp only [State.textEnded]
  repeat' split
  all_goals simp

@[simp] theorem State.enqueueAccepted_pool (s : State) (ref : CopyRef) : (s.enqueueAccepted ref).store.pool = s.store.pool := by
  simp only [State.enqueueAccepted]
  repeat' split
  all_goals simp

@[simp] theorem State.acceptClose_pool (s : State) (k : CtxIx) (r : RecIx) (overrun truncated : Bool) (mutilated : Nat) : (s.acceptClose k r overrun truncated mutilated).store.pool = s.store.pool := by
  simp only [State.acceptClose]
  repeat' split
  all_goals simp

@[simp] theorem State.spoilClose_pool (s : State) (k : CtxIx) (t : Take) : (s.spoilClose k t).store.pool = s.store.pool := by
  simp only [State.spoilClose]
  repeat' split
  all_goals simp

@[simp] theorem State.takeClose_pool (s : State) (k : CtxIx) (t : Take) (total check : Nat) (overrun truncated : Bool) (mutilated : Nat) : (s.takeClose k t total check overrun truncated mutilated).store.pool = s.store.pool := by
  simp only [State.takeClose]
  repeat' split
  all_goals simp

@[simp] theorem State.takerAbandons_pool (s : State) (k : CtxIx) (ref : CopyRef) : (s.takerAbandons k ref).store.pool = s.store.pool := by
  simp only [State.takerAbandons]
  repeat' split
  all_goals simp

@[simp] theorem State.originAbandons_pool (s : State) (tag : Tag) : (s.originAbandons tag).store.pool = s.store.pool := by
  simp only [State.originAbandons]
  repeat' split
  all_goals simp

@[simp] theorem State.modSupTx_pool (s : State) (f : Tx → Tx) : (s.modSupTx f).store.pool = s.store.pool := by
  simp only [State.modSupTx]
  repeat' split
  all_goals simp

@[simp] theorem State.supFollows_pool (s : State) (held : Option TxChar) : (s.supFollows held).store.pool = s.store.pool := by
  simp only [State.supFollows]
  repeat' split
  all_goals simp

@[simp] theorem State.supCountFill_pool (s : State) : (s.supCountFill).store.pool = s.store.pool := by
  simp only [State.supCountFill]
  repeat' split
  all_goals simp

end Sys2Proof.Machine
end

