-- ==== Sys2Proof/Laws/PoolKept.lean ====
section
/-! SUPPORT. Every shared operation keeps the pool in canonical form. -/

set_option linter.unusedTactic false
set_option linter.unreachableTactic false

namespace Sys2Proof.Machine

theorem State.modLine_PoolForm (s : State) (n : Line) (f : LineUnit → LineUnit) (h : PoolForm s) : PoolForm (s.modLine n f) := h

theorem State.modSched_PoolForm (s : State) (n : Line) (f : Sched → Sched) (hinv : PoolForm s) : PoolForm (s.modSched n f) := by
  simp only [State.modSched]
  repeat' split
  all_goals (try (with_reducible repeat (first | assumption | apply State.modLine_PoolForm)))
  all_goals (exact id)

theorem State.modAsm_PoolForm (s : State) (n : Line) (f : Assembler → Assembler) (hinv : PoolForm s) : PoolForm (s.modAsm n f) := by
  simp only [State.modAsm]
  repeat' split
  all_goals (try (with_reducible repeat (first | assumption | apply State.modLine_PoolForm)))
  all_goals (exact id)

theorem State.modTx_PoolForm (s : State) (n : Line) (f : Tx → Tx) (hinv : PoolForm s) : PoolForm (s.modTx n f) := by
  simp only [State.modTx]
  repeat' split
  all_goals (try (with_reducible repeat (first | assumption | apply State.modLine_PoolForm)))
  all_goals (exact id)

theorem State.modMotor_PoolForm (s : State) (n : Line) (f : Motor → Motor) (hinv : PoolForm s) : PoolForm (s.modMotor n f) := by
  simp only [State.modMotor]
  repeat' split
  all_goals (try (with_reducible repeat (first | assumption | apply State.modLine_PoolForm)))
  all_goals (exact id)

theorem State.modStore_PoolForm (s : State) (f : Store → Store) (h : PoolForm s)
    (hp : poolWf s.store.pool = true → poolWf (f s.store).pool = true) : PoolForm (s.modStore f) := hp h

theorem State.modRouter_PoolForm (s : State) (f : Router → Router) (h : PoolForm s) : PoolForm (s.modRouter f) := h

theorem State.modPort_PoolForm (s : State) (f : Port → Port) (h : PoolForm s) : PoolForm (s.modPort f) := h

theorem State.modSup_PoolForm (s : State) (f : Supervisor → Supervisor) (h : PoolForm s) : PoolForm (s.modSup f) := h

theorem State.modRecord_PoolForm (s : State) (r : RecIx) (f : Record → Record) (h : PoolForm s) : PoolForm (s.modRecord r f) := h

theorem State.modCopy_PoolForm (s : State) (ref : CopyRef) (f : Copy → Copy) (hinv : PoolForm s) : PoolForm (s.modCopy ref f) := by
  simp only [State.modCopy]
  repeat' split
  all_goals (try (with_reducible repeat (first | assumption | apply State.modRecord_PoolForm)))
  all_goals (exact id)

theorem State.setCopyState_PoolForm (s : State) (ref : CopyRef) (st : CopyState) (hinv : PoolForm s) : PoolForm (s.setCopyState ref st) := by
  simp only [State.setCopyState]
  repeat' split
  all_goals (try (with_reducible repeat (first | assumption | apply State.modCopy_PoolForm)))
  all_goals (exact id)

theorem State.writeChar_PoolForm (s : State) (r : RecIx) (i : Nat) (c : Code) (h : PoolForm s) : PoolForm (s.writeChar r i c) :=
  State.writeChar_poolWf s r i c h

theorem State.writeChars_PoolForm (s : State) (r : RecIx) (i : Nat) (l : List Code) (hinv : PoolForm s) : PoolForm (State.writeChars s r i l) := by
  induction l generalizing s i with
  | nil => exact hinv
  | cons x xs ih =>
    simp only [State.writeChars]
    repeat' split
    all_goals (try (with_reducible repeat (first | assumption | apply State.writeChar_PoolForm | apply ih)))
    all_goals (exact id)

theorem State.setReserved_PoolForm (s : State) (k : CtxIx) (n : Nat) (hinv : PoolForm s) : PoolForm (s.setReserved k n) := by
  simp only [State.setReserved]
  repeat' split
  all_goals (try (with_reducible repeat (first | assumption | apply State.modStore_PoolForm)))
  all_goals (exact id)

theorem State.releaseReservation_PoolForm (s : State) (k : CtxIx) (hinv : PoolForm s) : PoolForm (s.releaseReservation k) := by
  simp only [State.releaseReservation]
  repeat' split
  all_goals (try (with_reducible repeat (first | assumption | apply State.setReserved_PoolForm)))
  all_goals (exact id)

theorem State.pledge_PoolForm (s : State) (h : PoolForm s) : PoolForm s.pledge := h

theorem State.drawBlock_PoolForm (s t : State) (r : RecIx) (e : s.drawBlock r = some t) (h : PoolForm s) : PoolForm t := by
  unfold State.drawBlock at e
  split at e
  · cases e
  · split at e
    · cases e
    · cases e; exact h

theorem State.allocateBlock_PoolForm (s t : State) (r : RecIx) (e : s.allocateBlock r = some t) (h : PoolForm s) : PoolForm t := by
  unfold State.allocateBlock at e
  split at e
  · exact State.drawBlock_PoolForm s t r e h
  · cases e

theorem State.relayedBlock_PoolForm (s t : State) (k : CtxIx) (r : RecIx) (e : s.relayedBlock k r = some t) (h : PoolForm s) :
    PoolForm t := by
  unfold State.relayedBlock at e
  simp only at e
  split at e
  · cases hd : s.drawBlock r with
    | none => simp [hd] at e
    | some u => simp [hd] at e; subst e; exact State.drawBlock_PoolForm s u r hd h
  · exact State.allocateBlock_PoolForm s t r e h

theorem State.unpledge_PoolForm (s : State) (hinv : PoolForm s) : PoolForm (s.unpledge) := by
  simp only [State.unpledge]
  repeat' split
  all_goals (try (with_reducible repeat (first | assumption | apply State.modStore_PoolForm)))
  all_goals (exact id)

theorem State.freeRecord_PoolForm (s : State) (r : RecIx) (hinv : PoolForm s) : PoolForm (s.freeRecord r) := by
  simp only [State.freeRecord]
  repeat' split
  all_goals (try (with_reducible repeat (first | assumption | apply State.modStore_PoolForm | apply State.modRecord_PoolForm)))
  all_goals (exact id)

theorem State.tryFree_PoolForm (s : State) (r : RecIx) (hinv : PoolForm s) : PoolForm (s.tryFree r) := by
  simp only [State.tryFree]
  repeat' split
  all_goals (try (with_reducible repeat (first | assumption | apply State.freeRecord_PoolForm)))
  all_goals (exact id)

theorem State.settle_PoolForm (s : State) (ref : CopyRef) (how : Settlement) (hinv : PoolForm s) : PoolForm (s.settle ref how) := by
  simp only [State.settle]
  repeat' split
  all_goals (try (with_reducible repeat (first | assumption | apply State.modRecord_PoolForm | apply State.tryFree_PoolForm)))
  all_goals (exact id)

theorem State.setSend_PoolForm (s : State) (k : CtxIx) (c : Option Send) (hinv : PoolForm s) : PoolForm (s.setSend k c) := by
  simp only [State.setSend]
  repeat' split
  all_goals (try (with_reducible repeat (first | assumption | apply State.modPort_PoolForm)))
  all_goals (exact id)

theorem State.setTake_PoolForm (s : State) (k : CtxIx) (t : Option Take) (hinv : PoolForm s) : PoolForm (s.setTake k t) := by
  simp only [State.setTake]
  repeat' split
  all_goals (try (with_reducible repeat (first | assumption | apply State.modPort_PoolForm)))
  all_goals (exact id)

theorem State.modSend_PoolForm (s : State) (k : CtxIx) (f : Send → Send) (hinv : PoolForm s) : PoolForm (s.modSend k f) := by
  simp only [State.modSend]
  repeat' split
  all_goals (try (with_reducible repeat (first | assumption | apply State.setSend_PoolForm)))
  all_goals (exact id)

theorem State.modTake_PoolForm (s : State) (k : CtxIx) (f : Take → Take) (hinv : PoolForm s) : PoolForm (s.modTake k f) := by
  simp only [State.modTake]
  repeat' split
  all_goals (try (with_reducible repeat (first | assumption | apply State.setTake_PoolForm)))
  all_goals (exact id)

theorem State.refreshTenure_PoolForm (s : State) (hinv : PoolForm s) : PoolForm (s.refreshTenure) := by
  simp only [State.refreshTenure]
  repeat' split
  all_goals (try (with_reducible repeat (first | assumption | apply State.modPort_PoolForm)))
  all_goals (exact id)

theorem State.endTenure_PoolForm (s : State) (hinv : PoolForm s) : PoolForm (s.endTenure) := by
  simp only [State.endTenure]
  repeat' split
  all_goals (try (with_reducible repeat (first | assumption | apply State.refreshTenure_PoolForm | apply State.modPort_PoolForm)))
  all_goals (exact id)

theorem State.nextStamp_PoolForm (s : State) (hinv : PoolForm s) : PoolForm (s.nextStamp) := by
  simp only [State.nextStamp]
  repeat' split
  all_goals (try (with_reducible repeat (first | assumption | apply State.modPort_PoolForm)))
  all_goals (exact id)

theorem State.drive_PoolForm (s : State) (source : FrameSource) (byRound : Bool) (hinv : PoolForm s) : PoolForm (s.drive source byRound) := by
  simp only [State.drive]
  repeat' split
  all_goals (try (with_reducible repeat (first | assumption | apply State.modPort_PoolForm)))
  all_goals (exact id)

theorem State.deaden_PoolForm (s : State) (source : FrameSource) (hinv : PoolForm s) : PoolForm (s.deaden source) := by
  simp only [State.deaden]
  repeat' split
  all_goals (try (with_reducible repeat (first | assumption | apply State.modPort_PoolForm)))
  all_goals (exact id)

theorem State.askSend_PoolForm (s : State) (k : CtxIx) (kind : SendKind) (hinv : PoolForm s) : PoolForm (s.askSend k kind) := by
  simp only [State.askSend]
  repeat' split
  all_goals (try (with_reducible repeat (first | assumption | apply State.deaden_PoolForm | apply State.modSend_PoolForm | apply State.nextStamp_PoolForm | apply State.refreshTenure_PoolForm | apply State.drive_PoolForm)))
  all_goals (exact id)

theorem State.askTake_PoolForm (s : State) (k : CtxIx) (kind : TakeKind) (hinv : PoolForm s) : PoolForm (s.askTake k kind) := by
  simp only [State.askTake]
  repeat' split
  all_goals (try (with_reducible repeat (first | assumption | apply State.deaden_PoolForm | apply State.modTake_PoolForm | apply State.nextStamp_PoolForm | apply State.refreshTenure_PoolForm)))
  all_goals (exact id)

theorem State.closeWindow_PoolForm (s : State) (k : CtxIx) (hinv : PoolForm s) : PoolForm (s.closeWindow k) := by
  simp only [State.closeWindow]
  repeat' split
  all_goals (try (with_reducible repeat (first | assumption | apply State.endTenure_PoolForm | apply State.refreshTenure_PoolForm)))
  all_goals (exact id)

theorem State.dropSend_PoolForm (s : State) (k : CtxIx) (hinv : PoolForm s) : PoolForm (s.dropSend k) := by
  simp only [State.dropSend]
  repeat' split
  all_goals (try (with_reducible repeat (first | assumption | apply State.deaden_PoolForm | apply State.modSend_PoolForm | apply State.closeWindow_PoolForm)))
  all_goals (exact id)

theorem State.freeSend_PoolForm (s : State) (k : CtxIx) (hinv : PoolForm s) : PoolForm (s.freeSend k) := by
  simp only [State.freeSend]
  repeat' split
  all_goals (try (with_reducible repeat (first | assumption | apply State.deaden_PoolForm | apply State.setSend_PoolForm | apply State.closeWindow_PoolForm)))
  all_goals (exact id)

theorem State.freeTake_PoolForm (s : State) (k : CtxIx) (hinv : PoolForm s) : PoolForm (s.freeTake k) := by
  simp only [State.freeTake]
  repeat' split
  all_goals (try (with_reducible repeat (first | assumption | apply State.deaden_PoolForm | apply State.setTake_PoolForm | apply State.refreshTenure_PoolForm)))
  all_goals (exact id)

theorem State.addAnswer_PoolForm (s : State) (tag : Tag) (reason : Reason) (cls : Precedence) (hinv : PoolForm s) : PoolForm (s.addAnswer tag reason cls) := by
  simp only [State.addAnswer]
  repeat' split
  all_goals (try (with_reducible repeat (first | assumption | apply State.modPort_PoolForm | apply State.nextStamp_PoolForm | apply State.refreshTenure_PoolForm)))
  all_goals (exact id)

theorem State.addEnded_PoolForm (s : State) (tag : Tag) (cls : Precedence) (hinv : PoolForm s) : PoolForm (s.addEnded tag cls) := by
  simp only [State.addEnded]
  repeat' split
  all_goals (try (with_reducible repeat (first | assumption | apply State.modPort_PoolForm)))
  all_goals (exact id)

theorem State.dropEnded_PoolForm (s : State) (tag : Tag) (hinv : PoolForm s) : PoolForm (s.dropEnded tag) := by
  simp only [State.dropEnded]
  repeat' split
  all_goals (try (with_reducible repeat (first | assumption | apply State.modPort_PoolForm)))
  all_goals (exact id)

theorem State.askOffer_PoolForm (s : State) (k : CtxIx) (hinv : PoolForm s) : PoolForm (s.askOffer k) := by
  simp only [State.askOffer]
  repeat' split
  all_goals (try (with_reducible repeat (first | assumption | apply State.setSend_PoolForm | apply State.setCopyState_PoolForm | apply State.askSend_PoolForm)))
  all_goals (exact id)

theorem State.giveSend_PoolForm (s : State) (k : CtxIx) (ref : CopyRef) (hinv : PoolForm s) : PoolForm (s.giveSend k ref) := by
  simp only [State.giveSend]
  repeat' split
  all_goals (try (with_reducible repeat (first | assumption | apply State.setSend_PoolForm | apply State.askOffer_PoolForm)))
  all_goals (exact id)

theorem State.lookNext_PoolForm (s : State) (k : CtxIx) (hinv : PoolForm s) : PoolForm (s.lookNext k) := by
  simp only [State.lookNext]
  repeat' split
  all_goals (try (with_reducible repeat (first | assumption | apply State.askSend_PoolForm)))
  all_goals (exact id)

theorem State.supGoTail_PoolForm (s : State) (short : Bool) (hinv : PoolForm s) : PoolForm (s.supGoTail short) := by
  simp only [State.supGoTail]
  repeat' split
  all_goals (try (with_reducible repeat (first | assumption | apply State.modSup_PoolForm)))
  all_goals (exact id)

theorem State.supLoadComposed_PoolForm (s : State) (hinv : PoolForm s) : PoolForm (s.supLoadComposed) := by
  simp only [State.supLoadComposed]
  repeat' split
  all_goals (try (with_reducible repeat (first | assumption | apply State.modSup_PoolForm)))
  all_goals (exact id)

theorem State.supLineLoaded_PoolForm (s : State) (hinv : PoolForm s) : PoolForm (s.supLineLoaded) := by
  simp only [State.supLineLoaded]
  repeat' split
  all_goals (try (with_reducible repeat (first | assumption | apply State.supGoTail_PoolForm | apply State.modSup_PoolForm)))
  all_goals (exact id)

theorem State.supServeLine_PoolForm (s : State) (hinv : PoolForm s) : PoolForm (s.supServeLine) := by
  simp only [State.supServeLine]
  repeat' split
  all_goals (try (with_reducible repeat (first | assumption | apply State.supLoadComposed_PoolForm | apply State.supLineLoaded_PoolForm)))
  all_goals (exact id)

theorem State.supServeText_PoolForm (s : State) (ref : CopyRef) (hinv : PoolForm s) : PoolForm (s.supServeText ref) := by
  simp only [State.supServeText]
  repeat' split
  all_goals (try (with_reducible repeat (first | assumption | apply State.modSup_PoolForm | apply State.supGoTail_PoolForm | apply State.supLoadComposed_PoolForm)))
  all_goals (exact id)

theorem State.supServe_PoolForm (s : State) (hinv : PoolForm s) : PoolForm (s.supServe) := by
  simp only [State.supServe]
  repeat' split
  all_goals (try (with_reducible repeat (first | assumption | apply State.supServeLine_PoolForm | apply State.supServeText_PoolForm | apply State.supLoadComposed_PoolForm)))
  all_goals (exact id)

theorem State.beginPrint_PoolForm (s : State) (hinv : PoolForm s) : PoolForm (s.beginPrint) := by
  simp only [State.beginPrint]
  repeat' split
  all_goals (try (with_reducible repeat (first | assumption | apply State.supServe_PoolForm | apply State.modSup_PoolForm)))
  all_goals (exact id)

theorem State.chosen_PoolForm (s : State) (hinv : PoolForm s) : PoolForm s.chosen := hinv

theorem State.handOverMany_PoolForm (s : State) (l : Nat) (hinv : PoolForm s) : PoolForm (State.handOverMany s l) := by
  induction l generalizing s with
  | zero => exact hinv
  | succ k ih =>
    simp only [State.handOverMany]
    repeat' split
    all_goals (try (with_reducible repeat (first | assumption | apply State.modRouter_PoolForm | apply State.setCopyState_PoolForm | apply State.modSup_PoolForm | apply State.beginPrint_PoolForm | apply ih)))
    all_goals (exact id)

theorem State.handOver_PoolForm (s : State) (hinv : PoolForm s) : PoolForm (s.handOver) := by
  simp only [State.handOver]
  repeat' split
  all_goals (try (with_reducible repeat (first | assumption | apply State.handOverMany_PoolForm)))
  all_goals (exact id)

theorem State.handOverSought_PoolForm (s : State) (l : Nat) (h : PoolForm s) : PoolForm (State.handOverSought s l) := by
  induction l generalizing s with
  | zero => exact h
  | succ k ih =>
    simp only [State.handOverSought]
    repeat' split
    · exact h
    · exact State.chosen_PoolForm s h
    · exact ih _ (State.handOverMany_PoolForm _ 1 (State.chosen_PoolForm s h))

theorem State.post_PoolForm (s : State) (n : Notice) (hinv : PoolForm s) : PoolForm (s.post n) := by
  simp only [State.post]
  repeat' split
  all_goals (try (with_reducible repeat (first | assumption | apply State.modSup_PoolForm | apply State.beginPrint_PoolForm | apply State.handOver_PoolForm)))
  all_goals (exact id)

theorem State.postAll_PoolForm (s : State) (l : List Notice) (hinv : PoolForm s) : PoolForm (State.postAll s l) := by
  induction l generalizing s with
  | nil => exact hinv
  | cons x xs ih =>
    simp only [State.postAll]
    repeat' split
    all_goals (try (with_reducible repeat (first | assumption | apply State.post_PoolForm | apply ih)))
    all_goals (exact id)

theorem State.placeFreed_PoolForm (s before : State) (sought : Bool) (hinv : PoolForm s) : PoolForm (s.placeFreed before sought) := by
  simp only [State.placeFreed]
  repeat' split
  all_goals (try (with_reducible repeat (first | assumption | apply State.chosen_PoolForm | apply State.handOver_PoolForm | apply State.handOverSought_PoolForm)))
  all_goals (exact id)

theorem State.tellPlaces_PoolForm (s before : State) (hinv : PoolForm s) : PoolForm (s.tellPlaces before) :=
  State.placeFreed_PoolForm s before _ hinv

theorem State.itemEnded_PoolForm (s : State) (hinv : PoolForm s) : PoolForm (s.itemEnded) := by
  simp only [State.itemEnded]
  repeat' split
  all_goals (try (with_reducible repeat (first | assumption | apply State.tellPlaces_PoolForm | apply State.modSup_PoolForm | apply State.settle_PoolForm | apply State.placeFreed_PoolForm | apply State.beginPrint_PoolForm)))
  all_goals (exact id)

theorem State.discardHead_PoolForm (s : State) (hinv : PoolForm s) : PoolForm (s.discardHead) := by
  simp only [State.discardHead]
  repeat' split
  all_goals (try (with_reducible repeat (first | assumption | apply State.modSup_PoolForm | apply State.supGoTail_PoolForm | apply State.supLoadComposed_PoolForm)))
  all_goals (exact id)

theorem State.discardDead_PoolForm (s : State) (r : RecIx) (g : Gen) (hinv : PoolForm s) : PoolForm (s.discardDead r g) := by
  simp only [State.discardDead]
  repeat' split
  all_goals (try (with_reducible repeat (first | assumption | apply State.modRouter_PoolForm | apply State.discardHead_PoolForm | apply State.modSup_PoolForm)))
  all_goals (exact id)

theorem State.supTextChanged_PoolForm (s : State) (r : RecIx) (hinv : PoolForm s) : PoolForm (s.supTextChanged r) := by
  simp only [State.supTextChanged]
  repeat' split
  all_goals (try (with_reducible repeat (first | assumption | apply State.supServe_PoolForm)))
  all_goals (exact id)

theorem State.motorEnqueue_PoolForm (s : State) (n : Line) (hinv : PoolForm s) : PoolForm (s.motorEnqueue n) := by
  simp only [State.motorEnqueue]
  repeat' split
  all_goals (try (with_reducible repeat (first | assumption | apply State.modMotor_PoolForm)))
  all_goals (exact id)

theorem State.motorEmpty_PoolForm (s : State) (n : Line) (hinv : PoolForm s) : PoolForm (s.motorEmpty n) := by
  simp only [State.motorEmpty]
  repeat' split
  all_goals (try (with_reducible repeat (first | assumption | apply State.modMotor_PoolForm)))
  all_goals (exact id)

theorem State.loadChar_PoolForm (s : State) (n : Line) (c : TxChar) (hinv : PoolForm s) : PoolForm (s.loadChar n c) := by
  simp only [State.loadChar]
  repeat' split
  all_goals (try (with_reducible repeat (first | assumption | apply State.modTx_PoolForm)))
  all_goals (exact id)

theorem State.loadNextComposed_PoolForm (s : State) (n : Line) (hinv : PoolForm s) : PoolForm (s.loadNextComposed n) := by
  simp only [State.loadNextComposed]
  repeat' split
  all_goals (try (with_reducible repeat (first | assumption | apply State.loadChar_PoolForm | apply State.modSched_PoolForm)))
  all_goals (exact id)

theorem State.serveHead_PoolForm (s : State) (n : Line) (hinv : PoolForm s) : PoolForm (s.serveHead n) := by
  simp only [State.serveHead]
  repeat' split
  all_goals (try (with_reducible repeat (first | assumption | apply State.loadNextComposed_PoolForm | apply State.modSched_PoolForm)))
  all_goals (exact id)

theorem State.enterTail_PoolForm (s : State) (n : Line) (r : Record) (hinv : PoolForm s) : PoolForm (s.enterTail n r) := by
  simp only [State.enterTail]
  repeat' split
  all_goals (try (with_reducible repeat (first | assumption | apply State.modSched_PoolForm)))
  all_goals (exact id)

theorem State.serveText_PoolForm (s : State) (n : Line) (ref : CopyRef) (hinv : PoolForm s) : PoolForm (s.serveText n ref) := by
  simp only [State.serveText]
  repeat' split
  all_goals (try (with_reducible repeat (first | assumption | apply State.loadChar_PoolForm | apply State.modSched_PoolForm | apply State.enterTail_PoolForm | apply State.loadNextComposed_PoolForm)))
  all_goals (exact id)

theorem State.serveLine_PoolForm (s : State) (n : Line) (hinv : PoolForm s) : PoolForm (s.serveLine n) := by
  simp only [State.serveLine]
  repeat' split
  all_goals (try (with_reducible repeat (first | assumption | apply State.serveHead_PoolForm | apply State.serveText_PoolForm | apply State.loadNextComposed_PoolForm)))
  all_goals (exact id)

theorem State.numberCopy_PoolForm (s : State) (n : Line) (ref : CopyRef) (hinv : PoolForm s) : PoolForm (s.numberCopy n ref) := by
  simp only [State.numberCopy]
  repeat' split
  all_goals (try (with_reducible repeat (first | assumption | apply State.modCopy_PoolForm | apply State.modSched_PoolForm)))
  all_goals (exact id)

theorem State.startFresh_PoolForm (s : State) (n : Line) (e : QEntry) (hinv : PoolForm s) : PoolForm (s.startFresh n e) := by
  simp only [State.startFresh]
  repeat' split
  all_goals (try (with_reducible repeat (first | assumption | apply State.numberCopy_PoolForm | apply State.setCopyState_PoolForm | apply State.modSched_PoolForm | apply State.modTx_PoolForm | apply State.serveLine_PoolForm)))
  all_goals (exact id)

theorem State.startResume_PoolForm (s : State) (n : Line) (e : QEntry) (hinv : PoolForm s) : PoolForm (s.startResume n e) := by
  simp only [State.startResume]
  repeat' split
  all_goals (try (with_reducible repeat (first | assumption | apply State.numberCopy_PoolForm | apply State.setCopyState_PoolForm | apply State.modCopy_PoolForm | apply State.modSched_PoolForm | apply State.modTx_PoolForm | apply State.serveLine_PoolForm)))
  all_goals (exact id)

theorem State.choose_PoolForm (s : State) (n : Line) (hinv : PoolForm s) : PoolForm (s.choose n) := by
  simp only [State.choose]
  repeat' split
  all_goals (try (with_reducible repeat (first | assumption | apply State.modSched_PoolForm | apply State.startFresh_PoolForm | apply State.startResume_PoolForm)))
  all_goals (exact id)

theorem State.beginInterruption_PoolForm (s : State) (n : Line) (hinv : PoolForm s) : PoolForm (s.beginInterruption n) := by
  simp only [State.beginInterruption]
  repeat' split
  all_goals (try (with_reducible repeat (first | assumption | apply State.serveLine_PoolForm | apply State.modSched_PoolForm | apply State.modTx_PoolForm)))
  all_goals (exact id)

theorem State.preemptTest_PoolForm (s : State) (n : Line) (hinv : PoolForm s) : PoolForm (s.preemptTest n) := by
  simp only [State.preemptTest]
  repeat' split
  all_goals (try (with_reducible repeat (first | assumption | apply State.beginInterruption_PoolForm | apply State.modSched_PoolForm)))
  all_goals (exact id)

theorem State.reconsiderMark_PoolForm (s : State) (n : Line) (hinv : PoolForm s) : PoolForm (s.reconsiderMark n) := by
  simp only [State.reconsiderMark]
  repeat' split
  all_goals (try (with_reducible repeat (first | assumption | apply State.modSched_PoolForm)))
  all_goals (exact id)

theorem State.lookAgain_PoolForm (s : State) (n : Line) (hinv : PoolForm s) : PoolForm (s.lookAgain n) := by
  simp only [State.lookAgain]
  repeat' split
  all_goals (try (with_reducible repeat (first | assumption | apply State.preemptTest_PoolForm | apply State.choose_PoolForm)))
  all_goals (exact id)

theorem State.enqueue_PoolForm (s : State) (n : Line) (ref : CopyRef) (hinv : PoolForm s) : PoolForm (s.enqueue n ref) := by
  simp only [State.enqueue]
  repeat' split
  all_goals (try (with_reducible repeat (first | assumption | apply State.modSched_PoolForm | apply State.setCopyState_PoolForm | apply State.motorEnqueue_PoolForm | apply State.lookAgain_PoolForm | apply State.choose_PoolForm)))
  all_goals (exact id)

theorem State.clearCurrent_PoolForm (s : State) (n : Line) (hinv : PoolForm s) : PoolForm (s.clearCurrent n) := by
  simp only [State.clearCurrent]
  repeat' split
  all_goals (try (with_reducible repeat (first | assumption | apply State.modSched_PoolForm | apply State.modTx_PoolForm)))
  all_goals (exact id)

theorem State.putBack_PoolForm (s : State) (n : Line) (hinv : PoolForm s) : PoolForm (s.putBack n) := by
  simp only [State.putBack]
  repeat' split
  all_goals (try (with_reducible repeat (first | assumption | apply State.clearCurrent_PoolForm | apply State.modCopy_PoolForm | apply State.modSched_PoolForm | apply State.setCopyState_PoolForm | apply State.motorEnqueue_PoolForm)))
  all_goals (exact id)

theorem State.withdraw_PoolForm (s : State) (n : Line) (ref : CopyRef) (hinv : PoolForm s) : PoolForm (s.withdraw n ref) := by
  simp only [State.withdraw]
  repeat' split
  all_goals (try (with_reducible repeat (first | assumption | apply State.modSched_PoolForm | apply State.reconsiderMark_PoolForm | apply State.motorEmpty_PoolForm)))
  all_goals (exact id)

theorem State.delivered_PoolForm (s : State) (n : Line) (e : QEntry) (hinv : PoolForm s) : PoolForm (s.delivered n e) := by
  simp only [State.delivered]
  repeat' split
  all_goals (try (with_reducible repeat (first | assumption | apply State.settle_PoolForm | apply State.clearCurrent_PoolForm | apply State.choose_PoolForm | apply State.motorEmpty_PoolForm)))
  all_goals (exact id)

theorem State.pushCurrent_PoolForm (s : State) (n : Line) (e : QEntry) (hinv : PoolForm s) : PoolForm (s.pushCurrent n e) := by
  simp only [State.pushCurrent]
  repeat' split
  all_goals (try (with_reducible repeat (first | assumption | apply State.modCopy_PoolForm | apply State.clearCurrent_PoolForm | apply State.modSched_PoolForm | apply State.choose_PoolForm)))
  all_goals (exact id)

theorem State.reportSent_PoolForm (s : State) (n : Line) (c : TxChar) (hinv : PoolForm s) : PoolForm (s.reportSent n c) := by
  simp only [State.reportSent]
  repeat' split
  all_goals (try (with_reducible repeat (first | assumption | apply State.pushCurrent_PoolForm | apply State.delivered_PoolForm | apply State.modSched_PoolForm | apply State.beginInterruption_PoolForm)))
  all_goals (exact id)

theorem State.countFill_PoolForm (s : State) (ref : CopyRef) (hinv : PoolForm s) : PoolForm (s.countFill ref) := by
  simp only [State.countFill]
  repeat' split
  all_goals (try (with_reducible repeat (first | assumption | apply State.modCopy_PoolForm)))
  all_goals (exact id)

theorem State.lineTextChanged_PoolForm (s : State) (n : Line) (r : RecIx) (oldCount : Nat) (oldComplete : Bool) (hinv : PoolForm s) : PoolForm (s.lineTextChanged n r oldCount oldComplete) := by
  simp only [State.lineTextChanged]
  repeat' split
  all_goals (try (with_reducible repeat (first | assumption | apply State.serveLine_PoolForm | apply State.lookAgain_PoolForm)))
  all_goals (exact id)

theorem State.bindLocal_PoolForm (s : State) (n : Line) (ref : CopyRef) (hinv : PoolForm s) : PoolForm (s.bindLocal n ref) := by
  simp only [State.bindLocal]
  repeat' split
  all_goals (try (with_reducible repeat (first | assumption | apply State.modCopy_PoolForm | apply State.enqueue_PoolForm)))
  all_goals (exact id)

theorem State.startSeries_PoolForm (s : State) (k : CtxIx) (ref : CopyRef) (hinv : PoolForm s) : PoolForm (s.startSeries k ref) := by
  simp only [State.startSeries]
  repeat' split
  all_goals (try (with_reducible repeat (first | assumption | apply State.modCopy_PoolForm | apply State.giveSend_PoolForm)))
  all_goals (exact id)

theorem State.waitForContext_PoolForm (s : State) (ref : CopyRef) (hinv : PoolForm s) : PoolForm (s.waitForContext ref) := by
  simp only [State.waitForContext]
  repeat' split
  all_goals (try (with_reducible repeat (first | assumption | apply State.setCopyState_PoolForm | apply State.modRouter_PoolForm)))
  all_goals (exact id)

theorem State.offerCopy_PoolForm (s : State) (ref : CopyRef) (hinv : PoolForm s) : PoolForm (s.offerCopy ref) := by
  simp only [State.offerCopy]
  repeat' split
  all_goals (try (with_reducible repeat (first | assumption | apply State.startSeries_PoolForm | apply State.waitForContext_PoolForm)))
  all_goals (exact id)

theorem State.serveWaitMany_PoolForm (s : State) (l : Nat) (hinv : PoolForm s) : PoolForm (State.serveWaitMany s l) := by
  induction l generalizing s with
  | zero => exact hinv
  | succ k ih =>
    simp only [State.serveWaitMany]
    repeat' split
    all_goals (try (with_reducible repeat (first | assumption | apply State.modRouter_PoolForm | apply State.bindLocal_PoolForm | apply State.startSeries_PoolForm | apply ih)))
    all_goals (exact id)

theorem State.serveWaitList_PoolForm (s : State) (hinv : PoolForm s) : PoolForm (s.serveWaitList) := by
  simp only [State.serveWaitList]
  repeat' split
  all_goals (try (with_reducible repeat (first | assumption | apply State.serveWaitMany_PoolForm)))
  all_goals (exact id)

theorem State.startCounts_PoolForm (s : State) (ref : CopyRef) (hinv : PoolForm s) : PoolForm (s.startCounts ref) := by
  simp only [State.startCounts]
  repeat' split
  all_goals (try (with_reducible repeat (first | assumption | apply State.modCopy_PoolForm)))
  all_goals (exact id)

theorem State.dispatchCopy_PoolForm (s : State) (ref : CopyRef) (hinv : PoolForm s) : PoolForm (s.dispatchCopy ref) := by
  simp only [State.dispatchCopy]
  repeat' split
  all_goals (try (with_reducible repeat (first | assumption | apply State.startCounts_PoolForm | apply State.bindLocal_PoolForm | apply State.offerCopy_PoolForm)))
  all_goals (exact id)

theorem State.dispatchAll_PoolForm (s : State) (l : List CopyRef) (hinv : PoolForm s) : PoolForm (State.dispatchAll s l) := by
  induction l generalizing s with
  | nil => exact hinv
  | cons x xs ih =>
    simp only [State.dispatchAll]
    repeat' split
    all_goals (try (with_reducible repeat (first | assumption | apply State.dispatchCopy_PoolForm | apply ih)))
    all_goals (exact id)

theorem State.dispatchRecord_PoolForm (s : State) (r : RecIx) (hinv : PoolForm s) : PoolForm (s.dispatchRecord r) := by
  simp only [State.dispatchRecord]
  repeat' split
  all_goals (try (with_reducible repeat (first | assumption | apply State.dispatchAll_PoolForm)))
  all_goals (exact id)

theorem State.dispatchRestart_PoolForm (s : State) (l : List CopyRef) (h : PoolForm s) : PoolForm (State.dispatchRestart s l).1 := by
  induction l generalizing s with
  | nil => exact h
  | cons x xs ih =>
    simp only [State.dispatchRestart]
    split
    · exact ih _ (State.bindLocal_PoolForm _ _ _ (State.startCounts_PoolForm _ _ h))
    · exact ih _ (State.setCopyState_PoolForm _ _ _ (State.startCounts_PoolForm _ _ h))

theorem State.holdOffEnds_PoolForm (s : State) (h : PoolForm s) : PoolForm s.holdOffEnds := by
  simp only [State.holdOffEnds]
  apply State.serveWaitList_PoolForm
  apply State.modRouter_PoolForm
  apply State.dispatchRestart_PoolForm
  apply State.modRouter_PoolForm
  exact State.modPort_PoolForm _ _ h

theorem State.enqueueOrRefuse_PoolForm (s : State) (n : Line) (ref : CopyRef) (hinv : PoolForm s) : PoolForm (s.enqueueOrRefuse n ref) := by
  simp only [State.enqueueOrRefuse]
  repeat' split
  all_goals (try (with_reducible repeat (first | assumption | apply State.enqueue_PoolForm | apply State.modCopy_PoolForm | apply State.setCopyState_PoolForm | apply State.dispatchCopy_PoolForm)))
  all_goals (exact id)

theorem State.die_PoolForm (s : State) (k : CtxIx) (ref : CopyRef) (hinv : PoolForm s) : PoolForm (s.die k ref) := by
  simp only [State.die]
  repeat' split
  all_goals (try (with_reducible repeat (first | assumption | apply State.setCopyState_PoolForm | apply State.freeSend_PoolForm | apply State.modRouter_PoolForm | apply State.handOver_PoolForm | apply State.serveWaitList_PoolForm)))
  all_goals (exact id)

theorem State.bindInstead_PoolForm (s : State) (k : CtxIx) (n : Line) (ref : CopyRef) (hinv : PoolForm s) : PoolForm (s.bindInstead k n ref) := by
  simp only [State.bindInstead]
  repeat' split
  all_goals (try (with_reducible repeat (first | assumption | apply State.freeSend_PoolForm | apply State.bindLocal_PoolForm | apply State.serveWaitList_PoolForm)))
  all_goals (exact id)

theorem State.reoffer_PoolForm (s : State) (k : CtxIx) (ref : CopyRef) (next : Nat) (hinv : PoolForm s) : PoolForm (s.reoffer k ref next) := by
  simp only [State.reoffer]
  repeat' split
  all_goals (try (with_reducible repeat (first | assumption | apply State.bindInstead_PoolForm | apply State.modCopy_PoolForm | apply State.askOffer_PoolForm)))
  all_goals (exact id)

theorem State.unclaimed_PoolForm (s : State) (k : CtxIx) (ref : CopyRef) (hinv : PoolForm s) : PoolForm (s.unclaimed k ref) := by
  simp only [State.unclaimed]
  repeat' split
  all_goals (try (with_reducible repeat (first | assumption | apply State.die_PoolForm | apply State.setCopyState_PoolForm | apply State.modSend_PoolForm)))
  all_goals (exact id)

theorem State.spoiled_PoolForm (s : State) (k : CtxIx) (ref : CopyRef) (hinv : PoolForm s) : PoolForm (s.spoiled k ref) := by
  simp only [State.spoiled]
  repeat' split
  all_goals (try (with_reducible repeat (first | assumption | apply State.dropSend_PoolForm | apply State.modSend_PoolForm | apply State.modCopy_PoolForm | apply State.die_PoolForm | apply State.reoffer_PoolForm)))
  all_goals (exact id)

theorem State.handed_PoolForm (s : State) (k : CtxIx) (ref : CopyRef) (hinv : PoolForm s) : PoolForm (s.handed k ref) := by
  simp only [State.handed]
  repeat' split
  all_goals (try (with_reducible repeat (first | assumption | apply State.settle_PoolForm | apply State.freeSend_PoolForm | apply State.serveWaitList_PoolForm)))
  all_goals (exact id)

theorem State.sendsLook_PoolForm (s : State) (r : RecIx) (l : List CtxIx) (hinv : PoolForm s) : PoolForm (State.sendsLook s r l) := by
  induction l generalizing s with
  | nil => exact hinv
  | cons x xs ih =>
    simp only [State.sendsLook]
    repeat' split
    all_goals (try (with_reducible repeat (first | assumption | apply State.lookNext_PoolForm | apply ih)))
    all_goals (exact id)

theorem State.linesLook_PoolForm (s : State) (r : RecIx) (oldCount : Nat) (oldComplete : Bool) (l : List Line) (hinv : PoolForm s) : PoolForm (State.linesLook s r oldCount oldComplete l) := by
  induction l generalizing s with
  | nil => exact hinv
  | cons x xs ih =>
    simp only [State.linesLook]
    repeat' split
    all_goals (try (with_reducible repeat (first | assumption | apply State.lineTextChanged_PoolForm | apply ih)))
    all_goals (exact id)

theorem State.textChanged_PoolForm (s : State) (r : RecIx) (oldCount : Nat) (oldComplete : Bool) (hinv : PoolForm s) : PoolForm (s.textChanged r oldCount oldComplete) := by
  simp only [State.textChanged]
  repeat' split
  all_goals (try (with_reducible repeat (first | assumption | apply State.linesLook_PoolForm | apply State.sendsLook_PoolForm | apply State.supTextChanged_PoolForm)))
  all_goals (exact id)

theorem State.cutShort_PoolForm (s : State) (r : RecIx) (hinv : PoolForm s) : PoolForm (s.cutShort r) := by
  simp only [State.cutShort]
  repeat' split
  all_goals (try (with_reducible repeat (first | assumption | apply State.modRecord_PoolForm | apply State.textChanged_PoolForm)))
  all_goals (exact id)

theorem State.dropSendOf_PoolForm (s : State) (ref : CopyRef) (hinv : PoolForm s) : PoolForm (s.dropSendOf ref) := by
  simp only [State.dropSendOf]
  repeat' split
  all_goals (try (with_reducible repeat (first | assumption | apply State.freeSend_PoolForm)))
  all_goals (exact id)

theorem State.forgetCopy_PoolForm (s : State) (ref : CopyRef) (hinv : PoolForm s) : PoolForm (s.forgetCopy ref) := by
  simp only [State.forgetCopy]
  repeat' split
  all_goals (try (with_reducible repeat (first | assumption | apply State.modRouter_PoolForm)))
  all_goals (exact id)

theorem State.withdrawCopy_PoolForm (s : State) (ref : CopyRef) (hinv : PoolForm s) : PoolForm (s.withdrawCopy ref) := by
  simp only [State.withdrawCopy]
  repeat' split
  all_goals (try (with_reducible repeat (first | assumption | apply State.withdraw_PoolForm)))
  all_goals (exact id)

theorem State.discardRecord_PoolForm (s : State) (r : RecIx) (hinv : PoolForm s) : PoolForm (s.discardRecord r) := by
  simp only [State.discardRecord]
  repeat' split
  all_goals (try (with_reducible repeat (first | assumption | apply State.withdrawCopy_PoolForm | apply State.forgetCopy_PoolForm | apply State.dropSendOf_PoolForm | apply State.discardDead_PoolForm | apply State.freeRecord_PoolForm | apply State.serveWaitList_PoolForm)))
  all_goals (exact id)

theorem State.endRecord_PoolForm (s : State) (r : RecIx) (hinv : PoolForm s) : PoolForm (s.endRecord r) := by
  simp only [State.endRecord]
  repeat' split
  all_goals (try (with_reducible repeat (first | assumption | apply State.cutShort_PoolForm | apply State.discardRecord_PoolForm)))
  all_goals (exact id)

theorem State.endTakeRecord_PoolForm (s : State) (k : CtxIx) (t : Take) (hinv : PoolForm s) : PoolForm (s.endTakeRecord k t) := by
  simp only [State.endTakeRecord]
  repeat' split
  all_goals (try (with_reducible repeat (first | assumption | apply State.releaseReservation_PoolForm | apply State.endRecord_PoolForm)))
  all_goals (exact id)

theorem State.dropClaim_PoolForm (s : State) (k : CtxIx) (hinv : PoolForm s) : PoolForm (s.dropClaim k) := by
  simp only [State.dropClaim]
  repeat' split
  all_goals (try (with_reducible repeat (first | assumption | apply State.freeTake_PoolForm | apply State.releaseReservation_PoolForm | apply State.unpledge_PoolForm)))
  all_goals (exact id)

theorem State.giveUpTake_PoolForm (s : State) (k : CtxIx) (t : Take) (hinv : PoolForm s) : PoolForm (s.giveUpTake k t) := by
  simp only [State.giveUpTake]
  repeat' split
  all_goals (try (with_reducible repeat (first | assumption | apply State.tellPlaces_PoolForm | apply State.endTakeRecord_PoolForm | apply State.freeTake_PoolForm | apply State.addEnded_PoolForm)))
  all_goals (exact id)

theorem State.abandonTake_PoolForm (s : State) (k : CtxIx) (t : Take) (reason : Reason) (hinv : PoolForm s) : PoolForm (s.abandonTake k t reason) := by
  simp only [State.abandonTake]
  repeat' split
  all_goals (try (with_reducible repeat (first | assumption | apply State.tellPlaces_PoolForm | apply State.modTake_PoolForm | apply State.askTake_PoolForm | apply State.endTakeRecord_PoolForm)))
  all_goals (exact id)

theorem State.answerClose_PoolForm (s : State) (k : CtxIx) (hinv : PoolForm s) : PoolForm (s.answerClose k) := by
  simp only [State.answerClose]
  repeat' split
  all_goals (try (with_reducible repeat (first | assumption | apply State.modTake_PoolForm)))
  all_goals (exact id)

theorem State.endTaking_PoolForm (s : State) (l : List RecIx) (hinv : PoolForm s) : PoolForm (State.endTaking s l) := by
  induction l generalizing s with
  | nil => exact hinv
  | cons x xs ih =>
    simp only [State.endTaking]
    repeat' split
    all_goals (try (with_reducible repeat (first | assumption | apply State.endRecord_PoolForm | apply ih)))
    all_goals (exact id)

theorem State.returnCopies_PoolForm (s : State) (hinv : PoolForm s) : PoolForm (s.returnCopies) := by
  simp only [State.returnCopies]
  repeat' split
  all_goals (try (with_reducible repeat (first | assumption | apply State.modStore_PoolForm | apply State.modRouter_PoolForm)))
  all_goals (exact id)

theorem State.startHoldOff_PoolForm (s : State) (hinv : PoolForm s) : PoolForm (s.startHoldOff) := by
  simp only [State.startHoldOff]
  repeat' split
  all_goals (try (with_reducible repeat (first | assumption | apply State.holdOffEnds_PoolForm | apply State.modPort_PoolForm)))
  all_goals (exact id)

theorem State.warmRestart_PoolForm (s : State) (sender : Slot) (received : Bool) (hinv : PoolForm s) : PoolForm (s.warmRestart sender received) := by
  simp only [State.warmRestart]
  repeat' split
  all_goals (try (with_reducible repeat (first | assumption | apply State.modPort_PoolForm | apply State.refreshTenure_PoolForm | apply State.modStore_PoolForm | apply State.placeFreed_PoolForm | apply State.endTaking_PoolForm | apply State.returnCopies_PoolForm | apply State.post_PoolForm | apply State.startHoldOff_PoolForm)))
  all_goals (exact id)

theorem State.turnReview_PoolForm (s : State) (n : Line) (hinv : PoolForm s) : PoolForm (s.turnReview n) := by
  simp only [State.turnReview]
  repeat' split
  all_goals (try (with_reducible repeat (first | assumption | apply State.modLine_PoolForm)))
  all_goals (exact id)

theorem State.turnWait_PoolForm (s : State) (n : Line) (hinv : PoolForm s) : PoolForm (s.turnWait n) := by
  simp only [State.turnWait]
  repeat' split
  all_goals (try (with_reducible repeat (first | assumption | apply State.modLine_PoolForm)))
  all_goals (exact id)

theorem State.setRx_PoolForm (s : State) (n : Line) (st : RxState) (hinv : PoolForm s) : PoolForm (s.setRx n st) := by
  simp only [State.setRx]
  repeat' split
  all_goals (try (with_reducible repeat (first | assumption | apply State.modLine_PoolForm)))
  all_goals (exact id)

theorem State.suspendRx_PoolForm (s : State) (n : Line) (hinv : PoolForm s) : PoolForm (s.suspendRx n) := by
  simp only [State.suspendRx]
  repeat' split
  all_goals (try (with_reducible repeat (first | assumption | apply State.setRx_PoolForm)))
  all_goals (exact id)

theorem State.beginHeld_PoolForm (s : State) (n : Line) (hinv : PoolForm s) : PoolForm (s.beginHeld n) := by
  simp only [State.beginHeld]
  repeat' split
  all_goals (try (with_reducible repeat (first | assumption | apply State.modTx_PoolForm | apply State.suspendRx_PoolForm)))
  all_goals (exact id)

theorem State.takeOrWithdraw_PoolForm (s : State) (n : Line) (hinv : PoolForm s) : PoolForm (s.takeOrWithdraw n) := by
  simp only [State.takeOrWithdraw]
  repeat' split
  all_goals (try (with_reducible repeat (first | assumption | apply State.chosen_PoolForm | apply State.beginHeld_PoolForm)))
  all_goals (exact id)

theorem State.takenOff_PoolForm (s : State) (n : Line) (hinv : PoolForm s) : PoolForm (s.takenOff n) := by
  simp only [State.takenOff]
  repeat' split
  all_goals (try (with_reducible repeat (first | assumption | apply State.modTx_PoolForm | apply State.takeOrWithdraw_PoolForm | apply State.putBack_PoolForm)))
  all_goals (exact id)

theorem State.leftHunt_PoolForm (s : State) (n : Line) (hinv : PoolForm s) : PoolForm (s.leftHunt n) := by
  simp only [State.leftHunt]
  repeat' split
  all_goals (try (with_reducible repeat (first | assumption | apply State.turnWait_PoolForm | apply State.takenOff_PoolForm)))
  all_goals (exact id)

theorem State.returnToHunt_PoolForm (s : State) (n : Line) (hinv : PoolForm s) : PoolForm (s.returnToHunt n) := by
  simp only [State.returnToHunt]
  repeat' split
  all_goals (try (with_reducible repeat (first | assumption | apply State.turnReview_PoolForm | apply State.modAsm_PoolForm)))
  all_goals (exact id)

theorem State.lineOverrun_PoolForm (s : State) (n : Line) (r : RecIx) (hinv : PoolForm s) : PoolForm (s.lineOverrun n r) := by
  simp only [State.lineOverrun]
  repeat' split
  all_goals (try (with_reducible repeat (first | assumption | apply State.modAsm_PoolForm | apply State.modRecord_PoolForm | apply State.post_PoolForm)))
  all_goals (exact id)

theorem State.appendChar_PoolForm (s : State) (r : RecIx) (c : Code) (hinv : PoolForm s) : PoolForm (s.appendChar r c) := by
  simp only [State.appendChar]
  repeat' split
  all_goals (try (with_reducible repeat (first | assumption | apply State.writeChar_PoolForm | apply State.modRecord_PoolForm | apply State.textChanged_PoolForm)))
  all_goals (exact id)

theorem State.storeChar_PoolForm (s : State) (n : Line) (r : RecIx) (c : Code) (h : PoolForm s) : PoolForm (s.storeChar n r c) := by
  simp only [State.storeChar]
  repeat' split
  · exact h
  · rename_i t e; exact State.appendChar_PoolForm _ _ _ (State.allocateBlock_PoolForm s t r e h)
  · exact State.lineOverrun_PoolForm _ _ _ h
  · exact State.appendChar_PoolForm _ _ _ h

theorem State.defaultHeading_PoolForm (s : State) (r : RecIx) (hinv : PoolForm s) : PoolForm (s.defaultHeading r) := by
  simp only [State.defaultHeading]
  repeat' split
  all_goals (try (with_reducible repeat (first | assumption | apply State.modRecord_PoolForm)))
  all_goals (exact id)

theorem State.fillTable_PoolForm (s : State) (n : Line) (r : RecIx) (stations : List StationCode) (hinv : PoolForm s) : PoolForm (s.fillTable n r stations) := by
  simp only [State.fillTable]
  repeat' split
  all_goals (try (with_reducible repeat (first | assumption | apply State.modRecord_PoolForm | apply State.modAsm_PoolForm)))
  all_goals (exact id)

theorem State.headingEnds_PoolForm (s : State) (n : Line) (r : RecIx) (stations : List StationCode) (hinv : PoolForm s) : PoolForm (s.headingEnds n r stations) := by
  simp only [State.headingEnds]
  repeat' split
  all_goals (try (with_reducible repeat (first | assumption | apply State.fillTable_PoolForm | apply State.dispatchRecord_PoolForm)))
  all_goals (exact id)

theorem State.takeHeading_PoolForm (s : State) (n : Line) (r : RecIx) (h : Handed) (hinv : PoolForm s) : PoolForm (s.takeHeading n r h) := by
  simp only [State.takeHeading]
  repeat' split
  all_goals (try (with_reducible repeat (first | assumption | apply State.storeChar_PoolForm | apply State.modAsm_PoolForm | apply State.defaultHeading_PoolForm | apply State.headingEnds_PoolForm)))
  all_goals (exact id)

theorem State.takeDesignator_PoolForm (s : State) (n : Line) (r : RecIx) (h : Handed) (hinv : PoolForm s) : PoolForm (s.takeDesignator n r h) := by
  simp only [State.takeDesignator]
  repeat' split
  all_goals (try (with_reducible repeat (first | assumption | apply State.modRecord_PoolForm | apply State.storeChar_PoolForm | apply State.modAsm_PoolForm)))
  all_goals (exact id)

theorem State.checkChannel_PoolForm (s : State) (n : Line) (r : RecIx) (received : Nat) (hinv : PoolForm s) : PoolForm (s.checkChannel n r received) := by
  simp only [State.checkChannel]
  repeat' split
  all_goals (try (with_reducible repeat (first | assumption | apply State.modRecord_PoolForm | apply State.modAsm_PoolForm | apply State.post_PoolForm)))
  all_goals (exact id)

theorem State.takeGroup_PoolForm (s : State) (n : Line) (r : RecIx) (h : Handed) (hinv : PoolForm s) : PoolForm (s.takeGroup n r h) := by
  simp only [State.takeGroup]
  repeat' split
  all_goals (try (with_reducible repeat (first | assumption | apply State.defaultHeading_PoolForm | apply State.modAsm_PoolForm | apply State.takeDesignator_PoolForm | apply State.checkChannel_PoolForm)))
  all_goals (exact id)

theorem State.completeRecord_PoolForm (s : State) (r : RecIx) (truncated : Bool) (hinv : PoolForm s) : PoolForm (s.completeRecord r truncated) := by
  simp only [State.completeRecord]
  repeat' split
  all_goals (try (with_reducible repeat (first | assumption | apply State.tryFree_PoolForm | apply State.modRecord_PoolForm | apply State.textChanged_PoolForm)))
  all_goals (exact id)

theorem State.dispatchAtClose_PoolForm (s : State) (r : RecIx) (filled : Bool) (hinv : PoolForm s) : PoolForm (s.dispatchAtClose r filled) := by
  simp only [State.dispatchAtClose]
  repeat' split
  all_goals (try (with_reducible repeat (first | assumption | apply State.dispatchRecord_PoolForm)))
  all_goals (exact id)

theorem State.malformedAtClose_PoolForm (s : State) (n : Line) (r : RecIx) (hinv : PoolForm s) : PoolForm (s.malformedAtClose n r) := by
  simp only [State.malformedAtClose]
  repeat' split
  all_goals (try (with_reducible repeat (first | assumption | apply State.fillTable_PoolForm)))
  all_goals (exact id)

theorem State.closeByRun_PoolForm (s : State) (n : Line) (r : RecIx) (hinv : PoolForm s) : PoolForm (s.closeByRun n r) := by
  simp only [State.closeByRun]
  repeat' split
  all_goals (try (with_reducible repeat (first | assumption | apply State.malformedAtClose_PoolForm | apply State.completeRecord_PoolForm | apply State.dispatchAtClose_PoolForm | apply State.returnToHunt_PoolForm | apply State.freeRecord_PoolForm)))
  all_goals (exact id)

theorem State.closeTruncated_PoolForm (s : State) (n : Line) (r : RecIx) (cause : TruncateCause) (hinv : PoolForm s) : PoolForm (s.closeTruncated n r cause) := by
  simp only [State.closeTruncated]
  repeat' split
  all_goals (try (with_reducible repeat (first | assumption | apply State.modAsm_PoolForm | apply State.malformedAtClose_PoolForm | apply State.completeRecord_PoolForm | apply State.post_PoolForm | apply State.dispatchAtClose_PoolForm | apply State.returnToHunt_PoolForm | apply State.freeRecord_PoolForm)))
  all_goals (exact id)

theorem State.takeOrdinary_PoolForm (s : State) (n : Line) (r : RecIx) (h : Handed) (hinv : PoolForm s) : PoolForm (s.takeOrdinary n r h) := by
  simp only [State.takeOrdinary]
  repeat' split
  all_goals (try (with_reducible repeat (first | assumption | apply State.takeGroup_PoolForm | apply State.takeDesignator_PoolForm | apply State.takeHeading_PoolForm | apply State.storeChar_PoolForm)))
  all_goals (exact id)

theorem State.takeAll_PoolForm (s : State) (n : Line) (r : RecIx) (l : List Handed) (hinv : PoolForm s) : PoolForm (State.takeAll s n r l) := by
  induction l generalizing s with
  | nil => exact hinv
  | cons x xs ih =>
    simp only [State.takeAll]
    repeat' split
    all_goals (try (with_reducible repeat (first | assumption | apply State.takeOrdinary_PoolForm | apply ih)))
    all_goals (exact id)

theorem State.restartSilence_PoolForm (s : State) (n : Line) (hinv : PoolForm s) : PoolForm (s.restartSilence n) := by
  simp only [State.restartSilence]
  repeat' split
  all_goals (try (with_reducible repeat (first | assumption | apply State.modAsm_PoolForm)))
  all_goals (exact id)

theorem State.messageChar_PoolForm (s : State) (n : Line) (r : RecIx) (h : Handed) (hinv : PoolForm s) : PoolForm (s.messageChar n r h) := by
  simp only [State.messageChar]
  repeat' split
  all_goals (try (with_reducible repeat (first | assumption | apply State.takeGroup_PoolForm | apply State.modAsm_PoolForm | apply State.closeByRun_PoolForm | apply State.takeAll_PoolForm)))
  all_goals (exact id)

theorem State.countFraming_PoolForm (s : State) (r : RecIx) (framing : Bool) (hinv : PoolForm s) : PoolForm (s.countFraming r framing) := by
  simp only [State.countFraming]
  repeat' split
  all_goals (try (with_reducible repeat (first | assumption | apply State.modRecord_PoolForm)))
  all_goals (exact id)

theorem State.openMessage_PoolForm (s : State) (n : Line) (r : RecIx) (hinv : PoolForm s) : PoolForm (s.openMessage n r) := by
  simp only [State.openMessage]
  repeat' split
  all_goals (try (with_reducible repeat (first | assumption | apply State.leftHunt_PoolForm | apply State.modRecord_PoolForm | apply State.modAsm_PoolForm)))
  all_goals (exact id)

theorem State.loseMessage_PoolForm (s : State) (n : Line) (hinv : PoolForm s) : PoolForm (s.loseMessage n) := by
  simp only [State.loseMessage]
  repeat' split
  all_goals (try (with_reducible repeat (first | assumption | apply State.leftHunt_PoolForm | apply State.post_PoolForm | apply State.modAsm_PoolForm)))
  all_goals (exact id)

theorem State.openingRunDone_PoolForm (s : State) (n : Line) (hinv : PoolForm s) : PoolForm (s.openingRunDone n) := by
  simp only [State.openingRunDone]
  repeat' split
  all_goals (try (with_reducible repeat (first | assumption | apply State.openMessage_PoolForm | apply State.loseMessage_PoolForm)))
  all_goals (exact id)

theorem State.huntChar_PoolForm (s : State) (n : Line) (h : Handed) (hinv : PoolForm s) : PoolForm (s.huntChar n h) := by
  simp only [State.huntChar]
  repeat' split
  all_goals (try (with_reducible repeat (first | assumption | apply State.modAsm_PoolForm | apply State.openingRunDone_PoolForm)))
  all_goals (exact id)

theorem State.discardChar_PoolForm (s : State) (n : Line) (h : Handed) (hinv : PoolForm s) : PoolForm (s.discardChar n h) := by
  simp only [State.discardChar]
  repeat' split
  all_goals (try (with_reducible repeat (first | assumption | apply State.modAsm_PoolForm | apply State.returnToHunt_PoolForm)))
  all_goals (exact id)

theorem State.handOverChar_PoolForm (s : State) (n : Line) (h : Handed) (framing : Bool) (hinv : PoolForm s) : PoolForm (s.handOverChar n h framing) := by
  simp only [State.handOverChar]
  repeat' split
  all_goals (try (with_reducible repeat (first | assumption | apply State.huntChar_PoolForm | apply State.discardChar_PoolForm | apply State.countFraming_PoolForm | apply State.messageChar_PoolForm | apply State.restartSilence_PoolForm)))
  all_goals (exact id)

theorem State.asmLineOpen_PoolForm (s : State) (n : Line) (hinv : PoolForm s) : PoolForm (s.asmLineOpen n) := by
  simp only [State.asmLineOpen]
  repeat' split
  all_goals (try (with_reducible repeat (first | assumption | apply State.modAsm_PoolForm | apply State.returnToHunt_PoolForm | apply State.closeTruncated_PoolForm)))
  all_goals (exact id)

theorem State.modCond_PoolForm (s : State) (n : Line) (pin : LoopPin) (f : Cond → Cond) (hinv : PoolForm s) : PoolForm (s.modCond n pin f) := by
  simp only [State.modCond]
  repeat' split
  all_goals (try (with_reducible repeat (first | assumption | apply State.modLine_PoolForm)))
  all_goals (exact id)

theorem State.setPin_PoolForm (s : State) (n : Line) (pin : LoopPin) (level : Level) (hinv : PoolForm s) : PoolForm (s.setPin n pin level) := by
  simp only [State.setPin]
  repeat' split
  all_goals (try (with_reducible repeat (first | assumption | apply State.modLine_PoolForm)))
  all_goals (exact id)

theorem State.readPin_PoolForm (s : State) (n : Line) (pin : LoopPin) (level : Level) (hinv : PoolForm s) : PoolForm (s.readPin n pin level) := by
  simp only [State.readPin]
  repeat' split
  all_goals (try (with_reducible repeat (first | assumption | apply State.setPin_PoolForm | apply State.modCond_PoolForm | apply State.turnReview_PoolForm)))
  all_goals (exact id)

theorem State.setRxCase_PoolForm (s : State) (n : Line) (c : Case) (hinv : PoolForm s) : PoolForm (s.setRxCase n c) := by
  simp only [State.setRxCase]
  repeat' split
  all_goals (try (with_reducible repeat (first | assumption | apply State.modLine_PoolForm)))
  all_goals (exact id)

theorem State.resumeRx_PoolForm (s : State) (n : Line) (hinv : PoolForm s) : PoolForm (s.resumeRx n) := by
  simp only [State.resumeRx]
  repeat' split
  all_goals (try (with_reducible repeat (first | assumption | apply State.setRxCase_PoolForm | apply State.setRx_PoolForm)))
  all_goals (exact id)

theorem State.abandonTx_PoolForm (s : State) (n : Line) (hinv : PoolForm s) : PoolForm (s.abandonTx n) := by
  simp only [State.abandonTx]
  repeat' split
  all_goals (try (with_reducible repeat (first | assumption | apply State.modTx_PoolForm | apply State.resumeRx_PoolForm)))
  all_goals (exact id)

theorem State.receiveLost_PoolForm (s : State) (n : Line) (hinv : PoolForm s) : PoolForm (s.receiveLost n) := by
  simp only [State.receiveLost]
  repeat' split
  all_goals (try (with_reducible repeat (first | assumption | apply State.setRx_PoolForm | apply State.asmLineOpen_PoolForm)))
  all_goals (exact id)

theorem State.sendLost_PoolForm (s : State) (n : Line) (hinv : PoolForm s) : PoolForm (s.sendLost n) := by
  simp only [State.sendLost]
  repeat' split
  all_goals (try (with_reducible repeat (first | assumption | apply State.abandonTx_PoolForm | apply State.putBack_PoolForm)))
  all_goals (exact id)

theorem State.spacingEnds_PoolForm (s : State) (n : Line) (pin : LoopPin) (hinv : PoolForm s) : PoolForm (s.spacingEnds n pin) := by
  simp only [State.spacingEnds]
  repeat' split
  all_goals (try (with_reducible repeat (first | assumption | apply State.modCond_PoolForm)))
  all_goals (exact id)

theorem State.condOpens_PoolForm (s : State) (n : Line) (pin : LoopPin) (hinv : PoolForm s) : PoolForm (s.condOpens n pin) := by
  simp only [State.condOpens]
  repeat' split
  all_goals (try (with_reducible repeat (first | assumption | apply State.modCond_PoolForm | apply State.receiveLost_PoolForm | apply State.sendLost_PoolForm | apply State.turnWait_PoolForm)))
  all_goals (exact id)

theorem State.condCloses_PoolForm (s : State) (n : Line) (pin : LoopPin) (hinv : PoolForm s) : PoolForm (s.condCloses n pin) := by
  simp only [State.condCloses]
  repeat' split
  all_goals (try (with_reducible repeat (first | assumption | apply State.modCond_PoolForm | apply State.setRx_PoolForm | apply State.post_PoolForm | apply State.turnReview_PoolForm | apply State.choose_PoolForm)))
  all_goals (exact id)

theorem State.release_PoolForm (s : State) (l : List CopyRef) (hinv : PoolForm s) : PoolForm (State.release s l) := by
  induction l generalizing s with
  | nil => exact hinv
  | cons x xs ih =>
    simp only [State.release]
    repeat' split
    all_goals (try (with_reducible repeat (first | assumption | apply State.modCopy_PoolForm | apply ih)))
    all_goals (exact id)

theorem State.releaseAndDispatch_PoolForm (s : State) (ref : CopyRef) (hinv : PoolForm s) : PoolForm (s.releaseAndDispatch ref) := by
  simp only [State.releaseAndDispatch]
  repeat' split
  all_goals (try (with_reducible repeat (first | assumption | apply State.release_PoolForm | apply State.dispatchAll_PoolForm)))
  all_goals (exact id)

theorem State.releaseAll_PoolForm (s : State) (l : List CopyRef) (hinv : PoolForm s) : PoolForm (State.releaseAll s l) := by
  induction l generalizing s with
  | nil => exact hinv
  | cons x xs ih =>
    simp only [State.releaseAll]
    repeat' split
    all_goals (try (with_reducible repeat (first | assumption | apply State.releaseAndDispatch_PoolForm | apply ih)))
    all_goals (exact id)

theorem State.lineFails_PoolForm (s : State) (n : Line) (pin : LoopPin) (hinv : PoolForm s) : PoolForm (s.lineFails n pin) := by
  simp only [State.lineFails]
  repeat' split
  all_goals (try (with_reducible repeat (first | assumption | apply State.modMotor_PoolForm | apply State.modSched_PoolForm | apply State.post_PoolForm | apply State.releaseAll_PoolForm)))
  all_goals (exact id)

theorem State.condFails_PoolForm (s : State) (n : Line) (pin : LoopPin) (hinv : PoolForm s) : PoolForm (s.condFails n pin) := by
  simp only [State.condFails]
  repeat' split
  all_goals (try (with_reducible repeat (first | assumption | apply State.modCond_PoolForm | apply State.receiveLost_PoolForm | apply State.sendLost_PoolForm | apply State.lineFails_PoolForm | apply State.post_PoolForm)))
  all_goals (exact id)

theorem State.enterRunning_PoolForm (s : State) (cfg : Cfg) (busy : Bool) : PoolForm (s.enterRunning cfg busy) := rfl

theorem State.ownRestart_PoolForm (s : State) (h : PoolForm s) : PoolForm s.ownRestart := by
  unfold State.ownRestart
  apply State.refreshTenure_PoolForm
  apply State.modPort_PoolForm
  exact State.warmRestart_PoolForm s s.boot.slot false h

theorem State.endChar_PoolForm (s : State) (n : Line) (code : Code) (framing : Bool) (hinv : PoolForm s) : PoolForm (s.endChar n code framing) := by
  simp only [State.endChar]
  repeat' split
  all_goals (try (with_reducible repeat (first | assumption | apply State.readPin_PoolForm | apply State.setRxCase_PoolForm | apply State.setRx_PoolForm | apply State.handOverChar_PoolForm)))
  all_goals (exact id)

theorem State.silenceEnds_PoolForm (s : State) (n : Line) (hinv : PoolForm s) : PoolForm (s.silenceEnds n) := by
  simp only [State.silenceEnds]
  repeat' split
  all_goals (try (with_reducible repeat (first | assumption | apply State.closeTruncated_PoolForm)))
  all_goals (exact id)

theorem State.beginFill_PoolForm (s : State) (n : Line) (hinv : PoolForm s) : PoolForm (s.beginFill n) := by
  simp only [State.beginFill]
  repeat' split
  all_goals (try (with_reducible repeat (first | assumption | apply State.modTx_PoolForm | apply State.suspendRx_PoolForm)))
  all_goals (exact id)

theorem State.finishChar_PoolForm (s : State) (n : Line) (c : TxChar) (hinv : PoolForm s) : PoolForm (s.finishChar n c) := by
  simp only [State.finishChar]
  repeat' split
  all_goals (try (with_reducible repeat (first | assumption | apply State.modTx_PoolForm | apply State.resumeRx_PoolForm)))
  all_goals (exact id)

theorem State.shiftTakes_PoolForm (s : State) (n : Line) (hinv : PoolForm s) : PoolForm (s.shiftTakes n) := by
  simp only [State.shiftTakes]
  repeat' split
  all_goals (try (with_reducible repeat (first | assumption | apply State.beginHeld_PoolForm | apply State.beginFill_PoolForm)))
  all_goals (exact id)

theorem State.shiftFollows_PoolForm (s : State) (n : Line) (held : Option TxChar) (hinv : PoolForm s) : PoolForm (s.shiftFollows n held) := by
  simp only [State.shiftFollows]
  repeat' split
  all_goals (try (with_reducible repeat (first | assumption | apply State.shiftTakes_PoolForm)))
  all_goals (exact id)

theorem State.reportFill_PoolForm (s : State) (n : Line) (hinv : PoolForm s) : PoolForm (s.reportFill n) := by
  simp only [State.reportFill]
  repeat' split
  all_goals (try (with_reducible repeat (first | assumption | apply State.countFill_PoolForm)))
  all_goals (exact id)

theorem State.round_PoolForm (s : State) (rivals : List Nat) (hinv : PoolForm s) : PoolForm (s.round rivals) := by
  simp only [State.round]
  repeat' split
  all_goals (try (with_reducible repeat (first | assumption | apply State.drive_PoolForm)))
  all_goals (exact id)

theorem State.undrive_PoolForm (s : State) (hinv : PoolForm s) : PoolForm (s.undrive) := by
  simp only [State.undrive]
  repeat' split
  all_goals (try (with_reducible repeat (first | assumption | apply State.modPort_PoolForm)))
  all_goals (exact id)

theorem State.offerReported_PoolForm (s : State) (k : CtxIx) (hinv : PoolForm s) : PoolForm (s.offerReported k) := by
  simp only [State.offerReported]
  repeat' split
  all_goals (try (with_reducible repeat (first | assumption | apply State.setSend_PoolForm | apply State.setCopyState_PoolForm)))
  all_goals (exact id)

theorem State.claimReported_PoolForm (s : State) (k : CtxIx) (hinv : PoolForm s) : PoolForm (s.claimReported k) := by
  simp only [State.claimReported]
  repeat' split
  all_goals (try (with_reducible repeat (first | assumption | apply State.modRecord_PoolForm | apply State.unpledge_PoolForm | apply State.setTake_PoolForm | apply State.enqueueOrRefuse_PoolForm)))
  all_goals (exact id)

theorem State.textReported_PoolForm (s : State) (k : CtxIx) (d : Driven) (hinv : PoolForm s) : PoolForm (s.textReported k d) := by
  simp only [State.textReported]
  repeat' split
  all_goals (try (with_reducible repeat (first | assumption | apply State.lookNext_PoolForm | apply State.modSend_PoolForm | apply State.modPort_PoolForm)))
  all_goals (exact id)

theorem State.closeReported_PoolForm (s : State) (k : CtxIx) (hinv : PoolForm s) : PoolForm (s.closeReported k) := by
  simp only [State.closeReported]
  repeat' split
  all_goals (try (with_reducible repeat (first | assumption | apply State.setSend_PoolForm | apply State.setCopyState_PoolForm)))
  all_goals (exact id)

theorem State.answerReported_PoolForm (s : State) (k : CtxIx) (hinv : PoolForm s) : PoolForm (s.answerReported k) := by
  simp only [State.answerReported]
  repeat' split
  all_goals (try (with_reducible repeat (first | assumption | apply State.freeTake_PoolForm | apply State.addEnded_PoolForm)))
  all_goals (exact id)

theorem State.dropAnswer_PoolForm (s : State) (tag : Tag) (reason : Reason) (hinv : PoolForm s) : PoolForm (s.dropAnswer tag reason) := by
  simp only [State.dropAnswer]
  repeat' split
  all_goals (try (with_reducible repeat (first | assumption | apply State.modPort_PoolForm)))
  all_goals (exact id)

theorem State.claim_PoolForm (s : State) (k : CtxIx) (t : Take) (hinv : PoolForm s) : PoolForm (s.claim k t) := by
  simp only [State.claim]
  repeat' split
  all_goals (try (with_reducible repeat (first | assumption | apply State.setTake_PoolForm | apply State.setReserved_PoolForm | apply State.pledge_PoolForm | apply State.askTake_PoolForm)))
  all_goals (exact id)

theorem State.claimDecision_PoolForm (s : State) (tag : Tag) (cls : Precedence) (station : StationCode) (length : Option Nat) (cpm attempt : Nat) (hinv : PoolForm s) : PoolForm (s.claimDecision tag cls station length cpm attempt) := by
  simp only [State.claimDecision]
  repeat' split
  all_goals (try (with_reducible repeat (first | assumption | apply State.claim_PoolForm)))
  all_goals (exact id)

theorem State.weighLost_PoolForm (s : State) (tag : Tag) (cls : Precedence) (attempt : Nat) (hinv : PoolForm s) : PoolForm (s.weighLost tag cls attempt) := by
  simp only [State.weighLost]
  repeat' split
  all_goals (try (with_reducible repeat (first | assumption | apply State.dropClaim_PoolForm | apply State.endTakeRecord_PoolForm | apply State.freeTake_PoolForm | apply State.addAnswer_PoolForm | apply State.addEnded_PoolForm)))
  all_goals (exact id)

theorem State.weighOffer_PoolForm (s : State) (tag : Tag) (cls : Precedence) (station : StationCode) (length : Option Nat) (cpm attempt : Nat) (hinv : PoolForm s) : PoolForm (s.weighOffer tag cls station length cpm attempt) := by
  simp only [State.weighOffer]
  repeat' split
  all_goals (try (with_reducible repeat (first | assumption | apply State.tellPlaces_PoolForm | apply State.weighLost_PoolForm | apply State.dropEnded_PoolForm | apply State.claimDecision_PoolForm)))
  all_goals (exact id)

theorem State.takeClaim_PoolForm (s : State) (k : CtxIx) (c : Send) (claimant : Slot) (hinv : PoolForm s) : PoolForm (s.takeClaim k c claimant) := by
  simp only [State.takeClaim]
  repeat' split
  all_goals (try (with_reducible repeat (first | assumption | apply State.setSend_PoolForm | apply State.setCopyState_PoolForm | apply State.lookNext_PoolForm)))
  all_goals (exact id)

theorem State.judgeClaim_PoolForm (s : State) (tag : Tag) (claimant : Slot) (hinv : PoolForm s) : PoolForm (s.judgeClaim tag claimant) := by
  simp only [State.judgeClaim]
  repeat' split
  all_goals (try (with_reducible repeat (first | assumption | apply State.addAnswer_PoolForm | apply State.takeClaim_PoolForm)))
  all_goals (exact id)

theorem State.hearRival_PoolForm (s : State) (tag : Tag) (hinv : PoolForm s) : PoolForm (s.hearRival tag) := by
  simp only [State.hearRival]
  repeat' split
  all_goals (try (with_reducible repeat (first | assumption | apply State.dropClaim_PoolForm)))
  all_goals (exact id)

theorem State.appendBlock_PoolForm (s : State) (r : RecIx) (chars : List Code) (hinv : PoolForm s) : PoolForm (s.appendBlock r chars) := by
  simp only [State.appendBlock]
  repeat' split
  all_goals (try (with_reducible repeat (first | assumption | apply State.writeChars_PoolForm | apply State.modRecord_PoolForm | apply State.textChanged_PoolForm)))
  all_goals (exact id)

theorem State.takeOverrun_PoolForm (s : State) (k : CtxIx) (r : RecIx) (t : Take) (hinv : PoolForm s) : PoolForm (s.takeOverrun k r t) := by
  simp only [State.takeOverrun]
  repeat' split
  all_goals (try (with_reducible repeat (first | assumption | apply State.modRecord_PoolForm | apply State.modTake_PoolForm | apply State.post_PoolForm)))
  all_goals (exact id)

theorem State.storeBlock_PoolForm (s : State) (k : CtxIx) (r : RecIx) (t : Take) (chars : List Code) (h : PoolForm s) :
    PoolForm (s.storeBlock k r t chars) := by
  simp only [State.storeBlock]
  repeat' split
  · exact h
  · rename_i u e; exact State.appendBlock_PoolForm _ _ _ (State.relayedBlock_PoolForm s u k r e h)
  · exact State.takeOverrun_PoolForm _ _ _ _ h

theorem State.takeText_PoolForm (s : State) (k : CtxIx) (t : Take) (sequence : Nat) (chars : List Code) (hinv : PoolForm s) : PoolForm (s.takeText k t sequence chars) := by
  simp only [State.takeText]
  repeat' split
  all_goals (try (with_reducible repeat (first | assumption | apply State.dropClaim_PoolForm | apply State.storeBlock_PoolForm | apply State.modTake_PoolForm | apply State.abandonTake_PoolForm)))
  all_goals (exact id)

theorem State.textEnded_PoolForm (s : State) (tag : Tag) (hinv : PoolForm s) : PoolForm (s.textEnded tag) := by
  simp only [State.textEnded]
  repeat' split
  all_goals (try (with_reducible repeat (first | assumption | apply State.addAnswer_PoolForm)))
  all_goals (exact id)

theorem State.hearText_PoolForm (s : State) (tag : Tag) (sequence : Nat) (chars : List Code) (hinv : PoolForm s) : PoolForm (s.hearText tag sequence chars) := by
  simp only [State.hearText]
  repeat' split
  all_goals (try (with_reducible repeat (first | assumption | apply State.textEnded_PoolForm | apply State.takeText_PoolForm)))
  all_goals (exact id)

theorem State.enqueueAccepted_PoolForm (s : State) (ref : CopyRef) (hinv : PoolForm s) : PoolForm (s.enqueueAccepted ref) := by
  simp only [State.enqueueAccepted]
  repeat' split
  all_goals (try (with_reducible repeat (first | assumption | apply State.enqueueOrRefuse_PoolForm)))
  all_goals (exact id)

theorem State.acceptClose_PoolForm (s : State) (k : CtxIx) (r : RecIx) (overrun truncated : Bool) (mutilated : Nat) (hinv : PoolForm s) : PoolForm (s.acceptClose k r overrun truncated mutilated) := by
  simp only [State.acceptClose]
  repeat' split
  all_goals (try (with_reducible repeat (first | assumption | apply State.answerClose_PoolForm | apply State.modRecord_PoolForm | apply State.textChanged_PoolForm | apply State.releaseReservation_PoolForm | apply State.enqueueAccepted_PoolForm | apply State.askTake_PoolForm | apply State.tryFree_PoolForm)))
  all_goals (exact id)

theorem State.spoilClose_PoolForm (s : State) (k : CtxIx) (t : Take) (hinv : PoolForm s) : PoolForm (s.spoilClose k t) := by
  simp only [State.spoilClose]
  repeat' split
  all_goals (try (with_reducible repeat (first | assumption | apply State.tellPlaces_PoolForm | apply State.answerClose_PoolForm | apply State.askTake_PoolForm | apply State.spoiled_PoolForm | apply State.endTakeRecord_PoolForm)))
  all_goals (exact id)

theorem State.takeClose_PoolForm (s : State) (k : CtxIx) (t : Take) (total check : Nat) (overrun truncated : Bool) (mutilated : Nat) (hinv : PoolForm s) : PoolForm (s.takeClose k t total check overrun truncated mutilated) := by
  simp only [State.takeClose]
  repeat' split
  all_goals (try (with_reducible repeat (first | assumption | apply State.dropClaim_PoolForm | apply State.acceptClose_PoolForm | apply State.spoilClose_PoolForm)))
  all_goals (exact id)

theorem State.takerAbandons_PoolForm (s : State) (k : CtxIx) (ref : CopyRef) (hinv : PoolForm s) : PoolForm (s.takerAbandons k ref) := by
  simp only [State.takerAbandons]
  repeat' split
  all_goals (try (with_reducible repeat (first | assumption | apply State.spoiled_PoolForm)))
  all_goals (exact id)

theorem State.originAbandons_PoolForm (s : State) (tag : Tag) (hinv : PoolForm s) : PoolForm (s.originAbandons tag) := by
  simp only [State.originAbandons]
  repeat' split
  all_goals (try (with_reducible repeat (first | assumption | apply State.dropClaim_PoolForm | apply State.giveUpTake_PoolForm)))
  all_goals (exact id)

theorem State.modSupTx_PoolForm (s : State) (f : Tx → Tx) (hinv : PoolForm s) : PoolForm (s.modSupTx f) := by
  simp only [State.modSupTx]
  repeat' split
  all_goals (try (with_reducible repeat (first | assumption | apply State.modSup_PoolForm)))
  all_goals (exact id)

theorem State.supFollows_PoolForm (s : State) (held : Option TxChar) (hinv : PoolForm s) : PoolForm (s.supFollows held) := by
  simp only [State.supFollows]
  repeat' split
  all_goals (try (with_reducible repeat (first | assumption | apply State.modSupTx_PoolForm | apply State.beginFill_PoolForm)))
  all_goals (exact id)

theorem State.supCountFill_PoolForm (s : State) (hinv : PoolForm s) : PoolForm (s.supCountFill) := by
  simp only [State.supCountFill]
  repeat' split
  all_goals (try (with_reducible repeat (first | assumption | apply State.modCopy_PoolForm)))
  all_goals (exact id)

end Sys2Proof.Machine
end

