-- ==== Sys2Proof/Laws/Rests.lean ====
section
/-! SUPPORT. The operations on inputs, receivers and conditions keep every receiver off a CLOSED condition in WAIT_MARK. -/

set_option linter.unusedTactic false
set_option linter.unreachableTactic false

namespace Sys2Proof.Machine

/-- The invariant as one line shows it. -/
def restsOf (l : Level × Level × Receiver × Cond × Cond) : Prop :=
  (l.2.2.2.1.value ≠ .closed → l.2.2.1.state = .waitMark) ∧
  (l.2.2.2.1.openTimer.isSome = true → l.2.2.2.1.value = .open) ∧
  (l.2.2.2.2.openTimer.isSome = true → l.2.2.2.2.value = .open)

/-- The invariant rests on receivers and conditions alone. -/
theorem ReceiverRests.iff_loops (s : State) : ReceiverRests s ↔ ∀ m, restsOf (s.loops m) := by
  constructor
  · intro h m
    exact ⟨(h m).1, (h m).2 .loopIn, (h m).2 .sense⟩
  · intro h n
    refine ⟨(h n).1, fun pin => ?_⟩
    cases pin
    · exact (h n).2.1
    · exact (h n).2.2

/-- Equal receivers and conditions keep it. -/
theorem ReceiverRests.of_loops {s t : State} (h : ReceiverRests s) (e : ∀ m, t.loops m = s.loops m) : ReceiverRests t := by
  rw [ReceiverRests.iff_loops] at *
  intro m; rw [e]; exact h m

/-- Equal inputs and conditions keep it, with receivers as before or in WAIT_MARK. -/
theorem ReceiverRests.of_loops_or {s t : State} (h : ReceiverRests s)
    (e : ∀ m, t.loops m = s.loops m ∨ t.loops m = atWaitMark (s.loops m)) : ReceiverRests t := by
  rw [ReceiverRests.iff_loops] at *
  intro m
  rcases e m with e | e <;> rw [e]
  · exact h m
  · exact ⟨fun _ => rfl, (h m).2⟩

theorem State.handOverChar_ReceiverRests (s : State) (n : Line) (c : Handed) (framing : Bool)
    (h : ReceiverRests s) : ReceiverRests (s.handOverChar n c framing) :=
  .of_loops_or h (State.handOverChar_loops s n c framing)

/-- A line may change where its own part of the invariant holds after. -/
theorem State.modLine_ReceiverRests (s : State) (n : Line) (f : LineUnit → LineUnit) (h : ReceiverRests s)
  (hf : let l := f (s.line n); (l.condIn.value ≠ .closed → l.rx.state = .waitMark) ∧ ∀ pin, (l.cond pin).openTimer.isSome = true → (l.cond pin).value = .open) :
  ReceiverRests (s.modLine n f) := by
  intro m
  rw [State.modLine_line]
  split
  · rename_i e; subst e; exact hf
  · exact h m

/-- A receiver may leave WAIT_MARK where its condition is CLOSED. -/
theorem State.setRx_ReceiverRests (s : State) (n : Line) (st : RxState) (h : ReceiverRests s)
   (hs : (s.line n).condIn.value = .closed ∨ st = .waitMark) : ReceiverRests (s.setRx n st) := by
  apply State.modLine_ReceiverRests _ _ _ h
  refine ⟨fun hc => ?_, (h n).2⟩
  rcases hs with hs | hs
  · exact absurd hs hc
  · exact hs

theorem State.setRxCase_ReceiverRests (s : State) (n : Line) (c : Case) (h : ReceiverRests s) : ReceiverRests (s.setRxCase n c) :=
  State.modLine_ReceiverRests _ _ _ h (h n)

theorem State.setPin_ReceiverRests (s : State) (n : Line) (p) (l) (h : ReceiverRests s) : ReceiverRests (s.setPin n p l) := by
  cases p <;> exact State.modLine_ReceiverRests _ _ _ h (h n)

/-- A condition may change where its receiver is in WAIT_MARK or it does not leave CLOSED. -/
theorem State.modCond_ReceiverRests (s : State) (n : Line) (p) (f : Cond → Cond) (h : ReceiverRests s)
   (hv : (f (s.cond n p)).value = (s.cond n p).value ∨ (f (s.cond n p)).value = .closed ∨ (p = .loopIn → (s.line n).rx.state = .waitMark))
   (ho : (f (s.cond n p)).openTimer.isSome = true → (f (s.cond n p)).value = .open) : ReceiverRests (s.modCond n p f) := by
  cases p
  · apply State.modLine_ReceiverRests _ _ _ h
    refine ⟨fun hc => ?_, fun pin => ?_⟩
    · rcases hv with hv | hv | hv
      · exact (h n).1 (by rw [← show _ = (s.line n).condIn.value from hv]; exact hc)
      · exact absurd hv hc
      · exact hv rfl
    · cases pin
      · exact ho
      · exact (h n).2 .sense
  · apply State.modLine_ReceiverRests _ _ _ h
    refine ⟨(h n).1, fun pin => ?_⟩
    cases pin
    · exact (h n).2 .loopIn
    · exact ho

/-- A receiver that changes leaves the conditions. -/
theorem State.setRx_cond (s : State) (n m : Line) (st) (p) : ((s.setRx n st).line m).cond p = (s.line m).cond p := by
  rw [State.setRx_line]; split <;> cases p <;> rfl

theorem State.readPin_ReceiverRests (s : State) (n) (p) (l) (h : ReceiverRests s) : ReceiverRests (s.readPin n p l) := by
  unfold State.readPin
  split
  · exact h
  · simp only
    have h1 := State.setPin_ReceiverRests s n p l h
    generalize s.setPin n p l = u at h1
    split
    · refine ReceiverRests.of_loops (s := u.modCond n p fun c => c.read l) ?_ (by simp)
      refine State.modCond_ReceiverRests _ _ _ _ h1 (.inl ?_) ?_
      · cases l <;> rfl
      · have := (h1 n).2 p
        cases l <;> exact this
    · exact h1

theorem State.suspendRx_ReceiverRests (s : State) (n) (h : ReceiverRests s) : ReceiverRests (s.suspendRx n) := by
  unfold State.suspendRx; split
  · exact State.setRx_ReceiverRests _ _ _ h (.inr rfl)
  · exact h

theorem State.resumeRx_ReceiverRests (s : State) (n) (h : ReceiverRests s) : ReceiverRests (s.resumeRx n) := by
  unfold State.resumeRx; split
  · have hc : ((s.setRxCase n (s.line n).tx.lineCase).line n).condIn = (s.line n).condIn := by
      rw [State.setRxCase_line]; simp
    apply State.setRx_ReceiverRests _ _ _ (State.setRxCase_ReceiverRests _ _ _ h)
    rw [hc]
    split
    · rename_i e; exact .inl e
    · exact .inr rfl
  · exact h

theorem State.abandonTx_ReceiverRests (s : State) (n) (h : ReceiverRests s) : ReceiverRests (s.abandonTx n) := by
  unfold State.abandonTx
  have h1 : ReceiverRests (s.modTx n fun t => { t with shift := none, holding := none }) := ReceiverRests.of_loops h (by simp)
  simp only; split
  · exact State.resumeRx_ReceiverRests _ _ h1
  · exact h1

theorem State.sendLost_ReceiverRests (s : State) (n) (h : ReceiverRests s) : ReceiverRests (s.sendLost n) := by
  unfold State.sendLost
  exact ReceiverRests.of_loops (State.abandonTx_ReceiverRests s n h) (by simp)

theorem State.receiveLost_ReceiverRests (s : State) (n) (h : ReceiverRests s) : ReceiverRests (s.receiveLost n) := by
  unfold State.receiveLost
  exact ReceiverRests.of_loops (State.setRx_ReceiverRests s n _ h (.inr rfl)) (by simp)

/-- A condition that leaves CLOSED, with what its receive side hears. -/
theorem ReceiverRests.leave (s : State) (n p) (f : Cond → Cond) (h : ReceiverRests s) (ho : (f (s.cond n p)).openTimer.isSome = true → (f (s.cond n p)).value = .open) :
   ReceiverRests (if receiveSide p then (s.modCond n p f).receiveLost n else s.modCond n p f) := by
  cases p
  · simp only [receiveSide, if_true]
    unfold State.receiveLost
    have e : (s.modCond n .loopIn f).setRx n .waitMark = (s.setRx n .waitMark).modCond n .loopIn f := by
      simp [State.modCond, State.setRx, State.modLine]
    refine ReceiverRests.of_loops (s := (s.modCond n .loopIn f).setRx n .waitMark) ?_ (by simp)
    rw [e]
    have hc : (s.setRx n .waitMark).cond n .loopIn = s.cond n .loopIn := State.setRx_cond s n n _ _
    refine State.modCond_ReceiverRests _ _ _ _ (State.setRx_ReceiverRests _ _ _ h (.inr rfl)) (.inr (.inr ?_)) (by rw [hc]; exact ho)
    intro _; rw [State.setRx_line]; simp
  · exact State.modCond_ReceiverRests s n .sense f h (.inr (.inr (fun e => by cases e))) ho

theorem State.condOpens_ReceiverRests (s : State) (n p) (h : ReceiverRests s) : ReceiverRests (s.condOpens n p) := by
  unfold State.condOpens
  simp only
  have h1 := ReceiverRests.leave s n p (fun c => { c with value := .open, openTimer := some Config.openTime }) h (fun _ => rfl)
  generalize (if receiveSide p = true then (s.modCond n p fun c => { c with value := .open, openTimer := some Config.openTime }).receiveLost n else _) = u at h1 ⊢
  have h2 : ReceiverRests (if sendSide (s.mode n) p = true then u.sendLost n else u) := by
    split
    · exact State.sendLost_ReceiverRests _ _ h1
    · exact h1
  split
  · exact ReceiverRests.of_loops h2 (by simp)
  · exact h2

theorem State.spacingEnds_ReceiverRests (s : State) (n p) (h : ReceiverRests s) : ReceiverRests (s.spacingEnds n p) :=
  State.modCond_ReceiverRests s n p _ h (.inl rfl) ((h n).2 p)

theorem State.condFails_ReceiverRests (s : State) (n p) (h : ReceiverRests s) : ReceiverRests (s.condFails n p) := by
  unfold State.condFails
  simp only
  have h1 := ReceiverRests.leave s n p (fun c => { c with value := .failed, openTimer := none }) h (fun e => by cases e)
  generalize (if receiveSide p = true then (s.modCond n p fun c => { c with value := .failed, openTimer := none }).receiveLost n else _) = u at h1 ⊢
  have hrel : ∀ (l : List CopyRef) (v : State) (m : Line), (State.releaseAll v l).loops m = v.loops m := by
    intro l
    induction l with
    | nil => intro v m; rfl
    | cons x xs ih =>
      intro v m
      simp only [State.releaseAll, ih, State.releaseAndDispatch]
      rw [State.dispatchAll_loops]
      have : ∀ (l : List CopyRef) (v : State), (State.release v l).loops m = v.loops m := by
        intro l
        induction l with
        | nil => intro v; rfl
        | cons y ys ih => intro v; simp [State.release, ih]
      rw [this]
  split
  · refine ReceiverRests.of_loops (State.sendLost_ReceiverRests u n h1) ?_
    intro m
    simp [State.lineFails, hrel]
  · exact ReceiverRests.of_loops h1 (by simp)

theorem State.condCloses_ReceiverRests (s : State) (n p) (h : ReceiverRests s) : ReceiverRests (s.condCloses n p) := by
  unfold State.condCloses
  have h1 : ReceiverRests (s.modCond n p fun c => { c with value := .closed, markingTimer := none, openTimer := none }) :=
    State.modCond_ReceiverRests _ _ _ _ h (.inr (.inl rfl)) (fun e => by cases e)
  generalize s.modCond n p _ = u at h1 ⊢
  have h2 : ReceiverRests (if receiveSide p = true then u.setRx n .waitMark else u) := by
    split
    · exact State.setRx_ReceiverRests _ _ _ h1 (.inr rfl)
    · exact h1
  have h3 : ReceiverRests (if (s.cond n p).value = .failed then
      (if receiveSide p = true then u.setRx n .waitMark else u).post (.lineRestored n (condName (s.mode n) p))
      else (if receiveSide p = true then u.setRx n .waitMark else u)) := by
    split
    · exact ReceiverRests.of_loops h2 (by simp)
    · exact h2
  simp only
  by_cases hs : sendSide (s.mode n) p = true
  · rw [if_pos hs]; exact ReceiverRests.of_loops h3 (by simp)
  · rw [if_neg hs]; exact h3
end Sys2Proof.Machine
end

