-- ==== Sys2Proof/Tests/Slice0.lean ====
section
/-! SUPPORT. Tests of single commands against values the manual gives, the refusals of ill-formed commands, and a witness for the hypotheses of every statement. -/

namespace Sys2Proof.Tests

open Sys2Proof Sys2Proof.Machine

-- One theorem at a time: each holds a thread, and the package as one text has many small ones.
set_option Elab.async false

/-! ### A small card -/

/-- A condition CLOSED with its timers stopped. -/
def closed : Cond := { Cond.atRest with value := .closed }

/-- A line that is up: conditions CLOSED, motor RUNNING, receiver hunting. -/
def up : LineUnit :=
  { LineUnit.held .marking .marking with
    rx := ⟨.huntStart, .letters⟩, condIn := closed, condSense := closed, motor := ⟨.running, none, none⟩ }

/-- The station code ABCD. -/
def abcd : StationCode := [3, 25, 14, 9]

/-- The station code EFGH. -/
def efgh : StationCode := [1, 13, 26, 20]

/-- Line 0 FULL, line 1 HALF, line 2 SEND, line 3 RECV; ABCD stands on line 0. -/
def cfg : Cfg :=
  { Cfg.unset with
    lines := #v[{ LineCfg.unset with mode := .full }, { LineCfg.unset with mode := .half, turnaround := 5 },
                { LineCfg.unset with mode := .send }, LineCfg.unset]
    stations := [⟨abcd, 0, .primary⟩] }

/-- A RUNNING card in slot 1 with its lines up and nothing in store. -/
def card : State :=
  { State.reset with
    boot := { Boot.initial with card := .running, resetLow := false, slot := 1, lamp := true, cfg := cfg }
    lines := #v[up, { up with turn := some ⟨false, none⟩ }, up, up] }

/-- The card that waits for its image. -/
def loading : State := { State.reset with boot := { Boot.initial with resetLow := false } }

/-- An image of 256 equal bytes: it passes, since 256 × v is 0 mod 256. -/
def plainImage : List Byte := List.replicate 256 0

/-- An image that does not pass. -/
def badImage : List Byte := 1 :: List.replicate 255 0

/-- A record with `count` characters in its blocks and one copy. -/
def message (state : RecState) (count : Nat) (chain : List BlockNo) (complete : Bool) (copy : Copy) : Record :=
  { Record.cleared 0 with
    state := state, source := .originated 0, cls := .general, count := count, chain := chain,
    complete := complete, copies := [copy] }

/-- A copy for EFGH in a given state. -/
def copyIn (state : CopyState) : Copy := { Copy.blank with station := efgh, state := state }

/-- Copy 0 of record 0. -/
def ref0 : CopyRef := ⟨0, 0⟩

/-- The card with record 0 as given. -/
def storing (r : Record) : State := card.modRecord 0 fun _ => r

/-- A send context with copy 0 of record 0 and nothing in progress. -/
def sending : Send :=
  { copy := ref0, pending := none, window := none, taken := none, backoff := none, blocksSent := 0,
    charsSent := 0, receiptWait := none }

/-- The tag of copy 0 of record 0 of this card. -/
def ownTag : Tag := ⟨1, 0, 0, 0⟩

/-- The tag of a copy of the card in slot 2. -/
def peerTag : Tag := ⟨2, 5, 3, 0⟩

/-- A take context that is receiving record 0 under the peer's tag. -/
def taking : Take :=
  { phase := .taking, tag := peerTag, cls := .general, station := abcd, length := some 64, cpm := 400,
    attempt := 1, line := 0, record := some 0, pending := none, step := .receiving, nextSeq := 0,
    lastCount := 0, received := 0, check := 0, overrun := false, stall := some 90000 }

/-- The card with send context 0 as given. -/
def sendZero (s : State) (c : Send) : State :=
  { s with port := { s.port with send := s.port.send.set 0 (some c) } }

/-- The card with take context 0 as given. -/
def takeZero (s : State) (c : Take) : State :=
  { s with port := { s.port with take := s.port.take.set 0 (some c) } }

/-- The card driving a frame for a source. -/
def drivingFrame (s : State) (source : FrameSource) (f : Frame) (live : Bool) : State :=
  { s with port := { s.port with tenure := .sending, driven := some ⟨source, f, true, live⟩ } }

/-- A property of every send context in use, from a check of the four. -/
theorem sends_all {s : State} {P : CtxIx → Send → Prop} [∀ k c, Decidable (P k c)]
    (h : ∀ k, (s.sendCtx k).all (fun c => decide (P k c)) = true) : ∀ k c, s.sendCtx k = some c → P k c := by
  intro k c hk
  have := h k
  rw [hk] at this
  exact of_decide_eq_true this

/-- A property of every take context in use, from a check of the four. -/
theorem takes_all {s : State} {P : CtxIx → Take → Prop} [∀ k c, Decidable (P k c)]
    (h : ∀ k, (s.takeCtx k).all (fun c => decide (P k c)) = true) : ∀ k c, s.takeCtx k = some c → P k c := by
  intro k c hk
  have := h k
  rw [hk] at this
  exact of_decide_eq_true this

/-! ### Witnesses: the card as a whole and the start-up unit -/

theorem witness_step_idle : State.reset.pending = [] := rfl

theorem witness_commands : Instr.resetAsserted.wellFormed = true ∧
    (Instr.imageReadComplete [] false).wellFormed = false ∧ startsUp .offerSent = false := by decide

theorem witness_running_card : Instr.holdOffExpiry ≠ .resetAsserted ∧ card.running = true ∧
    card.boot.resetLow = false ∧ exec .holdOffExpiry card = .next card :=
  ⟨by decide, by decide, by decide, rfl⟩

theorem witness_pool_unwritten : storesText .holdOffExpiry = false ∧
    ofHighwayOrSupervisor .holdOffExpiry = true ∧ exec .holdOffExpiry card = .next card :=
  ⟨by decide, by decide, rfl⟩

theorem witness_reset_released : State.reset.boot.resetLow = true := rfl

theorem witness_failed_image : badImage.length = 256 ∧ (badImage.map (·.toNat)).sum % 256 ≠ 0 ∧
    loading.boot.card = .loading ∧ loading.boot.resetLow = false := by decide +kernel

theorem witness_key_unreported : loading.boot.keyArmed = false ∨ loading.running = false := by decide

theorem witness_lamp : { loading with boot := { loading.boot with card := .unconfigured } }.boot.card =
    .unconfigured := rfl

theorem witness_passed_image : plainImage.length = 256 ∧ (plainImage.map (·.toNat)).sum % 256 = 0 ∧
    loading.boot.card = .loading ∧ loading.boot.resetLow = false ∧ keepsCond .full .sense = true ∧
    keepsCond .half .sense = false ∧ (resolveImage plainImage).2 ≠ [] := by decide +kernel

/-- The clauses of ResolvedConfigurationIsInRange about a HALF line, an entry and the intercept line are met
by an image: line 0 HALF, and one entry ABCD. -/
def halfImage : List Byte :=
  [1, 1, 1, 0, 0, 0, 0, 0, 5] ++ List.replicate 27 0 ++
    [13, 29, 12, 23, 5, 9, 3, 14, 14, 14, 14, 0, 1, 6, 0, 1, 0, 4, 1, 3, 25, 14, 9, 0, 1]
    ++ List.replicate 194 0 ++ [33]

theorem witness_resolved : (resolveImage halfImage).1.lines[0].mode = .half ∧
    (resolveImage halfImage).1.stations = [⟨abcd, 0, .primary⟩] ∧
    (resolveImage halfImage).1.intercept = some 0 ∧ (resolveImage halfImage).2 = [] ∧
    halfImage.length = 256 ∧ (halfImage.map (·.toNat)).sum % 256 = 0 := by decide +kernel

/-- A card in a slot whose copy is out on the highway, which holds a list of copies to offer again, and which
is taking another copy that has not started. -/
def busyHighway (slot : Slot) : State :=
  let s := (sendZero (storing (message .stored 65 [7, 8] true (copyIn .awaitReceipt))) { sending with receiptWait := some 500 }).modRecord
    3 fun _ => message .taking 0 [] false (copyIn .unrouted)
  { s with boot := { s.boot with slot := slot }, router := { s.router with restartList := [⟨2, 0⟩] }
           port := { s.port with tenure := .sending, driven := some ⟨.restart, .restart slot, true, true⟩ } }

theorem witness_warm_restart (slot : Slot) (h : slot = 0 ∨ slot = 1) :
    let s := busyHighway slot
    s.running = true ∧ s.boot.keyArmed = true ∧ s.port.awaitIdle = false ∧ HighwayCopiesApart s ∧
    (∀ r, (s.record r).state = .taking → (s.record r).copies.length = 1) ∧
    s.router.restartList = [⟨2, 0⟩] ∧ s.port.driven ≠ none ∧ s.router.deadList = [] ∧
    s.sup.queue.length ≤ 14 ∧ (s.boot.slot.val = 0 ↔ slot = 0) ∧ keptThrough s 3 = false := by
  have lines : ∀ m, ((busyHighway slot).line m).sched.queue ++ ((busyHighway slot).line m).sched.stack = [] ∧
      ((busyHighway slot).line m).sched.current = none := by
    rcases h with rfl | rfl <;> decide +kernel
  have apart : HighwayCopiesApart (busyHighway slot) := fun ref _ =>
    ⟨fun hm => (List.not_mem_nil hm).elim, fun m e he => by
      rw [(lines m).1, (lines m).2] at he; rcases he with he | he <;> cases he⟩
  rcases h with rfl | rfl <;>
    exact ⟨by decide, by decide, by decide, apart, by decide +kernel, by decide, by decide, by decide +kernel,
      by decide +kernel, by decide, by decide +kernel⟩

theorem witness_warm_idle : card.port.driven = none ∧ card.router.restartList = [] ∧
    returnedBy (busyHighway 1) = [ref0] := by decide +kernel

/-! ### Witnesses: receivers and assemblers -/

/-- Line 0 with its receiver in the middle of a character and its assembler as given. -/
def hearing (s : State) (a : Assembler) : State :=
  s.modLine 0 fun l => { l with rx := ⟨.inChar, .letters⟩, asm := a }

/-- An assembler in the middle of a message in record 0. -/
def midMessage (state : AsmState) (step : HeadingStep) : Assembler :=
  { Assembler.initial with state := state, step := step, record := some 0, silence := some 60000 }

theorem witness_receiver :
    (MayReceive (card.modLine 0 fun l => { l with rx := ⟨.waitMark, .letters⟩ }) 0 ∧
      ((card.modLine 0 fun l => { l with rx := ⟨.waitMark, .letters⟩ }).line 0).rx.state = .waitMark) ∧
    (MayReceive card 0 ∧ (card.line 0).rx.state = .huntStart) ∧
    (MayReceive (hearing card Assembler.initial) 0 ∧
      ((hearing card Assembler.initial).line 0).rx.state = .inChar) := by
  unfold MayReceive; decide +kernel

theorem witness_receiver_half : MayReceive card 1 ∧ (card.line 1).rx.state = .huntStart := by
  unfold MayReceive; decide +kernel

theorem witness_character : MidCharacter (hearing card Assembler.initial) 0 := by
  unfold MidCharacter MayReceive; decide +kernel

theorem witness_opening_broken : MidCharacter (hearing card Assembler.initial) 0 ∧
    ((hearing card Assembler.initial).line 0).asm.state = .hunt ∧
    ¬(caseAfter 12 ((hearing card Assembler.initial).line 0).rx.case = .letters ∧
      (12 : Code) = (hearing card Assembler.initial).boot.cfg.codes.opening) := by
  unfold MidCharacter MayReceive; decide +kernel

theorem witness_opening_counted :
    let s := hearing card { Assembler.initial with openingCount := 2 }
    MidCharacter s 0 ∧ (s.line 0).asm.state = .hunt ∧ caseAfter 13 (s.line 0).rx.case = .letters ∧
    (13 : Code) = s.boot.cfg.codes.opening ∧ (s.line 0).asm.openingCount < 3 := by
  unfold MidCharacter MayReceive; decide +kernel

/-- Three opening codes have come on line 0. -/
def openingThird : State := hearing card { Assembler.initial with openingCount := 3 }

theorem witness_opening_run : MidCharacter openingThird 0 ∧ (openingThird.line 0).asm.state = .hunt ∧
    (openingThird.line 0).asm.openingCount = 3 ∧ caseAfter 13 (openingThird.line 0).rx.case = .letters ∧
    (13 : Code) = openingThird.boot.cfg.codes.opening ∧
    (openingThird.mode 0 = .half → (openingThird.line 0).sched.current = none) ∧
    openingThird.store.pledges < openingThird.store.freeRecords ∧
    (openingThird.record 0).state = .free ∧ (∀ q, q < 0 → (openingThird.record q).state ≠ .free) := by
  unfold MidCharacter MayReceive; decide +kernel

/-- Three opening codes have come, and every record is promised or taken. -/
def openingFull : State :=
  openingThird.modStore fun st => { st with records := Vector.replicate 32 { Record.cleared 0 with state := .stored } }

theorem witness_opening_lost : MidCharacter openingFull 0 ∧ (openingFull.line 0).asm.state = .hunt ∧
    (openingFull.line 0).asm.openingCount = 3 ∧ caseAfter 13 (openingFull.line 0).rx.case = .letters ∧
    (13 : Code) = openingFull.boot.cfg.codes.opening ∧
    (openingFull.mode 0 = .half → (openingFull.line 0).sched.current = none) ∧
    openingFull.store.freeRecords ≤ openingFull.store.pledges ∧ DeadCopiesServed openingFull := by
  unfold MidCharacter MayReceive DeadCopiesServed; decide +kernel

/-- Line 1, HALF, with a copy of a text in figures case going out, a character held or not, and the fourth
opening code coming in. -/
def openingHalf (held : Option TxChar) : State :=
  (storing (message .stored 10 [7] true (copyIn .sending))).modLine 1 fun l =>
    { l with rx := ⟨.inChar, .letters⟩, asm := { Assembler.initial with openingCount := 3 }
             tx := { Tx.initial with holding := held, textCase := some .figures }
             sched := { l.sched with current := some ⟨ref0, 0⟩, phase := .text, midText := true } }

theorem witness_opening_half (held : Option TxChar) (h : held = none ∨ held = some ⟨3, .text, 4, false⟩) :
    let s := openingHalf held
    MidCharacter s 1 ∧ s.mode 1 = .half ∧ (s.line 1).asm.state = .hunt ∧ (s.line 1).asm.openingCount = 3 ∧
    caseAfter s.boot.cfg.codes.opening (s.line 1).rx.case = .letters ∧
    (s.line 1).sched.current = some ⟨ref0, 0⟩ ∧ CopyIs s ref0 (copyIn .sending) ∧
    (s.record 0).state ≠ .free ∧ DeadCopiesServed s ∧ (s.line 1).turn = some ⟨false, none⟩ ∧ MayDrive s 1 ∧
    (s.line 1).tx.holding = held ∧ ClassOrdered s (s.line 1).sched.queue := by
  unfold MidCharacter MayReceive CopyIs DeadCopiesServed MayDrive ClassOrdered
  rcases h with rfl | rfl <;> decide +kernel

/-- Line 0 in TEXT with a record of `count` characters and `free` blocks free. -/
def inText (count : Nat) (chain : List BlockNo) (free : List BlockNo) : State :=
  (hearing (storing (message .assembling count chain false (copyIn .queued))) (midMessage .text .afterCR)).modStore
    fun st => { st with freeList := free }

/-- What TextAndPendingCodesAreStored asks of a line in TEXT with no closing code pending. -/
def TextHyps (s : State) : Prop :=
  MidCharacter s 0 ∧ (s.line 0).asm.state = .text ∧ (s.line 0).asm.record = some 0 ∧
  (s.line 0).asm.closingCount = 0 ∧ (s.line 0).asm.overrun = false ∧
  ¬(caseAfter 3 (s.line 0).rx.case = .letters ∧ (3 : Code) = s.boot.cfg.codes.closing) ∧ PoolForm s ∧
  (s.record 0).state ≠ .free

theorem witness_text_in_block : TextHyps (inText 63 [7] []) ∧
    ((inText 63 [7] []).record 0).count % 64 ≠ 0 ∧
    ((inText 63 [7] []).record 0).chain[((inText 63 [7] []).record 0).count / 64]? = some 7 := by
  unfold TextHyps MidCharacter MayReceive PoolForm; decide +kernel

theorem witness_text_new_block :
    let s := inText 64 [7] (List.finRange 192 |>.drop 159)
    TextHyps s ∧ (s.record 0).count % 64 = 0 ∧ (s.record 0).chain.length = (s.record 0).count / 64 ∧
    s.store.freeList = 159 :: (List.finRange 192 |>.drop 160) ∧
    s.store.reservationCount + 1 + floorOf (s.record 0).cls ≤ s.store.freeList.length := by
  unfold TextHyps MidCharacter MayReceive PoolForm; decide +kernel

theorem witness_text_refused :
    let s := inText 64 [7] (List.finRange 192 |>.drop 160)
    TextHyps s ∧ (s.record 0).count % 64 = 0 ∧
    s.store.freeList.length < s.store.reservationCount + 1 + floorOf (s.record 0).cls ∧ DeadCopiesServed s := by
  unfold TextHyps MidCharacter MayReceive PoolForm DeadCopiesServed; decide +kernel

/-- Line 0 in TEXT with closing codes counted. -/
def closingAt (count : Nat) : State :=
  (inText 63 [7] []).modAsm 0 fun a => { a with closingCount := count }

/-- Closing codes held at the end of a block: 60 and 3 fill it to one place, 61 and 3 and 63 and 1 need the next. -/
theorem witness_closing_pending : ∀ p ∈ [(60, 3, 0), (61, 3, 1), (63, 1, 1), (62, 1, 0)],
    let s := (inText p.1 [7] ((List.finRange 192).filter (· ≠ 7))).modAsm 0 fun a => { a with closingCount := p.2.1 }
    MidCharacter s 0 ∧ (s.line 0).asm.state = .text ∧ (s.line 0).asm.record = some 0 ∧
    1 ≤ (s.line 0).asm.closingCount ∧ (s.line 0).asm.closingCount ≤ 3 ∧ (s.line 0).asm.overrun = false ∧
    PoolForm s ∧ StoreAccounts s ∧ (s.record 0).state ≠ .free ∧
    (s.record 0).chain.length = ((s.record 0).count + 63) / 64 ∧
    ((s.record 0).count + (s.line 0).asm.closingCount + 64) / 64 - ((s.record 0).count + 63) / 64 = p.2.2 ∧
    s.store.reservationCount + 1 + floorOf (s.record 0).cls ≤ s.store.freeList.length := by
  unfold MidCharacter MayReceive PoolForm StoreAccounts; decide +kernel

theorem witness_closing : MidCharacter (closingAt 2) 0 ∧ ((closingAt 2).line 0).asm.state = .text ∧
    ((closingAt 2).line 0).asm.record = some 0 ∧
    caseAfter (closingAt 2).boot.cfg.codes.closing ((closingAt 2).line 0).rx.case = .letters ∧
    ((closingAt 2).line 0).asm.closingCount < 3 := by
  unfold MidCharacter MayReceive; decide +kernel

theorem witness_closing_run : MidCharacter (closingAt 3) 0 ∧ ((closingAt 3).line 0).asm.state = .text ∧
    ((closingAt 3).line 0).asm.record = some 0 ∧
    caseAfter (closingAt 3).boot.cfg.codes.closing ((closingAt 3).line 0).rx.case = .letters ∧
    ((closingAt 3).line 0).asm.closingCount = 3 ∧
    ∃ c ∈ ((closingAt 3).record 0).copies, c.state ≠ .settled := by
  unfold MidCharacter MayReceive; decide +kernel

/-- Line 0 in HEADING at a step, with a record that has no copy yet. -/
def inHeading (step : HeadingStep) (a : Assembler → Assembler) : State :=
  hearing (storing { Record.cleared 0 with state := .assembling, source := .originated 0, cls := .general })
    (a (midMessage .heading step))

theorem witness_closing_heading : ∀ step ∈ [HeadingStep.designator, .afterDesignator, .code, .afterCR], ∀ count ∈ [2, 3],
    let s := inHeading step fun a => { a with closingCount := count }
    MidCharacter s 0 ∧ (s.line 0).asm.state = .heading ∧ (s.line 0).asm.step = step ∧ step ≠ .group ∧
    (s.line 0).asm.record = some 0 ∧ caseAfter s.boot.cfg.codes.closing (s.line 0).rx.case = .letters ∧
    (s.line 0).asm.closingCount = count := by
  unfold MidCharacter MayReceive; decide +kernel

theorem witness_closing_discard : ∀ count ∈ [2, 3],
    let s := hearing card { Assembler.initial with state := .discard, closingCount := count }
    MidCharacter s 0 ∧ (s.line 0).asm.state = .discard ∧ (s.line 0).asm.closingCount = count ∧
    caseAfter 29 (s.line 0).rx.case = .letters ∧ (29 : Code) = s.boot.cfg.codes.closing := by
  unfold MidCharacter MayReceive; decide +kernel

theorem witness_silence_text : (inText 63 [7] []).running = true ∧
    ((inText 63 [7] []).line 0).asm.silence ≠ none ∧ ((inText 63 [7] []).line 0).asm.record = some 0 ∧
    ((inText 63 [7] []).line 0).asm.state = .text ∧
    (∃ c ∈ ((inText 63 [7] []).record 0).copies, c.state ≠ .settled) ∧ DeadCopiesServed (inText 63 [7] []) := by
  unfold DeadCopiesServed; decide +kernel

theorem witness_silence_heading (step : HeadingStep) : (inHeading step id).running = true ∧
    DeadCopiesServed (inHeading step id) ∧
    ((inHeading step id).line 0).asm.silence ≠ none ∧ ((inHeading step id).line 0).asm.record = some 0 ∧
    ((inHeading step id).line 0).asm.state = .heading ∧ ((inHeading step id).line 0).asm.step = step := by
  unfold DeadCopiesServed; cases step <;> decide +kernel

theorem witness_line_opens_heading (step : HeadingStep) :
    let s := (inHeading step id).modLine 0 fun l => { l with condIn := { closed with spacingTimer := some 300 } }
    s.running = true ∧ s.mode 0 ≠ .send ∧ (s.line 0).condIn.value = .closed ∧
    (s.line 0).condIn.spacingTimer ≠ none ∧ (s.line 0).asm.state = .heading ∧
    (s.line 0).asm.record = some 0 ∧ (s.line 0).asm.step = step ∧ DeadCopiesServed s := by
  unfold DeadCopiesServed; cases step <;> decide +kernel

theorem witness_line_opens_discard :
    let s := card.modLine 0 fun l =>
      { l with condIn := { closed with spacingTimer := some 300 }, asm := { l.asm with state := .discard } }
    s.running = true ∧ s.mode 0 ≠ .send ∧ (s.line 0).condIn.value = .closed ∧
    (s.line 0).condIn.spacingTimer ≠ none ∧ (s.line 0).asm.state = .discard := by decide +kernel

theorem witness_line_opens :
    let s := (inText 63 [7] []).modLine 0 fun l => { l with condIn := { closed with spacingTimer := some 300 } }
    s.running = true ∧ s.mode 0 ≠ .send ∧ (s.line 0).condIn.value = .closed ∧
    (s.line 0).condIn.spacingTimer ≠ none ∧ (s.line 0).asm.state = .text ∧
    (s.line 0).asm.record = some 0 ∧ (∃ c ∈ (s.record 0).copies, c.state ≠ .settled) ∧ DeadCopiesServed s := by
  unfold DeadCopiesServed; decide +kernel

/-- Five characters of the group of number 100a + 10b + c. -/
def groupOf (a b c : Nat) : List Handed :=
  [⟨27, .figures⟩, ⟨digitCode a, .figures⟩, ⟨digitCode b, .figures⟩, ⟨digitCode c, .figures⟩, ⟨31, .letters⟩]

/-- Line 0 in the group with five characters taken and an expectation. -/
def inGroup (group : List Handed) (expectation : Option Nat) : State :=
  inHeading .group fun a => { a with group := group, expectation := expectation }

theorem witness_group (e : Option Nat) (h : e = none ∨ e = some 999 ∨ e = some 1) :
    MidCharacter (inGroup (groupOf 9 9 9) e) 0 ∧ DeadCopiesServed (inGroup (groupOf 9 9 9) e) ∧
    ((inGroup (groupOf 9 9 9) e).line 0).asm.state = .heading ∧
    ((inGroup (groupOf 9 9 9) e).line 0).asm.step = .group ∧
    ((inGroup (groupOf 9 9 9) e).line 0).asm.record = some 0 ∧
    ((inGroup (groupOf 9 9 9) e).line 0).asm.group =
      [⟨27, .figures⟩, ⟨digitCode 9, .figures⟩, ⟨digitCode 9, .figures⟩, ⟨digitCode 9, .figures⟩,
       ⟨31, .letters⟩] := by
  rcases h with h | h | h <;> subst h <;> unfold MidCharacter MayReceive DeadCopiesServed <;> decide +kernel

theorem witness_group_bad : MidCharacter (inGroup (groupOf 0 0 0) none) 0 ∧
    DeadCopiesServed (inGroup (groupOf 0 0 0) none) ∧
    ((inGroup (groupOf 0 0 0) none).line 0).asm.group = groupOf 0 0 0 ∧
    groupNumber (groupOf 0 0 0 ++ [⟨4, .letters⟩]) = none := by
  unfold MidCharacter MayReceive DeadCopiesServed; decide +kernel

/-- Line 0 before its designator, in record 0 with no text yet and `free` blocks free. -/
def atDesignator (step : HeadingStep) (free : List BlockNo) : State :=
  (hearing (storing { message .assembling 0 [] false (copyIn .unrouted) with copies := [] })
    (midMessage .heading step)).modStore fun st => { st with freeList := free }

/-- What DesignatorGivesTheClass asks, with the designator of ORDER (23), with a blank, and in GROUP with the
group missing; 29 is the closing code (R26, log 30). -/
theorem witness_designator : ∀ p ∈ [(HeadingStep.designator, (23 : Code)), (.designator, 0), (.group, 23), (.group, 29)],
    ∀ free ∈ [(List.finRange 192), []],
    let s := atDesignator p.1 free
    MidCharacter s 0 ∧ (s.line 0).asm.state = .heading ∧ (s.line 0).asm.record = some 0 ∧
    (s.line 0).asm.step = p.1 ∧ (s.line 0).asm.group = [] ∧ (s.line 0).asm.closingCount = 0 ∧
    (p.1 = .designator → p.2 ≠ s.boot.cfg.codes.closing) ∧ p.2 ≠ 27 ∧ (s.line 0).asm.overrun = false ∧
    (s.record 0).state ≠ .free ∧ (s.record 0).count = 0 ∧ (s.record 0).chain = [] ∧ PoolForm s ∧
    DeadCopiesServed s ∧ s.store.freeList = free ∧
    (free ≠ [] → s.store.reservationCount + 1 + floorOf .bulk ≤ s.store.freeList.length) ∧
    (free = [] → s.store.freeList.length < s.store.reservationCount + 1 + floorOf .order) := by
  unfold MidCharacter MayReceive PoolForm DeadCopiesServed; decide +kernel

theorem witness_heading_line :
    let a := { Assembler.initial with step := .afterDesignator, headingChars := 80 - (headingLine [abcd, efgh]).length }
    a.step = .afterDesignator ∧ a.collected = [] ∧ [abcd, efgh].Nodup ∧
    (∀ code ∈ [abcd, efgh], code.length = 4 ∧ ∀ c ∈ code, isCodeValue c = true) ∧
    a.headingChars + (headingLine [abcd, efgh]).length ≤ 80 ∧
    a.readAll (headingLine [abcd, efgh]) = some [abcd, efgh] := by decide +kernel

/-- Line 0 after CR of a heading that has collected two codes. -/
def afterCR : State := inHeading .afterCR fun a => { a with collected := [abcd, efgh] }

theorem witness_heading_done : MidCharacter afterCR 0 ∧ (afterCR.line 0).asm.state = .heading ∧
    (afterCR.line 0).asm.step = .afterCR ∧ (afterCR.line 0).asm.record = some 0 ∧
    (afterCR.line 0).asm.closingCount = 0 ∧ afterCR.boot.cfg.codes.closing ≠ 2 ∧
    (∀ cls ∈ [Precedence.running, .general, .bulk],
      DispatchedAtClose (afterCR.modRecord 0 fun r => { r with cls := cls }) 0) := by
  unfold MidCharacter MayReceive DispatchedAtClose; decide +kernel

/-- The steps of a malformed heading with the character that makes it so: a code out of place, the 80th
character after an allowed one, and the space that ends a repeated code as the 80th character. -/
theorem witness_malformed : ∀ p ∈ [(HeadingStep.afterDesignator, 0, (3 : Code)), (.afterCR, 79, 8), (.code, 79, 4),
      (.code, 78, 2)],
    let s := inHeading p.1 fun a => { a with currentCode := abcd, collected := [abcd], headingChars := p.2.1 }
    MidCharacter s 0 ∧ (s.line 0).asm.state = .heading ∧ (s.line 0).asm.record = some 0 ∧
    (s.line 0).asm.closingCount = 0 ∧ p.2.2 ≠ s.boot.cfg.codes.closing ∧ DispatchedAtClose s 0 ∧
    (s.line 0).asm.step = p.1 ∧ (s.line 0).asm.headingChars = p.2.1 ∧
    ((p.1, p.2.2) = (.code, 4) → (s.line 0).asm.currentCode ∈ (s.line 0).asm.collected) := by
  unfold MidCharacter MayReceive DispatchedAtClose; decide +kernel

/-- Line 0 at the end of a heading of class ORDER: after CR of one with the codes given, or after its
designator; two send contexts are in use. -/
def earlyHeading (step : HeadingStep) (codes : List StationCode) (f : State → State) : State :=
  let s := (inHeading step fun a => { a with collected := codes }).modRecord 0 fun r => { r with cls := .order }
  f { s with port := { s.port with send := #v[some { sending with copy := ⟨5, 0⟩ }, none, some { sending with copy := ⟨6, 0⟩ }, none] } }

/-- The other lines of the card, and line 0's loop to its printer, as they are before the conditions close. -/
def held (s : State) : State := s.modLine 2 fun l => { l with condSense := { closed with value := .open } }

/-- The card whose line 2 serves ABCD and EFGH and is its intercept line. -/
def servedOn2 (s : State) : State :=
  held { s with boot := { s.boot with cfg := { s.boot.cfg with
    stations := [⟨abcd, 2, .primary⟩, ⟨efgh, 2, .primary⟩], intercept := some 2 } } }

theorem witness_early : ∀ p ∈ [(HeadingStep.afterCR, [abcd, efgh], (2 : Code)), (.afterDesignator, [interceptCode], 3)],
    let s := earlyHeading p.1 (if p.1 = .afterCR then p.2.1 else []) servedOn2
    MidCharacter s 0 ∧ (s.line 0).asm.state = .heading ∧ (s.line 0).asm.record = some 0 ∧
    (s.line 0).asm.closingCount = 0 ∧ (s.record 0).cls = .order ∧ (s.line 0).asm.step = p.1 ∧
    (p.1 = .afterCR → p.2.1 = (s.line 0).asm.collected) ∧ s.boot.cfg.codes.closing ≠ 2 ∧
    p.2.2 ≠ s.boot.cfg.codes.closing ∧ (∀ c ∈ p.2.1, (if c = [0, 0, 0, 0] then s.interceptLine else s.localLine c) = some 2) ∧
    s.sendCond 2 = some .open ∧ (s.line 2).sched.current = none ∧
    (∀ q, (s.line q).sched.queue ++ (s.line q).sched.stack = []) ∧ ClassOrdered s (s.line 2).sched.queue := by
  unfold MidCharacter MayReceive ClassOrdered; decide +kernel

theorem witness_early_offered : ∀ p ∈ [(HeadingStep.afterCR, [efgh, [1, 1, 1, 1], [3, 3, 3, 3]]), (.afterDesignator, [interceptCode])],
    let s := earlyHeading p.1 (if p.1 = .afterCR then p.2 else []) id
    MidCharacter s 0 ∧ (s.line 0).asm.state = .heading ∧ (s.record 0).cls = .order ∧ (s.line 0).asm.step = p.1 ∧
    (∀ c ∈ p.2, (if c = [0, 0, 0, 0] then s.interceptLine else s.localLine c) = none) ∧
    s.router.waitList = [] ∧ s.port.holdOff = none ∧
    ((List.finRange 4).filter fun k => (s.sendCtx k).isNone) = [1, 3] := by
  unfold MidCharacter MayReceive; decide +kernel

/-! ### Witnesses: line conditions -/

theorem witness_level_change : ∀ p ∈ [((0 : Line), LoopPin.loopIn), (0, .sense), (1, .loopIn), (2, .sense), (3, .loopIn)],
    (card.line p.1).level p.2 = .marking ∧ (card.line p.1).level p.2 ≠ .spacing ∧ card.running = true ∧
    keepsCond (card.mode p.1) p.2 = true := by
  decide +kernel

/-- The card with a message of one copy SENDING on line `n`, whose record is `r`. -/
def busy (n : Line) (r : Record) (sc : Sched → Sched) : State :=
  (storing r).modSched n fun x => sc { x with current := some ⟨ref0, 0⟩, midText := true, phase := .text }

/-- A whole message with its copy SENDING. -/
def sent : Record := message .stored 10 [7] true (copyIn .sending)

/-- Line 0's send condition is about to go OPEN while a copy goes out. -/
def spacing0 : State :=
  (busy 0 sent id).modLine 0 fun l => { l with condSense := { closed with spacingTimer := some 300 } }

theorem witness_spacing : spacing0.running = true ∧ keepsCond (spacing0.mode 0) .sense = true ∧
    ((spacing0.line 0).cond .sense).spacingTimer ≠ none ∧
    ((spacing0.line 0).cond .sense).value = .closed ∧ BetweenMessages spacing0 0 ∧
    (spacing0.line 0).sched.current = some ⟨ref0, 0⟩ ∧ CopyIs spacing0 ref0 (copyIn .sending) ∧
    (copyIn .sending).state ≠ .settled ∧ ClassOrdered spacing0 (spacing0.line 0).sched.queue := by
  unfold BetweenMessages CopyIs ClassOrdered; decide +kernel

/-- Line 1 of the card, HALF, driving a letters shift of a copy. -/
def driving1 : State :=
  (busy 1 sent id).modTx 1 fun t => { t with shift := some ⟨31, .composed, 0, false⟩ }

theorem witness_break (unit : Fin 6) : driving1.running = true ∧ driving1.mode 1 = .half ∧
    (driving1.line 1).tx.shift = some ⟨31, .composed, 0, false⟩ ∧
    (unit.val = 5 ∨ (31 : Code).getLsbD unit.val = true) ∧
    ((driving1.line 1).cond .loopIn).value = .closed ∧ BetweenMessages driving1 1 := by
  revert unit; unfold BetweenMessages; decide +kernel

/-- Line 0 with its conditions as given. -/
def conds (c : Cond) : State := card.modLine 0 fun l => { l with condIn := c, condSense := c }

theorem witness_marking (v : CondValue) (h : v ≠ .closed) (pin : LoopPin) :
    let s := conds { Cond.atRest with value := v, markingTimer := some 200 }
    s.running = true ∧ keepsCond (s.mode 0) pin = true ∧ ((s.line 0).cond pin).markingTimer ≠ none ∧
    ((s.line 0).cond pin).value ≠ .closed ∧ ((s.line 0).cond pin).value = v ∧ DeadCopiesServed s := by
  unfold DeadCopiesServed; cases v <;> cases pin <;> first | (exact absurd rfl h) | decide +kernel

/-- Line 0's conditions about to fail, a copy waiting on its queue. -/
def failing : State :=
  ((storing (message .stored 10 [7] true { copyIn .queued with line := some 0 })).modLine 0 fun l =>
      { l with condIn := { Cond.atRest with openTimer := some 60000 }
               condSense := { Cond.atRest with openTimer := some 60000 } }).modSched 0
    fun x => { x with queue := [⟨ref0, 0⟩] }

theorem witness_open_timer (pin : LoopPin) : failing.running = true ∧
    keepsCond (failing.mode 0) pin = true ∧ ((failing.line 0).cond pin).openTimer ≠ none ∧
    ((failing.line 0).cond pin).value = .open ∧ BetweenMessages failing 0 ∧
    (sendSide (failing.mode 0) pin = true ↔ pin = .sense) ∧ (failing.line 0).sched.current = none ∧
    DeadCopiesServed failing ∧ (⟨ref0, 0⟩ : QEntry) ∈ (failing.line 0).sched.stack ++ (failing.line 0).sched.queue ∧
    CopyIs failing ref0 { copyIn .queued with line := some 0 } ∧ ∀ m, failing.localLine efgh ≠ some m := by
  unfold BetweenMessages DeadCopiesServed CopyIs; cases pin <;> decide +kernel

theorem witness_released_apart : sendSide (failing.mode 0) .sense = true ∧
    (∀ m : Line, m ≠ 0 → (failing.line m).sched.stack ++ (failing.line m).sched.queue = [] ∧
      (failing.line m).sched.current = none) := by decide +kernel

theorem witness_open_timer_message :
    let s := hearing failing (midMessage .text .afterCR)
    s.running = true ∧ keepsCond (s.mode 0) .loopIn = true ∧ ((s.line 0).cond .loopIn).openTimer ≠ none ∧
    ((s.line 0).cond .loopIn).value = .open ∧ (s.line 0).asm.state = .text ∧
    (s.line 0).asm.record = some 0 ∧ (s.line 0).sched.current = none := by decide +kernel

/-! ### Witnesses: transmitters, motors, schedulers -/

/-- Line 0 with its transmitter as given. -/
def withTx (s : State) (t : Tx) : State := s.modTx 0 fun _ => t

theorem witness_shift_begin (role : Role) (textCase : Option Case) :
    let s := withTx card { Tx.initial with holding := some ⟨3, role, 0, false⟩, textCase := textCase }
    MayDrive s 0 ∧ (s.line 0).tx.shift = none ∧ (s.line 0).tx.holding = some ⟨3, role, 0, false⟩ ∧
    (s.line 0).tx.textCase = textCase ∧ (s.line 0).tx.lineCase = .letters ∧
    (s.line 0).sched.current = none := by
  unfold MayDrive; cases role <;> rcases textCase with _ | k <;> (try cases k) <;> decide +kernel

theorem witness_shift_begin_half :
    let s := card.modTx 1 fun t => { t with holding := some ⟨3, .text, 0, false⟩, textCase := some .figures }
    MayDrive s 1 ∧ (s.line 1).tx.shift = none ∧ (s.line 1).tx.holding = some ⟨3, .text, 0, false⟩ ∧
    s.mode 1 = .half ∧ (s.line 1).tx.textCase = some .figures ∧ (s.line 1).tx.lineCase = .letters := by
  unfold MayDrive; decide +kernel

theorem witness_sent_follows (held : Option TxChar) (h : held = none ∨ held = some ⟨9, .text, 0, false⟩)
    (mid : Bool) :
    let s := (withTx card { Tx.initial with shift := some ⟨3, .composed, 0, false⟩, holding := held
                                            textCase := some .figures }).modSched 0
      fun x => { x with midText := mid }
    MayDrive s 0 ∧ s.running = true ∧ (s.line 0).tx.shift = some ⟨3, .composed, 0, false⟩ ∧
    (s.line 0).sched.mark = false ∧ (s.line 0).tx.holding = held ∧ (s.line 0).sched.midText = mid := by
  unfold MayDrive; rcases h with h | h <;> subst h <;> cases mid <;> decide +kernel

/-- Line 0 about to take a text character, with `i` characters of the copy's text loaded and its record as given. -/
def textHeld (count : Nat) (complete overrun : Bool) (i : Nat) : State :=
  withTx (busy 0 { message .stored count [7] complete (copyIn .sending) with overrun := overrun } fun x =>
    { x with nextIndex := i }) { Tx.initial with holding := some ⟨3, .text, 4, false⟩, textCase := some .letters }

theorem witness_text_requested : ∀ p ∈ [(10, true, false, 9), (10, true, true, 10), (10, true, false, 10), (10, false, false, 10)],
    let s := textHeld p.1 p.2.1 p.2.2.1 p.2.2.2
    MayDrive s 0 ∧ (s.line 0).tx.shift = none ∧ (s.line 0).tx.holding = some ⟨3, .text, 4, false⟩ ∧
    (s.line 0).tx.textCase = some (s.line 0).tx.lineCase ∧ (s.line 0).sched.current = some ⟨ref0, 0⟩ ∧
    (s.line 0).sched.phase = .text ∧ (s.line 0).sched.nextIndex = p.2.2.2 ∧ (s.record 0).count = p.1 ∧
    (s.record 0).complete = p.2.1 := by
  unfold MayDrive; decide +kernel

/-- Line 0 in TEXT with a record of ten characters, all of them loaded on line 2, whose request is outstanding. -/
def outstandingOn2 (a : Assembler → Assembler) : State :=
  ((inText 10 [7] []).modAsm 0 a).modSched 2 fun x =>
    { x with current := some ⟨ref0, 0⟩, phase := .text, midText := true, outstanding := true, nextIndex := 10 }

theorem witness_outstanding (count : Nat) (h : count = 0 ∨ count = 3) :
    let s := outstandingOn2 fun a => { a with closingCount := count }
    (s.line 0).asm.state = .text ∧ (s.line 0).asm.record = some 0 ∧ (s.line 2).sched.current = some ⟨ref0, 0⟩ ∧
    (s.line 2).sched.phase = .text ∧ (s.line 2).sched.outstanding = true ∧ (s.line 2).tx.holding = none ∧
    (s.line 2).sched.nextIndex = (s.record 0).count ∧ MidCharacter s 0 ∧ (s.line 0).asm.closingCount = count ∧
    (s.line 0).asm.overrun = false ∧ (3 : Code) ≠ s.boot.cfg.codes.closing ∧ (s.record 0).count % 64 ≠ 0 ∧
    (s.record 0).chain[(s.record 0).count / 64]? = some 7 ∧ PoolForm s ∧ (s.line 2).sched.queue = [] ∧
    caseAfter s.boot.cfg.codes.closing (s.line 0).rx.case = .letters ∧ s.running = true ∧
    (s.line 0).asm.silence ≠ none := by
  rcases h with h | h <;> subst h <;> unfold MidCharacter MayReceive PoolForm <;> decide +kernel

/-- The last closing code of a copy's tail is in line 0's shift stage. -/
def lastCode : State :=
  withTx (busy 0 sent fun x => { x with phase := .tail, midText := false })
    { Tx.initial with shift := some ⟨29, .composed, 0, true⟩ }

theorem witness_last_code : lastCode.running = true ∧
    (lastCode.line 0).tx.shift = some ⟨29, .composed, 0, true⟩ ∧
    (lastCode.line 0).sched.current = some ⟨ref0, 0⟩ ∧ (lastCode.line 0).sched.phase = .tail ∧
    MaySettle lastCode ref0 := by
  refine ⟨by decide +kernel, by decide +kernel, by decide +kernel, by decide +kernel,
    ⟨copyIn .sending, ?_, by decide⟩, by decide +kernel, by decide +kernel⟩
  unfold CopyIs; decide +kernel

/-- The same with a second copy of the record on another line, and with its text still coming in. -/
def lastCodeKept (complete : Bool) : State :=
  lastCode.modRecord 0 fun r => { r with complete := complete, copies := r.copies ++ [copyIn .queued] }

theorem witness_last_code_kept (complete : Bool) :
    ((lastCodeKept complete).line 0).tx.shift = some ⟨29, .composed, 0, true⟩ ∧
    ((lastCodeKept complete).line 0).sched.current = some ⟨ref0, 0⟩ ∧
    CopyIs (lastCodeKept complete) ref0 (copyIn .sending) ∧
    CopyIs (lastCodeKept complete) ⟨0, 1⟩ (copyIn .queued) ∧ (copyIn .queued).joinedWith ≠ some ref0.ix ∧
    ((lastCodeKept complete).record 0).complete = complete ∧
    ((lastCodeKept complete).record 0).state = .stored ∧ ((lastCodeKept complete).record 0).copies.length ≤ 6 := by
  unfold CopyIs; cases complete <;> decide +kernel

/-- Fill in line 0's shift stage. -/
def filling (held : Option TxChar) : State :=
  withTx (busy 0 sent id) { Tx.initial with shift := some ⟨31, .fill, 0, false⟩, holding := held }

theorem witness_fill (held : Option TxChar) (h : held = none ∨ held = some ⟨9, .composed, 0, false⟩) :
    (filling held).running = true ∧ ((filling held).line 0).tx.shift = some ⟨31, .fill, 0, false⟩ ∧
    ((filling held).line 0).sched.current = some ⟨ref0, 0⟩ ∧ CopyIs (filling held) ref0 (copyIn .sending) ∧
    MayDrive (filling held) 0 ∧ ((filling held).line 0).tx.holding = held ∧
    ((filling held).line 0).sched.midText = true := by
  unfold MayDrive CopyIs; rcases h with h | h <;> subst h <;> decide +kernel

theorem witness_idle_stop :
    let s := card.modMotor 0 fun m => { m with idleStop := some 10000 }
    s.running = true ∧ (s.line 0).motor.idleStop ≠ none := by decide +kernel

/-- Line 1 WAITING with its turnaround timer running, and its queue as given. -/
def turning (s : State) : State :=
  s.modLine 1 fun l => { l with turn := some ⟨true, some 5000⟩ }

theorem witness_turnaround : (turning card).running = true ∧
    ((turning card).line 1).turn = some ⟨true, some 5000⟩ ∧ ((turning card).line 1).sched.queue = [] ∧
    ((turning card).line 1).sched.stack = [] := by decide +kernel

/-- A line with one ready entry and one that is not: the second waits for its lead. -/
def queued (n : Line) : State :=
  (((storing (message .stored 10 [7] true { copyIn .queued with line := some n })).modRecord 1 fun _ =>
      { message .assembling 9 [8] false { copyIn .queued with line := some n } with cls := .order }).modSched n
    fun x => { x with queue := [⟨⟨1, 0⟩, 10⟩, ⟨ref0, 0⟩] })

/-- Line 0's run-up about to end. -/
def runningUp : State :=
  (queued 0).modMotor 0 fun _ => { state := .runningUp, runUp := some 500, idleStop := none }

/-- Line `n`'s send condition about to return from OPEN to CLOSED. -/
def marking (n : Line) (s : State) : State :=
  s.modLine n fun l => { l with condSense := { Cond.atRest with value := .open, markingTimer := some 200 } }

/-- What a line that may start a copy has (LineTimersFreeTheLine). -/
def StartHyps (s : State) (n : Line) : Prop :=
  s.running = true ∧ (s.line n).sched.current = none ∧
  (s.line n).sched.stack = [] ∧ (s.line n).tx.holding = none ∧ (s.line n).tx.shift = none ∧
  (s.line n).sched.queue = [⟨⟨1, 0⟩, 10⟩] ++ ⟨ref0, 0⟩ :: [] ∧
  (∀ y ∈ [(⟨⟨1, 0⟩, 10⟩ : QEntry)], (s.record y.copy.record).complete = false ∧
    (s.record y.copy.record).count < y.lead) ∧
  ((s.record 0).complete = true ∨ 0 ≤ (s.record 0).count) ∧
  CopyIs s ref0 { copyIn .queued with line := some n }

theorem witness_run_up_starts : StartHyps runningUp 0 ∧ FreesLine runningUp 0 (.runUpTimerExpiry 0) := by
  refine ⟨?_, .inl (by decide +kernel)⟩
  unfold StartHyps CopyIs; decide +kernel

theorem witness_turnaround_starts : StartHyps (turning (queued 1)) 1 ∧
    FreesLine (turning (queued 1)) 1 (.turnaroundTimerExpiry 1) := by
  refine ⟨?_, .inr (.inl ⟨⟨⟨true, some 5000⟩, by decide +kernel⟩, ?_⟩)⟩
  · unfold StartHyps CopyIs; decide +kernel
  · unfold BetweenMessages; decide +kernel

theorem witness_marking_starts (n : Line) (h : n = 0 ∨ n = 2) : StartHyps (marking n (queued n)) n ∧
    FreesLine (marking n (queued n)) n (.markingTimerExpiry n .sense) := by
  rcases h with rfl | rfl <;> refine ⟨?_, .inr (.inr (by decide +kernel))⟩ <;>
    (unfold StartHyps CopyIs; decide +kernel)

theorem witness_run_up_empty :
    let s := card.modMotor 0 fun _ => { state := .runningUp, runUp := some 500, idleStop := none }
    s.running = true ∧ (s.line 0).motor.runUp ≠ none ∧ (s.line 0).sched.current = none ∧
    (s.line 0).sched.queue = [] ∧ (s.line 0).sched.stack = [] ∧ (s.line 0).motor.idleStop = none := by
  decide +kernel

/-- Line 0 sending a copy, a ready copy of class `cls` on its queue, its transmitter and scheduler as given. -/
def preempting (cls : Precedence) (tx : Tx) (sc : Sched → Sched) : State :=
  ((busy 0 sent fun x => sc { x with queue := [⟨⟨1, 0⟩, 0⟩] }).modRecord 1 fun _ =>
    { message .stored 10 [8] true { copyIn .queued with line := some 0 } with cls := cls }).modTx 0
      fun _ => tx

theorem witness_preempt : ∀ p ∈ [(Precedence.order, 3), (.running, 2), (.general, 1), (.bulk, 0)],
    let s := preempting p.1 Tx.initial id
    (s.line 0).sched.current = some ⟨ref0, 0⟩ ∧ (s.line 0).sched.phase = .text ∧ s.entryClass ⟨ref0, 0⟩ = 1 ∧
    ⟨⟨1, 0⟩, 0⟩ ∈ (s.line 0).sched.queue ∧ IsReady s ⟨⟨1, 0⟩, 0⟩ ∧ s.entryClass ⟨⟨1, 0⟩, 0⟩ = p.2 := by
  unfold IsReady; decide +kernel

theorem witness_preempt_takes_effect : ∀ p ∈ [((2 : Code), 3, true), (3, 71, false), (3, 72, true)],
    let s := preempting .running
      { Tx.initial with shift := some ⟨p.1, .text, 4, false⟩
                        holding := if p.2.2 then some ⟨3, .text, 5, false⟩ else none }
      fun x => { x with mark := true, sinceLF := p.2.1 }
    MayDrive s 0 ∧ (s.line 0).sched.current = some ⟨ref0, 0⟩ ∧
    (s.line 0).tx.shift = some ⟨p.1, .text, 4, false⟩ ∧ (s.line 0).sched.mark = true ∧
    (s.line 0).sched.phase = .text ∧ (∀ h ∈ (s.line 0).tx.holding, h.role = .text) ∧
    (p.1 = 2 ∨ 71 ≤ (s.line 0).sched.sinceLF ∧ (s.line 0).sched.sinceLF ≤ 72) := by
  unfold MayDrive; decide +kernel

theorem witness_stacked :
    let s := preempting .order { Tx.initial with shift := some ⟨29, .composed, 0, true⟩ }
      fun x => { x with phase := .interrupt, midText := false, lineStart := ⟨3, .figures⟩ }
    MayDrive s 0 ∧ s.withheld 0 = false ∧ (s.line 0).tx.shift = some ⟨29, .composed, 0, true⟩ ∧
    (s.line 0).tx.holding = none ∧ (s.line 0).sched.midText = false ∧
    (s.line 0).sched.current = some ⟨ref0, 0⟩ ∧ (s.line 0).sched.phase = .interrupt ∧
    (s.line 0).sched.queue = [] ++ ⟨⟨1, 0⟩, 0⟩ :: [] ∧ IsReady s ⟨⟨1, 0⟩, 0⟩ ∧
    s.entryClass ⟨ref0, 0⟩ < s.entryClass ⟨⟨1, 0⟩, 0⟩ ∧ CopyIs s ref0 (copyIn .sending) ∧
    CopyIs s ⟨1, 0⟩ { copyIn .queued with line := some 0 } := by
  unfold MayDrive IsReady CopyIs; decide +kernel

/-- A copy of line `n` that was cut in a text case, on the stack, and the line's case. -/
def stackedOn (n : Line) (textCase lineCase : Case) (s : State) : State :=
  ((s.modRecord 5 fun _ => message .stored 10 [9] true
        { copyIn .stacked with line := some n, channel := some 705, resume := some ⟨3, textCase⟩ }).modSched n
      fun x => { x with stack := [⟨⟨5, 0⟩, 0⟩] }).modTx n fun t => { t with lineCase := lineCase }

/-- What PreemptedCopyIsStackedAndResumed asks of the stack and the queue of line `n`. -/
def ResumeHyps (s : State) (n : Line) (textCase lineCase : Case) : Prop :=
  s.running = true ∧ (s.line n).sched.stack = ⟨⟨5, 0⟩, 0⟩ :: [] ∧ (s.line n).tx.holding = none ∧
  (∀ y ∈ (s.line n).sched.queue, IsReady s y → s.entryClass y ≤ s.entryClass ⟨⟨5, 0⟩, 0⟩) ∧
  CopyIs s ⟨5, 0⟩ { copyIn .stacked with line := some n, channel := some 705, resume := some ⟨3, textCase⟩ } ∧
  (s.line n).tx.lineCase = lineCase

theorem witness_resumed : ∀ textCase ∈ [Case.letters, .figures], ∀ lineCase ∈ [Case.letters, .figures],
    ∀ p ∈ [((0 : Line), runningUp), (1, turning (queued 1)), (0, marking 0 (queued 0)), (2, marking 2 (queued 2))],
    let s := stackedOn p.1 textCase lineCase p.2
    ResumeHyps s p.1 textCase lineCase ∧ (s.line p.1).sched.current = none ∧ (s.line p.1).tx.shift = none := by
  unfold ResumeHyps IsReady CopyIs; decide +kernel

theorem witness_resume_frees (textCase lineCase : Case) :
    let on (n : Line) (s : State) := stackedOn n textCase lineCase s
    FreesLine (on 0 runningUp) 0 (.runUpTimerExpiry 0) ∧
    FreesLine (on 1 (turning (queued 1))) 1 (.turnaroundTimerExpiry 1) ∧
    FreesLine (on 0 (marking 0 (queued 0))) 0 (.markingTimerExpiry 0 .sense) ∧
    FreesLine (on 2 (marking 2 (queued 2))) 2 (.markingTimerExpiry 2 .sense) := by
  cases textCase <;> cases lineCase <;>
    (refine ⟨.inl (by decide +kernel), .inr (.inl ⟨⟨⟨true, some 5000⟩, by decide +kernel⟩, ?_⟩),
       .inr (.inr (by decide +kernel)), .inr (.inr (by decide +kernel))⟩
     unfold BetweenMessages; decide +kernel)

theorem witness_resumed_behind : ∀ textCase ∈ [Case.letters, .figures], ∀ lineCase ∈ [Case.letters, .figures],
    let s := stackedOn 0 textCase lineCase lastCode
    ResumeHyps s 0 textCase lineCase ∧ MayDrive s 0 ∧ s.withheld 0 = false ∧
    (s.line 0).tx.shift = some ⟨29, .composed, 0, true⟩ ∧ (s.line 0).sched.midText = false ∧
    (s.line 0).sched.current = some ⟨ref0, 0⟩ ∧ (s.line 0).sched.phase = .tail := by
  unfold ResumeHyps MayDrive IsReady CopyIs; decide +kernel

theorem witness_resumed_behind_settles (textCase lineCase : Case) :
    MaySettle (stackedOn 0 textCase lineCase lastCode) ref0 := by
  cases textCase <;> cases lineCase <;>
    (refine ⟨⟨copyIn .sending, ?_, by decide⟩, by decide +kernel, by decide +kernel⟩
     unfold CopyIs; decide +kernel)

theorem witness_lead : leadOf 1536 375 400 = 96 ∧ leadOf 1536 375 375 = 0 ∧ 400 ≤ 1536 * 375 ∧
    failing.sendCond 0 = some .open ∧ (failing.line 0).sched.current = none := by decide +kernel

theorem witness_class_order : ClassOrdered (queued 0) ((queued 0).line 0).sched.queue := by
  unfold ClassOrdered; decide +kernel

theorem witness_outputs (unit : Fin 7) : loading.running = false ∧ card.running = true ∧
    card.mode 3 = .recv ∧ card.mode 0 ≠ .recv ∧ failing.sendCond 0 ≠ some .closed ∧
    card.sendCond 0 = some .closed ∧ (runningUp.line 0).motor.state ≠ .running ∧
    (card.line 0).motor.state = .running ∧ (card.line 0).tx.shift = none ∧
    (lastCode.line 0).tx.shift = some ⟨29, .composed, 0, true⟩ ∧
    (unit.val = 0 ∨ unit.val = 6 ∨ ∃ k, k < 5 ∧ unit.val = k + 1) := by
  refine ⟨by decide, by decide, by decide, by decide, by decide +kernel, by decide +kernel,
    by decide +kernel, by decide +kernel, by decide +kernel, by decide +kernel, ?_⟩
  revert unit; decide

/-! ### Witnesses: the router -/

/-- The card in hold-off with a restart list. -/
def holding (station : StationCode) (list : List CopyRef) : State :=
  let s := storing (message .stored 65 [7, 8] true { copyIn .unrouted with station := station })
  { s with port := { s.port with holdOff := some 50 }, router := { s.router with restartList := list } }

/-- A whole message with an unrouted copy for a station, and before it a copy bound to a line. -/
def dispatching (station : StationCode) (bound : Option Line) : State :=
  let s := storing { message .stored 10 [7] true (copyIn .unrouted) with
    copies := [{ copyIn .queued with line := bound }, { copyIn .unrouted with station := station }] }
  { s with boot := { s.boot with cfg := { cfg with stations := [⟨abcd, 1, .primary⟩] } } }

theorem witness_joins : (dispatching abcd (some 1)).localLine abcd = some 1 ∧
    CopyIs (dispatching abcd (some 1)) ⟨0, 1⟩ { copyIn .unrouted with station := abcd } ∧
    CopyIs (dispatching abcd (some 1)) ref0 { copyIn .queued with line := some 1 } ∧
    CopyIs (dispatching abcd none) ref0 (copyIn .queued) := by
  unfold CopyIs; decide +kernel

theorem witness_bound_there :
    BoundThere (dispatching abcd (some 1)) 1 ⟨0, 1⟩ 0 ∧ ∀ i, ¬BoundThere (dispatching abcd none) 1 ⟨0, 1⟩ i :=
  ⟨(State.partner_eq_some (by decide +kernel)).1, State.partner_eq_none.mp (by decide +kernel)⟩

theorem witness_offered_on : (dispatching efgh none).localLine efgh = none ∧
    (dispatching interceptCode none).interceptLine = none ∧ (dispatching efgh none).sendCtx 0 = none ∧
    (dispatching efgh none).router.waitList = [] ∧ (dispatching efgh none).port.holdOff = none ∧
    (holding efgh []).port.holdOff ≠ none ∧ ⟨0, 1⟩ ∉ (dispatching efgh none).router.waitList := by decide +kernel

/-- Line 0 at the last closing code of a message for two stations of line 2, which is held. -/
def closingOnto : State :=
  let s := (hearing (storing { message .assembling 10 [7] false (newCopy abcd) with
      copies := [abcd, efgh].map newCopy }) { midMessage .text .afterCR with closingCount := 3 }).modLine 2 fun l =>
    { l with condSense := { Cond.atRest with openTimer := some 60000 }, sched := { l.sched with queue := [⟨⟨1, 0⟩, 3⟩] } }
  { s with boot := { s.boot with cfg := { cfg with stations := [⟨abcd, 2, .primary⟩, ⟨efgh, 2, .alternate⟩] } } }

theorem witness_closing_onto : MidCharacter closingOnto 0 ∧ (closingOnto.line 0).asm.state = .text ∧
    (closingOnto.line 0).asm.record = some 0 ∧ (closingOnto.line 0).asm.closingCount = 3 ∧
    caseAfter closingOnto.boot.cfg.codes.closing (closingOnto.line 0).rx.case = .letters ∧
    DispatchedAtClose closingOnto 0 ∧ (closingOnto.record 0).copies = [abcd, efgh].map newCopy ∧
    (∀ c ∈ [abcd, efgh], c ≠ [0, 0, 0, 0] ∧ closingOnto.localLine c = some 2) ∧
    closingOnto.sendCond 2 = some .open ∧ (closingOnto.line 2).sched.current = none ∧
    (∀ q, ∀ e ∈ (closingOnto.line q).sched.queue ++ (closingOnto.line q).sched.stack, e.copy.record ≠ 0) ∧
    ClassOrdered closingOnto (closingOnto.line 2).sched.queue := by
  unfold MidCharacter MayReceive ClassOrdered DispatchedAtClose; decide +kernel

/-! ### Witnesses: the highway, sending -/

/-- The card with a frame of its copy pending in send context 0. -/
def pendingSend (s : State) (k : SendKind) : State :=
  (sendZero s { sending with pending := some ⟨k, 0⟩ }).modPort fun p => { p with tenure := .contending, stamp := 1 }

/-- A whole message of 65 characters with its copy in a highway state. -/
def offered (state : CopyState) : State := storing (message .stored 65 [7, 8] true { copyIn state with attempt := 1 })

/-- The card's pending OFFER, as arbitration sees it. -/
def offerWaiting : Waiting := ⟨.send 0, .general, 2, 0⟩

theorem witness_greatest : (pendingSend (offered .backoff) .offer).greatest = some offerWaiting := by
  decide +kernel

theorem witness_round : ([32, 511] : List Nat).length ≤ 15 ∧ (∀ k ∈ [32, 511], 32 ≤ k ∧ k ≤ 511) ∧
    (pendingSend (offered .backoff) .offer).running = true ∧
    (pendingSend (offered .backoff) .offer).port.driven = none ∧
    (pendingSend (offered .backoff) .offer).port.tenure = .contending ∧
    offerWaiting.cls.value * 128 + offerWaiting.rank * 16 +
      (15 - (pendingSend (offered .backoff) .offer).boot.slot.val) = 174 ∧
    (∀ k ∈ [32, 174], k ≤ 174) ∧ ∃ k ∈ [32, 175], 174 < k := by decide +kernel

/-- The card with one frame of its own waiting, in its take context, its answer list or its RESTART. -/
def pendingOther (source : FrameSource) (kind : TakeKind) : State :=
  match source with
  | .take _ => takeZero card { taking with pending := some ⟨kind, 0⟩ }
  | .answer tag reason => card.modPort fun p => { p with answers := [⟨tag, reason, .general, 0⟩] }
  | .restart => card.modPort fun p => { p with restartPending := true }
  | .send _ => card

theorem witness_composed_other : ∀ p ∈ [(FrameSource.take 0, TakeKind.claim, 1), (.take 0, .accepted, 4),
      (.take 0, .spoiled, 4), (.take 0, .abandon .stall, 4), (.answer ownTag .late, .claim, 4), (.restart, .claim, 7)],
    let s := pendingOther p.1 p.2.1
    s.running = true ∧ s.port.driven = none ∧ s.port.tenure = .out ∧
    s.greatest.map (·.source) = some p.1 := by decide +kernel

theorem witness_composed (k : SendKind) :
    let s := pendingSend (offered .streaming) k
    s.running = true ∧ s.port.driven = none ∧ s.port.tenure = .contending ∧
    s.greatest = some ⟨.send 0, .general, k.rank, 0⟩ ∧
    s.sendCtx 0 = some { sending with pending := some ⟨k, 0⟩ } := by
  cases k <;> decide +kernel

/-- The card driving a frame of send context 0, its copy in a given state. -/
def drivesSend (state : CopyState) (k : SendKind) (f : Frame) : State :=
  drivingFrame (pendingSend (offered state) k) (.send 0) f true

theorem witness_offer_sent :
    let f := Frame.offer ownTag .general efgh (some 65) 375 1
    Drives (drivesSend .backoff .offer f) ⟨.send 0, f, true, true⟩ ∧ f.isOffer = true ∧
    (drivesSend .backoff .offer f).sendCtx 0 = some { sending with pending := some ⟨.offer, 0⟩ } ∧
    CopyIs (drivesSend .backoff .offer f) ref0 { copyIn .backoff with attempt := 1 } := by
  unfold Drives CopyIs; decide +kernel

/-- A take context whose CLAIM is being driven. -/
def claiming (length : Option Nat) : Take :=
  { taking with phase := .claiming, record := none, length := length, pending := some ⟨.claim, 0⟩, stall := none }

/-- The card driving the CLAIM of take context 0. -/
def drivesClaim (length : Option Nat) : State :=
  drivingFrame
    ((takeZero card (claiming length)).modStore fun st =>
      { st with pledges := 1, reserved := #v[1, 0, 0, 0] })
    (.take 0) (.claim peerTag 1) true

theorem witness_claim_sent (length : Option Nat) (h : length = none ∨ length = some 64) :
    Drives (drivesClaim length) ⟨.take 0, .claim peerTag 1, true, true⟩ ∧
    (Frame.claim peerTag 1).isClaim = true ∧ (drivesClaim length).takeCtx 0 = some (claiming length) ∧
    LowestFree (drivesClaim length) 0 ∧
    ((claiming length).length = none → (drivesClaim length).canSend (claiming length).line = true) := by
  unfold Drives LowestFree; rcases h with h | h <;> subst h <;> decide +kernel

/-- A CLAIM whose line can send no longer, for a station that nothing here serves. -/
def claimOrphan : State :=
  takeZero ((drivesClaim none).modLine 0 fun l => { l with condSense := Cond.atRest })
    { claiming none with station := efgh, line := 3 }

theorem witness_claim_orphan : Drives claimOrphan ⟨.take 0, .claim peerTag 1, true, true⟩ ∧
    claimOrphan.takeCtx 0 = some { claiming none with station := efgh, line := 3 } ∧
    LowestFree claimOrphan 0 ∧ claimOrphan.canSend 3 = false ∧ claimOrphan.localLine efgh = none ∧
    efgh ≠ [0, 0, 0, 0] := by
  unfold Drives LowestFree; decide +kernel

/-- The card driving the TEXT of block `sent` of a record, after `burst` TEXTs of one burst. -/
def drivesText (r : Record) (sent burst : Nat) : State :=
  let s := sendZero (storing r)
    { sending with pending := some ⟨.text, 0⟩, taken := some 2, blocksSent := sent, charsSent := 64 * sent }
  { s with port := { s.port with
      tenure := .sending, burst := burst,
      driven := some ⟨.send 0, .text ownTag sent (List.replicate 64 3), false, true⟩ } }

/-- A streaming message of `count` characters. -/
def streaming (count : Nat) (complete : Bool) : Record :=
  message .stored count ((List.finRange 192).take ((count + 63) / 64)) complete (copyIn .streaming)

theorem witness_text_sent : ∀ p ∈ [(streaming 128 false, 0, 1), (streaming 65 true, 0, 6),
      (streaming 640 true, 7, 7), (streaming 64 true, 0, 1), (streaming 64 false, 0, 1), (streaming 127 false, 0, 1)],
    Drives (drivesText p.1 p.2.1 p.2.2) ⟨.send 0, .text ownTag p.2.1 (List.replicate 64 3), false, true⟩ ∧
    (drivesText p.1 p.2.1 p.2.2).sendCtx 0 = some { sending with
      pending := some ⟨.text, 0⟩, taken := some 2, blocksSent := p.2.1, charsSent := 64 * p.2.1 } ∧
    ((drivesText p.1 p.2.1 p.2.2).copy ref0).state = .streaming := by
  unfold Drives; decide +kernel

theorem witness_close_sent :
    let f := Frame.close ownTag 65 0 false false 0
    Drives (drivesSend .streaming .close f) ⟨.send 0, f, true, true⟩ ∧ f.isClose = true ∧
    (drivesSend .streaming .close f).sendCtx 0 = some { sending with pending := some ⟨.close, 0⟩ } ∧
    CopyIs (drivesSend .streaming .close f) ref0 { copyIn .streaming with attempt := 1 } := by
  unfold Drives CopyIs; decide +kernel

/-- A take context that owes its RECEIPT. -/
def answering : Take := { taking with step := .answering, pending := some ⟨.accepted, 0⟩, stall := none }

theorem witness_taker_answer :
    let s := drivingFrame (takeZero card answering) (.take 0) (.receipt peerTag true) true
    Drives s ⟨.take 0, .receipt peerTag true, true, true⟩ ∧ (Frame.receipt peerTag true).isAnswer = true ∧
    s.takeCtx 0 = some answering ∧ s.port.ended = [] := by
  unfold Drives; decide +kernel

theorem witness_answer_sent :
    let s := drivingFrame { card with port := { card.port with answers := [⟨ownTag, .late, .general, 0⟩] } }
      (.answer ownTag .late) (.abandon ownTag .late) true
    Drives s ⟨.answer ownTag .late, .abandon ownTag .late, true, true⟩ ∧
    (Frame.abandon ownTag .late).isAnswer = true := by
  unfold Drives; decide +kernel

theorem witness_restart_sent :
    let s := drivingFrame { card with port := { card.port with restartPending := true } } .restart (.restart 1) true
    Drives s ⟨.restart, .restart 1, true, true⟩ ∧ (Frame.restart 1).isRestart = true := by
  unfold Drives; decide +kernel

/-- A frame of each kind with its source and the command that reports it driven to its end. -/
def reports : List (Frame × FrameSource × Instr) :=
  [(.offer ownTag .general efgh none 375 1, .send 0, .offerSent), (.claim peerTag 1, .take 0, .claimSent),
   (.text ownTag 0 [3], .send 0, .textSent), (.close ownTag 1 3 false false 0, .send 0, .closeSent),
   (.receipt peerTag true, .take 0, .takerAnswerSent), (.abandon ownTag .late, .answer ownTag .late, .answerSent),
   (.restart 1, .restart, .restartSent)]

theorem witness_dropped_frame : ∀ p ∈ reports,
    Drives (drivingFrame card p.2.1 p.1 false) ⟨p.2.1, p.1, true, false⟩ ∧
    (p.2.2 = .offerSent ∧ p.1.isOffer = true ∨ p.2.2 = .claimSent ∧ p.1.isClaim = true ∨
     p.2.2 = .textSent ∧ p.1.isText = true ∨ p.2.2 = .closeSent ∧ p.1.isClose = true ∨
     p.2.2 = .takerAnswerSent ∧ p.1.isAnswer = true ∧ p.2.1.isTake = true ∨
     p.2.2 = .answerSent ∧ p.1.isAnswer = true ∧ p.2.1.isAnswer = true ∨
     p.2.2 = .restartSent ∧ p.1.isRestart = true) := by
  unfold Drives; decide +kernel

/-! ### Witnesses: the highway, receiving -/

/-- The peer's OFFER of a copy for a station. -/
def offerOf (station : StationCode) (length : Option Nat) (attempt : Nat) : Frame :=
  .offer peerTag .general station length 400 attempt

theorem witness_frame : (offerOf abcd (some 64) 1).inRange = true ∧
    parseFrame (offerOf abcd (some 64) 1).encode = some (offerOf abcd (some 64) 1) := by decide +kernel

theorem witness_ignored : TakesFrames card ∧ loading.running = false ∧
    parseFrame [1, 2, 3] = none ∧ (Instr.offerReceived [1, 2, 3]).wellFormed = true ∧
    (∀ f ∈ [Frame.offer ownTag .general efgh none 375 1, .text ownTag 0 [3], .close ownTag 1 3 false false 0,
        .abandon ownTag .late],
      parseFrame f.encode = some f) ∧ ownTag.slot = card.boot.slot ∧ Reason.late.byOrigin = true := by
  unfold TakesFrames; decide +kernel

/-- What OfferIsClaimedOrDeclined asks of every OFFER. -/
theorem witness_offer_heard (length : Option Nat) (h : length ∈ [none, some 1, some 64, some 12288]) :
    TakesFrames card ∧ peerTag.slot ≠ card.boot.slot ∧
    parseFrame (offerOf abcd length 1).encode = some (offerOf abcd length 1) ∧
    ∀ k c, card.takeCtx k = some c → c.tag ≠ peerTag := by
  refine ⟨by unfold TakesFrames; decide +kernel, by decide, ?_, takes_all (by decide +kernel)⟩
  simp only [List.mem_cons, List.not_mem_nil, or_false] at h
  rcases h with rfl | rfl | rfl | rfl <;> decide +kernel

theorem witness_offer_claimed : card.claimLine abcd 1 = some 0 ∧ card.takeCtx 0 = none ∧
    (∀ j, j < 0 → card.takeCtx j ≠ none) ∧ card.store.pledges < card.store.freeRecords ∧
    card.store.reservationCount + (64 + 63) / 64 + floorOf .general ≤ card.store.freeList.length := by
  decide +kernel

theorem witness_offer_declined : card.claimLine efgh 1 = none ∧
    (∀ k, { card with port := { card.port with take := Vector.replicate 4 (some taking) } }.takeCtx k ≠ none) ∧
    openingFull.store.freeRecords ≤ openingFull.store.pledges ∧
    ¬(card.store.reservationCount + (12288 + 63) / 64 + floorOf .general ≤ card.store.freeList.length) := by
  decide +kernel

theorem witness_claim_line : card.localLine abcd = some 0 ∧ card.localLine efgh = none ∧
    { card with boot := { card.boot with cfg := { cfg with intercept := some 1 } } }.claimLine efgh 4 = some 1 ∧
    { card with boot := { card.boot with cfg := { cfg with intercept := some 1 } } }.claimLine efgh 3 = none := by
  decide +kernel

/-- The card with its copy OFFERED, send context 0 as given. -/
def awaiting (state : CopyState) (c : Send) : State := sendZero (offered state) c

theorem witness_claim_heard (c : Send) (h : c ∈ [sending, { sending with window := some 20 },
      { sending with window := some 20, taken := some 2 }, { sending with window := some 20, taken := some 3 }]) :
    TakesFrames (awaiting .offered c) ∧ ownTag.slot = (awaiting .offered c).boot.slot ∧
    parseFrame (Frame.claim ownTag 2).encode = some (.claim ownTag 2) ∧
    ((awaiting .offered c).record 0).state ≠ .free ∧ ((awaiting .offered c).record 0).gen = ownTag.gen ∧
    ownTag.ix.val < ((awaiting .offered c).record 0).copies.length ∧
    SendHolds (awaiting .offered c) 0 ref0 c ∧ c.pending = none ∧
    CopyIs (awaiting .offered c) ref0 { copyIn .offered with attempt := 1 } := by
  simp only [List.mem_cons, List.not_mem_nil, or_false] at h
  unfold TakesFrames SendHolds CopyIs
  rcases h with rfl | rfl | rfl | rfl <;>
    exact ⟨by decide +kernel, by decide +kernel, by decide +kernel, by decide +kernel, by decide +kernel,
      by decide +kernel, ⟨by decide +kernel, by decide +kernel, sends_all (P := fun j c' => c'.copy = ref0 → j = 0)
        (by decide +kernel)⟩, by decide +kernel, by decide +kernel⟩

theorem witness_claim_late : ¬((card.record 0).state ≠ .free) ∧
    ((offered .offered).record 0).state ≠ .free ∧ ((offered .offered).record 0).gen = ownTag.gen ∧
    (∀ k c, (offered .offered).sendCtx k = some c → c.copy ≠ ownTag.copyRef) :=
  ⟨by decide +kernel, by decide +kernel, by decide +kernel, sends_all (by decide +kernel)⟩

/-- The card with a take context and its record as given. -/
def withTake (c : Take) (r : Record) : State := takeZero (storing r) c

/-- A record that a transfer fills. -/
def incoming (count : Nat) (chain : List BlockNo) (copy : Copy) : Record :=
  { message .taking count chain false copy with source := .relayed peerTag 400 }

theorem take_holds (c : Take) (r : Record) (h : c.tag = peerTag) : TakeHolds (withTake c r) 0 peerTag c := by
  refine ⟨rfl, h, takes_all (P := fun j c' => c'.tag = peerTag → j = 0) ?_⟩
  intro k
  match k with
  | 0 => exact decide_eq_true fun _ => rfl
  | 1 => exact rfl
  | 2 => exact rfl
  | 3 => exact rfl

theorem witness_claim_dropped :
    TakesFrames (withTake (claiming none) (Record.cleared 0)) ∧
    TakeHolds (withTake (claiming none) (Record.cleared 0)) 0 peerTag (claiming none) ∧
    (claiming none).phase = .claiming ∧
    (∀ f ∈ [Frame.claim peerTag 3, .abandon peerTag .late, .text peerTag 0 [3],
        .close peerTag 1 3 false false 0], parseFrame f.encode = some f) ∧
    (∀ d, (withTake (claiming none) (Record.cleared 0)).port.driven = some d → d.source ≠ .take 0) :=
  ⟨by unfold TakesFrames; decide +kernel, take_holds _ _ rfl, rfl, by decide +kernel, by intro d h; cases h⟩

/-- A transfer with one block stored of record 0. -/
def mid : Take := { taking with nextSeq := 1, lastCount := 64, received := 64 }

set_option maxRecDepth 20000 in
theorem witness_text_heard (c : Take) (h : c = taking ∨ c = mid ∨ c = { mid with overrun := true })
    (n : Nat) (hn : n = 1 ∨ n = 64) :
    let s := withTake c (incoming (64 * c.nextSeq) (if c.nextSeq = 0 then [] else [7]) (copyIn .queued))
    TakesFrames s ∧ Receives s 0 peerTag c 0 ∧
    parseFrame (Frame.text peerTag c.nextSeq (List.replicate n 3)).encode =
      some (.text peerTag c.nextSeq (List.replicate n 3)) ∧
    (c.lastCount = 0 ∨ c.lastCount = 64) ∧ PoolForm s ∧
    (s.record 0).count = 64 * (s.record 0).chain.length := by
  rcases h with rfl | rfl | rfl <;> rcases hn with rfl | rfl <;>
    exact ⟨by unfold TakesFrames; decide +kernel,
      ⟨take_holds _ _ rfl, rfl, rfl, rfl, by decide +kernel⟩, by decide +kernel, by decide, by
        unfold PoolForm; decide +kernel, by decide +kernel⟩

theorem witness_text_blocks :
    let s := withTake taking (incoming 0 [] (copyIn .queued))
    s.store.freeList = 0 :: (List.finRange 192).drop 1 ∧
    s.store.reservationCount + 1 + floorOf (s.record 0).cls ≤ s.store.freeList.length ∧
    s.store.reserved[(0 : CtxIx)] = 0 ∧
    ¬((s.modStore fun st => { st with freeList := List.replicate 32 0 }).store.reservationCount + 1 +
        floorOf ((s.modStore fun st => { st with freeList := List.replicate 32 0 }).record 0).cls ≤
      (s.modStore fun st => { st with freeList := List.replicate 32 0 }).store.freeList.length) ∧
    DeadCopiesServed s := by
  unfold DeadCopiesServed; decide +kernel

theorem witness_transfer_ends (x : Copy) (h : x = copyIn .queued ∨ x = { copyIn .sending with channel := some 7 }) :
    let s := withTake mid (incoming 64 [7] x)
    TakesFrames s ∧ Receives s 0 peerTag mid 0 ∧ mid.stall ≠ none ∧
    (∀ f ∈ [Frame.text peerTag 0 [3], .text peerTag 1 [3], .close peerTag 65 0 false false 0,
      .close peerTag 64 0 false false 0, .abandon peerTag .late], parseFrame f.encode = some f) := by
  rcases h with rfl | rfl <;>
    exact ⟨by unfold TakesFrames; decide +kernel, ⟨take_holds _ _ rfl, rfl, rfl, rfl, by decide +kernel⟩,
      by decide, by decide +kernel⟩

theorem witness_text_unheld :
    let s := { card with port := { card.port with ended := [⟨peerTag, .order⟩] } }
    TakesFrames s ∧ (∀ k c, s.takeCtx k = some c → c.tag ≠ peerTag) ∧
    s.port.ended = [] ++ ⟨peerTag, .order⟩ :: [] ∧ (∀ e ∈ card.port.ended, e.tag ≠ peerTag) :=
  ⟨by unfold TakesFrames; decide +kernel, takes_all (by decide +kernel), rfl, by decide⟩

theorem witness_text_answering : TakeHolds (withTake answering (incoming 64 [7] (copyIn .queued))) 0 peerTag answering ∧
    answering.phase = .taking ∧ answering.step = .answering := ⟨take_holds _ _ rfl, rfl, rfl⟩

theorem witness_close_matches (x : Copy) (h : x = copyIn .queued ∨ x = { copyIn .unrouted with line := some 0 }) :
    let s := withTake mid (incoming 64 [7] x)
    TakesFrames s ∧ Receives s 0 peerTag mid 0 ∧
    parseFrame (Frame.close peerTag mid.received mid.check true false 5).encode =
      some (.close peerTag mid.received mid.check true false 5) ∧
    CopyIs s ⟨0, 0⟩ x ∧ x.state ≠ .settled ∧
    (x.state = .unrouted → ∀ n, x.line = some n → s.canSend n = true) ∧
    (x.state = .unrouted → ∀ m, ∀ e ∈ (s.line m).sched.queue ++ (s.line m).sched.stack, e.copy ≠ ⟨0, 0⟩) := by
  rcases h with rfl | rfl <;>
    exact ⟨by unfold TakesFrames; decide +kernel, ⟨take_holds _ _ rfl, rfl, rfl, rfl, by decide +kernel⟩,
      by decide +kernel, by unfold CopyIs; decide +kernel, by decide, by decide +kernel, by decide +kernel⟩

theorem witness_reoffer (c : Take) (h : c = mid ∨ c = claiming none ∨ c = answering) (attempt : Nat)
    (ha : attempt = 1 ∨ attempt = 2) :
    let s := withTake c (incoming 64 [7] (copyIn .queued))
    TakesFrames s ∧ TakeHolds s 0 peerTag c ∧ c.attempt = 1 ∧ s.claimLine efgh attempt = none ∧
    parseFrame (offerOf efgh (some 64) attempt).encode = some (offerOf efgh (some 64) attempt) ∧
    (∀ a ∈ s.port.answers, ¬(a.tag = peerTag ∧ a.reason = .claimLost)) ∧ s.port.answers.length < 8 := by
  rcases h with rfl | rfl | rfl <;> rcases ha with rfl | rfl <;>
    exact ⟨by unfold TakesFrames; decide +kernel, take_holds _ _ rfl, rfl, by decide +kernel, by decide +kernel,
      by decide +kernel, by decide +kernel⟩

theorem send_holds (state : CopyState) (c : Send) (h : c.copy = ref0) : SendHolds (awaiting state c) 0 ref0 c := by
  refine ⟨rfl, h, sends_all (P := fun j c' => c'.copy = ref0 → j = 0) ?_⟩
  intro k
  match k with
  | 0 => exact decide_eq_true fun _ => rfl
  | 1 => exact rfl
  | 2 => exact rfl
  | 3 => exact rfl

theorem witness_receipt :
    let s := awaiting .awaitReceipt { sending with receiptWait := some 500 }
    TakesFrames s ∧ s.tagLive ownTag = true ∧ SendHolds s 0 ref0 { sending with receiptWait := some 500 } ∧
    parseFrame (Frame.receipt ownTag true).encode = some (.receipt ownTag true) ∧
    (s.copy ref0).state = .awaitReceipt ∧ MaySettle s ref0 ∧ s.router.waitList = [] ∧
    ((awaiting .streaming sending).copy ref0).state ≠ .awaitReceipt ∧
    parseFrame (Frame.abandon ownTag .claimLost).encode = some (.abandon ownTag .claimLost) := by
  refine ⟨by unfold TakesFrames; decide +kernel, by decide +kernel, send_holds _ _ rfl, by decide +kernel,
    by decide +kernel, ⟨⟨{ copyIn .awaitReceipt with attempt := 1 }, ?_, by decide⟩, by decide +kernel,
      by decide +kernel⟩, by decide +kernel, by decide +kernel, by decide +kernel⟩
  unfold CopyIs; decide +kernel

theorem witness_claim_lost (c : Send) (h : c ∈ [{ sending with window := some 7 }, sending,
      { sending with window := some 7, taken := some 2 }]) :
    let s := awaiting .offered c
    TakesFrames s ∧ s.tagLive ownTag = true ∧ SendHolds s 0 ref0 c ∧
    (c.window ≠ none ∧ c.taken = none ∨ c.window = none ∨ c.taken ≠ none) := by
  simp only [List.mem_cons, List.not_mem_nil, or_false] at h
  unfold TakesFrames
  rcases h with rfl | rfl | rfl <;>
    exact ⟨by decide +kernel, by decide +kernel, send_holds _ _ rfl, by decide⟩

/-- The card with its copy about to be spoiled: its state, attempt and spoil count as given. -/
def spoiling (state : CopyState) (attempt spoil : Nat) : State :=
  sendZero (storing (message .stored 65 [7, 8] true { copyIn state with attempt := attempt, spoil := spoil }))
    { sending with receiptWait := some 500 }

theorem witness_spoil (attempt spoil : Nat) (h : (attempt, spoil) ∈ [(1, 0), (14, 0), (1, 1), (15, 0), (1, 2)]) :
    let s := spoiling .awaitReceipt attempt spoil
    TakesFrames s ∧ s.tagLive ownTag = true ∧ SendHolds s 0 ref0 { sending with receiptWait := some 500 } ∧
    CopyIs s ref0 { copyIn .awaitReceipt with attempt := attempt, spoil := spoil } ∧
    s.router.waitList = [] ∧ s.localLine efgh = none ∧ s.interceptLine = none ∧
    (∀ f ∈ [Frame.receipt ownTag false, .abandon ownTag .order, .abandon ownTag .stall,
      .abandon ownTag .noTransfer], parseFrame f.encode = some f) := by
  simp only [List.mem_cons, List.not_mem_nil, or_false, Prod.mk.injEq] at h
  unfold TakesFrames SendHolds CopyIs
  rcases h with ⟨rfl, rfl⟩ | ⟨rfl, rfl⟩ | ⟨rfl, rfl⟩ | ⟨rfl, rfl⟩ | ⟨rfl, rfl⟩ <;>
    exact ⟨by decide +kernel, by decide +kernel, ⟨by decide +kernel, by decide +kernel,
      sends_all (P := fun j c' => c'.copy = ref0 → j = 0) (by decide +kernel)⟩, by decide +kernel,
      by decide +kernel, by decide +kernel, by decide +kernel, by decide +kernel⟩

/-! ### Witnesses: the highway's timers and the supervisor unit -/

theorem witness_continuation :
    let s := { card with port := { card.port with tenure := .window 0, burst := 3 } }
    s.running = true ∧ s.port.tenure = .window 0 := by decide

/-- The card with its copy at an attempt, send context 0 as given. -/
def atAttempt (state : CopyState) (station : StationCode) (attempt : Nat) (c : Send) : State :=
  sendZero (storing (message .stored 65 [7, 8] true { copyIn state with station := station, attempt := attempt })) c

theorem witness_claim_window (attempt : Nat) (h : attempt ∈ [1, 6, 14, 15]) (taken : Option Slot)
    (ht : taken = none ∨ taken = some 2) :
    let c : Send := { sending with window := some 20, taken := taken }
    let s := atAttempt .offered efgh attempt c
    s.running = true ∧ s.sendCtx 0 = some c ∧ c.window ≠ none ∧
    CopyIs s c.copy { copyIn .offered with attempt := attempt } ∧ s.router.waitList = [] := by
  simp only [List.mem_cons, List.not_mem_nil, or_false] at h
  unfold CopyIs
  rcases h with rfl | rfl | rfl | rfl <;> rcases ht with rfl | rfl <;> decide +kernel

theorem witness_backoff (station : StationCode) (h : station = abcd ∨ station = efgh) :
    let c : Send := { sending with backoff := some 250 }
    let s := atAttempt .backoff station 1 c
    s.running = true ∧ s.sendCtx 0 = some c ∧ c.backoff ≠ none ∧
    CopyIs s c.copy { copyIn .backoff with station := station, attempt := 1 } ∧
    s.localLine efgh = none ∧ s.interceptLine = none ∧ s.localLine abcd = some 0 ∧
    s.router.waitList = [] ∧ ∀ i, ¬BoundThere s 0 c.copy i := by
  simp only [← State.partner_eq_none]
  unfold CopyIs; rcases h with rfl | rfl <;> decide +kernel

/-- A copy of record 0 at the end of its backoff wait, a copy of a higher number on line 0's queue. -/
def joiningHigher : State :=
  ((atAttempt .backoff abcd 1 { sending with backoff := some 250 }).modRecord 0 fun r =>
      { r with copies := r.copies ++ [{ copyIn .queued with line := some 0 }] }).modSched 0
    fun x => { x with queue := [⟨⟨0, 1⟩, 0⟩] }

theorem witness_joins_higher : joiningHigher.running = true ∧
    joiningHigher.sendCtx 0 = some { sending with backoff := some 250 } ∧
    CopyIs joiningHigher ref0 { copyIn .backoff with station := abcd, attempt := 1 } ∧
    joiningHigher.localLine abcd = some 0 ∧ joiningHigher.router.waitList = [] ∧
    BoundThere joiningHigher 0 ref0 1 ∧ ∀ j, j < 1 → ¬BoundThere joiningHigher 0 ref0 j := by
  refine ⟨by decide +kernel, by decide +kernel, by unfold CopyIs; decide +kernel, by decide +kernel,
    by decide +kernel, State.partner_eq_some (by decide +kernel)⟩

theorem witness_hold_off (station : StationCode) (h : station = efgh ∨ station = interceptCode)
    (list : List CopyRef) (hl : list = [] ∨ list = [ref0]) :
    let s := holding station list
    s.running = true ∧ s.port.holdOff ≠ none ∧ s.router.waitList = [] ∧ s.router.restartList = list ∧
    CopyIs s ref0 { copyIn .unrouted with station := station } ∧ s.localLine station = none ∧
    s.interceptLine = none ∧ s.sendCtx 0 = none ∧ (∀ j, j < 0 → s.sendCtx j ≠ none) := by
  unfold CopyIs; rcases h with rfl | rfl <;> rcases hl with rfl | rfl <;> decide +kernel

/-- The card in hold-off with five copies of one record to offer, or with one that line 0 serves. -/
def holdingMany (stations : List StationCode) : State :=
  let refs : List CopyRef := (List.range stations.length).map fun i => ⟨0, Fin.ofNat 6 i⟩
  (holding abcd refs).modRecord 0 fun r => { r with copies := stations.map fun c => { copyIn .unrouted with station := c } }

theorem witness_hold_off_many : ∀ stations ∈ [[efgh, efgh, interceptCode, efgh, efgh], [abcd]],
    let s := holdingMany stations
    s.running = true ∧ s.port.holdOff ≠ none ∧ s.router.waitList = [] ∧ s.router.restartList.Nodup ∧
    s.router.restartList.length = stations.length ∧ s.localLine efgh = none ∧ s.interceptLine = none ∧
    ((List.finRange 4).filter fun k => (s.sendCtx k).isNone).length = 4 ∧ s.localLine abcd = some 0 ∧
    ((s.record 0).copies.all fun c => c.state = .unrouted ∧ c.joinedWith = none) = true ∧
    (stations = [abcd] → s.router.restartList = [ref0] ∧ ∀ i, ¬BoundThere s 0 ref0 i) := by
  simp only [← State.partner_eq_none]; decide +kernel

/-- A restart list of five copies out of their order, a sixth waiting behind it: lines 0 and 2 serve all but
ABCX, and a copy of the list's record is bound to line 0 before. -/
def holdingMixed : State :=
  let abcx : StationCode := [3, 25, 14, 7]
  let s := (holding abcd [⟨0, 2⟩, ⟨0, 5⟩, ⟨0, 1⟩, ⟨0, 4⟩, ⟨0, 3⟩]).modRecord 0 fun r => { r with
    copies := { copyIn .queued with line := some 0 } ::
      [abcd, abcx, efgh, efgh, abcx].map fun c => { copyIn .unrouted with station := c } }
  let s := s.modRecord 1 fun _ => message .stored 10 [8] true { copyIn .backoff with station := abcx }
  { s with boot := { s.boot with cfg := { cfg with stations := [⟨abcd, 0, .primary⟩, ⟨efgh, 2, .primary⟩] } }
           router := { s.router with waitList := [⟨1, 0⟩] } }

theorem witness_hold_off_mixed : let s := holdingMixed
    let refs := s.router.restartList
    s.running = true ∧ s.port.holdOff ≠ none ∧ s.localLine [0, 0, 0, 0] = none ∧
    (refs ++ s.router.waitList).Nodup ∧ s.localLine abcd = some 0 ∧ s.localLine efgh = some 2 ∧
    (refs.map fun ref => s.localLine (s.copy ref).station) = [none, none, some 0, some 2, some 2] ∧
    (∀ ref ∈ s.router.waitList, s.localLine (s.copy ref).station = none) ∧
    ((refs ++ s.router.waitList).all fun ref => ref.ix.val < (s.record ref.record).copies.length &&
      decide ((s.copy ref).state ≠ .settled ∧ (s.copy ref).joinedWith = none ∧ (s.copy ref).line = none)) = true ∧
    (∀ m : Line, (s.line m).sched.queue ++ (s.line m).sched.stack = [] ∧ (s.line m).sched.current = none) ∧
    CopyIs s ref0 { copyIn .queued with line := some 0 } := by
  unfold CopyIs; decide +kernel

/-- A supervisor unit with places free and a lost-notice count. -/
def supWith (items lost : Nat) : Supervisor :=
  { Supervisor.initial with queue := List.replicate items (.notice (.messageLost 0)), lost := lost }

theorem witness_posting : 16 - (supWith 16 255).queue.length = 0 ∧ 16 - (supWith 15 0).queue.length = 1 ∧
    16 - (supWith 15 255).queue.length = 1 ∧ 2 ≤ 16 - (supWith 14 0).queue.length ∧
    2 ≤ 16 - (supWith 14 1).queue.length ∧ 0 < (supWith 14 1).lost := by decide

/-- The card with its supervisor unit as given. -/
def withSup (s : State) (u : Supervisor) : State := { s with sup := u }

/-- The supervisor unit in the LINE phase with characters in its stages. -/
def printing (holding shift : Option TxChar) : Supervisor :=
  { supWith 2 0 with phase := .line, composed := [⟨9, none, false⟩, ⟨2, none, false⟩]
                     tx := { Tx.initial with holding := holding, shift := shift } }

theorem witness_sup_begin :
    let s := withSup card (printing (some ⟨3, .composed, 0, false⟩) none)
    s.running = true ∧ s.sup.tx.shift = none ∧ s.sup.tx.holding = some ⟨3, .composed, 0, false⟩ ∧
    s.sup.phase = .line ∧ s.sup.composed = ⟨9, none, false⟩ :: [⟨2, none, false⟩] := by decide

theorem witness_sup_begin_text :
    let s := withSup card { printing none none with
      phase := .text, tx := { Tx.initial with holding := some ⟨3, .text, 0, false⟩, textCase := some .figures } }
    s.running = true ∧ s.sup.tx.shift = none ∧ s.sup.tx.holding = some ⟨3, .text, 0, false⟩ ∧
    s.sup.tx.textCase = some .figures ∧ s.sup.tx.lineCase = .letters := by decide

theorem witness_sup_sent (held : Option TxChar) (h : held = none ∨ held = some ⟨9, .composed, 0, false⟩)
    (midText : Bool) :
    let s := withSup card { printing held (some ⟨3, .composed, 0, false⟩) with midText := midText }
    s.running = true ∧ s.sup.tx.shift = some ⟨3, .composed, 0, false⟩ ∧ s.sup.tx.holding = held ∧
    s.sup.midText = midText := by
  rcases h with rfl | rfl <;> cases midText <;> decide

/-- The supervisor unit printing the dead copy of record 0. -/
def printingDead (phase : PrintPhase) (midText : Bool) (x : TxChar) : State :=
  withSup (storing (message .stored 10 [7] true (copyIn .deadQueued)))
    { Supervisor.initial with queue := [.dead ref0 0], phase := phase, midText := midText
                              tx := { Tx.initial with shift := some x } }

theorem witness_sup_fill (midText : Bool) :
    let s := printingDead .text midText ⟨31, .fill, 0, false⟩
    s.running = true ∧ s.sup.tx.shift = some ⟨31, .fill, 0, false⟩ ∧ s.sup.queue = .dead ref0 0 :: [] ∧
    s.sup.discarded = false ∧ s.sup.phase = .text ∧ CopyIs s ref0 (copyIn .deadQueued) := by
  unfold CopyIs; cases midText <;> decide +kernel

theorem witness_printed_notice :
    let s := withSup card { supWith 2 0 with phase := .line, tx := { Tx.initial with shift := some ⟨2, .composed, 0, true⟩ } }
    s.running = true ∧ s.sup.tx.shift = some ⟨2, .composed, 0, true⟩ ∧
    s.sup.queue = .notice (.messageLost 0) :: [.notice (.messageLost 0)] ∧ s.router.deadList = [] := by decide

theorem witness_printed_copy :
    let s := printingDead .tail false ⟨2, .composed, 0, true⟩
    s.running = true ∧ s.sup.tx.shift = some ⟨2, .composed, 0, true⟩ ∧ s.sup.queue = .dead ref0 0 :: [] ∧
    s.router.deadList = [] ∧ s.sup.discarded = false ∧ s.sup.phase = .tail ∧ MaySettle s ref0 := by
  refine ⟨by decide, by decide +kernel, by decide +kernel, by decide +kernel, by decide +kernel,
    by decide +kernel, ⟨copyIn .deadQueued, ?_, by decide⟩, by decide +kernel, by decide +kernel⟩
  unfold CopyIs; decide +kernel

/-- A notice about to leave the queue of `items` items while dead copies wait for a place. -/
def placeFalls (items : Nat) : State :=
  let s := withSup (storing (message .stored 10 [7] true (copyIn .deadWaiting)))
    { supWith items 3 with phase := .line, tx := { Tx.initial with shift := some ⟨2, .composed, 0, true⟩ } }
  { s with router := { s.router with deadList := [ref0, ⟨1, 0⟩] } }

theorem witness_place_falls : ∀ items ∈ [2, 16], ∀ waiting ∈ [[], [Instr.restartKeyPress]],
    let s := { placeFalls items with pending := waiting }
    (s.noticeSeeks = true ↔ waiting ≠ []) ∧
    s.running = true ∧ s.sup.tx.shift = some ⟨2, .composed, 0, true⟩ ∧
    s.sup.queue = .notice (.messageLost 0) :: List.replicate (items - 1) (.notice (.messageLost 0)) ∧
    (List.replicate (items - 1) (Item.notice (.messageLost 0))).length ≤ 15 ∧ s.router.deadList ≠ [] ∧
    CopyIs s ref0 (copyIn .deadWaiting) := by
  unfold CopyIs; decide +kernel

/-- A transfer whose copy is dead, on the queue or on the dead wait list, printed or not. -/
def deadIncoming (queue : List Item) (deadList : List CopyRef) (phase : PrintPhase) : State :=
  let s := withSup (withTake mid (incoming 64 [7] (copyIn .deadQueued)))
    { supWith 0 3 with queue := queue, phase := phase, outstanding := true }
  { s with router := { s.router with deadList := deadList } }

theorem witness_discarded : ∀ p ∈ [([Item.dead ref0 0, .notice (.messageLost 0)], ([] : List CopyRef), PrintPhase.text),
      ([.dead ref0 0], [], .line), ([.notice (.messageLost 0), .dead ref0 0], [], .line), ([], [ref0], .idle)],
    let s := deadIncoming p.1 p.2.1 p.2.2
    TakesFrames s ∧ peerTag.slot ≠ s.boot.slot ∧ mid.record = some 0 ∧ (s.record 0).state = .taking ∧
    (s.record 0).gen = 0 ∧ Reason.late.byOrigin = true ∧
    parseFrame (Frame.abandon peerTag .late).encode = some (.abandon peerTag .late) ∧
    (s.copy ref0).channel = none ∧ (∀ ref ∈ s.router.deadList, ref.record = 0) ∧ s.sup.queue = p.1 ∧
    s.sup.phase = p.2.2 ∧ s.sup.outstanding = true ∧ s.sup.discarded = false := by
  unfold TakesFrames; decide +kernel

theorem witness_discarded_held (queue : List Item) (deadList : List CopyRef) (phase : PrintPhase) :
    Receives (deadIncoming queue deadList phase) 0 peerTag mid 0 :=
  ⟨take_holds mid (incoming 64 [7] (copyIn .deadQueued)) rfl, rfl, rfl, rfl, rfl⟩

theorem witness_tally : taking.received = ([] : List Code).length ∧ taking.check = 0 ∧
    0 < (drivesClaim none).store.reserved[(0 : CtxIx)] ∧ (drivesClaim none).store.freeList ≠ [] ∧
    card.store.reserved[(0 : CtxIx)] = 0 := by decide +kernel

/-! ### Witnesses: invariants -/

/-- The card with a command waiting. -/
def waiting : State := { card with pending := [.idleStopExpiry 0] }

theorem witness_lines_timed : step waiting = .next card ∧ TurnaroundTimed waiting ∧ ReceiverRests waiting := by
  refine ⟨rfl, ?_, ?_⟩
  · intro n
    match n with
    | 0 => exact trivial
    | 1 => exact ⟨rfl, rfl, by decide⟩
    | 2 => exact trivial
    | 3 => exact trivial
  · have h : ∀ m, (waiting.line m).condIn = closed ∧ (waiting.line m).condSense = closed := by decide +kernel
    exact fun n => ⟨fun hc => absurd (congrArg Cond.value (h n).1) hc,
      fun pin ho => by cases pin <;> simp [LineUnit.cond, h n, closed, Cond.atRest] at ho⟩

theorem witness_invariants : step waiting = .next card ∧ PoolForm waiting ∧ ListsBounded waiting ∧
    ChannelsBounded waiting := by
  refine ⟨rfl, by unfold PoolForm; decide +kernel, by unfold ListsBounded; decide +kernel, ?_⟩
  intro n
  have h : ∀ m, (waiting.line m).sched.counter = 1 ∧ (waiting.line m).asm.expectation = none := by decide +kernel
  refine ⟨by rw [(h n).1]; omega, fun e he => ?_⟩
  rw [(h n).2] at he
  cases he

theorem witness_accounts : StoreAccounts waiting := by
  unfold StoreAccounts; decide +kernel

/-! ### Ill-formed commands: one for each check of Instr.wellFormed, refused by name -/

theorem test_ill_image : exec (.imageReadComplete [0] false) loading = .refused .illFormed := rfl

theorem test_ill_rivals_many : (Instr.arbitrationRound (List.replicate 16 300)).wellFormed = false := by decide

theorem test_ill_rival_low : exec (.arbitrationRound [31]) card = .refused .illFormed := rfl

theorem test_ill_rival_high : exec (.arbitrationRound [512]) card = .refused .illFormed := rfl

theorem test_ill_kinds :
    exec (.offerReceived [2]) card = .refused .illFormed ∧ exec (.claimReceived [1]) card = .refused .illFormed ∧
    exec (.textReceived [4]) card = .refused .illFormed ∧ exec (.closeReceived [3]) card = .refused .illFormed ∧
    exec (.receiptReceived [6]) card = .refused .illFormed ∧
    exec (.abandonTakerReceived [5]) card = .refused .illFormed ∧
    exec (.abandonOriginReceived [7]) card = .refused .illFormed ∧
    exec (.restartReceived [1]) card = .refused .illFormed := ⟨rfl, rfl, rfl, rfl, rfl, rfl, rfl, rfl⟩

theorem test_ill_sides : exec (.abandonTakerReceived [6, 1, 0, 0, 1]) card = .refused .illFormed ∧
    exec (.abandonOriginReceived [6, 1, 0, 0, 2]) card = .refused .illFormed := ⟨rfl, rfl⟩

/-! ### Values the manual gives -/

/-- R3's table. -/
theorem test_rates : (List.finRange 4).flatMap (fun v => [cpmOf v false, cpmOf v true]) =
    [363, 340, 400, 375, 600, 562, 800, 750] := by decide

/-- Section 8.2, the worked lead. -/
theorem test_leads : [leadOf 1536 363 600, leadOf 1536 363 800, leadOf 1536 375 562, leadOf 512 363 800,
    leadOf 1536 600 400] = [607, 840, 512, 280, 0] := by decide

/-- Section 7.1, the worked text check. -/
theorem test_text_check : textCheck [23, 4, 20, 24, 18, 28, 8, 2] = 503 := by decide

/-- Chapter 12, the arbitration key. -/
theorem test_keys : [keyNumber .order 5 11, keyNumber .order 5 4, keyNumber .order 5 7, keyNumber .order 7 0,
    keyNumber .bulk 2 15] = [468, 475, 472, 511, 32] := by decide

/-- Chapter 12, the example frame: the fourteen bytes before the frame check. -/
theorem test_offer_bytes :
    (Frame.offer ⟨3, 12, 5, 1⟩ .general [22, 1, 18, 15] (some 900) 400 2).body =
      [1, 3, 12, 41, 1, 22, 1, 18, 15, 3, 132, 1, 144, 2] := by decide

/-- R175. No worked value stands in the manual: this is the check value published for this preset and
polynomial over the nine characters 1 to 9 (PRESUMED). -/
theorem test_frame_check : crc16 [0x31, 0x32, 0x33, 0x34, 0x35, 0x36, 0x37, 0x38, 0x39] = 0x29b1#16 := by
  decide +kernel

/-- Section 3.2, the worked admission: 34 blocks available, 16 asked for. -/
theorem test_admission :
    let st : Store := { card.store with freeList := (List.finRange 192).take 40, reserved := #v[6, 0, 0, 0] }
    let granted : Store := { st with reserved := #v[6, 16, 0, 0] }
    [st.admits .general 16, st.admits .running 16, granted.admits .general 1, granted.admits .order 1] =
      [false, true, false, true] := by decide +kernel

/-- Section 4.6, the worked backoff totals. -/
theorem test_backoff : (List.range 14).map (fun k => backoffMs (k + 1)) =
    [250, 500, 1000, 2000, 4000, 8000, 8000, 8000, 8000, 8000, 8000, 8000, 8000, 8000] := by decide

/-- Section 10.7, the worked overflow: the third notice lost to make room for the count itself. -/
theorem test_overflow : ((supWith 15 2).posted (.lineRestored 3 .send)).account =
    ((supWith 15 0).queue ++ [.notice (.noticesLost 3)], 0) := by decide

/-- The codes of a printed line in order of sending, from a case ahead. -/
def printedCodes : Nat → Case → List Composed → List Code
  | 0, _, _ => []
  | fuel + 1, k, l =>
    match loadComposed k l with
    | none => []
    | some (x, rest) => x.code :: printedCodes fuel (caseAfter x.code k) rest

/-- Chapter 12: SEQUENCE GAP LINE 2 EXPECTED 041 RECEIVED 042, with its shifts. -/
theorem test_sequence_gap_line : printedCodes 60 .letters (printedLine (Notice.sequenceGap 2 41 42).words) =
    [5, 1, 23, 7, 1, 12, 14, 1, 4, 26, 3, 22, 4, 18, 6, 12, 1, 4, 27, 19, 4, 31, 1, 29, 22, 1, 14, 16, 1, 9, 4,
     27, 22, 10, 23, 4, 31, 10, 1, 14, 1, 6, 30, 1, 9, 4, 27, 22, 10, 19, 8, 2] := by decide

end Sys2Proof.Tests
end

section
/-! The sending side of a line: what the transmitter, the scheduler and the dispatch of copies may change, said once for each operation. -/

namespace Sys2Proof.Machine

/-! ### One line unit -/

@[simp] theorem State.modSched_line_same (s : State) (n : Line) (f : Sched → Sched) :
    (s.modSched n f).line n = { s.line n with sched := f (s.line n).sched } :=
  State.modLine_line_same s n _

@[simp] theorem State.modAsm_line_same (s : State) (n : Line) (f : Assembler → Assembler) :
    (s.modAsm n f).line n = { s.line n with asm := f (s.line n).asm } :=
  State.modLine_line_same s n _

@[simp] theorem State.modTx_line_same (s : State) (n : Line) (f : Tx → Tx) :
    (s.modTx n f).line n = { s.line n with tx := f (s.line n).tx } :=
  State.modLine_line_same s n _

@[simp] theorem State.modMotor_line_same (s : State) (n : Line) (f : Motor → Motor) :
    (s.modMotor n f).line n = { s.line n with motor := f (s.line n).motor } :=
  State.modLine_line_same s n _

@[simp] theorem State.setRx_line_same (s : State) (n : Line) (st : RxState) :
    (s.setRx n st).line n = { s.line n with rx := { (s.line n).rx with state := st } } :=
  State.modLine_line_same s n _

@[simp] theorem State.setRxCase_line_same (s : State) (n : Line) (c : Case) :
    (s.setRxCase n c).line n = { s.line n with rx := { (s.line n).rx with case := c } } :=
  State.modLine_line_same s n _

@[simp] theorem State.modCond_line_loopIn (s : State) (n : Line) (f : Cond → Cond) :
    (s.modCond n .loopIn f).line n = { s.line n with condIn := f (s.line n).condIn } :=
  State.modLine_line_same s n _

@[simp] theorem State.modCond_line_sense (s : State) (n : Line) (f : Cond → Cond) :
    (s.modCond n .sense f).line n = { s.line n with condSense := f (s.line n).condSense } :=
  State.modLine_line_same s n _

@[simp] theorem State.setPin_line_loopIn (s : State) (n : Line) (level : Level) :
    (s.setPin n .loopIn level).line n = { s.line n with loopIn := level } :=
  State.modLine_line_same s n _

@[simp] theorem State.setPin_line_sense (s : State) (n : Line) (level : Level) :
    (s.setPin n .sense level).line n = { s.line n with sense := level } :=
  State.modLine_line_same s n _

@[simp] theorem State.chosen_line (s : State) (m : Line) : s.chosen.line m = s.line m := rfl

/-- Two changes of one line unit make one. -/
theorem State.modLine_modLine (s : State) (n : Line) (f g : LineUnit → LineUnit) :
    (s.modLine n f).modLine n g = s.modLine n fun l => g (f l) := by
  simp [State.modLine]

/-- A line unit that is put back as it stands changes nothing. -/
theorem State.modLine_self (s : State) (n : Line) : s.modLine n (fun _ => s.line n) = s := by
  simp [State.modLine, State.line]

theorem OnlyLine.refl (n : Line) (s : State) : OnlyLine n s s := ⟨rfl, fun _ _ => rfl⟩

theorem OnlyLine.trans {n : Line} {s t u : State} (h₁ : OnlyLine n s t) (h₂ : OnlyLine n t u) : OnlyLine n s u := by
  obtain ⟨ht, hs⟩ := h₁
  obtain ⟨hu, ht'⟩ := h₂
  exact ⟨by rw [hu, ht], fun m hm => (ht' m hm).trans (hs m hm)⟩

theorem State.modLine_onlyLine (s : State) (n : Line) (f : LineUnit → LineUnit) : OnlyLine n s (s.modLine n f) :=
  ⟨rfl, fun m hm => s.modLine_line_ne n m f hm⟩

theorem State.modCond_onlyLine (s : State) (n : Line) (pin : LoopPin) (f : Cond → Cond) :
    OnlyLine n s (s.modCond n pin f) := s.modLine_onlyLine n _

theorem State.setPin_onlyLine (s : State) (n : Line) (pin : LoopPin) (level : Level) :
    OnlyLine n s (s.setPin n pin level) := s.modLine_onlyLine n _

theorem State.turnReview_onlyLine (s : State) (n : Line) : OnlyLine n s (s.turnReview n) := by
  unfold State.turnReview
  exact s.modLine_onlyLine n _

theorem State.setRx_onlyLine (s : State) (n : Line) (st : RxState) : OnlyLine n s (s.setRx n st) :=
  s.modLine_onlyLine n _

theorem State.modTx_onlyLine (s : State) (n : Line) (f : Tx → Tx) : OnlyLine n s (s.modTx n f) :=
  s.modLine_onlyLine n _

theorem State.modMotor_onlyLine (s : State) (n : Line) (f : Motor → Motor) : OnlyLine n s (s.modMotor n f) :=
  s.modLine_onlyLine n _

theorem State.modSched_onlyLine (s : State) (n : Line) (f : Sched → Sched) : OnlyLine n s (s.modSched n f) :=
  s.modLine_onlyLine n _

theorem State.modAsm_onlyLine (s : State) (n : Line) (f : Assembler → Assembler) : OnlyLine n s (s.modAsm n f) :=
  s.modLine_onlyLine n _

theorem State.turnWait_onlyLine (s : State) (n : Line) : OnlyLine n s (s.turnWait n) := s.modLine_onlyLine n _

theorem State.setRxCase_onlyLine (s : State) (n : Line) (c : Case) : OnlyLine n s (s.setRxCase n c) :=
  s.modLine_onlyLine n _

theorem State.suspendRx_onlyLine (s : State) (n : Line) : OnlyLine n s (s.suspendRx n) := by
  unfold State.suspendRx
  split
  · exact s.setRx_onlyLine n _
  · exact .refl n s

theorem State.beginHeld_onlyLine (s : State) (n : Line) : OnlyLine n s (s.beginHeld n) :=
  (s.modTx_onlyLine n _).trans (State.suspendRx_onlyLine _ n)

theorem State.beginFill_onlyLine (s : State) (n : Line) : OnlyLine n s (s.beginFill n) :=
  (s.modTx_onlyLine n _).trans (State.suspendRx_onlyLine _ n)

theorem State.resumeRx_onlyLine (s : State) (n : Line) : OnlyLine n s (s.resumeRx n) := by
  unfold State.resumeRx
  split
  · exact (s.setRxCase_onlyLine n _).trans (State.setRx_onlyLine _ n _)
  · exact .refl n s

theorem State.abandonTx_onlyLine (s : State) (n : Line) : OnlyLine n s (s.abandonTx n) := by
  unfold State.abandonTx
  simp only
  split
  · exact (s.modTx_onlyLine n _).trans (State.resumeRx_onlyLine _ n)
  · exact s.modTx_onlyLine n _

theorem State.finishChar_onlyLine (s : State) (n : Line) (c : TxChar) : OnlyLine n s (s.finishChar n c) :=
  (s.modTx_onlyLine n _).trans (State.resumeRx_onlyLine _ n)

theorem State.shiftTakes_onlyLine (s : State) (n : Line) : OnlyLine n s (s.shiftTakes n) := by
  unfold State.shiftTakes
  split
  · split
    · exact s.beginHeld_onlyLine n
    · exact .refl n s
  · split
    · exact s.beginFill_onlyLine n
    · exact .refl n s

theorem State.readPin_onlyLine (s : State) (n : Line) (pin : LoopPin) (level : Level) :
    OnlyLine n s (s.readPin n pin level) := by
  unfold State.readPin
  split
  · exact .refl n s
  · have hp := s.setPin_onlyLine n pin level
    simp only
    split
    · exact hp.trans ((State.modCond_onlyLine _ n pin _).trans (State.turnReview_onlyLine _ n))
    · exact hp

theorem State.motorEmpty_onlyLine (s : State) (n : Line) : OnlyLine n s (s.motorEmpty n) := by
  unfold State.motorEmpty
  split
  · exact s.modMotor_onlyLine n _
  · exact .refl n s

/-! Where only one line differs, the rest of the card reads as before. -/

theorem OnlyLine.boot {n : Line} {s t : State} (h : OnlyLine n s t) : t.boot = s.boot := by rw [h.1]
theorem OnlyLine.store {n : Line} {s t : State} (h : OnlyLine n s t) : t.store = s.store := by rw [h.1]
theorem OnlyLine.router {n : Line} {s t : State} (h : OnlyLine n s t) : t.router = s.router := by rw [h.1]
theorem OnlyLine.port {n : Line} {s t : State} (h : OnlyLine n s t) : t.port = s.port := by rw [h.1]
theorem OnlyLine.sup {n : Line} {s t : State} (h : OnlyLine n s t) : t.sup = s.sup := by rw [h.1]
theorem OnlyLine.record {n : Line} {s t : State} (h : OnlyLine n s t) (r : RecIx) : t.record r = s.record r := by
  rw [h.1]; rfl
theorem OnlyLine.copy {n : Line} {s t : State} (h : OnlyLine n s t) (ref : CopyRef) : t.copy ref = s.copy ref := by
  rw [h.1]; rfl
theorem OnlyLine.mode {n : Line} {s t : State} (h : OnlyLine n s t) (m : Line) : t.mode m = s.mode m := by
  rw [h.1]; rfl

/-! ### The turnaround and the readings (R149) -/

/-- The turnaround after it is looked at: its timer runs while it waits and `run` holds (R149). -/
def Turnaround.review (full : Nat) (run : Bool) (w : Turnaround) : Turnaround :=
  { w with timer := if w.waiting && run then some (w.timer.getD full) else none }

theorem State.turnReview_line_same (s : State) (n : Line) :
    (s.turnReview n).line n = { s.line n with
      turn := (s.line n).turn.map (Turnaround.review ((s.lineCfg n).turnaround * 1000) (s.turnMayRun n)) } :=
  State.modLine_line_same s n _

theorem State.turnWait_line_same (s : State) (n : Line) :
    (s.turnWait n).line n = { s.line n with
      turn := (s.line n).turn.map fun _ => { waiting := true, timer := none } } :=
  State.modLine_line_same s n _

/-- A reading that is read already changes nothing (log 1). -/
theorem State.readPin_of_level (s : State) (n : Line) (pin : LoopPin) (level : Level)
    (h : (s.line n).level pin = level) : s.readPin n pin level = s := if_pos h

/-- A reading of another level on a pin whose condition is kept (R9, R149). -/
theorem State.readPin_of_kept (s : State) (n : Line) (pin : LoopPin) (level : Level)
    (h : (s.line n).level pin ≠ level) (hk : s.keeps n pin = true) :
    s.readPin n pin level = ((s.setPin n pin level).modCond n pin fun c => c.read level).turnReview n := by
  have hk' : (s.setPin n pin level).keeps n pin = true := hk
  simp only [State.readPin, if_neg h, if_pos hk']

/-- A reading of LOOPn_IN sets the input and moves timers only. -/
theorem State.readPin_loopIn_line (s : State) (n : Line) (level : Level) :
    ∃ c w, (s.readPin n .loopIn level).line n = { s.line n with loopIn := level, condIn := c, turn := w } ∧
      c.value = (s.line n).condIn.value ∧ ∀ k : Turnaround, w.map (fun _ => k) = (s.line n).turn.map fun _ => k := by
  by_cases h : (s.line n).loopIn = level
  · rw [s.readPin_of_level n .loopIn level h]
    exact ⟨_, _, by rw [← h], rfl, fun _ => rfl⟩
  · have h' : ¬(s.line n).level .loopIn = level := h
    simp only [State.readPin, if_neg h']
    split
    · rw [State.turnReview_line_same, State.modCond_line_loopIn, State.setPin_line_loopIn]
      exact ⟨_, _, rfl, by cases level <;> rfl, fun k => by simp [Function.comp_def]⟩
    · rw [State.setPin_line_loopIn]
      exact ⟨_, _, rfl, rfl, fun _ => rfl⟩

end Sys2Proof.Machine
end

section
namespace Sys2Proof.Machine

/-! ### Copies -/

theorem State.copyIs_copy {s : State} {ref : CopyRef} {c : Copy} (h : CopyIs s ref c) : s.copy ref = c := by
  simp only [CopyIs] at h
  simp [State.copy, Record.copy, h]

/-- A copy that is there, after a change of it. -/
theorem CopyIs.modCopy {s : State} {ref : CopyRef} {c : Copy} (h : CopyIs s ref c) (f : Copy → Copy) :
    CopyIs (s.modCopy ref f) ref (f c) := by
  simp only [CopyIs] at h ⊢
  simp [State.modCopy_record, h]

/-- A copy that is there and not SETTLED takes the state it is given (R55). -/
theorem CopyIs.setCopyState {s : State} {ref : CopyRef} {c : Copy} (h : CopyIs s ref c) (hc : c.state ≠ .settled)
    (st : CopyState) : CopyIs (s.setCopyState ref st) ref { c with state := st } := by
  have := h.modCopy fun c => { c with state := if c.state = .settled then .settled else st }
  rwa [if_neg hc] at this

/-- A change of one copy leaves every other copy. -/
theorem State.modCopy_copy_ne (s : State) (ref other : CopyRef) (f : Copy → Copy) (h : other ≠ ref) :
    (s.modCopy ref f).copy other = s.copy other := by
  simp only [State.copy, State.modCopy_record]
  split
  · rename_i hr
    have hix : ref.ix.val ≠ other.ix.val := fun e => h <| by
      cases ref; cases other; simp_all [Fin.ext_iff]
    simp [Record.copy, List.getElem?_modify_ne, hix]
  · rfl

/-! ### What the sending side of a line may change -/

/-- Only the scheduler and the holding stage of line `n` differ. -/
def LoadsOnly (n : Line) (s t : State) : Prop :=
  ∃ sc h, t = s.modLine n fun l => { l with sched := sc, tx := { l.tx with holding := h } }

/-- Records that differ in their copy tables alone. -/
def CopiesOnly (s t : State) : Prop := ∀ r, ∃ cs, t.record r = { s.record r with copies := cs }

/-- A line unit that differs in its scheduler, its motor, its holding stage and its text case alone. -/
def LineUnit.SendsFrom (l l' : LineUnit) : Prop :=
  ∃ mo sc h k, l' = { l with motor := mo, sched := sc, tx := { l.tx with holding := h, textCase := k } }

/-- Only the scheduler, the motor, the holding stage and the text case of line `n`, and copies, differ. -/
structure Schedules (n : Line) (s t : State) : Prop where
  card : ∃ ls rs, t = { s with lines := ls, store := { s.store with records := rs } }
  others : ∀ m, m ≠ n → t.line m = s.line m
  line : (s.line n).SendsFrom (t.line n)
  records : CopiesOnly s t

/-- The same with the motor as it was. -/
structure SendsOnly (n : Line) (s t : State) : Prop extends Schedules n s t where
  motor : (t.line n).motor = (s.line n).motor

theorem LoadsOnly.refl (n : Line) (s : State) : LoadsOnly n s s := ⟨_, _, (s.modLine_self n).symm⟩

theorem LoadsOnly.trans {n : Line} {s t u : State} (h₁ : LoadsOnly n s t) (h₂ : LoadsOnly n t u) :
    LoadsOnly n s u := by
  obtain ⟨_, _, rfl⟩ := h₁
  obtain ⟨sc, h, rfl⟩ := h₂
  exact ⟨sc, h, State.modLine_modLine ..⟩

theorem CopiesOnly.trans {s t u : State} (h₁ : CopiesOnly s t) (h₂ : CopiesOnly t u) : CopiesOnly s u := fun r => by
  obtain ⟨_, e₁⟩ := h₁ r
  obtain ⟨cs, e₂⟩ := h₂ r
  exact ⟨cs, by rw [e₂, e₁]⟩

theorem LineUnit.SendsFrom.refl (l : LineUnit) : l.SendsFrom l := ⟨_, _, _, _, rfl⟩

theorem LineUnit.SendsFrom.trans {l l' l'' : LineUnit} (h₁ : l.SendsFrom l') (h₂ : l'.SendsFrom l'') :
    l.SendsFrom l'' := by
  obtain ⟨_, _, _, _, rfl⟩ := h₁
  obtain ⟨mo, sc, h, k, rfl⟩ := h₂
  exact ⟨mo, sc, h, k, rfl⟩

theorem Schedules.refl (n : Line) (s : State) : Schedules n s s :=
  ⟨⟨_, _, rfl⟩, fun _ _ => rfl, .refl _, fun _ => ⟨_, rfl⟩⟩

theorem Schedules.trans {n : Line} {s t u : State} (h₁ : Schedules n s t) (h₂ : Schedules n t u) : Schedules n s u where
  card := by
    obtain ⟨_, _, e₁⟩ := h₁.card
    obtain ⟨ls, rs, e₂⟩ := h₂.card
    exact ⟨ls, rs, by rw [e₂, e₁]⟩
  others m hm := (h₂.others m hm).trans (h₁.others m hm)
  line := h₁.line.trans h₂.line
  records := h₁.records.trans h₂.records

theorem SendsOnly.refl (n : Line) (s : State) : SendsOnly n s s := ⟨.refl n s, rfl⟩

theorem SendsOnly.trans {n : Line} {s t u : State} (h₁ : SendsOnly n s t) (h₂ : SendsOnly n t u) : SendsOnly n s u :=
  ⟨h₁.toSchedules.trans h₂.toSchedules, h₂.motor.trans h₁.motor⟩

theorem LoadsOnly.sendsOnly {n : Line} {s t : State} (h : LoadsOnly n s t) : SendsOnly n s t := by
  obtain ⟨sc, h, rfl⟩ := h
  exact ⟨⟨⟨_, _, rfl⟩, fun m hm => State.modLine_line_ne s n m _ hm, ⟨_, _, _, _, State.modLine_line_same s n _⟩,
    fun _ => ⟨_, rfl⟩⟩, by simp⟩

theorem LoadsOnly.onlyLine {n : Line} {s t : State} (h : LoadsOnly n s t) : OnlyLine n s t := by
  obtain ⟨_, _, rfl⟩ := h
  exact s.modLine_onlyLine n _

/-! What follows for the rest of the card. -/

section
variable {n : Line} {s t : State}

theorem Schedules.boot (h : Schedules n s t) : t.boot = s.boot := by obtain ⟨_, _, e⟩ := h.card; rw [e]
theorem Schedules.router (h : Schedules n s t) : t.router = s.router := by obtain ⟨_, _, e⟩ := h.card; rw [e]
theorem Schedules.port (h : Schedules n s t) : t.port = s.port := by obtain ⟨_, _, e⟩ := h.card; rw [e]
theorem Schedules.sup (h : Schedules n s t) : t.sup = s.sup := by obtain ⟨_, _, e⟩ := h.card; rw [e]
theorem Schedules.pool (h : Schedules n s t) : t.store.pool = s.store.pool := by
  obtain ⟨_, _, e⟩ := h.card; rw [e]
theorem Schedules.freeList (h : Schedules n s t) : t.store.freeList = s.store.freeList := by
  obtain ⟨_, _, e⟩ := h.card; rw [e]

theorem LineUnit.SendsFrom.shift {l l' : LineUnit} (h : l.SendsFrom l') : l'.tx.shift = l.tx.shift := by
  obtain ⟨_, _, _, _, rfl⟩ := h; rfl
theorem LineUnit.SendsFrom.lineCase {l l' : LineUnit} (h : l.SendsFrom l') : l'.tx.lineCase = l.tx.lineCase := by
  obtain ⟨_, _, _, _, rfl⟩ := h; rfl
theorem LineUnit.SendsFrom.rx {l l' : LineUnit} (h : l.SendsFrom l') : l'.rx = l.rx := by
  obtain ⟨_, _, _, _, rfl⟩ := h; rfl
theorem LineUnit.SendsFrom.asm {l l' : LineUnit} (h : l.SendsFrom l') : l'.asm = l.asm := by
  obtain ⟨_, _, _, _, rfl⟩ := h; rfl
theorem LineUnit.SendsFrom.turn {l l' : LineUnit} (h : l.SendsFrom l') : l'.turn = l.turn := by
  obtain ⟨_, _, _, _, rfl⟩ := h; rfl
theorem LineUnit.SendsFrom.condIn {l l' : LineUnit} (h : l.SendsFrom l') : l'.condIn = l.condIn := by
  obtain ⟨_, _, _, _, rfl⟩ := h; rfl
theorem LineUnit.SendsFrom.condSense {l l' : LineUnit} (h : l.SendsFrom l') : l'.condSense = l.condSense := by
  obtain ⟨_, _, _, _, rfl⟩ := h; rfl
theorem LineUnit.SendsFrom.cond {l l' : LineUnit} (h : l.SendsFrom l') (pin : LoopPin) : l'.cond pin = l.cond pin := by
  obtain ⟨_, _, _, _, rfl⟩ := h; cases pin <;> rfl
theorem LineUnit.SendsFrom.loopIn {l l' : LineUnit} (h : l.SendsFrom l') : l'.loopIn = l.loopIn := by
  obtain ⟨_, _, _, _, rfl⟩ := h; rfl

/-- Every line is as it was or differs on its sending side. -/
theorem Schedules.lines (h : Schedules n s t) (m : Line) : (s.line m).SendsFrom (t.line m) := by
  by_cases hm : m = n
  · exact hm ▸ h.line
  · rw [h.others m hm]; exact .refl _

end

/-! ### The small updates -/

theorem State.modSched_loadsOnly (s : State) (n : Line) (f : Sched → Sched) : LoadsOnly n s (s.modSched n f) :=
  ⟨f (s.line n).sched, (s.line n).tx.holding, by simp [State.modSched, State.modLine, State.line]⟩

/-- A change of the transmitter that leaves its shift stage and both cases. -/
theorem State.modTx_loadsOnly (s : State) (n : Line) (h : Option TxChar) :
    LoadsOnly n s (s.modTx n fun t => { t with holding := h }) :=
  ⟨(s.line n).sched, h, by simp [State.modTx, State.modLine, State.line]⟩

theorem State.modSched_sendsOnly (s : State) (n : Line) (f : Sched → Sched) : SendsOnly n s (s.modSched n f) :=
  (s.modSched_loadsOnly n f).sendsOnly

theorem State.setTextCase_sendsOnly (s : State) (n : Line) (k : Option Case) :
    SendsOnly n s (s.modTx n fun t => { t with textCase := k }) :=
  ⟨⟨⟨_, _, rfl⟩, fun m hm => State.modLine_line_ne s n m _ hm, ⟨_, _, _, _, State.modTx_line_same s n _⟩,
    fun _ => ⟨_, rfl⟩⟩, by simp⟩

theorem State.modCopy_copiesOnly (s : State) (ref : CopyRef) (f : Copy → Copy) : CopiesOnly s (s.modCopy ref f) := fun r => by
  rw [State.modCopy_record]
  split
  · exact ⟨_, rfl⟩
  · exact ⟨_, rfl⟩

theorem State.modCopy_sendsOnly (s : State) (n : Line) (ref : CopyRef) (f : Copy → Copy) :
    SendsOnly n s (s.modCopy ref f) :=
  ⟨⟨⟨_, _, rfl⟩, fun _ _ => rfl, .refl _, s.modCopy_copiesOnly ref f⟩, rfl⟩

theorem State.setCopyState_sendsOnly (s : State) (n : Line) (ref : CopyRef) (st : CopyState) :
    SendsOnly n s (s.setCopyState ref st) := s.modCopy_sendsOnly n ref _

theorem State.modMotor_schedules (s : State) (n : Line) (f : Motor → Motor) : Schedules n s (s.modMotor n f) :=
  ⟨⟨_, _, rfl⟩, fun m hm => State.modLine_line_ne s n m _ hm, ⟨_, _, _, _, State.modMotor_line_same s n f⟩,
    fun _ => ⟨_, rfl⟩⟩

/-! ### Loading (R12, R132 to R136) -/

theorem State.loadChar_loadsOnly (s : State) (n : Line) (c : TxChar) : LoadsOnly n s (s.loadChar n c) :=
  s.modTx_loadsOnly n (some c)

theorem State.loadNextComposed_loadsOnly (s : State) (n : Line) : LoadsOnly n s (s.loadNextComposed n) := by
  unfold State.loadNextComposed
  split
  · exact (s.loadChar_loadsOnly n _).trans (State.modSched_loadsOnly _ n _)
  · exact .refl n s

theorem State.serveHead_loadsOnly (s : State) (n : Line) : LoadsOnly n s (s.serveHead n) := by
  unfold State.serveHead
  simp only
  split
  · exact (s.loadNextComposed_loadsOnly n).trans (State.modSched_loadsOnly _ n _)
  · exact s.loadNextComposed_loadsOnly n

theorem State.serveText_loadsOnly (s : State) (n : Line) (ref : CopyRef) : LoadsOnly n s (s.serveText n ref) := by
  unfold State.serveText
  simp only
  split
  · exact (s.loadChar_loadsOnly n _).trans (State.modSched_loadsOnly _ n _)
  · split
    · exact (s.modSched_loadsOnly n _).trans (State.loadNextComposed_loadsOnly _ n)
    · exact s.modSched_loadsOnly n _

theorem State.serveLine_loadsOnly (s : State) (n : Line) : LoadsOnly n s (s.serveLine n) := by
  unfold State.serveLine
  split
  · exact .refl n s
  · split
    · exact .refl n s
    · split
      · exact s.serveHead_loadsOnly n
      · exact s.serveText_loadsOnly n _
      · exact s.loadNextComposed_loadsOnly n
      · exact s.loadNextComposed_loadsOnly n

theorem State.serveLine_sendsOnly (s : State) (n : Line) : SendsOnly n s (s.serveLine n) :=
  (s.serveLine_loadsOnly n).sendsOnly

/-- With a character held nothing is asked for (R12). -/
theorem State.serveLine_of_holding (s : State) (n : Line) (h : (s.line n).tx.holding.isSome = true) :
    s.serveLine n = s := if_pos h

/-- With no current copy nothing is asked for. -/
theorem State.serveLine_of_none (s : State) (n : Line) (h : (s.line n).sched.current = none) : s.serveLine n = s := by
  unfold State.serveLine
  split
  · rfl
  · rw [h]

/-- A request in TEXT (R135). -/
theorem State.serveLine_of_text (s : State) (n : Line) (e : QEntry) (hh : (s.line n).tx.holding = none)
    (hc : (s.line n).sched.current = some e) (hp : (s.line n).sched.phase = .text) :
    s.serveLine n = s.serveText n e.copy := by
  simp [State.serveLine, hh, hc, hp]

/-- A request in HEAD (R133, R134). -/
theorem State.serveLine_of_head (s : State) (n : Line) (e : QEntry) (hh : (s.line n).tx.holding = none)
    (hc : (s.line n).sched.current = some e) (hp : (s.line n).sched.phase = .head) :
    s.serveLine n = s.serveHead n := by
  simp [State.serveLine, hh, hc, hp]

/-! ### Starting (R129 to R131) -/

theorem State.numberCopy_sendsOnly (s : State) (n : Line) (ref : CopyRef) : SendsOnly n s (s.numberCopy n ref) := by
  unfold State.numberCopy
  split
  · exact .refl n s
  · exact (s.modCopy_sendsOnly n ref _).trans (State.modSched_sendsOnly _ n _)

theorem State.startFresh_sendsOnly (s : State) (n : Line) (e : QEntry) : SendsOnly n s (s.startFresh n e) :=
  (s.numberCopy_sendsOnly n _).trans <| (State.setCopyState_sendsOnly _ n _ _).trans <|
    (State.modSched_sendsOnly _ n _).trans <| (State.setTextCase_sendsOnly _ n _).trans (State.serveLine_sendsOnly _ n)

theorem State.startResume_sendsOnly (s : State) (n : Line) (e : QEntry) : SendsOnly n s (s.startResume n e) :=
  (s.numberCopy_sendsOnly n _).trans <| (State.setCopyState_sendsOnly _ n _ _).trans <|
    (State.modCopy_sendsOnly _ n _ _).trans <| (State.modSched_sendsOnly _ n _).trans <|
      (State.setTextCase_sendsOnly _ n _).trans (State.serveLine_sendsOnly _ n)

theorem State.choose_sendsOnly (s : State) (n : Line) : SendsOnly n s (s.choose n) := by
  unfold State.choose
  split
  · simp only
    split
    · exact .refl n s
    · exact (s.modSched_sendsOnly n _).trans (State.startFresh_sendsOnly _ n _)
    · exact (s.modSched_sendsOnly n _).trans (State.startResume_sendsOnly _ n _)
    · split
      · exact (s.modSched_sendsOnly n _).trans (State.startFresh_sendsOnly _ n _)
      · exact (s.modSched_sendsOnly n _).trans (State.startResume_sendsOnly _ n _)
  · exact .refl n s

/-- A line with a current copy is not free to start (R129). -/
theorem State.choose_of_current (s : State) (n : Line) (h : (s.line n).sched.current.isSome = true) :
    s.choose n = s := by
  have : s.freeToStart n = false := by
    simp [State.freeToStart, Option.isNone_eq_false_iff.mpr h]
  simp [State.choose, this]

/-- With nothing queued or stacked no copy starts (R129). -/
theorem State.choose_of_empty (s : State) (n : Line) (hq : (s.line n).sched.queue = [])
    (hs : (s.line n).sched.stack = []) : s.choose n = s := by
  simp [State.choose, hq, hs]

/-! ### Preemption and the look at a line (R128, R137, R138) -/

theorem State.beginInterruption_sendsOnly (s : State) (n : Line) : SendsOnly n s (s.beginInterruption n) :=
  (s.modSched_sendsOnly n _).trans <| (State.modTx_loadsOnly _ n none).sendsOnly.trans (State.serveLine_sendsOnly _ n)

theorem State.preemptTest_sendsOnly (s : State) (n : Line) : SendsOnly n s (s.preemptTest n) := by
  unfold State.preemptTest
  simp only
  split
  · exact .refl n s
  · split
    · split
      · exact s.beginInterruption_sendsOnly n
      · split
        · exact s.modSched_sendsOnly n _
        · exact .refl n s
    · exact .refl n s

theorem State.lookAgain_sendsOnly (s : State) (n : Line) : SendsOnly n s (s.lookAgain n) :=
  (s.preemptTest_sendsOnly n).trans (State.choose_sendsOnly _ n)

/-- A copy in TAIL is not preempted, and the line is not free to start (R129, R137). -/
theorem State.lookAgain_of_tail (s : State) (n : Line) (hc : (s.line n).sched.current.isSome = true)
    (hp : (s.line n).sched.phase = .tail) : s.lookAgain n = s := by
  obtain ⟨e, he⟩ := Option.isSome_iff_exists.mp hc
  have : s.preemptTest n = s := by simp [State.preemptTest, he, hp]
  rw [State.lookAgain, this, s.choose_of_current n hc]

/-- Line `n` answers an outstanding request of a current copy of record `r` (R135). -/
def State.answerText (s : State) (n : Line) (r : RecIx) : State :=
  match (s.line n).sched.current with
  | some e => if e.copy.record = r && (s.line n).sched.outstanding then s.serveLine n else s
  | none => s

/-- A line that is told of new text answers its request, then looks at what became ready (R128, R135). -/
theorem State.lineTextChanged_eq (s : State) (n : Line) (r : RecIx) (oldCount : Nat) (oldComplete : Bool) :
    s.lineTextChanged n r oldCount oldComplete =
      if ((s.answerText n r).line n).sched.queue.any ((s.answerText n r).newlyReady r oldCount oldComplete) then
        (s.answerText n r).lookAgain n
      else s.answerText n r := rfl

theorem State.answerText_loadsOnly (s : State) (n : Line) (r : RecIx) : LoadsOnly n s (s.answerText n r) := by
  unfold State.answerText
  split
  · split
    · exact s.serveLine_loadsOnly n
    · exact .refl n s
  · exact .refl n s

/-- An outstanding request of a copy of the record is answered (R135). -/
theorem State.answerText_of_outstanding (s : State) (n : Line) (e : QEntry)
    (hc : (s.line n).sched.current = some e) (ho : (s.line n).sched.outstanding = true) :
    s.answerText n e.copy.record = s.serveLine n := by
  simp [State.answerText, hc, ho]

theorem State.lineTextChanged_sendsOnly (s : State) (n : Line) (r : RecIx) (oldCount : Nat) (oldComplete : Bool) :
    SendsOnly n s (s.lineTextChanged n r oldCount oldComplete) := by
  rw [State.lineTextChanged_eq]
  have h := (s.answerText_loadsOnly n r).sendsOnly
  split
  · exact h.trans (State.lookAgain_sendsOnly _ n)
  · exact h

/-! ### The queue (R126, R140, R144) -/

theorem State.motorEnqueue_schedules (s : State) (n : Line) : Schedules n s (s.motorEnqueue n) :=
  s.modMotor_schedules n _

theorem State.motorEmpty_schedules (s : State) (n : Line) : Schedules n s (s.motorEmpty n) := by
  unfold State.motorEmpty
  split
  · exact s.modMotor_schedules n _
  · exact .refl n s

theorem State.enqueue_schedules (s : State) (n : Line) (ref : CopyRef) : Schedules n s (s.enqueue n ref) := by
  have h : Schedules n s (((s.modSched n fun sc => { sc with queue := s.insertEntry ⟨ref, s.lead n ref⟩ sc.queue }).setCopyState
      ref .queued).motorEnqueue n) :=
    (s.modSched_sendsOnly n _).toSchedules.trans <|
      (State.setCopyState_sendsOnly _ n ref _).toSchedules.trans (State.motorEnqueue_schedules _ n)
  unfold State.enqueue
  simp only
  split
  · exact h.trans (State.lookAgain_sendsOnly _ n).toSchedules
  · exact h.trans (State.choose_sendsOnly _ n).toSchedules

theorem State.clearCurrent_sendsOnly (s : State) (n : Line) : SendsOnly n s (s.clearCurrent n) :=
  (s.modSched_sendsOnly n _).trans (State.setTextCase_sendsOnly _ n none)

theorem State.putBack_schedules (s : State) (n : Line) : Schedules n s (s.putBack n) := by
  unfold State.putBack
  split
  · exact .refl n s
  · exact (s.clearCurrent_sendsOnly n).toSchedules.trans <| (State.modCopy_sendsOnly _ n _ _).toSchedules.trans <|
      (State.modSched_sendsOnly _ n _).toSchedules.trans <| (State.setCopyState_sendsOnly _ n _ _).toSchedules.trans
        (State.motorEnqueue_schedules _ n)

theorem State.putBack_of_none (s : State) (n : Line) (h : (s.line n).sched.current = none) : s.putBack n = s := by
  simp [State.putBack, h]

theorem State.pushCurrent_sendsOnly (s : State) (n : Line) (e : QEntry) : SendsOnly n s (s.pushCurrent n e) :=
  (s.modCopy_sendsOnly n e.copy _).trans <| (State.clearCurrent_sendsOnly _ n).trans <|
    (State.modSched_sendsOnly _ n _).trans (State.choose_sendsOnly _ n)

/-- A copy that joins the queue of a line in TAIL: only the queue and the motor differ on the line. -/
theorem State.enqueue_of_tail (s : State) (n : Line) (ref : CopyRef) (hc : (s.line n).sched.current.isSome = true)
    (hp : (s.line n).sched.phase = .tail) : ∃ q mo, (s.enqueue n ref).line n =
      { s.line n with motor := mo, sched := { (s.line n).sched with queue := q } } := by
  have hl : ∃ q mo, (((s.modSched n fun sc => { sc with queue := s.insertEntry ⟨ref, s.lead n ref⟩ sc.queue }).setCopyState
      ref .queued).motorEnqueue n).line n =
      { s.line n with motor := mo, sched := { (s.line n).sched with queue := q } } :=
    ⟨_, _, by simp [State.motorEnqueue]; exact ⟨rfl, rfl⟩⟩
  unfold State.enqueue
  simp only
  generalize ((s.modSched n fun sc => { sc with queue := s.insertEntry ⟨ref, s.lead n ref⟩ sc.queue }).setCopyState
      ref .queued).motorEnqueue n = u at hl ⊢
  obtain ⟨q, mo, e⟩ := hl
  split
  · rw [u.lookAgain_of_tail n (by rw [e]; exact hc) (by rw [e]; exact hp)]
    exact ⟨q, mo, e⟩
  · rw [u.choose_of_current n (by rw [e]; exact hc)]
    exact ⟨q, mo, e⟩

end Sys2Proof.Machine
end

section
namespace Sys2Proof.Machine

/-! ### The supervisor unit prints and takes notices -/

/-- Only the supervisor unit differs, with its queue, its lost-notice count, its shift stage and its line case as
they were. -/
structure PrintsOnly (s t : State) : Prop where
  card : OnlySup s t
  account : t.sup.account = s.sup.account
  shift : t.sup.tx.shift = s.sup.tx.shift
  lineCase : t.sup.tx.lineCase = s.sup.tx.lineCase

theorem OnlySup.trans {s t u : State} (h₁ : OnlySup s t) (h₂ : OnlySup t u) : OnlySup s u := by
  rw [OnlySup] at *
  rw [h₂, h₁]

theorem PrintsOnly.refl (s : State) : PrintsOnly s s := ⟨rfl, rfl, rfl, rfl⟩

theorem PrintsOnly.trans {s t u : State} (h₁ : PrintsOnly s t) (h₂ : PrintsOnly t u) : PrintsOnly s u :=
  ⟨h₁.card.trans h₂.card, h₂.account.trans h₁.account, h₂.shift.trans h₁.shift, h₂.lineCase.trans h₁.lineCase⟩

theorem State.modSup_printsOnly (s : State) (f : Supervisor → Supervisor) (ha : (f s.sup).account = s.sup.account)
    (hs : (f s.sup).tx.shift = s.sup.tx.shift) (hl : (f s.sup).tx.lineCase = s.sup.tx.lineCase) :
    PrintsOnly s (s.modSup f) := ⟨rfl, ha, hs, hl⟩

theorem State.supGoTail_printsOnly (s : State) (short : Bool) : PrintsOnly s (s.supGoTail short) :=
  s.modSup_printsOnly _ rfl rfl rfl

theorem State.supLoadComposed_printsOnly (s : State) : PrintsOnly s s.supLoadComposed := by
  unfold State.supLoadComposed
  split
  · exact s.modSup_printsOnly _ rfl rfl rfl
  · exact .refl s

theorem State.supLineLoaded_printsOnly (s : State) : PrintsOnly s s.supLineLoaded := by
  unfold State.supLineLoaded
  split
  · split
    · exact s.supGoTail_printsOnly true
    · exact s.modSup_printsOnly _ rfl rfl rfl
  · exact .refl s

theorem State.supServeLine_printsOnly (s : State) : PrintsOnly s s.supServeLine := by
  unfold State.supServeLine
  simp only
  split
  · exact s.supLoadComposed_printsOnly.trans (State.supLineLoaded_printsOnly _)
  · exact s.supLoadComposed_printsOnly

theorem State.supServeText_printsOnly (s : State) (ref : CopyRef) : PrintsOnly s (s.supServeText ref) := by
  unfold State.supServeText
  simp only
  split
  · exact s.modSup_printsOnly _ rfl rfl rfl
  · split
    · exact (s.supGoTail_printsOnly _).trans (State.supLoadComposed_printsOnly _)
    · exact s.modSup_printsOnly _ rfl rfl rfl

theorem State.supServe_printsOnly (s : State) : PrintsOnly s s.supServe := by
  unfold State.supServe
  split
  · exact .refl s
  · split
    · exact .refl s
    · exact s.supServeLine_printsOnly
    · split
      · exact s.supServeText_printsOnly _
      · exact .refl s
    · exact s.supLoadComposed_printsOnly

theorem State.beginPrint_printsOnly (s : State) : PrintsOnly s s.beginPrint := by
  unfold State.beginPrint
  split
  · exact (s.modSup_printsOnly _ rfl rfl rfl).trans (State.supServe_printsOnly _)
  · exact .refl s

theorem State.supTextChanged_printsOnly (s : State) (r : RecIx) : PrintsOnly s (s.supTextChanged r) := by
  unfold State.supTextChanged
  split
  · split
    · exact s.supServe_printsOnly
    · exact .refl s
  · exact .refl s

/-- A posting takes no place from the queue (R158). -/
theorem Supervisor.posted_length (u : Supervisor) (n : Notice) : u.queue.length ≤ (u.posted n).queue.length := by
  unfold Supervisor.posted
  repeat' split
  all_goals simp

/-- With no dead copy waiting for a free place, a posting moves the supervisor unit alone, its account as R158
says. -/
theorem State.post_of_served (s : State) (n : Notice) (h : DeadCopiesServed s) :
    OnlySup s (s.post n) ∧ (s.post n).sup.account = (s.sup.posted n).account ∧ DeadCopiesServed (s.post n) := by
  have hp := (s.modSup fun u => u.posted n).beginPrint_printsOnly
  have hq : (s.modSup fun u => u.posted n).beginPrint.sup.queue = (s.sup.posted n).queue :=
    congrArg Prod.fst hp.account
  have hd : DeadCopiesServed (s.modSup fun u => u.posted n).beginPrint := by
    have hr : (s.modSup fun u => u.posted n).beginPrint.router = s.router := by rw [hp.card]; rfl
    rcases h with h | h
    · exact .inl (hr ▸ h)
    · exact .inr (hq ▸ h.trans (s.sup.posted_length n))
  rw [State.post, State.handOver_of_served _ hd]
  exact ⟨OnlySup.trans (t := s.modSup fun u => u.posted n) rfl hp.card, hp.account, hd⟩

@[simp] theorem PrintsOnly.lines {s t : State} (h : PrintsOnly s t) : t.lines = s.lines := by rw [h.card]

@[simp] theorem State.beginPrint_lines (s : State) : s.beginPrint.lines = s.lines := s.beginPrint_printsOnly.lines

@[simp] theorem State.handOverMany_lines (s : State) (fuel : Nat) : (s.handOverMany fuel).lines = s.lines := by
  induction fuel generalizing s with
  | zero => rfl
  | succ k ih =>
    unfold State.handOverMany
    split
    · rfl
    · split
      · rfl
      · simp [ih]

@[simp] theorem State.post_lines (s : State) (n : Notice) : (s.post n).lines = s.lines := by
  simp [State.post, State.handOver]

theorem State.line_of_lines {s t : State} (h : t.lines = s.lines) (m : Line) : t.line m = s.line m := by
  rw [State.line, State.line, h]

@[simp] theorem State.post_line (s : State) (n : Notice) (m : Line) : (s.post n).line m = s.line m :=
  State.line_of_lines (s.post_lines n) m

@[simp] theorem State.post_mode (s : State) (n : Notice) (m : Line) : (s.post n).mode m = s.mode m := by
  have : (s.post n).boot = s.boot := congrArg Prod.fst (s.post_frame n)
  simp [State.mode, State.lineCfg, this]

/-! ### Offers and the wait for a context -/

/-- Only the highway port, the router's lists and records differ; the block pool and the free list do not. -/
def OffersOnly (s t : State) : Prop :=
  ∃ p q rs, t = { s with port := p, router := q, store := { s.store with records := rs } }

theorem OffersOnly.refl (s : State) : OffersOnly s s := ⟨_, _, _, rfl⟩

theorem OffersOnly.trans {s t u : State} (h₁ : OffersOnly s t) (h₂ : OffersOnly t u) : OffersOnly s u := by
  obtain ⟨_, _, _, rfl⟩ := h₁
  obtain ⟨p, q, rs, rfl⟩ := h₂
  exact ⟨p, q, rs, rfl⟩

theorem State.modPort_offersOnly (s : State) (f : Port → Port) : OffersOnly s (s.modPort f) := ⟨_, _, _, rfl⟩

theorem State.modRouter_offersOnly (s : State) (f : Router → Router) : OffersOnly s (s.modRouter f) := ⟨_, _, _, rfl⟩

theorem State.modCopy_offersOnly (s : State) (ref : CopyRef) (f : Copy → Copy) : OffersOnly s (s.modCopy ref f) :=
  ⟨_, _, _, rfl⟩

theorem State.refreshTenure_offersOnly (s : State) : OffersOnly s s.refreshTenure := by
  unfold State.refreshTenure
  split
  · exact s.modPort_offersOnly _
  · exact .refl s

theorem State.drive_offersOnly (s : State) (source : FrameSource) (byRound : Bool) :
    OffersOnly s (s.drive source byRound) := by
  unfold State.drive
  split
  · exact s.modPort_offersOnly _
  · exact .refl s

theorem State.askSend_offersOnly (s : State) (k : CtxIx) (kind : SendKind) : OffersOnly s (s.askSend k kind) := by
  have h : OffersOnly s (((s.deaden (.send k)).modSend k fun c =>
      { c with pending := some ⟨kind, s.port.stamp⟩ }).nextStamp).refreshTenure :=
    (s.modPort_offersOnly _).trans <| (State.modPort_offersOnly _ _).trans <|
      (State.modPort_offersOnly _ _).trans (State.refreshTenure_offersOnly _)
  unfold State.askSend
  simp only
  split
  · exact h.trans (State.drive_offersOnly _ _ _)
  · exact h

theorem State.giveSend_offersOnly (s : State) (k : CtxIx) (ref : CopyRef) : OffersOnly s (s.giveSend k ref) := by
  have h : ∀ u : State, OffersOnly u (u.askOffer k) := fun u => by
    unfold State.askOffer
    split
    · exact (u.modPort_offersOnly _).trans <| (State.modCopy_offersOnly _ _ _).trans (State.askSend_offersOnly _ _ _)
    · exact .refl u
  exact (s.modPort_offersOnly _).trans (h _)

theorem State.lookNext_offersOnly (s : State) (k : CtxIx) : OffersOnly s (s.lookNext k) := by
  unfold State.lookNext
  split
  · simp only
    split
    · exact .refl s
    · split
      · exact s.askSend_offersOnly _ _
      · split
        · exact s.askSend_offersOnly _ _
        · exact .refl s
  · exact .refl s

theorem State.sendsLook_offersOnly (s : State) (r : RecIx) (ks : List CtxIx) : OffersOnly s (s.sendsLook r ks) := by
  induction ks generalizing s with
  | nil => exact .refl s
  | cons k ks ih =>
    unfold State.sendsLook
    simp only
    split
    · exact (s.lookNext_offersOnly k).trans (ih _)
    · exact ih s

theorem State.waitForContext_offersOnly (s : State) (ref : CopyRef) : OffersOnly s (s.waitForContext ref) :=
  (s.modCopy_offersOnly ref _).trans (State.modRouter_offersOnly _ _)

theorem State.offerCopy_offersOnly (s : State) (ref : CopyRef) : OffersOnly s (s.offerCopy ref) := by
  unfold State.offerCopy
  split
  · split
    · exact (s.modCopy_offersOnly ref _).trans (State.giveSend_offersOnly _ _ _)
    · exact s.waitForContext_offersOnly ref
  · exact s.waitForContext_offersOnly ref

/-! ### Dispatch (R66, R67) -/

/-- A line unit that a dispatch may leave for another: only its sending side moves, and while a copy is in TAIL
there, only the queue and the motor. -/
def LineUnit.TakesCopies (l l' : LineUnit) : Prop :=
  l.SendsFrom l' ∧ (l.sched.current.isSome = true → l.sched.phase = .tail →
    ∃ q mo, l' = { l with motor := mo, sched := { l.sched with queue := q } })

/-- What a dispatch of copies may change: a line that cannot serve a copy stays as it is. -/
structure Dispatches (s t : State) : Prop where
  card : ∃ ls p q rs, t = { s with lines := ls, port := p, router := q, store := { s.store with records := rs } }
  line : ∀ m, (s.line m).TakesCopies (t.line m)
  barred : ∀ m, s.canSend m = false → t.line m = s.line m

theorem LineUnit.TakesCopies.refl (l : LineUnit) : l.TakesCopies l := ⟨.refl l, fun _ _ => ⟨_, _, rfl⟩⟩

theorem LineUnit.TakesCopies.trans {l l' l'' : LineUnit} (h₁ : l.TakesCopies l') (h₂ : l'.TakesCopies l'') :
    l.TakesCopies l'' := by
  refine ⟨h₁.1.trans h₂.1, fun hc hp => ?_⟩
  obtain ⟨_, _, rfl⟩ := h₁.2 hc hp
  obtain ⟨q, mo, rfl⟩ := h₂.2 hc hp
  exact ⟨q, mo, rfl⟩

/-- The send condition rests on the configuration and the line's conditions (R1). -/
theorem State.sendCond_congr {s t : State} {m : Line} (hb : t.boot = s.boot)
    (hi : (t.line m).condIn.value = (s.line m).condIn.value)
    (hs : (t.line m).condSense.value = (s.line m).condSense.value) : t.sendCond m = s.sendCond m := by
  unfold State.sendCond State.lineCfg
  rw [hb, hi, hs]

/-- Whether a line can serve a copy rests on the configuration and its conditions (R64). -/
theorem State.canSend_congr {s t : State} {m : Line} (hb : t.boot = s.boot) (hi : (t.line m).condIn = (s.line m).condIn)
    (hs : (t.line m).condSense = (s.line m).condSense) : t.canSend m = s.canSend m := by
  rw [State.canSend, State.canSend, State.sendCond_congr hb (hi ▸ rfl) (hs ▸ rfl)]

theorem Dispatches.boot {s t : State} (h : Dispatches s t) : t.boot = s.boot := by
  obtain ⟨_, _, _, _, e⟩ := h.card; rw [e]
theorem Dispatches.sup {s t : State} (h : Dispatches s t) : t.sup = s.sup := by
  obtain ⟨_, _, _, _, e⟩ := h.card; rw [e]
theorem Dispatches.pool {s t : State} (h : Dispatches s t) : t.store.pool = s.store.pool := by
  obtain ⟨_, _, _, _, e⟩ := h.card; rw [e]
theorem Dispatches.freeList {s t : State} (h : Dispatches s t) : t.store.freeList = s.store.freeList := by
  obtain ⟨_, _, _, _, e⟩ := h.card; rw [e]

theorem Dispatches.canSend {s t : State} (h : Dispatches s t) (m : Line) : t.canSend m = s.canSend m :=
  State.canSend_congr h.boot (h.line m).1.condIn (h.line m).1.condSense

theorem Dispatches.refl (s : State) : Dispatches s s := ⟨⟨_, _, _, _, rfl⟩, fun _ => .refl _, fun _ _ => rfl⟩

theorem Dispatches.trans {s t u : State} (h₁ : Dispatches s t) (h₂ : Dispatches t u) : Dispatches s u where
  card := by
    obtain ⟨_, _, _, _, e₁⟩ := h₁.card
    obtain ⟨ls, p, q, rs, e₂⟩ := h₂.card
    exact ⟨ls, p, q, rs, by rw [e₂, e₁]⟩
  line m := (h₁.line m).trans (h₂.line m)
  barred m hm := (h₂.barred m (by rw [h₁.canSend, hm])).trans (h₁.barred m hm)

theorem OffersOnly.dispatches {s t : State} (h : OffersOnly s t) : Dispatches s t := by
  obtain ⟨_, _, _, rfl⟩ := h
  exact ⟨⟨_, _, _, _, rfl⟩, fun _ => .refl _, fun _ _ => rfl⟩

theorem State.modCopy_dispatches (s : State) (ref : CopyRef) (f : Copy → Copy) : Dispatches s (s.modCopy ref f) :=
  (s.modCopy_offersOnly ref f).dispatches

theorem State.enqueue_dispatches (s : State) (n : Line) (ref : CopyRef) (hn : s.canSend n = true) :
    Dispatches s (s.enqueue n ref) := by
  have h := s.enqueue_schedules n ref
  obtain ⟨ls, rs, e⟩ := h.card
  refine ⟨⟨ls, _, _, rs, e⟩, fun m => ?_, fun m hm => h.others m ?_⟩
  · by_cases hm : m = n
    · subst hm; exact ⟨h.line, s.enqueue_of_tail m ref⟩
    · rw [h.others m hm]; exact .refl _
  · rintro rfl
    rw [hn] at hm
    cases hm

theorem State.bindLocal_dispatches (s : State) (n : Line) (ref : CopyRef) (hn : s.canSend n = true) :
    Dispatches s (s.bindLocal n ref) := by
  unfold State.bindLocal
  split
  · exact s.modCopy_dispatches ref _
  · exact (s.modCopy_dispatches ref _).trans (State.enqueue_dispatches _ n ref hn)

/-- A copy is bound only to a line that can serve it (R64, R65). -/
theorem State.canSend_of_dispatchLine {s : State} {ref : CopyRef} {n : Line} (h : s.dispatchLine ref = some n) :
    s.canSend n = true := by
  unfold State.dispatchLine State.interceptLine State.localLine at h
  split at h <;> split at h
  · split at h
    · rename_i hc; cases h; exact hc
    · cases h
  · cases h
  · split at h
    · rename_i hc; cases h; exact hc
    · cases h
  · cases h

theorem State.dispatchCopy_dispatches (s : State) (ref : CopyRef) : Dispatches s (s.dispatchCopy ref) := by
  have h : Dispatches s (s.startCounts ref) := s.modCopy_dispatches ref _
  unfold State.dispatchCopy
  simp only
  split
  · rename_i n hn
    exact h.trans (State.bindLocal_dispatches _ n ref (State.canSend_of_dispatchLine hn))
  · exact h.trans (State.offerCopy_offersOnly _ ref).dispatches

theorem State.dispatchAll_dispatches (s : State) (refs : List CopyRef) : Dispatches s (s.dispatchAll refs) := by
  induction refs generalizing s with
  | nil => exact .refl s
  | cons ref refs ih => exact (s.dispatchCopy_dispatches ref).trans (ih _)

theorem State.dispatchRecord_dispatches (s : State) (r : RecIx) : Dispatches s (s.dispatchRecord r) :=
  s.dispatchAll_dispatches _

theorem State.dispatchAtClose_dispatches (s : State) (r : RecIx) (filled : Bool) :
    Dispatches s (s.dispatchAtClose r filled) := by
  unfold State.dispatchAtClose
  split
  · exact s.dispatchRecord_dispatches r
  · exact .refl s

theorem State.release_dispatches (s : State) (refs : List CopyRef) : Dispatches s (s.release refs) := by
  induction refs generalizing s with
  | nil => exact .refl s
  | cons ref refs ih => exact (s.modCopy_dispatches ref _).trans (ih _)

theorem State.releaseAll_dispatches (s : State) (refs : List CopyRef) : Dispatches s (s.releaseAll refs) := by
  induction refs generalizing s with
  | nil => exact .refl s
  | cons ref refs ih =>
    exact ((s.release_dispatches _).trans (State.dispatchAll_dispatches _ _)).trans (ih _)

end Sys2Proof.Machine
end

section
namespace Sys2Proof.Machine

/-! ### The stages (R13, R14) -/

/-- A TEXT character that meets another line case waits for the shift of the text case (R14). -/
theorem Tx.begin_of_restore {t : Tx} {x : TxChar} {k : Case} (hx : t.holding = some x) (hr : x.role = .text)
    (hk : t.textCase = some k) (hne : k ≠ t.lineCase) :
    t.begin = { t with shift := some ⟨shiftCode k, .restore, 0, false⟩ } := by
  simp [Tx.begin, Tx.restoreFor, hx, hr, hk, hne]

/-- Any other held character goes to the shift stage at once (R13). -/
theorem Tx.begin_of_take {t : Tx} {x : TxChar} (hx : t.holding = some x)
    (h : x.role ≠ .text ∨ t.textCase = none ∨ t.textCase = some t.lineCase) :
    t.begin = { t with shift := some x, holding := none } := by
  have hn : t.restoreFor x = none := by
    unfold Tx.restoreFor
    split
    · rename_i k hr hk
      rcases h with h | h | h
      · exact absurd hr h
      · rw [h] at hk; cases hk
      · rw [h] at hk; cases hk; simp
    · rfl
  simp [Tx.begin, hx, hn]

/-- The two ways in which a held character meets the shift stage exclude each other and leave no third (R14). -/
theorem Tx.restore_or_take (t : Tx) (x : TxChar) :
    (∃ k, x.role = .text ∧ t.textCase = some k ∧ k ≠ t.lineCase) ∨
    (x.role ≠ .text ∨ t.textCase = none ∨ t.textCase = some t.lineCase) := by
  by_cases hr : x.role = .text
  · cases hk : t.textCase with
    | none => exact .inr (.inr (.inl rfl))
    | some k =>
      by_cases hne : k = t.lineCase
      · exact .inr (.inr (.inr (by rw [hne])))
      · exact .inl ⟨k, hr, rfl, hne⟩
  · exact .inr (.inl hr)

theorem shiftCode_eq (k : Case) : shiftCode k = if k = .letters then 31 else 27 := by cases k <;> rfl

/-- What the shift stage holds after it begins is taken from the holding stage (R13, R14). -/
theorem Tx.begin_takes {t : Tx} {x : TxChar} (hx : t.holding = some x) :
    ∃ y, t.begin.shift = some y ∧ TakenFrom t.textCase t.lineCase x y := by
  rcases t.restore_or_take x with ⟨k, hr, hk, hne⟩ | h
  · rw [Tx.begin_of_restore hx hr hk hne]
    refine ⟨_, rfl, fun k' _ hk' _ => ?_, fun h => ?_⟩
    · rw [hk] at hk'; cases hk'; rw [shiftCode_eq]
    · rcases h with h | h | h
      · exact absurd hr h
      · rw [hk] at h; cases h
      · rw [hk] at h; cases h; exact absurd rfl hne
  · rw [Tx.begin_of_take hx h]
    refine ⟨_, rfl, fun k hr hk hne => ?_, fun _ => rfl⟩
    rcases h with h | h | h
    · exact absurd hr h
    · rw [hk] at h; cases h
    · rw [hk] at h; cases h; exact absurd rfl hne

@[simp] theorem Tx.begin_textCase (t : Tx) : t.begin.textCase = t.textCase := by
  unfold Tx.begin; split
  · rfl
  · split <;> rfl

/-- The case a character leaves (R4, R14). -/
theorem shiftOf_getD (c : Code) (k : Case) : (shiftOf c).getD k = caseAfter c k := by
  unfold shiftOf caseAfter lettersShift figuresShift
  split
  · rfl
  · split <;> rfl

/-- The text case a character leaves (R14). -/
theorem Tx.textCaseAfter_eq (t : Tx) (x : TxChar) : t.textCaseAfter x = Machine.textCaseAfter x t.textCase := by
  unfold Tx.textCaseAfter Machine.textCaseAfter shiftOf lettersShift figuresShift
  by_cases hr : x.role = .text
  · simp only [hr, if_true, true_and]
    by_cases h31 : x.code = 31
    · simp only [if_pos h31]
    · by_cases h27 : x.code = 27
      · simp only [if_neg h31, if_pos h27]
      · simp only [if_neg h31, if_neg h27]
  · simp [hr]

/-- The transmitter at the stop of a character (R13, R14). -/
theorem Tx.finish_eq (t : Tx) (x : TxChar) :
    t.finish x = { t with shift := none, lineCase := caseAfter x.code t.lineCase,
                          textCase := Machine.textCaseAfter x t.textCase } := by
  rw [Tx.finish, shiftOf_getD, Tx.textCaseAfter_eq]

/-- Fill is no TEXT character and leaves the text case (R15). -/
theorem textCaseAfter_of_ne {x : TxChar} (h : x.role ≠ .text) (k : Option Case) : textCaseAfter x k = k := by
  simp [textCaseAfter, h]

@[simp] theorem State.modCond_lineCfg (s : State) (n : Line) (pin : LoopPin) (f : Cond → Cond) (m : Line) :
    (s.modCond n pin f).lineCfg m = s.lineCfg m := rfl

/-- The turnaround after it is looked at, as R149 gives it. -/
theorem Turnaround.review_eq (full : Nat) (run : Bool) : Turnaround.review full run = fun w =>
    { w with timer := if w.waiting = true ∧ run = true then some (w.timer.getD full) else none } := by
  funext w
  simp [Turnaround.review]

/-- The three conditions of the turnaround timer (R149). -/
theorem State.turnMayRun_iff (s : State) (n : Line) : s.turnMayRun n = true ↔
    (s.line n).condIn.value = .closed ∧ (s.line n).asm.state = .hunt ∧ (s.line n).loopIn = .marking := by
  simp [State.turnMayRun, and_assoc]

@[simp] theorem Cond.read_value (c : Cond) (level : Level) : (c.read level).value = c.value := by
  cases level <;> rfl

/-- The timers of a condition at a reading (R9). -/
theorem Cond.read_eq (c : Cond) (level : Level) : c.read level =
    { c with markingTimer := if level = .marking then some 200 else none
             spacingTimer := if level = .spacing then some 300 else none } := by
  cases level <;> rfl

/-! ### When a line may receive and send -/

theorem State.mayDrive_iff (s : State) (n : Line) : s.mayDrive n = true ↔ MayDrive s n := by
  simp [State.mayDrive, MayDrive, and_assoc]

theorem State.receiving_of_mayReceive {s : State} {n : Line} (h : MayReceive s n) : s.receiving n = true := by
  obtain ⟨hr, hm, hc, hs⟩ := h
  have hsus : s.suspended n = false := by
    unfold State.suspended
    by_cases hh : (s.lineCfg n).mode = .half
    · simp [hs hh]
    · simp [hh]
  have hrc : s.recvCond n = some .closed := by
    unfold State.recvCond
    cases hk : (s.lineCfg n).mode with
    | send => exact absurd hk hm
    | full | half | recv => simp [hc]
  simp [State.receiving, hr, hsus, hrc]

/-- What decides whether a line may drive (R13). -/
theorem State.mayDrive_congr {s t : State} {n : Line} (hb : t.boot = s.boot)
    (hi : (t.line n).condIn.value = (s.line n).condIn.value)
    (hs : (t.line n).condSense.value = (s.line n).condSense.value)
    (hm : (t.line n).motor.state = (s.line n).motor.state) : t.mayDrive n = s.mayDrive n := by
  rw [State.mayDrive, State.mayDrive, State.sendCond_congr hb hi hs, hm, State.running, State.running, hb]

@[simp] theorem State.suspendRx_line_same (s : State) (n : Line) :
    (s.suspendRx n).line n =
      { s.line n with rx := if s.mode n = .half then { (s.line n).rx with state := .waitMark } else (s.line n).rx } := by
  unfold State.suspendRx
  split
  · simp
  · rfl

@[simp] theorem State.beginHeld_line_same (s : State) (n : Line) :
    (s.beginHeld n).line n =
      { s.line n with
        tx := (s.line n).tx.begin
        rx := if s.mode n = .half then { (s.line n).rx with state := .waitMark } else (s.line n).rx } := by
  rw [State.beginHeld, State.suspendRx_line_same, State.modTx_line_same]
  rfl

@[simp] theorem State.beginFill_line_same (s : State) (n : Line) :
    (s.beginFill n).line n =
      { s.line n with
        tx := (s.line n).tx.beginFill
        rx := if s.mode n = .half then { (s.line n).rx with state := .waitMark } else (s.line n).rx } := by
  rw [State.beginFill, State.suspendRx_line_same, State.modTx_line_same]
  rfl

/-- A HALF line's receiver starts again (R8). -/
theorem State.resumeRx_line_same (s : State) (n : Line) :
    (s.resumeRx n).line n =
      { s.line n with
        rx := if s.mode n = .half then
            { state := if (s.line n).condIn.value = .closed then .huntStart else .waitMark
              case := (s.line n).tx.lineCase }
          else (s.line n).rx } := by
  unfold State.resumeRx
  split
  · rw [State.setRx_line_same, State.setRxCase_line_same]
  · rfl

end Sys2Proof.Machine
end

section
namespace Sys2Proof.Machine

/-- Settles O4: the pool is empty, every block stands once on the free list, and the lists are empty. -/
theorem resetMeetsTheInvariants : Obligations.ResetMeetsTheInvariants := by
  have hrec : ∀ r, State.reset.record r = Record.cleared 0 := fun r => by
    simp [State.record, State.reset, Store.initial]
  have hplaces : ∀ b, State.reset.store.places b = 1 := fun b => by
    have hfree : (List.finRange 192).count b = 1 :=
      List.count_eq_one_of_mem (List.nodup_finRange 192) (List.mem_finRange b)
    simp [Store.places, State.reset, Store.initial, hfree, Record.cleared]
  have hline : ∀ n, State.reset.line n = LineUnit.held .marking .marking := fun n => by
    simp [State.line, State.reset]
  refine ⟨State.reset_poolWf, ⟨hplaces, fun r _ => by rw [hrec]; rfl, Nat.zero_le _⟩, ?_, fun n => ?_, fun n => ?_,
    fun n => ?_⟩
  · exact ⟨by decide, .nil, by decide, .nil, by decide, by decide⟩
  · rw [hline]
    exact ⟨by decide, fun _ h => by cases h⟩
  · rw [hline]
    trivial
  · rw [hline]
    exact ⟨fun _ => rfl, fun pin h => by cases pin <;> cases h⟩

/-- Settles O21, by the rule of a reading on a kept condition. -/
theorem levelChangeRestartsTheTimers : Obligations.LevelChangeRestartsTheTimers := by
  intro n pin level s
  refine ⟨fun h => congrArg Host.Outcome.next (s.readPin_of_level n pin level h), fun h hr hk => ?_⟩
  have hkept : s.keeps n pin = true := by simp [State.keeps, hr, hk]
  refine ⟨s.readPin n pin level, rfl, s.readPin_onlyLine n pin level, ?_⟩
  have hcfg : ((s.setPin n pin level).modCond n pin fun c => c.read level).lineCfg n = s.lineCfg n := rfl
  rw [State.readPin_of_kept s n pin level h hkept, State.turnReview_line_same, hcfg]
  generalize (s.lineCfg n).turnaround * 1000 = full
  simp only [Turnaround.review_eq, State.turnMayRun_iff]
  cases pin with
  | loopIn =>
    refine ⟨by simp [LineUnit.level], by simp [LineUnit.cond, Cond.read_eq], fun other ho => ?_, by simp, by simp⟩
    cases other with
    | loopIn => exact absurd rfl ho
    | sense => simp [LineUnit.level, LineUnit.cond]
  | sense =>
    refine ⟨by simp [LineUnit.level], by simp [LineUnit.cond, Cond.read_eq], fun other ho => ?_, by simp, by simp⟩
    cases other with
    | loopIn => simp [LineUnit.level, LineUnit.cond]
    | sense => exact absurd rfl ho

/-- The idle shift stage takes its character and the next one is asked for (R12, R13). -/
theorem exec_shiftStageBegin {s : State} {n : Line} {x : TxChar} (hd : MayDrive s n)
    (hs : (s.line n).tx.shift = none) (hx : (s.line n).tx.holding = some x) :
    exec (.shiftStageBegin n) s = .next ((s.beginHeld n).serveLine n) := by
  have hb : s.mayBegin n = true := by simp [State.mayBegin, (s.mayDrive_iff n).mpr hd, hs, hx]
  exact congrArg Host.Outcome.next (if_pos hb)

/-- Settles O26, by the two ways in which the shift stage meets the held character. -/
theorem shiftStageTakesTheHeldCharacter : Obligations.ShiftStageTakesTheHeldCharacter := by
  intro n s x hd hs hx
  have hserve := (s.beginHeld n).serveLine_loadsOnly n
  refine ⟨_, exec_shiftStageBegin hd hs hx, (s.beginHeld_onlyLine n).trans hserve.onlyLine, ?_⟩
  have hrestore : ∀ k, x.role = .text → (s.line n).tx.textCase = some k → k ≠ (s.line n).tx.lineCase →
      (((s.beginHeld n).serveLine n).line n).tx.holding = some x ∧
        (((s.beginHeld n).serveLine n).line n).sched = (s.line n).sched := fun k hr hk hne => by
    have hh : ((s.beginHeld n).line n).tx.holding = some x := by
      simp [Tx.begin_of_restore hx hr hk hne, hx]
    rw [State.serveLine_of_holding _ n (by rw [hh]; rfl)]
    exact ⟨hh, by simp⟩
  have htake : (x.role ≠ .text ∨ (s.line n).tx.textCase = none ∨
      (s.line n).tx.textCase = some (s.line n).tx.lineCase) → (s.line n).sched.current = none →
      (((s.beginHeld n).serveLine n).line n).tx.holding = none := fun h hc => by
    rw [State.serveLine_of_none _ n (by simpa using hc)]
    simp [Tx.begin_of_take hx h]
  obtain ⟨sc, h, ht⟩ := hserve
  obtain ⟨y, hy, htaken⟩ := Tx.begin_takes hx
  rw [ht] at hrestore htake ⊢
  refine ⟨by simp [Tx.begin_lineCase], by simp, ⟨y, by simpa using hy, htaken⟩, hrestore, htake, ?_⟩
  simp

end Sys2Proof.Machine
end

section
namespace Sys2Proof.Machine

/-! ### Composed characters (R132, R161) -/

/-- A character that goes in either case is loaded as it stands (R132). -/
theorem loadComposed_of_any {c : Composed} (h : c.need = none) (ahead : Case) (rest : List Composed) :
    loadComposed ahead (c :: rest) = some (⟨c.code, .composed, 0, c.last⟩, rest) := by
  simp [loadComposed, h]

/-- A character whose case is the one ahead is loaded as it stands (R132). -/
theorem loadComposed_of_case {c : Composed} {k : Case} (h : c.need = some k) (rest : List Composed) :
    loadComposed k (c :: rest) = some (⟨c.code, .composed, 0, c.last⟩, rest) := by
  simp [loadComposed, h]

/-- A character that needs another case has the shift loaded first (R132). -/
theorem loadComposed_of_shift {c : Composed} {k ahead : Case} (h : c.need = some k) (hne : k ≠ ahead)
    (rest : List Composed) :
    loadComposed ahead (c :: rest) = some (⟨shiftCode k, .composed, 0, false⟩, c :: rest) := by
  simp [loadComposed, h, hne]

/-! ### The supervisor transmitter (R161, R162, R164) -/

@[simp] theorem State.modSupTx_sup (s : State) (f : Tx → Tx) : (s.modSupTx f).sup = { s.sup with tx := f s.sup.tx } := rfl

/-- A request in the LINE of an item, with more of the line to come after the character loaded (R161). -/
theorem State.supServe_of_line {s : State} {c : TxChar} {rest : List Composed} (hh : s.sup.tx.holding = none)
    (hp : s.sup.phase = .line) (hl : loadComposed s.sup.tx.caseAhead s.sup.composed = some (c, rest))
    (hr : rest ≠ []) :
    s.supServe = s.modSup fun u => { u with tx := u.tx.load c, composed := rest, outstanding := false } := by
  have hload : s.supLoadComposed =
      s.modSup fun u => { u with tx := u.tx.load c, composed := rest, outstanding := false } := by
    simp [State.supLoadComposed, hl]
  have hline : s.supServe = s.supServeLine := by simp [State.supServe, hh, hp]
  rw [hline, State.supServeLine, hload]
  simp [hr]

/-- What is held at a stop follows with no gap, or fill for a copy mid-text (R13, R15, R164). -/
theorem State.supFollows_held (s : State) : s.supFollows s.sup.tx.holding =
    if s.sup.tx.holding.isSome then s.modSupTx Tx.begin
    else if s.sup.midText then s.modSupTx Tx.beginFill else s := by
  simp [State.supFollows]

/-- The supervisor's shift stage after the stop of a character, and the request that comes with it: what was held,
or first its case restore, follows, and fill for a copy mid-text with nothing held (R13 to R15, R162, R164). -/
theorem State.supFollows_serve (s : State) :
    let t := (s.supFollows s.sup.tx.holding).supServe
    OnlySup s t ∧ t.sup.account = s.sup.account ∧ t.sup.tx.lineCase = s.sup.tx.lineCase ∧
    (∀ h, s.sup.tx.holding = some h →
      ∃ y, t.sup.tx.shift = some y ∧ TakenFrom s.sup.tx.textCase s.sup.tx.lineCase h y) ∧
    (s.sup.tx.holding = none → s.sup.midText = true → t.sup.tx.shift = some ⟨31, .fill, 0, false⟩) := by
  have hserve := (s.supFollows s.sup.tx.holding).supServe_printsOnly
  simp only
  rw [hserve.shift, hserve.account, hserve.lineCase]
  have honly : OnlySup s (s.supFollows s.sup.tx.holding) → OnlySup s (s.supFollows s.sup.tx.holding).supServe :=
    fun h => h.trans hserve.card
  cases hh : s.sup.tx.holding with
  | some h =>
    have hf : s.supFollows (some h) = s.modSupTx Tx.begin := by
      have := s.supFollows_held
      rwa [hh] at this
    rw [hh, hf] at honly
    rw [hf]
    refine ⟨honly rfl, rfl, Tx.begin_lineCase _, fun h' e => ?_, nofun⟩
    cases e
    exact Tx.begin_takes hh
  | none =>
    have hf : s.supFollows none = if s.sup.midText then s.modSupTx Tx.beginFill else s := by
      have := s.supFollows_held
      rwa [hh] at this
    rw [hh, hf] at honly
    rw [hf]
    cases hm : s.sup.midText with
    | true =>
      rw [hm] at honly
      exact ⟨honly rfl, rfl, rfl, nofun, fun _ _ => rfl⟩
    | false =>
      rw [hm] at honly
      exact ⟨honly rfl, rfl, rfl, nofun, nofun⟩

/-- The idle shift stage of the supervisor takes its character (R164). -/
theorem exec_supervisorShiftBegin {s : State} {x : TxChar} (hr : s.running = true) (hs : s.sup.tx.shift = none)
    (hx : s.sup.tx.holding = some x) :
    exec .supervisorShiftBegin s = .next (s.modSupTx Tx.begin).supServe :=
  congrArg Host.Outcome.next (if_pos (by simp [hr, hs, hx]))

/-- The stop of a supervisor character that does not end its item (R161, R164). -/
theorem exec_supervisorCharacterSent {s : State} {x : TxChar} (hr : s.running = true) (hs : s.sup.tx.shift = some x)
    (hf : x.role ≠ .fill) (hl : x.last = false) :
    exec .supervisorCharacterSent s =
      .next (((s.modSupTx fun t => t.finish x).supFollows s.sup.tx.holding).supServe) := by
  show Host.Outcome.next _ = _
  simp [hs, hr, hf, hl]

/-- The stop of a supervisor fill character (R162, R164). -/
theorem exec_supervisorFillSent {s : State} {x : TxChar} (hr : s.running = true) (hs : s.sup.tx.shift = some x)
    (hf : x.role = .fill) :
    exec .supervisorFillSent s =
      .next ((((s.modSupTx fun t => t.finish x).supCountFill).supFollows s.sup.tx.holding).supServe) := by
  show Host.Outcome.next _ = _
  simp [hs, hr, hf]

/-- The fill count as R15 and R162 give it. -/
theorem saturate_fillMax (n : Nat) : saturate Config.fillMax n = min 65535 (n + 1) := by
  by_cases h : n < 65535
  · rw [saturate, Config.fillMax, if_pos h]; omega
  · rw [saturate, Config.fillMax, if_neg h]; omega

/-- Settles O53: the three commands of the supervisor transmitter, by what follows a stop. -/
theorem supervisorSendsItsCharacters : Obligations.SupervisorSendsItsCharacters := by
  refine ⟨⟨fun s x hr hs hx => ?_, fun s x hr hs hf hl => ?_⟩, fun s x ref g rest c hr hs hf hq hd hp hc => ?_⟩
  · have hserve := (s.modSupTx Tx.begin).supServe_printsOnly
    refine ⟨_, exec_supervisorShiftBegin hr hs hx, OnlySup.trans (t := s.modSupTx Tx.begin) rfl hserve.card, ?_,
      hserve.account, hserve.lineCase.trans (Tx.begin_lineCase _), fun y rest hrole hline hco hrest hneed => ?_⟩
    · rw [hserve.shift]
      exact Tx.begin_takes hx
    · have hb : s.sup.tx.begin = { s.sup.tx with shift := some x, holding := none } :=
        Tx.begin_of_take hx (.inl hrole)
      have hload := loadComposed_of_any hneed (s.modSupTx Tx.begin).sup.tx.caseAhead rest
      rw [State.supServe_of_line (by simp [hb]) (by simpa using hline) (by simpa [hco] using hload) hrest]
      exact ⟨rfl, rfl⟩
  · obtain ⟨honly, hacc, hcase, hheld, hfill⟩ := (s.modSupTx fun t => t.finish x).supFollows_serve
    refine ⟨_, exec_supervisorCharacterSent hr hs hf hl, OnlySup.trans (t := s.modSupTx fun t => t.finish x) rfl honly,
      hacc, hcase.trans (by simp [Tx.finish_eq]), fun h hh => ?_, hfill⟩
    simpa [Tx.finish_eq] using hheld h hh
  · have hprint : (s.modSupTx fun t => t.finish x).sup.printing = some ref := by
      simp [Supervisor.printing, hq, hd, hp]
    have hcount : (s.modSupTx fun t => t.finish x).supCountFill =
        (s.modSupTx fun t => t.finish x).modCopy ref fun c => { c with fill := saturate Config.fillMax c.fill } := by
      unfold State.supCountFill
      rw [hprint]
    generalize hu : (s.modSupTx fun t => t.finish x).modCopy ref
      (fun c => { c with fill := saturate Config.fillMax c.fill }) = u at hcount
    have husup : u.sup = { s.sup with tx := s.sup.tx.finish x } := by rw [← hu]; rfl
    have hheldAt : u.sup.tx.holding = s.sup.tx.holding := by rw [husup]; rfl
    obtain ⟨honly, hacc, -, hheld, hfill⟩ := u.supFollows_serve
    rw [hheldAt] at honly hacc hheld hfill
    have hcopy : ∀ other, (u.supFollows s.sup.tx.holding).supServe.copy other = u.copy other := fun other => by
      rw [honly]; rfl
    refine ⟨_, exec_supervisorFillSent hr hs hf, ?_⟩
    rw [hcount]
    refine ⟨?_, fun other ho => ?_, ?_, fun hm hh => hfill hh (by rw [husup]; exact hm), fun h hh => ?_, ?_⟩
    · have hcu : CopyIs u ref { c with fill := saturate Config.fillMax c.fill } := hu ▸ CopyIs.modCopy hc _
      rw [hcopy, State.copyIs_copy hcu]
      exact saturate_fillMax c.fill
    · rw [hcopy, ← hu, State.modCopy_copy_ne _ _ _ _ ho]
      rfl
    · rw [hacc, husup]; rfl
    · have htext : x.role ≠ .text := by simp [hf]
      simpa [husup, Tx.finish_eq, textCaseAfter_of_ne htext] using hheld h hh
    · rw [honly, ← hu]
      exact ⟨rfl, rfl, rfl, rfl, rfl⟩

end Sys2Proof.Machine
end

section
namespace Sys2Proof.Machine

/-! ### The put-back (R126, R144) -/

/-- The class of an entry rests on its record's class alone. -/
theorem CopiesOnly.entryClass {s t : State} (h : CopiesOnly s t) (e : QEntry) : t.entryClass e = s.entryClass e := by
  obtain ⟨_, hr⟩ := h e.copy.record
  simp [State.entryClass, State.classOf, hr]

theorem State.insertBack_congr {s t : State} (h : ∀ e, t.entryClass e = s.entryClass e) (e : QEntry) (q : List QEntry) :
    t.insertBack e q = s.insertBack e q := by
  induction q with
  | nil => rfl
  | cons x xs ih => simp only [State.insertBack, h, ih]

/-- On a queue in class order a put-back stands where R126 says. -/
theorem State.insertBack_eq_queuePutBack (s : State) (e : QEntry) (q : List QEntry) (h : ClassOrdered s q) :
    s.insertBack e q = queuePutBack s e q := by
  induction q with
  | nil => rfl
  | cons x xs ih =>
    obtain ⟨hx, hxs⟩ := List.pairwise_cons.mp h
    by_cases hlt : s.entryClass e < s.entryClass x
    · simp [State.insertBack, queuePutBack, hlt, ih hxs, Nat.not_le.mpr hlt]
    · have hle : ∀ y ∈ x :: xs, s.entryClass y ≤ s.entryClass e := fun y hy => by
        rcases List.mem_cons.mp hy with rfl | hy
        · exact Nat.not_lt.mp hlt
        · exact (hx y hy).trans (Nat.not_lt.mp hlt)
      have hnone : (x :: xs).filter (fun y => s.entryClass e < s.entryClass y) = [] :=
        List.filter_eq_nil_iff.mpr fun y hy => by simpa using hle y hy
      have hall : (x :: xs).filter (fun y => s.entryClass y ≤ s.entryClass e) = x :: xs :=
        List.filter_eq_self.mpr fun y hy => by simpa using hle y hy
      rw [queuePutBack, hnone, hall, State.insertBack, if_neg hlt]
      rfl

/-- The copy a put-back leaves: QUEUED, without its resume point (R144). -/
theorem State.putBack_copyIs {s : State} {n : Line} {e : QEntry} {x : Copy}
    (he : (s.line n).sched.current = some e) (hx : CopyIs s e.copy x) (hs : x.state ≠ .settled) :
    CopyIs (s.putBack n) e.copy { x with state := .queued, resume := none } := by
  have h₁ : CopyIs ((s.clearCurrent n).modCopy e.copy fun c => { c with resume := none }) e.copy
      { x with resume := none } := CopyIs.modCopy (s := s.clearCurrent n) hx _
  simp only [State.putBack, he]
  refine CopyIs.setCopyState (s := State.modSched _ n _) (c := { x with resume := none }) ?_ hs .queued
  exact h₁

/-- The line that a put-back leaves: no current copy, which stands on the queue again, the stack as it was. -/
theorem State.putBack_line (s : State) (n : Line) : ∃ mo sc k,
    (s.putBack n).line n =
      { s.line n with motor := mo, sched := sc, tx := { (s.line n).tx with textCase := k } } ∧
    sc.current = none ∧ sc.stack = (s.line n).sched.stack ∧
    ((s.line n).sched.current = none → sc.queue = (s.line n).sched.queue) ∧
    ∀ e, (s.line n).sched.current = some e → sc.queue = s.insertBack e (s.line n).sched.queue := by
  cases hc : (s.line n).sched.current with
  | none =>
    rw [s.putBack_of_none n hc]
    exact ⟨_, _, _, rfl, hc, rfl, fun _ => rfl, nofun⟩
  | some e =>
    have hcls : ∀ y, ((s.clearCurrent n).modCopy e.copy fun c => { c with resume := none }).entryClass y =
        s.entryClass y :=
      ((s.clearCurrent_sendsOnly n).trans (State.modCopy_sendsOnly _ n _ _)).records.entryClass
    have hput : (s.putBack n).line n = { s.line n with
        motor := ((s.putBack n).line n).motor
        sched := { (s.line n).sched with
          current := none, phase := .head, composed := [], mark := false, outstanding := false, midText := false
          queue := s.insertBack e (s.line n).sched.queue }
        tx := { (s.line n).tx with textCase := none } } := by
      simp only [State.putBack, hc, State.insertBack_congr hcls]
      simp [State.motorEnqueue, State.clearCurrent]
    exact ⟨_, _, _, hput, rfl, rfl, nofun, fun e' h => by cases h; rfl⟩

/-! ### A condition that leaves CLOSED (R8, R9, R11, R16) -/

/-- The transmitter abandons both stages; a HALF line's receiver that was suspended starts again (R8, R16). -/
theorem State.abandonTx_line (s : State) (n : Line) : ∃ rx,
    (s.abandonTx n).line n =
      { s.line n with tx := { (s.line n).tx with shift := none, holding := none }, rx := rx } ∧
    ((s.line n).condIn.value ≠ .closed → (s.line n).rx.state = .waitMark → rx.state = .waitMark) ∧
    (s.mode n ≠ .half → rx = (s.line n).rx) := by
  have hmode : (s.modTx n fun t => { t with shift := none, holding := none }).mode n = s.mode n := rfl
  unfold State.abandonTx
  simp only
  split
  · rw [State.resumeRx_line_same, State.modTx_line_same, hmode]
    refine ⟨_, rfl, fun hv hw => ?_, fun hm => if_neg hm⟩
    by_cases hm : s.mode n = .half
    · simp [hm, hv]
    · simpa [hm] using hw
  · exact ⟨_, State.modTx_line_same s n _, fun _ h => h, fun _ => rfl⟩

/-- The send side of a line hears that its condition left CLOSED: both stages empty, the line case as it was, the
current copy put back (R16, R144). -/
theorem State.sendLost_line (s : State) (n : Line) : ∃ rx mo sc k,
    (s.sendLost n).line n = { s.line n with
      rx := rx, motor := mo, sched := sc
      tx := { (s.line n).tx with shift := none, holding := none, textCase := k } } ∧
    ((s.line n).condIn.value ≠ .closed → (s.line n).rx.state = .waitMark → rx.state = .waitMark) ∧
    (s.mode n ≠ .half → rx = (s.line n).rx) ∧
    sc.current = none ∧ sc.stack = (s.line n).sched.stack ∧
    ((s.line n).sched.current = none → sc.queue = (s.line n).sched.queue) ∧
    ∀ e, (s.line n).sched.current = some e → sc.queue = s.insertBack e (s.line n).sched.queue := by
  obtain ⟨rx, ha, hw, hm⟩ := s.abandonTx_line n
  obtain ⟨mo, sc, k, hp, hcur, hst, hq, hq'⟩ := (s.abandonTx n).putBack_line n
  have hcls : ∀ y, (s.abandonTx n).entryClass y = s.entryClass y := fun y => by
    simp only [State.entryClass, State.classOf, (s.abandonTx_onlyLine n).record]
  rw [ha] at hp hst hq hq'
  refine ⟨rx, mo, sc, k, hp, hw, hm, hcur, hst, hq, fun e he => ?_⟩
  rw [hq' e he, State.insertBack_congr hcls]

/-- Everything but line `n` and copies stays where a send side abandons. -/
theorem State.sendLost_others (s : State) (n : Line) :
    (∀ m, m ≠ n → (s.sendLost n).line m = s.line m) ∧ (s.sendLost n).boot = s.boot ∧ (s.sendLost n).sup = s.sup ∧
    (s.sendLost n).port = s.port ∧ (s.sendLost n).router = s.router ∧
    (s.sendLost n).store.freeList = s.store.freeList ∧ (s.sendLost n).store.pool = s.store.pool := by
  have ha := s.abandonTx_onlyLine n
  have hp := (s.abandonTx n).putBack_schedules n
  exact ⟨fun m hm => (hp.others m hm).trans (ha.2 m hm), hp.boot.trans ha.boot, hp.sup.trans ha.sup,
    hp.port.trans ha.port, hp.router.trans ha.router, hp.freeList.trans (by rw [ha.store]),
    hp.pool.trans (by rw [ha.store])⟩

/-- The copy that a send side abandons (R144). -/
theorem State.sendLost_copyIs {s : State} {n : Line} {e : QEntry} {x : Copy}
    (he : (s.line n).sched.current = some e) (hx : CopyIs s e.copy x) (hs : x.state ≠ .settled) :
    CopyIs (s.sendLost n) e.copy { x with state := .queued, resume := none } := by
  have ha := s.abandonTx_onlyLine n
  obtain ⟨rx, hl, -, -⟩ := s.abandonTx_line n
  refine State.putBack_copyIs (s := s.abandonTx n) (by rw [hl]; exact he) ?_ hs
  rw [CopyIs, ha.record]
  exact hx

/-- Between messages the assembler hears of OPEN by its opening count alone (R24). -/
theorem State.asmLineOpen_of_hunt {s : State} {n : Line} (h : (s.line n).asm.state = .hunt) :
    s.asmLineOpen n = s.modAsm n fun a => { a with openingCount := 0 } := by
  simp [State.asmLineOpen, h]

end Sys2Proof.Machine
end

section
namespace Sys2Proof.Machine

/-- A receive condition that leaves CLOSED between messages, on a line that does not send by it. -/
theorem State.receiveLost_of_hunt (s : State) (n : Line) (f : Cond → Cond) (h : (s.line n).asm.state = .hunt) :
    (s.modCond n .loopIn f).receiveLost n = s.modLine n fun l => { l with
      condIn := f l.condIn, rx := { l.rx with state := .waitMark }, asm := { l.asm with openingCount := 0 } } := by
  rw [State.receiveLost, State.asmLineOpen_of_hunt (by simpa using h)]
  simp only [State.modCond, State.setRx, State.modAsm, State.modLine_modLine]

/-- What the send side leaves on line `n` when its condition leaves CLOSED (R11, R16, R126, R144). -/
structure SendAbandoned (n : Line) (s t : State) : Prop where
  holding : (t.line n).tx.holding = none
  shift : (t.line n).tx.shift = none
  lineCase : (t.line n).tx.lineCase = (s.line n).tx.lineCase
  current : (t.line n).sched.current = none
  stack : (t.line n).sched.stack = (s.line n).sched.stack
  queue : (s.line n).sched.current = none → (t.line n).sched.queue = (s.line n).sched.queue
  putBack : ∀ e x, (s.line n).sched.current = some e → CopyIs s e.copy x → x.state ≠ .settled →
    CopyIs t e.copy { x with state := .queued, resume := none } ∧
      (ClassOrdered s (s.line n).sched.queue →
        (t.line n).sched.queue = queuePutBack s e (s.line n).sched.queue)

theorem State.sendLost_abandoned (s : State) (n : Line) : SendAbandoned n s (s.sendLost n) := by
  obtain ⟨rx, mo, sc, k, hl, -, -, hcur, hst, hq, hq'⟩ := s.sendLost_line n
  refine ⟨by rw [hl], by rw [hl], by rw [hl], by rw [hl]; exact hcur, by rw [hl]; exact hst,
    fun h => by rw [hl]; exact hq h, fun e x he hx hs => ⟨State.sendLost_copyIs he hx hs, fun ho => ?_⟩⟩
  rw [hl]
  exact (hq' e he).trans (s.insertBack_eq_queuePutBack e _ ho)

/-- The send side is abandoned alike whatever else of its line differs before and after. -/
theorem SendAbandoned.congr {n : Line} {s s' t t' : State} (h : SendAbandoned n s' t')
    (htx : (s'.line n).tx = (s.line n).tx) (hsc : (s'.line n).sched = (s.line n).sched)
    (hr : ∀ r, s'.record r = s.record r) (htx' : (t.line n).tx = (t'.line n).tx)
    (hsc' : (t.line n).sched = (t'.line n).sched) (hr' : ∀ r, t.record r = t'.record r) : SendAbandoned n s t := by
  have hcls : ∀ e, s'.entryClass e = s.entryClass e := fun e => by simp [State.entryClass, State.classOf, hr]
  refine ⟨htx' ▸ h.holding, htx' ▸ h.shift, by rw [htx', h.lineCase, htx], hsc' ▸ h.current,
    by rw [hsc', h.stack, hsc], fun hc => by rw [hsc', h.queue (hsc ▸ hc), hsc], fun e x he hx hs => ?_⟩
  obtain ⟨hcopy, hq⟩ := h.putBack e x (hsc ▸ he) (by rw [CopyIs, hr]; exact hx) hs
  refine ⟨by rw [CopyIs, hr']; exact hcopy, fun ho => ?_⟩
  rw [hsc', hq (by simpa only [ClassOrdered, hsc, hcls] using ho), hsc]
  simp only [queuePutBack, hcls]

/-- A kept condition takes its line from CLOSED to OPEN, here between messages on the receive side (R8, R9, R11,
R16, R24, R148). -/
theorem State.condOpens_line {s : State} {n : Line} {pin : LoopPin} (hk : keepsCond (s.mode n) pin = true)
    (hb : pin = .loopIn → BetweenMessages s n) :
    let t := s.condOpens n pin
    (t.line n).cond pin = { (s.line n).cond pin with value := .open, openTimer := some 60000 } ∧
    (t.line n).loopIn = (s.line n).loopIn ∧
    (pin = .loopIn → (t.line n).rx.state = .waitMark ∧ (t.line n).asm = { (s.line n).asm with openingCount := 0 }) ∧
    (pin = .sense → (t.line n).rx = (s.line n).rx ∧ (t.line n).asm = (s.line n).asm) ∧
    (sendSide (s.mode n) pin = true → SendAbandoned n s t) ∧
    (s.mode n = .half → (t.line n).turn = (s.line n).turn.map fun _ => { waiting := true, timer := none }) ∧
    (∀ m, m ≠ n → t.line m = s.line m) ∧ t.sup = s.sup ∧ t.port = s.port ∧
    t.store.freeList = s.store.freeList := by
  cases pin with
  | sense =>
    have hm : s.mode n ≠ .half := fun h => by rw [h] at hk; cases hk
    have hside : sendSide (s.mode n) .sense = true := hk
    generalize hu : s.modCond n .sense (fun c => { c with value := .open, openTimer := some Config.openTime }) = u
    have hul : u.line n = { s.line n with
        condSense := { (s.line n).condSense with value := .open, openTimer := some Config.openTime } } := by
      rw [← hu, State.modCond_line_sense]
    have hone : OnlyLine n s u := hu ▸ s.modCond_onlyLine n .sense _
    have ht : s.condOpens n .sense = u.sendLost n := by
      simp only [State.condOpens, hu, receiveSide, Bool.false_eq_true, if_false, if_pos hside, if_neg hm]
    obtain ⟨rx, mo, sc, k, hl, -, hrx, -⟩ := u.sendLost_line n
    obtain ⟨hoth, -, hsup, hport, -, hfree, -⟩ := u.sendLost_others n
    rw [ht]
    refine ⟨by rw [hl, hul]; rfl, by rw [hl, hul], nofun, fun _ => ?_, fun _ => ?_, fun h => absurd h hm,
      fun m hne => (hoth m hne).trans (hone.2 m hne), hsup.trans hone.sup, hport.trans hone.port,
      hfree.trans (by rw [hone.store])⟩
    · rw [hl, hrx (by rw [hone.mode]; exact hm), hul]
      exact ⟨rfl, rfl⟩
    · exact (u.sendLost_abandoned n).congr (by rw [hul]) (by rw [hul]) hone.record rfl rfl fun _ => rfl
  | loopIn =>
    generalize hu : (s.modCond n .loopIn fun c => { c with value := .open, openTimer := some Config.openTime }).receiveLost n = u
    have hu' := (State.receiveLost_of_hunt s n _ (hb rfl)).symm.trans hu
    have hul : u.line n = { s.line n with
        condIn := { (s.line n).condIn with value := .open, openTimer := some Config.openTime }
        rx := { (s.line n).rx with state := .waitMark }, asm := { (s.line n).asm with openingCount := 0 } } := by
      rw [← hu', State.modLine_line_same]
    have hone : OnlyLine n s u := hu' ▸ s.modLine_onlyLine n _
    by_cases hm : s.mode n = .half
    · have hside : sendSide (s.mode n) .loopIn = true := by simp [sendSide, hm]
      have ht : s.condOpens n .loopIn = (u.sendLost n).turnWait n := by
        simp only [State.condOpens, hu, receiveSide, if_true, if_pos hside, if_pos hm]
      obtain ⟨rx, mo, sc, k, hl, hrx, -⟩ := u.sendLost_line n
      obtain ⟨hoth, -, hsup, hport, -, hfree, -⟩ := u.sendLost_others n
      have hw : rx.state = .waitMark := hrx (by rw [hul]; exact nofun) (by rw [hul])
      rw [ht]
      refine ⟨?_, ?_, fun _ => ?_, nofun, fun _ => ?_, fun _ => ?_,
        fun m hne => ((State.turnWait_onlyLine _ n).2 m hne).trans ((hoth m hne).trans (hone.2 m hne)),
        hsup.trans hone.sup, hport.trans hone.port, Eq.trans (b := (u.sendLost n).store.freeList) rfl (hfree.trans (by rw [hone.store]))⟩
      · rw [State.turnWait_line_same, hl, hul]; rfl
      · rw [State.turnWait_line_same, hl, hul]
      · rw [State.turnWait_line_same, hl, hul]; exact ⟨hw, rfl⟩
      · exact (u.sendLost_abandoned n).congr (by rw [hul]) (by rw [hul]) hone.record
          (by rw [State.turnWait_line_same]) (by rw [State.turnWait_line_same]) fun _ => rfl
      · rw [State.turnWait_line_same, hl, hul]
    · have hside : sendSide (s.mode n) .loopIn ≠ true := by simpa [sendSide] using hm
      have ht : s.condOpens n .loopIn = u := by
        simp only [State.condOpens, hu, receiveSide, if_true, if_neg hside, if_neg hm]
      rw [ht]
      exact ⟨by rw [hul]; rfl, by rw [hul], fun _ => by rw [hul]; exact ⟨rfl, rfl⟩, nofun, fun h => absurd h hside,
        fun h => absurd h hm, hone.2, hone.sup, hone.port, by rw [hone.store]⟩

end Sys2Proof.Machine
end

section
namespace Sys2Proof.Machine

theorem exec_spacingTimerExpiry {s : State} {n : Line} {pin : LoopPin} (hr : s.running = true)
    (hk : keepsCond (s.mode n) pin = true) (ht : ((s.line n).cond pin).spacingTimer ≠ none)
    (hc : ((s.line n).cond pin).value = .closed) :
    exec (.spacingTimerExpiry n pin) s = .next ((s.spacingEnds n pin).condOpens n pin) := by
  have hg : (s.keeps n pin && (s.cond n pin).spacingTimer.isSome) = true := by
    simp [State.keeps, hr, hk, State.cond, Option.isSome_iff_ne_none, ht]
  exact congrArg Host.Outcome.next ((if_pos hg).trans (if_pos hc))

theorem exec_breakHeard {s : State} {n : Line} {unit : Fin 6} {x : TxChar} (hr : s.running = true)
    (hm : s.mode n = .half) (hs : (s.line n).tx.shift = some x)
    (hu : unit.val = 5 ∨ x.code.getLsbD unit.val = true) (hc : (s.line n).condIn.value = .closed) :
    exec (.breakHeard n unit) s = .next ((s.readPin n .loopIn .spacing).condOpens n .loopIn) := by
  have hd : drivesMarking x unit = true := by
    unfold drivesMarking
    split
    · rfl
    · rename_i h; exact hu.resolve_left h
  exact congrArg Host.Outcome.next (if_pos (by simp [State.comparesEcho, hr, hm, hs, hc, hd]))

/-- State `v` stands between the reading or expiry that command `c` brings and the opening of the condition: only
timers and the input have moved. -/
structure OpensFrom (c : Instr) (n : Line) (pin : LoopPin) (s v : State) : Prop where
  exec : exec c s = .next (v.condOpens n pin)
  only : OnlyLine n s v
  kept : keepsCond (s.mode n) pin = true
  rx : (v.line n).rx = (s.line n).rx
  asm : (v.line n).asm = (s.line n).asm
  tx : (v.line n).tx = (s.line n).tx
  sched : (v.line n).sched = (s.line n).sched
  turn : ∀ k : Turnaround, (v.line n).turn.map (fun _ => k) = (s.line n).turn.map fun _ => k
  expired : c = .spacingTimerExpiry n pin → ((v.line n).cond pin).spacingTimer = none
  read : c ≠ .spacingTimerExpiry n pin → (v.line n).loopIn = .spacing ∧
    ((v.line n).cond pin).spacingTimer =
      if (s.line n).loopIn = .spacing then ((s.line n).cond pin).spacingTimer else some 300

/-- The spacing timer's expiry leaves all but that timer to the opening (R9). -/
theorem State.opensFrom_spacingEnds {s : State} {n : Line} {pin : LoopPin} (hr : s.running = true)
    (hk : keepsCond (s.mode n) pin = true) (ht : ((s.line n).cond pin).spacingTimer ≠ none)
    (hv : ((s.line n).cond pin).value = .closed) :
    OpensFrom (.spacingTimerExpiry n pin) n pin s (s.spacingEnds n pin) := by
  cases pin <;>
    exact ⟨exec_spacingTimerExpiry hr hk ht hv, s.modCond_onlyLine n _ _, hk, by simp [State.spacingEnds],
      by simp [State.spacingEnds], by simp [State.spacingEnds], by simp [State.spacingEnds],
      by simp [State.spacingEnds], fun _ => by simp [State.spacingEnds, LineUnit.cond], absurd rfl⟩

/-- A break is a reading of spacing, after which the condition opens (R17, log 7). -/
theorem State.opensFrom_break {s : State} {n : Line} {unit : Fin 6} {x : TxChar} (hr : s.running = true)
    (hm : s.mode n = .half) (hs : (s.line n).tx.shift = some x)
    (hu : unit.val = 5 ∨ x.code.getLsbD unit.val = true) (hv : (s.line n).condIn.value = .closed) :
    OpensFrom (.breakHeard n unit) n .loopIn s (s.readPin n .loopIn .spacing) := by
  obtain ⟨c, w, hl, -, hw⟩ := s.readPin_loopIn_line n .spacing
  have htimer : ((s.readPin n .loopIn .spacing).line n).condIn.spacingTimer =
      if (s.line n).loopIn = .spacing then (s.line n).condIn.spacingTimer else some 300 := by
    by_cases h : (s.line n).loopIn = .spacing
    · rw [s.readPin_of_level n .loopIn .spacing h, if_pos h]
    · have hkept : s.keeps n .loopIn = true := by simp [State.keeps, hr, hm, keepsCond]
      rw [s.readPin_of_kept n .loopIn .spacing h hkept, State.turnReview_line_same, if_neg h]
      simp [Cond.read_eq]
  exact ⟨exec_breakHeard hr hm hs hu hv, s.readPin_onlyLine n _ _, by simp [hm, keepsCond], by rw [hl], by rw [hl],
    by rw [hl], by rw [hl], by rw [hl]; exact hw, nofun, fun _ => ⟨by rw [hl], htimer⟩⟩

/-- Settles O22: both commands only move timers and the input before the condition opens. -/
theorem spacingOrBreakOpensTheCondition : Obligations.SpacingOrBreakOpensTheCondition := by
  intro n pin s c hcmd hv hb
  obtain ⟨v, h⟩ : ∃ v, OpensFrom c n pin s v := by
    rcases hcmd with ⟨rfl, hr, hk, ht⟩ | ⟨unit, x, rfl, rfl, hr, hm, hs, hu⟩
    · exact ⟨_, State.opensFrom_spacingEnds hr hk ht hv⟩
    · exact ⟨_, State.opensFrom_break hr hm hs hu hv⟩
  have hmode := h.only.mode n
  obtain ⟨hcond, hloop, hrecv, hsense, hsend, hhalf, hoth, hsup, hport, hfree⟩ :=
    State.condOpens_line (s := v) (n := n) (pin := pin) (by rw [hmode]; exact h.kept)
      (fun hp => by rw [BetweenMessages, h.asm]; exact hb hp)
  refine ⟨_, h.exec, by rw [hcond], by rw [hcond], fun hc => by rw [hcond]; exact h.expired hc,
    fun hc => ⟨hloop.trans (h.read hc).1, by rw [hcond]; exact (h.read hc).2⟩, fun hp => ?_, fun hp => ?_,
    fun hs => ?_, fun hm => ?_, fun m hm => (hoth m hm).trans (h.only.2 m hm), hsup.trans h.only.sup,
    hport.trans h.only.port, hfree.trans (by rw [h.only.store])⟩
  · rw [← h.asm]; exact hrecv hp
  · rw [← h.asm, ← h.rx]; exact hsense hp
  · have ha := (hsend (by rw [hmode]; exact hs)).congr h.tx h.sched h.only.record rfl rfl fun _ => rfl
    exact ⟨ha.holding, ha.shift, ha.lineCase, ha.current, ha.stack, ha.queue, ha.putBack⟩
  · rw [hhalf (by rw [hmode]; exact hm), h.turn]

end Sys2Proof.Machine
end

section
namespace Sys2Proof.Machine

theorem exec_markingTimerExpiry {s : State} {n : Line} {pin : LoopPin} (hr : s.running = true)
    (hk : keepsCond (s.mode n) pin = true) (ht : ((s.line n).cond pin).markingTimer ≠ none)
    (hc : ((s.line n).cond pin).value ≠ .closed) :
    exec (.markingTimerExpiry n pin) s = .next (s.condCloses n pin) := by
  have hg : (s.keeps n pin && (s.cond n pin).markingTimer.isSome) = true := by
    simp [State.keeps, hr, hk, State.cond, Option.isSome_iff_ne_none, ht]
  exact congrArg Host.Outcome.next ((if_pos hg).trans (if_neg hc))

/-- The name a notice gives a kept condition (R155). -/
theorem condName_eq (m : Mode) (pin : LoopPin) : condName m pin =
    if pin = .sense then .send else if m = .half then .shared else .receive := by
  cases pin <;> rfl

/-- The line and its notice when a condition becomes CLOSED, before its send side looks for a copy (R8, R9, R155). -/
def State.closed (s : State) (n : Line) (pin : LoopPin) : State :=
  let s1 := s.modCond n pin fun c => { c with value := .closed, markingTimer := none, openTimer := none }
  let s2 := if receiveSide pin then s1.setRx n .waitMark else s1
  if (s.cond n pin).value = .failed then s2.post (.lineRestored n (condName (s.mode n) pin)) else s2

theorem State.condCloses_eq (s : State) (n : Line) (pin : LoopPin) : s.condCloses n pin =
    if sendSide (s.mode n) pin then ((s.closed n pin).turnReview n).choose n else s.closed n pin := rfl

theorem State.closed_spec (s : State) (n : Line) (pin : LoopPin) (hd : DeadCopiesServed s) :
    let t := s.closed n pin
    (t.line n).cond pin =
      { (s.line n).cond pin with value := .closed, markingTimer := none, openTimer := none } ∧
    (t.line n).rx = (if pin = .loopIn then { (s.line n).rx with state := .waitMark } else (s.line n).rx) ∧
    (t.line n).asm = (s.line n).asm ∧ (t.line n).motor = (s.line n).motor ∧ (t.line n).sched = (s.line n).sched ∧
    (t.line n).tx = (s.line n).tx ∧ (t.line n).turn = (s.line n).turn ∧
    (∀ m, m ≠ n → t.line m = s.line m) ∧ t.port = s.port ∧ t.router = s.router ∧ t.store = s.store ∧
    t.boot = s.boot ∧
    (((s.line n).cond pin).value = .failed →
      t.sup.account = (s.sup.posted (.lineRestored n (condName (s.mode n) pin))).account) ∧
    (((s.line n).cond pin).value ≠ .failed → t.sup = s.sup) := by
  generalize hu : (if receiveSide pin then
      (s.modCond n pin fun c => { c with value := .closed, markingTimer := none, openTimer := none }).setRx n .waitMark
    else s.modCond n pin fun c => { c with value := .closed, markingTimer := none, openTimer := none }) = u
  have hone : OnlyLine n s u := by
    cases pin with
    | loopIn => rw [← hu]; exact (s.modCond_onlyLine n _ _).trans (State.setRx_onlyLine _ n _)
    | sense => rw [← hu, if_neg (by decide)]; exact s.modCond_onlyLine n _ _
  have hcond : (u.line n).cond pin =
      { (s.line n).cond pin with value := .closed, markingTimer := none, openTimer := none } := by
    cases pin <;> simp [← hu, receiveSide, LineUnit.cond]
  have hrx : (u.line n).rx = (if pin = .loopIn then { (s.line n).rx with state := .waitMark } else (s.line n).rx) := by
    cases pin <;> simp [← hu, receiveSide]
  have hrest : (u.line n).asm = (s.line n).asm ∧ (u.line n).motor = (s.line n).motor ∧
      (u.line n).sched = (s.line n).sched ∧ (u.line n).tx = (s.line n).tx ∧ (u.line n).turn = (s.line n).turn := by
    cases pin <;> simp [← hu, receiveSide]
  obtain ⟨hasm, hmotor, hsched, htx, hturn⟩ := hrest
  have hdu : DeadCopiesServed u := by rwa [DeadCopiesServed, hone.router, hone.sup]
  obtain ⟨hsup, hacc, -⟩ := u.post_of_served (.lineRestored n (condName (s.mode n) pin)) hdu
  rw [hone.sup] at hacc
  have ht : s.closed n pin = if (s.cond n pin).value = .failed then
      u.post (.lineRestored n (condName (s.mode n) pin)) else u := by rw [← hu]; rfl
  simp only
  rw [ht]
  by_cases hf : (s.cond n pin).value = .failed
  · rw [if_pos hf, State.post_line]
    refine ⟨hcond, hrx, hasm, hmotor, hsched, htx, hturn, fun m hm => ?_, ?_, ?_, ?_, ?_, fun _ => hacc, absurd hf⟩
    · rw [State.post_line]; exact hone.2 m hm
    · rw [hsup]; exact hone.port
    · rw [hsup]; exact hone.router
    · rw [hsup]; exact hone.store
    · rw [hsup]; exact hone.boot
  · rw [if_neg hf]
    exact ⟨hcond, hrx, hasm, hmotor, hsched, htx, hturn, hone.2, hone.port, hone.router, hone.store, hone.boot,
      fun h => absurd h hf, fun _ => hone.sup⟩

/-- Settles O23: after the line and its notice only the send side moves, by the choice of R129. -/
theorem markingClosesTheCondition : Obligations.MarkingClosesTheCondition := by
  intro n pin s hr hk ht hv hd
  obtain ⟨hcond, hrx, hasm, hmotor, -, -, -, hoth, hport, hrouter, hstore, -, hfailed, hopen⟩ := s.closed_spec n pin hd
  rw [condName_eq] at hfailed
  refine ⟨_, exec_markingTimerExpiry hr hk ht hv, ?_⟩
  rw [State.condCloses_eq]
  split
  · have hreview := State.turnReview_line_same (s.closed n pin) n
    have hone := State.turnReview_onlyLine (s.closed n pin) n
    have hch := State.choose_sendsOnly ((s.closed n pin).turnReview n) n
    have hcond' : (((s.closed n pin).turnReview n).line n).cond pin = ((s.closed n pin).line n).cond pin := by
      rw [hreview]; cases pin <;> rfl
    refine ⟨(hch.line.cond pin).trans (hcond'.trans hcond), fun hp => ?_, fun hp => ?_, ?_, ?_,
      fun m hm => (hch.others m hm).trans ((hone.2 m hm).trans (hoth m hm)), hch.port.trans hport,
      hch.router.trans hrouter, hch.pool.trans (congrArg Store.pool hstore),
      hch.freeList.trans (congrArg Store.freeList hstore), fun h => ?_, fun h => ?_⟩
    · rw [hch.line.rx, hreview, hrx, if_pos hp]
    · rw [hch.line.rx, hreview, hrx, if_neg (by rw [hp]; nofun)]
    · rw [hch.line.asm, hreview]; exact hasm
    · rw [hch.motor, hreview]; exact hmotor
    · rw [hch.sup]; exact hfailed h
    · rw [hch.sup]; exact hopen (by rw [h]; nofun)
  · refine ⟨hcond, fun hp => ?_, fun hp => ?_, hasm, hmotor, hoth, hport, hrouter, congrArg Store.pool hstore,
      congrArg Store.freeList hstore, hfailed, fun h => hopen (by rw [h]; nofun)⟩
    · rw [hrx, if_pos hp]
    · rw [hrx, if_neg (by rw [hp]; nofun)]

end Sys2Proof.Machine
end

section
namespace Sys2Proof.Machine

theorem exec_openTimerExpiry {s : State} {n : Line} {pin : LoopPin} (hr : s.running = true)
    (hk : keepsCond (s.mode n) pin = true) (ht : ((s.line n).cond pin).openTimer ≠ none)
    (hv : ((s.line n).cond pin).value = .open) :
    exec (.openTimerExpiry n pin) s = .next (s.condFails n pin) := by
  refine congrArg Host.Outcome.next (if_pos ?_)
  simp [State.keeps, hr, hk, State.cond, Option.isSome_iff_ne_none, ht, hv]

/-! ### The line-failure path (R151) -/

/-- A line whose send condition is FAILED serves no copy (R64). -/
theorem State.canSend_of_failed {s : State} {n : Line} {pin : LoopPin} (hs : sendSide (s.mode n) pin = true)
    (hv : ((s.line n).cond pin).value = .failed) : s.canSend n = false := by
  have hc : s.sendCond n = some .failed := by
    unfold State.sendCond
    cases pin with
    | loopIn =>
      have hm : (s.lineCfg n).mode = .half := show s.mode n = .half by simpa [sendSide] using hs
      rw [hm]; exact congrArg some hv
    | sense =>
      have hm : (s.lineCfg n).mode = .full ∨ (s.lineCfg n).mode = .send :=
        show s.mode n = .full ∨ s.mode n = .send by simpa [sendSide] using hs
      rcases hm with hm | hm <;> (rw [hm]; exact congrArg some hv)
  simp [State.canSend, hc]

/-- Entries parted by class, each in one part. -/
theorem State.length_byClass (s : State) (q : List QEntry) :
    (q.filter fun e => s.classOf e.copy = .order).length + (q.filter fun e => s.classOf e.copy = .running).length +
      (q.filter fun e => s.classOf e.copy = .general).length + (q.filter fun e => s.classOf e.copy = .bulk).length =
    q.length := by
  induction q with
  | nil => rfl
  | cons e q ih => cases hc : s.classOf e.copy <;> simp [hc] <;> omega

/-- The copies collected are those of the stack and the queue (R151). -/
theorem State.collected_length (s : State) (n : Line) :
    (s.collected n).length = (s.line n).sched.stack.length + (s.line n).sched.queue.length := by
  have hs := s.length_byClass (s.line n).sched.stack
  have hq := s.length_byClass (s.line n).sched.queue
  simp [State.collected]
  omega

/-- The receiving side of a line rests on what its sending side leaves. -/
theorem LineUnit.SendsFrom.inputs {s t : State} {m : Line} (h : (s.line m).SendsFrom (t.line m)) :
    t.inputs m = s.inputs m := by
  obtain ⟨_, _, _, _, e⟩ := h
  simp only [State.inputs, e]

/-- The line that fails: motor STOPPED, nothing queued or stacked, no mark (R21, R151). The copies that are
released go to no line that is FAILED. -/
theorem State.lineFails_line {s : State} {n : Line} {pin : LoopPin} (hc : s.canSend n = false) :
    (s.lineFails n pin).line n = { s.line n with
      motor := Motor.atRest, sched := { (s.line n).sched with queue := [], stack := [], mark := false } } := by
  generalize hu : (((s.modMotor n fun _ => Motor.atRest).modSched n fun sc =>
    { sc with queue := [], stack := [], mark := false }).post
      (.lineFailed n (condName (s.mode n) pin) (s.collected n).length)) = u
  have hul : u.line n = { s.line n with
      motor := Motor.atRest, sched := { (s.line n).sched with queue := [], stack := [], mark := false } } := by
    rw [← hu]; simp
  have hub : u.boot = s.boot := by rw [← hu]; exact congrArg Prod.fst (State.post_frame _ _)
  have hcu : u.canSend n = false := by
    rw [State.canSend_congr hub (by rw [hul]) (by rw [hul]), hc]
  have ht : s.lineFails n pin = u.releaseAll (s.collected n) := by rw [← hu]; rfl
  rw [ht, (u.releaseAll_dispatches _).barred n hcu, hul]

/-- With no dead copy waiting for a free place, the failure posts its notice and leaves every line's receiving side,
the pool and the free list (R151, R155). -/
theorem State.lineFails_rest {s : State} {n : Line} {pin : LoopPin} (hd : DeadCopiesServed s) :
    (∀ m, (s.lineFails n pin).inputs m = s.inputs m) ∧ (s.lineFails n pin).store.pool = s.store.pool ∧
    (s.lineFails n pin).store.freeList = s.store.freeList ∧
    (s.lineFails n pin).sup.account = (s.sup.posted (.lineFailed n (condName (s.mode n) pin)
      ((s.line n).sched.stack.length + (s.line n).sched.queue.length))).account := by
  generalize hw : ((s.modMotor n fun _ => Motor.atRest).modSched n fun sc =>
    { sc with queue := [], stack := [], mark := false }) = w
  have hsched : Schedules n s w := hw ▸ (s.modMotor_schedules n _).trans (State.modSched_sendsOnly _ n _).toSchedules
  have hdw : DeadCopiesServed w := by rwa [DeadCopiesServed, hsched.router, hsched.sup]
  obtain ⟨hsup, hacc, -⟩ := w.post_of_served (.lineFailed n (condName (s.mode n) pin) (s.collected n).length) hdw
  have hdisp := (w.post (.lineFailed n (condName (s.mode n) pin) (s.collected n).length)).releaseAll_dispatches
    (s.collected n)
  have ht : s.lineFails n pin =
      (w.post (.lineFailed n (condName (s.mode n) pin) (s.collected n).length)).releaseAll (s.collected n) := by
    rw [← hw]; rfl
  rw [ht]
  refine ⟨fun m => ?_, ?_, ?_, ?_⟩
  · rw [(hdisp.line m).1.inputs, State.post_inputs, (hsched.lines m).inputs]
  · rw [hdisp.pool, hsup]; exact hsched.pool
  · rw [hdisp.freeList, hsup]; exact hsched.freeList
  · rw [hdisp.sup, hacc, s.collected_length, hsched.sup]

/-! ### The three ways to FAILED (R9, R11, R37) -/

/-- A message in progress is closed when its line opens or fails: the assembler is in HUNT (R37, R38). -/
theorem State.asmLineOpen_of_message {s : State} {n : Line} {r : RecIx}
    (hs : (s.line n).asm.state = .heading ∨ (s.line n).asm.state = .text) (hr : (s.line n).asm.record = some r) :
    s.asmLineOpen n = s.closeTruncated n r .lineOpen := by
  rcases hs with hs | hs <;> simp [State.asmLineOpen, hs, hr]

/-- The assembler that returned to HUNT (R35, R38, R39). -/
theorem State.returnToHunt_line (s : State) (n : Line) : ∃ w, (s.returnToHunt n).line n = { s.line n with
    asm := { (s.line n).asm with state := .hunt, openingCount := 0, closingCount := 0, silence := none, record := none }
    turn := w } := by
  rw [State.returnToHunt, State.turnReview_line_same, State.modAsm_line_same]
  exact ⟨_, rfl⟩

theorem State.closeTruncated_asm (s : State) (n : Line) (r : RecIx) (cause : TruncateCause) :
    ((s.closeTruncated n r cause).line n).asm.state = .hunt ∧
    ((s.closeTruncated n r cause).line n).asm.record = none := by
  have hunt : ∀ u : State, ((u.returnToHunt n).line n).asm.state = .hunt ∧
      ((u.returnToHunt n).line n).asm.record = none := fun u => by
    obtain ⟨w, h⟩ := u.returnToHunt_line n
    rw [h]
    exact ⟨rfl, rfl⟩
  unfold State.closeTruncated
  simp only
  split
  · exact hunt _
  · exact hunt _

/-- The condition at FAILED with what its receive side hears, before its send side hears of it. -/
def State.failing (s : State) (n : Line) (pin : LoopPin) : State :=
  let s1 := s.modCond n pin fun c => { c with value := .failed, openTimer := none }
  if receiveSide pin then s1.receiveLost n else s1

theorem State.condFails_eq (s : State) (n : Line) (pin : LoopPin) : s.condFails n pin =
    if sendSide (s.mode n) pin then ((s.failing n pin).sendLost n).lineFails n pin
    else (s.failing n pin).post (.lineFailed n (condName (s.mode n) pin) 0) := rfl

/-- Between messages only the condition, the receiver and the opening count have moved (R8, R9, R24). -/
theorem State.failing_of_hunt {s : State} {n : Line} {pin : LoopPin} (hb : pin = .loopIn → BetweenMessages s n) :
    let u := s.failing n pin
    OnlyLine n s u ∧ (u.line n).cond pin = { (s.line n).cond pin with value := .failed, openTimer := none } ∧
    (u.line n).sched = (s.line n).sched ∧ (u.line n).motor = (s.line n).motor ∧
    (pin = .loopIn → (u.line n).rx.state = .waitMark) := by
  cases pin with
  | loopIn =>
    have hu : s.failing n .loopIn = _ := State.receiveLost_of_hunt s n _ (hb rfl)
    simp only
    rw [hu]
    exact ⟨s.modLine_onlyLine n _, by simp [LineUnit.cond], by simp, by simp, fun _ => by simp⟩
  | sense =>
    have hu : s.failing n .sense = s.modCond n .sense fun c => { c with value := .failed, openTimer := none } := rfl
    simp only
    rw [hu]
    exact ⟨s.modCond_onlyLine n _ _, by simp [LineUnit.cond], by simp, by simp, nofun⟩

/-- A message in progress is closed: HUNT with no record, the condition FAILED, the receiver in WAIT_MARK (R37). -/
theorem State.failing_of_message {s : State} {n : Line} {r : RecIx}
    (hs : (s.line n).asm.state = .heading ∨ (s.line n).asm.state = .text) (hr : (s.line n).asm.record = some r) :
    let u := s.failing n .loopIn
    u.boot = s.boot ∧ (u.line n).condIn.value = .failed ∧ (u.line n).rx.state = .waitMark ∧
    (u.line n).asm.state = .hunt ∧ (u.line n).asm.record = none := by
  generalize hw : (s.modCond n .loopIn fun c => { c with value := .failed, openTimer := none }).setRx n .waitMark = w
  have hwl : w.line n = { s.line n with
      condIn := { (s.line n).condIn with value := .failed, openTimer := none }
      rx := { (s.line n).rx with state := .waitMark } } := by rw [← hw]; simp
  have hu : s.failing n .loopIn = w.closeTruncated n r .lineOpen := by
    rw [← State.asmLineOpen_of_message (s := w) (by rw [hwl]; exact hs) (by rw [hwl]; exact hr), ← hw]
    rfl
  have hloops := w.closeTruncated_loops n r .lineOpen n
  have hrx : ((w.closeTruncated n r .lineOpen).line n).rx = (w.line n).rx := congrArg (·.2.2.1) hloops
  have hcond : ((w.closeTruncated n r .lineOpen).line n).condIn = (w.line n).condIn := congrArg (·.2.2.2.1) hloops
  have hboot : (w.closeTruncated n r .lineOpen).boot = s.boot :=
    (congrArg Prod.fst (w.closeTruncated_frame n r .lineOpen)).trans (by rw [← hw]; rfl)
  simp only
  rw [hu]
  exact ⟨hboot, by rw [hcond, hwl], by rw [hrx, hwl], w.closeTruncated_asm n r .lineOpen⟩

/-- With no current copy the send side only empties its stages. -/
theorem State.sendLost_of_none {s : State} {n : Line} (h : (s.line n).sched.current = none) :
    s.sendLost n = s.abandonTx n := by
  obtain ⟨rx, hl, -⟩ := s.abandonTx_line n
  exact State.putBack_of_none _ n (by rw [hl]; exact h)

/-- A condition that only receives fails between messages: its notice is posted and no copy released (R9, R155). -/
theorem openTimer_fails_receiveSide {n : Line} {pin : LoopPin} {s : State} (hr : s.running = true)
    (hk : keepsCond (s.mode n) pin = true) (ht : ((s.line n).cond pin).openTimer ≠ none)
    (hv : ((s.line n).cond pin).value = .open)
    (hside : sendSide (s.mode n) pin = false) (hb : BetweenMessages s n) (hd : DeadCopiesServed s) :
    ∃ t, exec (.openTimerExpiry n pin) s = .next t ∧ ((t.line n).cond pin).value = .failed ∧
      ((t.line n).cond pin).openTimer = none ∧ (t.line n).rx.state = .waitMark ∧
      (t.line n).sched = (s.line n).sched ∧ (t.line n).motor = (s.line n).motor ∧
      (∀ m, m ≠ n → t.line m = s.line m) ∧ t.store = s.store ∧ t.port = s.port ∧
      t.sup.account = (s.sup.posted (.lineFailed n .receive 0)).account := by
  have hexec := exec_openTimerExpiry hr hk ht hv
  rw [State.condFails_eq] at hexec
  have hp : pin = .loopIn := by
    cases pin with
    | loopIn => rfl
    | sense => exact absurd (hside.symm.trans hk) nofun
  subst hp
  have hm : s.mode n ≠ .half := by simpa [sendSide] using hside
  obtain ⟨hone, hcond, hsched, hmotor, hrx⟩ := State.failing_of_hunt (pin := .loopIn) fun _ => hb
  obtain ⟨hsup, hacc, -⟩ := (s.failing n .loopIn).post_of_served (.lineFailed n (condName (s.mode n) .loopIn) 0)
    (by rwa [DeadCopiesServed, hone.router, hone.sup])
  rw [hone.sup, show condName (s.mode n) .loopIn = .receive from if_neg hm] at hacc
  rw [if_neg (by rw [hside]; nofun), show condName (s.mode n) .loopIn = .receive from if_neg hm] at hexec
  rw [show condName (s.mode n) .loopIn = .receive from if_neg hm] at hsup
  refine ⟨_, hexec, ?_, ?_, ?_, ?_, ?_, fun m hne => ?_, ?_, ?_, hacc⟩
  · rw [State.post_line, hcond]
  · rw [State.post_line, hcond]
  · rw [State.post_line]; exact hrx rfl
  · rw [State.post_line]; exact hsched
  · rw [State.post_line]; exact hmotor
  · rw [State.post_line]; exact hone.2 m hne
  · rw [hsup]; exact hone.store
  · rw [hsup]; exact hone.port

/-- A condition that sends fails with no copy going out: the motor stops, and the copies that stood on the queue and
the stack are released and counted in the notice (R21, R151, R155). -/
theorem openTimer_fails_sendSide {n : Line} {pin : LoopPin} {s : State} (hr : s.running = true)
    (hk : keepsCond (s.mode n) pin = true) (ht : ((s.line n).cond pin).openTimer ≠ none)
    (hv : ((s.line n).cond pin).value = .open)
    (hside : sendSide (s.mode n) pin = true) (hcur : (s.line n).sched.current = none)
    (hb : pin = .loopIn → BetweenMessages s n) (hd : DeadCopiesServed s) :
    ∃ t, exec (.openTimerExpiry n pin) s = .next t ∧ ((t.line n).cond pin).value = .failed ∧
      ((t.line n).cond pin).openTimer = none ∧
      (t.line n).motor = { state := .stopped, runUp := none, idleStop := none } ∧
      (t.line n).sched.queue = [] ∧ (t.line n).sched.stack = [] ∧
      (t.line n).sched.current = none ∧ (t.line n).sched.mark = false ∧
      (t.line n).sched.counter = (s.line n).sched.counter ∧
      t.store.pool = s.store.pool ∧ t.store.freeList = s.store.freeList ∧
      (∀ m, t.inputs m = s.inputs m ∨ m = n) ∧
      t.sup.account = (s.sup.posted (.lineFailed n (if pin = .sense then .send else .shared)
        ((s.line n).sched.stack.length + (s.line n).sched.queue.length))).account := by
  have hexec := exec_openTimerExpiry hr hk ht hv
  rw [State.condFails_eq] at hexec
  obtain ⟨hone, hcond, hsched, -, -⟩ := State.failing_of_hunt hb
  generalize s.failing n pin = u at *
  obtain ⟨rx, hl, -⟩ := u.abandonTx_line n
  have hab := u.abandonTx_onlyLine n
  rw [if_pos hside, State.sendLost_of_none (hsched ▸ hcur)] at hexec
  generalize u.abandonTx n = v at *
  have hmode : v.mode n = s.mode n := (hab.mode n).trans (hone.mode n)
  have hvcond : (v.line n).cond pin = (u.line n).cond pin := by rw [hl]; cases pin <;> rfl
  have hcan : v.canSend n = false := State.canSend_of_failed (by rw [hmode]; exact hside) (by rw [hvcond, hcond])
  obtain ⟨hin, hpool, hfree, hacc⟩ := State.lineFails_rest (s := v) (n := n) (pin := pin)
    (by rwa [DeadCopiesServed, hab.router, hab.sup, hone.router, hone.sup])
  have hname : condName (v.mode n) pin = if pin = .sense then .send else .shared := by
    rw [hmode, condName_eq]
    cases pin with
    | sense => rfl
    | loopIn => exact if_pos (show s.mode n = .half by simpa [sendSide] using hside)
  have hvs : (v.line n).sched = (s.line n).sched := by rw [hl, ← hsched]
  rw [hname, hab.sup, hone.sup, hvs] at hacc
  refine ⟨_, hexec, ?_, ?_, ?_, ?_, ?_, ?_, ?_, ?_, hpool.trans ?_, hfree.trans ?_, fun m => ?_, hacc⟩
  · rw [State.lineFails_line hcan]; exact congrArg Cond.value (hvcond.trans hcond)
  · rw [State.lineFails_line hcan]; exact congrArg Cond.openTimer (hvcond.trans hcond)
  · rw [State.lineFails_line hcan]; rfl
  · rw [State.lineFails_line hcan]
  · rw [State.lineFails_line hcan]
  · rw [State.lineFails_line hcan]; exact (congrArg Sched.current hvs).trans hcur
  · rw [State.lineFails_line hcan]
  · rw [State.lineFails_line hcan]; exact (congrArg Sched.counter hvs :)
  · rw [hab.store, hone.store]
  · rw [hab.store, hone.store]
  · by_cases hm : m = n
    · exact .inr hm
    · left
      rw [hin, State.inputs, hab.2 m hm, hone.2 m hm]
      rfl

/-- A condition that fails closes the message of its line (R37, R38). -/
theorem openTimer_closes_message {n : Line} {pin : LoopPin} {s : State} (hr : s.running = true)
    (hk : keepsCond (s.mode n) pin = true) (ht : ((s.line n).cond pin).openTimer ≠ none)
    (hv : ((s.line n).cond pin).value = .open)
    {r : RecIx} (hp : pin = .loopIn) (hmsg : (s.line n).asm.state = .heading ∨ (s.line n).asm.state = .text)
    (hrec : (s.line n).asm.record = some r) :
    ∃ t, exec (.openTimerExpiry n pin) s = .next t ∧ ((t.line n).cond pin).value = .failed ∧
      (t.line n).rx.state = .waitMark ∧ (t.line n).asm.state = .hunt ∧ (t.line n).asm.record = none ∧
      (s.mode n = .half →
        (t.line n).motor = { state := .stopped, runUp := none, idleStop := none } ∧
        (t.line n).sched.queue = [] ∧ (t.line n).sched.stack = []) := by
  have hexec := exec_openTimerExpiry hr hk ht hv
  rw [State.condFails_eq] at hexec
  subst hp
  obtain ⟨hboot, hcond, hrx, hasm, harec⟩ := State.failing_of_message hmsg hrec
  generalize s.failing n .loopIn = u at *
  have hmode : u.mode n = s.mode n := by simp only [State.mode, State.lineCfg, hboot]
  by_cases hm : s.mode n = .half
  · rw [if_pos (by simp [sendSide, hm])] at hexec
    obtain ⟨rx, mo, sc, k, hl, hw, -⟩ := u.sendLost_line n
    have hwm : rx.state = .waitMark := hw (by rw [hcond]; nofun) hrx
    obtain ⟨-, hbu, -⟩ := u.sendLost_others n
    have hcan : (u.sendLost n).canSend n = false :=
      State.canSend_of_failed (pin := .loopIn) (by simp [State.mode, State.lineCfg, hbu, hboot, sendSide]; exact hm)
        (by rw [hl]; exact hcond)
    refine ⟨_, hexec, ?_⟩
    rw [State.lineFails_line hcan, hl]
    exact ⟨hcond, hwm, hasm, harec, fun _ => ⟨rfl, rfl, rfl⟩⟩
  · rw [if_neg (by simpa [sendSide] using hm)] at hexec
    refine ⟨_, hexec, ?_⟩
    rw [State.post_line]
    exact ⟨hcond, hrx, hasm, harec, fun h => absurd h hm⟩

/-- Settles O24, by its three clauses. -/
theorem openTimerFailsTheCondition : Obligations.OpenTimerFailsTheCondition := fun _ _ _ hr hk ht hv =>
  ⟨openTimer_fails_receiveSide hr hk ht hv, openTimer_fails_sendSide hr hk ht hv,
    fun _ hp hmsg hrec _ => openTimer_closes_message hr hk ht hv hp hmsg hrec⟩

end Sys2Proof.Machine
end

section
namespace Sys2Proof.Machine

/-! ### The shift stage's next take (R13 to R15) -/

/-- The transmitter after the shift stage's next take: what is held when the line may drive, or fill for a copy
mid-text with nothing held. -/
def Tx.next (t : Tx) (mayDrive midText : Bool) : Tx :=
  if t.holding.isSome then (if mayDrive then t.begin else t)
  else if mayDrive && midText then t.beginFill else t

@[simp] theorem Tx.next_lineCase (t : Tx) (mayDrive midText : Bool) :
    (t.next mayDrive midText).lineCase = t.lineCase := by
  unfold Tx.next
  split
  · split
    · exact t.begin_lineCase
    · rfl
  · split <;> rfl

theorem Tx.next_takes {t : Tx} {h : TxChar} (hh : t.holding = some h) (midText : Bool) :
    ∃ y, (t.next true midText).shift = some y ∧ TakenFrom t.textCase t.lineCase h y := by
  have hn : t.next true midText = t.begin := by simp [Tx.next, hh]
  rw [hn]
  exact Tx.begin_takes hh

theorem Tx.next_fill {t : Tx} (hh : t.holding = none) : (t.next true true).shift = some ⟨31, .fill, 0, false⟩ := by
  simp [Tx.next, hh, Tx.beginFill, lettersShift]

theorem Tx.next_rests {t : Tx} (hh : t.holding = none) (mayDrive : Bool) : t.next mayDrive false = t := by
  simp [Tx.next, hh]

theorem State.shiftTakes_tx (s : State) (n : Line) :
    ((s.shiftTakes n).line n).tx = (s.line n).tx.next (s.mayDrive n) (s.line n).sched.midText := by
  unfold State.shiftTakes Tx.next State.fills
  split
  · split
    · rw [State.beginHeld_line_same]
    · rfl
  · split
    · rw [State.beginFill_line_same]
    · rfl

/-- The shift stage's take leaves it BUSY, or nothing is taken. -/
theorem State.shiftTakes_cases (s : State) (n : Line) :
    s.shiftTakes n = s ∨ ((s.shiftTakes n).line n).tx.shift.isSome = true := by
  unfold State.shiftTakes
  split
  · rename_i hh
    obtain ⟨h, hh⟩ := Option.isSome_iff_exists.mp hh
    split
    · obtain ⟨y, hy, -⟩ := Tx.begin_takes hh
      exact .inr (by rw [State.beginHeld_line_same]; simp [hy])
    · exact .inl rfl
  · split
    · exact .inr (by rw [State.beginFill_line_same]; rfl)
    · exact .inl rfl

/-- After the report the shift stage is BUSY, or the transmitter is as the report left it. -/
theorem State.shiftFollows_cases (s : State) (n : Line) (held : Option TxChar) :
    s.shiftFollows n held = s ∨ ((s.shiftFollows n held).line n).tx.shift.isSome = true := by
  unfold State.shiftFollows
  split
  · exact .inl rfl
  · split
    · exact s.shiftTakes_cases n
    · exact .inl rfl

theorem State.shiftTakes_lineCase (s : State) (n m : Line) : (s.shiftTakes n).lineCase m = s.lineCase m := by
  by_cases hm : m = n
  · subst hm
    simp [State.lineCase, State.shiftTakes_tx]
  · rw [State.lineCase, (s.shiftTakes_onlyLine n).2 m hm]; rfl

theorem State.shiftFollows_lineCase (s : State) (n : Line) (held : Option TxChar) (m : Line) :
    (s.shiftFollows n held).lineCase m = s.lineCase m := by
  unfold State.shiftFollows
  split
  · rfl
  · split
    · exact s.shiftTakes_lineCase n m
    · rfl

/-! ### The report of a character (R135, R136, R138) -/

@[simp] theorem State.settle_lines (s : State) (ref : CopyRef) (how : Settlement) : (s.settle ref how).lines = s.lines := by
  unfold State.settle State.tryFree
  split <;> rfl

/-- The report of a character leaves the shift stage (R136 to R139). -/
theorem State.reportSent_shift (s : State) (n : Line) (c : TxChar) :
    ((s.reportSent n c).line n).tx.shift = (s.line n).tx.shift := by
  have hdel : ∀ e, ((s.delivered n e).line n).tx.shift = (s.line n).tx.shift := fun e => by
    have h : Schedules n (s.settle e.copy .delivered) (s.delivered n e) :=
      (State.clearCurrent_sendsOnly _ n).toSchedules.trans <|
        (State.choose_sendsOnly _ n).toSchedules.trans (State.motorEmpty_schedules _ n)
    rw [h.line.shift, State.line_of_lines (s.settle_lines e.copy .delivered)]
  unfold State.reportSent
  split
  · rfl
  · split
    · split
      · exact (s.pushCurrent_sendsOnly n _).line.shift
      · exact hdel _
    · split
      · simp only
        split
        · rw [(State.beginInterruption_sendsOnly _ n).line.shift, State.modSched_line_same]
        · rw [State.modSched_line_same]
      · rfl

/-- Two changes of a scheduler that agree on it as it stands are one. -/
theorem State.modSched_congr {s : State} {n : Line} {f g : Sched → Sched}
    (h : f (s.line n).sched = g (s.line n).sched) : s.modSched n f = s.modSched n g := by
  show { s with lines := s.lines.set n { s.line n with sched := f (s.line n).sched } } = _
  rw [h]
  rfl

theorem State.modSched_self {s : State} {n : Line} {f : Sched → Sched} (h : f (s.line n).sched = (s.line n).sched) :
    s.modSched n f = s := by
  show { s with lines := s.lines.set n { s.line n with sched := f (s.line n).sched } } = _
  rw [h]
  exact s.modLine_self n

/-- Line tracking moves the line start and the count since LF alone (R135). -/
theorem Sched.track_eq (sc : Sched) (c : TxChar) (k : Case) :
    ∃ p j, sc.track c k = { sc with lineStart := p, sinceLF := j } := by
  unfold Sched.track
  split
  · exact ⟨_, _, rfl⟩
  · exact ⟨sc.lineStart, _, rfl⟩

/-- A character that is not its transmission's last, with no preemption marked, moves the line tracking alone
(R135, R138). -/
theorem State.reportSent_unmarked {s : State} {n : Line} {c : TxChar} (hl : c.last = false)
    (hm : (s.line n).sched.mark = false) : ∃ p j, s.reportSent n c =
      s.modSched n fun sc => { sc with lineStart := p, sinceLF := j } := by
  have hself : s = s.modSched n fun sc =>
      { sc with lineStart := (s.line n).sched.lineStart, sinceLF := (s.line n).sched.sinceLF } :=
    (State.modSched_self rfl).symm
  unfold State.reportSent
  split
  · exact ⟨_, _, hself⟩
  · rw [if_neg (by simp [hl])]
    split
    · obtain ⟨p, j, ht⟩ := (s.line n).sched.track_eq c ((s.line n).tx.textCase.getD .letters)
      have ht' : (s.modSched n fun sc => sc.track c ((s.line n).tx.textCase.getD .letters)) =
          s.modSched n fun sc => { sc with lineStart := p, sinceLF := j } := State.modSched_congr ht
      simp only
      rw [ht', if_neg (by simp [Sched.atBoundary, hm])]
      exact ⟨p, j, rfl⟩
    · exact ⟨_, _, hself⟩

/-! ### The stop of a character (R8, R13, R14) -/

theorem State.finishChar_line (s : State) (n : Line) (c : TxChar) :
    (s.finishChar n c).line n =
      { s.line n with
        tx := { (s.line n).tx with
          shift := none, lineCase := caseAfter c.code (s.line n).tx.lineCase
          textCase := Machine.textCaseAfter c (s.line n).tx.textCase }
        rx := if s.mode n = .half then
            { state := if (s.line n).condIn.value = .closed then .huntStart else .waitMark
              case := caseAfter c.code (s.line n).tx.lineCase }
          else (s.line n).rx } := by
  have hmode : (s.modTx n fun t => t.finish c).mode n = s.mode n := rfl
  rw [State.finishChar, State.resumeRx_line_same, State.modTx_line_same, hmode, Tx.finish_eq]

theorem State.finishChar_mayDrive (s : State) (n : Line) (c : TxChar) : (s.finishChar n c).mayDrive n = s.mayDrive n :=
  State.mayDrive_congr (s.finishChar_onlyLine n c).boot (by rw [State.finishChar_line]) (by rw [State.finishChar_line])
    (by rw [State.finishChar_line])

theorem exec_characterSent {s : State} {n : Line} {c : TxChar} (shiftFirst : Bool) (hr : s.running = true)
    (hs : (s.line n).tx.shift = some c) (hf : c.role ≠ .fill) :
    exec (.characterSent n shiftFirst) s = .next
      ((((if shiftFirst then (s.finishChar n c).shiftTakes n else s.finishChar n c).reportSent n c).shiftFollows n
        (s.line n).tx.holding).serveLine n) := by
  show Host.Outcome.next _ = _
  simp [hs, hr, hf]

theorem exec_fillSent {s : State} {n : Line} {c : TxChar} (hr : s.running = true)
    (hs : (s.line n).tx.shift = some c) (hf : c.role = .fill) :
    exec (.fillSent n) s = .next ((((s.finishChar n c).reportFill n).shiftTakes n).serveLine n) := by
  show Host.Outcome.next _ = _
  simp [hs, hr, hf]

end Sys2Proof.Machine
end

section
namespace Sys2Proof.Machine

/-- What follows the stop of a character leaves every line case, and the receiver where the shift stage ends IDLE. -/
structure FollowsStop (n : Line) (u t : State) : Prop where
  lineCase : ∀ m, t.lineCase m = u.lineCase m
  rx : (t.line n).tx.shift = none → (u.line n).tx.shift = none ∧ (t.line n).rx = (u.line n).rx

theorem FollowsStop.refl (n : Line) (u : State) : FollowsStop n u u := ⟨fun _ => rfl, fun h => ⟨h, rfl⟩⟩

theorem FollowsStop.trans {n : Line} {s t u : State} (h₁ : FollowsStop n s t) (h₂ : FollowsStop n t u) :
    FollowsStop n s u := by
  refine ⟨fun m => (h₂.lineCase m).trans (h₁.lineCase m), fun h => ?_⟩
  obtain ⟨hs, hr⟩ := h₂.rx h
  obtain ⟨hs', hr'⟩ := h₁.rx hs
  exact ⟨hs', hr.trans hr'⟩

theorem State.shiftTakes_followsStop (s : State) (n : Line) : FollowsStop n s (s.shiftTakes n) := by
  refine ⟨s.shiftTakes_lineCase n, fun h => ?_⟩
  rcases s.shiftTakes_cases n with e | e
  · rw [e] at h ⊢; exact ⟨h, rfl⟩
  · rw [h] at e; cases e

theorem State.shiftFollows_followsStop (s : State) (n : Line) (held : Option TxChar) :
    FollowsStop n s (s.shiftFollows n held) := by
  refine ⟨s.shiftFollows_lineCase n held, fun h => ?_⟩
  rcases s.shiftFollows_cases n held with e | e
  · rw [e] at h ⊢; exact ⟨h, rfl⟩
  · rw [h] at e; cases e

theorem State.reportSent_followsStop (s : State) (n : Line) (c : TxChar) : FollowsStop n s (s.reportSent n c) :=
  ⟨s.reportSent_lineCase n c, fun h =>
    ⟨(s.reportSent_shift n c).symm.trans h, congrArg (·.2.2.1) (s.reportSent_loops n c n)⟩⟩

theorem State.serveLine_followsStop (s : State) (n : Line) : FollowsStop n s (s.serveLine n) :=
  ⟨s.serveLine_lineCase n, fun h =>
    ⟨(s.serveLine_sendsOnly n).line.shift.symm.trans h, (s.serveLine_sendsOnly n).line.rx⟩⟩

theorem State.reportFill_line (s : State) (n m : Line) : (s.reportFill n).line m = s.line m := by
  unfold State.reportFill
  split <;> rfl

theorem State.reportFill_followsStop (s : State) (n : Line) : FollowsStop n s (s.reportFill n) := by
  refine ⟨s.reportFill_lineCase n, fun h => ?_⟩
  rw [State.reportFill_line] at h ⊢
  exact ⟨h, rfl⟩

/-- The next state of a stop, by what the character was loaded for. -/
theorem exec_stop_followsStop {s : State} {n : Line} {x : TxChar} (shiftFirst : Bool) (hr : s.running = true)
    (hs : (s.line n).tx.shift = some x) :
    ∃ t, exec (if x.role = .fill then .fillSent n else .characterSent n shiftFirst) s = .next t ∧
      FollowsStop n (s.finishChar n x) t := by
  by_cases hf : x.role = .fill
  · rw [if_pos hf]
    exact ⟨_, exec_fillSent hr hs hf, (State.reportFill_followsStop _ n).trans <|
      (State.shiftTakes_followsStop _ n).trans (State.serveLine_followsStop _ n)⟩
  · rw [if_neg hf]
    have hfirst : FollowsStop n (s.finishChar n x)
        (if shiftFirst then (s.finishChar n x).shiftTakes n else s.finishChar n x) := by
      split
      · exact State.shiftTakes_followsStop _ n
      · exact .refl n _
    exact ⟨_, exec_characterSent shiftFirst hr hs hf, hfirst.trans <| (State.reportSent_followsStop _ n x).trans <|
      (State.shiftFollows_followsStop _ n _).trans (State.serveLine_followsStop _ n)⟩

/-- At the stop of a character that is not its transmission's last, with no preemption marked, the shift stage
makes its next take, whichever side of R12's race comes first (R12, R13, R15). -/
theorem exec_characterSent_shift {s : State} {n : Line} {x : TxChar} (shiftFirst : Bool) (hd : MayDrive s n)
    (hs : (s.line n).tx.shift = some x) (hf : x.role ≠ .fill) (hl : x.last = false)
    (hm : (s.line n).sched.mark = false) :
    ∃ t, exec (.characterSent n shiftFirst) s = .next t ∧
      (t.line n).tx.shift = (((s.finishChar n x).line n).tx.next true (s.line n).sched.midText).shift := by
  refine ⟨_, exec_characterSent shiftFirst hd.1 hs hf, ?_⟩
  rw [(State.serveLine_sendsOnly _ n).line.shift]
  have hfin := s.finishChar_line n x
  have hdrive : (s.finishChar n x).mayDrive n = true := (s.finishChar_mayDrive n x).trans ((s.mayDrive_iff n).mpr hd)
  generalize s.finishChar n x = u at *
  have hu0 : (u.line n).tx.shift = none := by rw [hfin]
  have hheld : (u.line n).tx.holding = (s.line n).tx.holding := by rw [hfin]
  have hmark : (u.line n).sched.mark = false := by rw [hfin]; exact hm
  have hmid : (u.line n).sched.midText = (s.line n).sched.midText := by rw [hfin]
  rw [← hheld, ← hmid]
  have htake : ((u.shiftTakes n).line n).tx = (u.line n).tx.next true (u.line n).sched.midText := by
    rw [State.shiftTakes_tx, hdrive]
  have hlast : (((u.reportSent n x).shiftFollows n (u.line n).tx.holding).line n).tx.shift =
      ((u.line n).tx.next true (u.line n).sched.midText).shift := by
    obtain ⟨p, j, hrep⟩ := State.reportSent_unmarked hl hmark
    have hdrive' : (u.reportSent n x).mayDrive n = true := by
      rw [hrep]
      refine (State.mayDrive_congr (s := u) ?_ ?_ ?_ ?_).trans hdrive <;> simp
    rw [State.shiftFollows, if_neg (by rw [State.reportSent_shift, hu0]; nofun), if_pos (by rw [hrep]; simp),
      State.shiftTakes_tx, hdrive', hrep]
    simp
  cases shiftFirst with
  | false => exact hlast
  | true =>
    simp only [if_true]
    rcases u.shiftTakes_cases n with e | e
    · rw [e]; exact hlast
    · rw [State.shiftFollows, if_pos (by rw [State.reportSent_shift]; exact e), State.reportSent_shift, htake]

/-- A sent fill character is counted in the current copy, the next take follows it, and the rest of the card stays
(R13 to R15). -/
theorem fillSent_spec {n : Line} {s : State} {x : TxChar} {e : QEntry} {c : Copy} (hr : s.running = true)
    (hs : (s.line n).tx.shift = some x) (hf : x.role = .fill) (he : (s.line n).sched.current = some e)
    (hc : CopyIs s e.copy c) :
    ∃ t, exec (.fillSent n) s = .next t ∧ (t.copy e.copy).fill = min 65535 (c.fill + 1) ∧
      (∀ ref, ref ≠ e.copy → t.copy ref = s.copy ref) ∧
      (MayDrive s n → (s.line n).tx.holding = none → (s.line n).sched.midText = true →
        (t.line n).tx.shift = some ⟨31, .fill, 0, false⟩) ∧
      (∀ h, MayDrive s n → (s.line n).tx.holding = some h →
        ∃ y, (t.line n).tx.shift = some y ∧
          TakenFrom (s.line n).tx.textCase (caseAfter x.code (s.line n).tx.lineCase) h y) ∧
      t.store.freeList = s.store.freeList ∧ t.store.pool = s.store.pool ∧
      (∀ m, m ≠ n → t.line m = s.line m) ∧ t.router = s.router ∧ t.port = s.port ∧ t.sup = s.sup := by
  have htext : x.role ≠ .text := by simp [hf]
  have hfin := s.finishChar_line n x
  rw [textCaseAfter_of_ne htext] at hfin
  have hone := s.finishChar_onlyLine n x
  have hdrive := s.finishChar_mayDrive n x
  refine ⟨_, exec_fillSent hr hs hf, ?_⟩
  generalize s.finishChar n x = u at *
  have hrep : u.reportFill n = u.countFill e.copy := by
    simp only [State.reportFill, show (u.line n).sched.current = some e by rw [hfin]; exact he]
  rw [hrep]
  have hrest := ((u.countFill e.copy).shiftTakes_onlyLine n).trans (State.serveLine_loadsOnly _ n).onlyLine
  have hshift : ((((u.countFill e.copy).shiftTakes n).serveLine n).line n).tx.shift =
      ((u.line n).tx.next (s.mayDrive n) (s.line n).sched.midText).shift := by
    rw [(State.serveLine_sendsOnly _ n).line.shift, State.shiftTakes_tx,
      show (u.countFill e.copy).mayDrive n = s.mayDrive n from hdrive]
    rw [show ((u.countFill e.copy).line n) = u.line n from rfl, hfin]
  have hcu : CopyIs u e.copy c := by rw [CopyIs, hone.record]; exact hc
  rw [hfin] at hshift
  refine ⟨?_, fun ref hne => ?_, fun hd hh hmid => ?_, fun h hd hh => ?_, ?_, ?_, fun m hm => ?_, ?_, ?_, ?_⟩
  · rw [hrest.copy, State.countFill, State.copyIs_copy (hcu.modCopy _)]
    exact saturate_fillMax c.fill
  · rw [hrest.copy, State.countFill, State.modCopy_copy_ne _ _ _ _ hne, hone.copy]
  · rw [hshift, (s.mayDrive_iff n).mpr hd, hmid]
    exact Tx.next_fill hh
  · obtain ⟨y, hy, htaken⟩ := Tx.next_takes (t := { (s.line n).tx with
      shift := none, lineCase := caseAfter x.code (s.line n).tx.lineCase }) hh (s.line n).sched.midText
    exact ⟨y, by rw [hshift, (s.mayDrive_iff n).mpr hd]; exact hy, htaken⟩
  · rw [hrest.store]; exact congrArg (·.freeList) hone.store
  · rw [hrest.store]; exact congrArg (·.pool) hone.store
  · rw [hrest.2 m hm]; exact hone.2 m hm
  · exact hrest.router.trans hone.router
  · exact hrest.port.trans hone.port
  · exact hrest.sup.trans hone.sup

/-- Settles O27: the line case and the receiver by what a stop leaves, what follows it by the next take. -/
theorem sentCharactersAreFollowed : Obligations.SentCharactersAreFollowed := by
  refine ⟨fun n shiftFirst s x hr hs => ?_, fun n shiftFirst s x hd hs hf hl hm => ?_,
    fun _ _ _ _ _ hr hs hf he hc => fillSent_spec hr hs hf he hc⟩
  · obtain ⟨t, hexec, hfol⟩ := exec_stop_followsStop shiftFirst hr hs
    have hcase : (t.line n).tx.lineCase = caseAfter x.code (s.line n).tx.lineCase :=
      (hfol.lineCase n).trans (by rw [State.lineCase, State.finishChar_line])
    refine ⟨t, hexec, hcase, fun hm h => ?_, fun m hm => (hfol.lineCase m).trans ?_⟩
    · rw [(hfol.rx h).2, State.finishChar_line, hcase]
      exact if_pos hm
    · rw [State.lineCase, (s.finishChar_onlyLine n x).2 m hm]
  · obtain ⟨t, hexec, hshift⟩ := exec_characterSent_shift shiftFirst hd hs hf hl hm
    rw [State.finishChar_line] at hshift
    refine ⟨fun h hh => ?_, fun hh hmid => ?_, fun hh hmid => ?_⟩
    · obtain ⟨y, hy, htaken⟩ := Tx.next_takes (t := { (s.line n).tx with
        shift := none, lineCase := caseAfter x.code (s.line n).tx.lineCase
        textCase := textCaseAfter x (s.line n).tx.textCase }) hh (s.line n).sched.midText
      exact ⟨t, y, hexec, hshift.trans hy, htaken⟩
    · refine ⟨t, hexec, hshift.trans ?_⟩
      rw [hmid]
      exact Tx.next_fill hh
    · refine ⟨t, hexec, hshift.trans ?_⟩
      rw [hmid]
      exact congrArg Tx.shift (Tx.next_rests (by exact hh) true)

end Sys2Proof.Machine
end

section
namespace Sys2Proof.Machine

/-! ### A fresh start (R130 to R133) -/

/-- A copy that starts has a channel number: its own, or the line's next (R131). -/
theorem State.numberCopy_spec {s : State} {n : Line} {ref : CopyRef} {x : Copy} (hx : CopyIs s ref x) :
    CopyIs (s.numberCopy n ref) ref { x with channel := some (x.channel.getD (s.line n).sched.counter) } ∧
    (s.numberCopy n ref).line n = { s.line n with
      sched := { (s.line n).sched with
        counter := if x.channel = none then nextChannel (s.line n).sched.counter else (s.line n).sched.counter } } := by
  unfold State.numberCopy
  rw [State.copyIs_copy hx]
  cases hc : x.channel with
  | some k =>
    refine ⟨?_, by simp⟩
    show CopyIs s ref { x with channel := some k }
    rw [← hc]
    exact hx
  | none => exact ⟨hx.modCopy fun c => { c with channel := some (s.line n).sched.counter }, by simp⟩

theorem State.loadNextComposed_of_some {s : State} {n : Line} {c : TxChar} {rest : List Composed}
    (h : loadComposed (s.line n).tx.caseAhead (s.line n).sched.composed = some (c, rest)) :
    (s.loadNextComposed n).line n = { s.line n with
      tx := { (s.line n).tx with holding := some c }
      sched := { (s.line n).sched with composed := rest, outstanding := false } } := by
  simp [State.loadNextComposed, h, State.loadChar, Tx.load]

/-- The first character of a head that begins with a letters-case character: that character, or a letters shift
where the case ahead is figures (R132, R133). -/
theorem State.serveHead_of_letters {s : State} {n : Line} {code : Code} {rest : List Composed}
    (hc : (s.line n).sched.composed = inLetters code :: rest) (hr : rest ≠ []) : ∃ co,
    (s.serveHead n).line n = { s.line n with
      tx := { (s.line n).tx with
        holding := some ⟨if (s.line n).tx.caseAhead = .letters then code else 31, .composed, 0, false⟩ }
      sched := { (s.line n).sched with composed := co, outstanding := false } } := by
  have key : ∃ co, co ≠ [] ∧ loadComposed (s.line n).tx.caseAhead (s.line n).sched.composed =
      some (⟨if (s.line n).tx.caseAhead = .letters then code else 31, .composed, 0, false⟩, co) := by
    rw [hc]
    cases (s.line n).tx.caseAhead with
    | letters => exact ⟨rest, hr, loadComposed_of_case rfl rest⟩
    | figures => exact ⟨_, List.cons_ne_nil _ _, loadComposed_of_shift (k := .letters) (ahead := .figures) rfl nofun rest⟩
  obtain ⟨co, hne, hl⟩ := key
  have hline := State.loadNextComposed_of_some hl
  have hs : s.serveHead n = s.loadNextComposed n := by
    simp only [State.serveHead]
    exact if_neg (by rw [hline]; simpa using hne)
  rw [hs]
  exact ⟨co, hline⟩

/-- The head of a FRESH start begins with an opening code, and does not end with it (R133). -/
theorem State.freshHead_eq (s : State) (n : Line) (ch : Nat) :
    ∃ rest, rest ≠ [] ∧ s.freshHead n ch = inLetters s.boot.cfg.codes.opening :: rest :=
  ⟨List.replicate 3 (inLetters s.boot.cfg.codes.opening) ++ s.channelGroup n ch, by simp, rfl⟩

/-- A FRESH start on a line with both stages empty (R130 to R133). -/
theorem State.startFresh_spec {s : State} {n : Line} {e : QEntry} {x : Copy} (hx : CopyIs s e.copy x)
    (hs : x.state ≠ .settled) (hh : (s.line n).tx.holding = none) (hsh : (s.line n).tx.shift = none) :
    let t := s.startFresh n e
    (∃ co, (t.line n).sched = { (s.line n).sched.started e .fresh ⟨0, .letters⟩ co with
      counter := if x.channel = none then nextChannel (s.line n).sched.counter else (s.line n).sched.counter }) ∧
    (t.line n).tx.textCase = some .letters ∧
    (t.line n).tx.holding = some
      ⟨if (s.line n).tx.lineCase = .letters then s.boot.cfg.codes.opening else 31, .composed, 0, false⟩ ∧
    CopyIs t e.copy
      { x with state := .sending, channel := some (x.channel.getD (s.line n).sched.counter) } := by
  obtain ⟨hcopy, hline⟩ := State.numberCopy_spec (n := n) hx
  have hsending := hcopy.setCopyState hs .sending
  generalize hs1 : (s.numberCopy n e.copy).setCopyState e.copy .sending = s1 at *
  have hline1 : s1.line n = (s.numberCopy n e.copy).line n := by rw [← hs1]; rfl
  have hboot : s1.boot = s.boot := by rw [← hs1]; exact (s.numberCopy_sendsOnly n e.copy).boot
  obtain ⟨rest, hne, hhead⟩ := s1.freshHead_eq n ((s1.copy e.copy).channel.getD 0)
  generalize hw : ((s1.modSched n fun sc => sc.started e .fresh ⟨0, .letters⟩
    (s1.freshHead n ((s1.copy e.copy).channel.getD 0))).modTx n fun t => { t with textCase := some .letters }) = w
  have hwl : w.line n = { s.line n with
      sched := { (s.line n).sched.started e .fresh ⟨0, .letters⟩ (inLetters s1.boot.cfg.codes.opening :: rest) with
        counter := if x.channel = none then nextChannel (s.line n).sched.counter else (s.line n).sched.counter }
      tx := { (s.line n).tx with textCase := some .letters } } := by
    rw [← hw, State.modTx_line_same, State.modSched_line_same, hline1, hline, hhead]
    rfl
  have ht : s.startFresh n e = w.serveHead n := by
    rw [← State.serveLine_of_head w n e (by rw [hwl]; exact hh) (by rw [hwl]; rfl) (by rw [hwl]; rfl), ← hw, ← hs1]
    rfl
  obtain ⟨co, hfin⟩ := State.serveHead_of_letters (s := w) (n := n) (code := s1.boot.cfg.codes.opening) (by rw [hwl]; rfl) hne
  have hahead : (w.line n).tx.caseAhead = (s.line n).tx.lineCase := by rw [hwl]; simp [Tx.caseAhead, hsh]
  simp only
  rw [ht]
  refine ⟨⟨co, by rw [hfin, hwl]; rfl⟩, by rw [hfin, hwl], by rw [hfin, hahead, hboot], ?_⟩
  have hrec := (State.serveHead_loadsOnly w n).onlyLine.record e.copy.record
  rw [CopyIs, hrec, ← hw]
  exact hsending

/-! ### The choice on an empty stack (R128, R129) -/

theorem State.ready_iff (s : State) (e : QEntry) : s.ready e = true ↔ IsReady s e := by
  simp [State.ready, IsReady]

/-- The first ready entry of the queue starts FRESH where nothing is stacked (R129). -/
theorem State.choose_of_ready {s : State} {n : Line} {before after : List QEntry} {e : QEntry}
    (hf : s.freeToStart n = true) (hst : (s.line n).sched.stack = [])
    (hq : (s.line n).sched.queue = before ++ e :: after) (hb : ∀ y ∈ before, ¬IsReady s y) (he : IsReady s e) :
    s.choose n = (s.modSched n fun sc => { sc with queue := before ++ after }).startFresh n e := by
  have hfind : (s.line n).sched.queue.find? s.ready = some e := by
    rw [hq, List.find?_append, List.find?_eq_none.mpr fun y hy => by rw [s.ready_iff]; exact hb y hy]
    simp [(s.ready_iff e).mpr he]
  have herase : (s.line n).sched.queue.erase e = before ++ after := by
    rw [hq, List.erase_append_right _ fun hm => hb e hm he, List.erase_cons_head]
  have hch : s.choose n = (s.modSched n fun sc => { sc with queue := sc.queue.erase e }).startFresh n e := by
    simp only [State.choose, hf, if_true, hfind, hst]
  rw [hch, State.modSched_congr (g := fun sc => { sc with queue := before ++ after })]
  simp only [herase]

/-! ### What frees a line to start (R129, R147, R149) -/

/-- The line as the freeing event leaves it, before the choice: only its motor, turnaround and conditions moved. -/
structure FreedAs (s : State) (n : Line) (c : Instr) (v : State) : Prop where
  exec : (((v.choose n).line n).sched.current.isSome = true) → exec c s = .next (v.choose n)
  only : OnlyLine n s v
  tx : (v.line n).tx = (s.line n).tx
  sched : (v.line n).sched = (s.line n).sched
  motor : (v.line n).motor.state = .running
  free : (s.line n).sched.current = none → v.freeToStart n = true

theorem State.freeToStart_of {s : State} {n : Line} (hc : (s.line n).sched.current = none) (hd : MayDrive s n)
    (hw : s.withheld n = false) : s.freeToStart n = true := by
  simp [State.freeToStart, hc, (s.mayDrive_iff n).mpr hd, hw]

/-- A line with a current copy is not empty: its countdown does not start (R20). -/
theorem State.motorEmpty_of_current {s : State} {n : Line} (h : (s.line n).sched.current.isSome = true) :
    s.motorEmpty n = s := by
  have : (s.line n).sched.isEmpty = false := by
    simp [Sched.isEmpty, Option.isNone_eq_false_iff.mpr h]
  simp [State.motorEmpty, this]

theorem exec_runUpTimerExpiry {s : State} {n : Line} (hr : s.running = true) (hm : (s.line n).motor.runUp ≠ none) :
    exec (.runUpTimerExpiry n) s =
      .next (((s.modMotor n fun m => { m with state := .running, runUp := none }).choose n).motorEmpty n) :=
  congrArg Host.Outcome.next (if_pos (by simp [hr, Option.isSome_iff_ne_none, hm]))

theorem exec_turnaroundTimerExpiry {s : State} {n : Line} {w : Turnaround} (hr : s.running = true)
    (hw : (s.line n).turn = some w) (ht : w.timer ≠ none) :
    exec (.turnaroundTimerExpiry n) s =
      .next ((s.modLine n fun l => { l with turn := some { waiting := false, timer := none } }).choose n) := by
  have hmod : (s.modLine n fun l => { l with turn := l.turn.map fun _ => { waiting := false, timer := none } }) =
      s.modLine n fun l => { l with turn := some { waiting := false, timer := none } } := by
    show { s with lines := s.lines.set n { s.line n with
      turn := (s.line n).turn.map fun _ => { waiting := false, timer := none } } } = _
    rw [hw]
    rfl
  rw [← hmod]
  exact congrArg Host.Outcome.next (if_pos (by simp [hr, State.turnRuns, hw, Option.isSome_iff_ne_none, ht]))

/-- The end of the run-up frees its line (R19, R129). -/
theorem State.freedAs_runUp {s : State} {n : Line} (hr : s.running = true) (hc : s.sendCond n = some .closed)
    (hm : (s.line n).motor.runUp ≠ none) (hw : s.withheld n = false) :
    FreedAs s n (.runUpTimerExpiry n) (s.modMotor n fun m => { m with state := .running, runUp := none }) := by
  have hl := s.modMotor_line_same n fun m => { m with state := .running, runUp := none }
  have hone := s.modMotor_onlyLine n fun m => { m with state := .running, runUp := none }
  have hex := exec_runUpTimerExpiry hr hm
  generalize s.modMotor n (fun m => { m with state := .running, runUp := none }) = v at *
  refine ⟨fun h => hex.trans (by rw [State.motorEmpty_of_current h]), hone, by rw [hl], by rw [hl], by rw [hl],
    fun hcur => State.freeToStart_of (by rw [hl]; exact hcur) ⟨?_, ?_, by rw [hl]⟩ ?_⟩
  · rw [State.running, hone.boot]; exact hr
  · rw [State.sendCond_congr hone.boot (by rw [hl]) (by rw [hl])]; exact hc
  · simpa [State.withheld, hl] using hw

/-- The end of the turnaround frees its line where the motor is RUNNING (R149). -/
theorem State.freedAs_turnaround {s : State} {n : Line} {w : Turnaround} (hr : s.running = true)
    (hw : (s.line n).turn = some w) (ht : w.timer ≠ none) (hc : s.sendCond n = some .closed)
    (hm : (s.line n).motor.state = .running) (hb : BetweenMessages s n) (hv : (s.line n).condIn.value = .closed) :
    FreedAs s n (.turnaroundTimerExpiry n)
      (s.modLine n fun l => { l with turn := some { waiting := false, timer := none } }) := by
  have hl := s.modLine_line_same n fun l => { l with turn := some { waiting := false, timer := none } }
  have hone := s.modLine_onlyLine n fun l => { l with turn := some { waiting := false, timer := none } }
  have hex := exec_turnaroundTimerExpiry hr hw ht
  generalize s.modLine n (fun l => { l with turn := some { waiting := false, timer := none } }) = v at *
  refine ⟨fun _ => hex, hone, by rw [hl], by rw [hl], by rw [hl]; exact hm,
    fun hcur => State.freeToStart_of (by rw [hl]; exact hcur) ⟨?_, ?_, by rw [hl]; exact hm⟩ ?_⟩
  · rw [State.running, hone.boot]; exact hr
  · rw [State.sendCond_congr hone.boot (by rw [hl]) (by rw [hl])]; exact hc
  · have hb' : (s.line n).asm.state = .hunt := hb
    simp [State.withheld, hl, hb', hv]

/-- The return of a FULL or SEND line's send condition from OPEN to CLOSED frees its line (R147). -/
theorem State.freedAs_marking {s : State} {n : Line} (hr : s.running = true)
    (hmode : s.mode n = .full ∨ s.mode n = .send) (ht : (s.line n).condSense.markingTimer ≠ none)
    (hv : (s.line n).condSense.value = .open) (hm : (s.line n).motor.state = .running) (hw : s.withheld n = false) :
    FreedAs s n (.markingTimerExpiry n .sense) ((s.closed n .sense).turnReview n) := by
  have hk : keepsCond (s.mode n) .sense = true := by rcases hmode with h | h <;> rw [h] <;> rfl
  have hex := exec_markingTimerExpiry (pin := .sense) hr hk ht (by rw [LineUnit.cond, hv]; nofun)
  rw [State.condCloses_eq, if_pos (show sendSide (s.mode n) .sense = true from hk)] at hex
  have hcl : s.closed n .sense = s.modCond n .sense fun c =>
      { c with value := .closed, markingTimer := none, openTimer := none } :=
    if_neg (by rw [State.cond, LineUnit.cond, hv]; nofun)
  rw [hcl] at hex ⊢
  have hl := State.turnReview_line_same (s.modCond n .sense fun c =>
    { c with value := .closed, markingTimer := none, openTimer := none }) n
  rw [State.modCond_line_sense] at hl
  have hone := (s.modCond_onlyLine n .sense fun c =>
    { c with value := .closed, markingTimer := none, openTimer := none }).trans (State.turnReview_onlyLine _ n)
  generalize (s.modCond n .sense fun c =>
    { c with value := .closed, markingTimer := none, openTimer := none }).turnReview n = v at *
  refine ⟨fun _ => hex, hone, by rw [hl], by rw [hl], by rw [hl]; exact hm,
    fun hcur => State.freeToStart_of (by rw [hl]; exact hcur) ⟨?_, ?_, by rw [hl]; exact hm⟩ ?_⟩
  · rw [State.running, hone.boot]; exact hr
  · have hmode' : v.mode n = s.mode n := hone.mode n
    have hsc : v.sendCond n = some (v.line n).condSense.value := by
      unfold State.sendCond
      rcases hmode with h | h <;> rw [show (v.lineCfg n).mode = _ from hmode'.trans h]
    rw [hsc, hl]
  · cases hturn : (s.line n).turn with
    | none => simp [State.withheld, hl, hturn]
    | some w => simpa [State.withheld, hl, hturn, Turnaround.review] using hw

/-- Each event that frees a line leaves the line ready for the choice (R129). -/
theorem State.exists_freedAs {s : State} {n : Line} {c : Instr} (hr : s.running = true) (h : FreesLine s n c) :
    ∃ v, FreedAs s n c v := by
  rcases h with ⟨rfl, hc, hm, hw⟩ | ⟨⟨w, rfl, hw, ht⟩, hc, hm, hb, hv⟩ | ⟨rfl, hmode, ht, hv, hm, hw⟩
  · exact ⟨_, State.freedAs_runUp hr hc hm hw⟩
  · exact ⟨_, State.freedAs_turnaround hr hw ht hc hm hb hv⟩
  · exact ⟨_, State.freedAs_marking hr hmode ht hv hm hw⟩

/-- A line that is freed to start with an empty stack starts the first ready entry of its queue (R129 to R133). -/
theorem freed_starts {n : Line} {s : State} {c : Instr} {before after : List QEntry} {e : QEntry} {x : Copy}
    (hr : s.running = true) (hfree : FreesLine s n c) (hcur : (s.line n).sched.current = none)
    (hst : (s.line n).sched.stack = []) (hh : (s.line n).tx.holding = none) (hsh : (s.line n).tx.shift = none)
    (hq : (s.line n).sched.queue = before ++ e :: after)
    (hb : ∀ y ∈ before, (s.record y.copy.record).complete = false ∧ (s.record y.copy.record).count < y.lead)
    (he : (s.record e.copy.record).complete = true ∨ e.lead ≤ (s.record e.copy.record).count)
    (hx : CopyIs s e.copy x) (hs : x.state ≠ .settled) :
    ∃ t, exec c s = .next t ∧ (t.line n).motor.state = .running ∧
      (t.line n).sched.current = some e ∧ (t.line n).sched.queue = before ++ after ∧
      (t.line n).sched.phase = .head ∧ (t.line n).sched.kind = .fresh ∧
      (t.line n).sched.nextIndex = 0 ∧ (t.line n).sched.lineStart = ⟨0, .letters⟩ ∧
      (t.line n).sched.sinceLF = 0 ∧ (t.line n).sched.mark = false ∧
      (t.line n).tx.textCase = some .letters ∧
      CopyIs t e.copy
        { x with state := .sending, channel := some (x.channel.getD (s.line n).sched.counter) } ∧
      (t.line n).sched.counter =
        (if x.channel = none then
          (if (s.line n).sched.counter < 999 then (s.line n).sched.counter + 1 else 1)
         else (s.line n).sched.counter) ∧
      (t.line n).tx.holding =
        some ⟨if (s.line n).tx.lineCase = .letters then s.boot.cfg.codes.opening else 31, .composed,
          0, false⟩ ∧
      (∀ m, m ≠ n → t.line m = s.line m) ∧ t.port = s.port ∧ t.sup = s.sup ∧
      t.router = s.router := by
  obtain ⟨v, h⟩ := State.exists_freedAs hr hfree
  have hrdy : ∀ y, IsReady v y ↔ IsReady s y := fun y => by rw [IsReady, h.only.record]; rfl
  have hch := State.choose_of_ready (h.free hcur) (h.sched ▸ hst) (h.sched ▸ hq)
    (fun y hy => by
      obtain ⟨hcomp, hlead⟩ := hb y hy
      rw [hrdy, IsReady, hcomp]
      exact fun hor => hor.elim nofun (Nat.not_le.mpr hlead))
    ((hrdy e).mpr he)
  generalize hu : (v.modSched n fun sc => { sc with queue := before ++ after }) = u at hch
  have hul : u.line n = { v.line n with sched := { (s.line n).sched with queue := before ++ after } } := by
    rw [← hu, State.modSched_line_same, h.sched]
  have huone : OnlyLine n s u := h.only.trans (hu ▸ v.modSched_onlyLine n _)
  obtain ⟨⟨co, hsched⟩, htext, hhold, hcopy⟩ := State.startFresh_spec (s := u) (n := n) (e := e) (x := x)
    (by rw [CopyIs, huone.record]; exact hx) hs (by rw [hul, h.tx]; exact hh) (by rw [hul, h.tx]; exact hsh)
  have hsends := u.startFresh_sendsOnly n e
  have hexec := h.exec (by rw [hch, hsched]; rfl)
  rw [hch] at hexec
  have hcounter : (u.line n).sched.counter = (s.line n).sched.counter := by rw [hul]
  have hcase : (u.line n).tx.lineCase = (s.line n).tx.lineCase := by rw [hul, h.tx]
  rw [hcounter] at hcopy
  rw [hcase, huone.boot] at hhold
  refine ⟨_, hexec, ?_, ?_, ?_, ?_, ?_, ?_, ?_, ?_, ?_, htext, hcopy, ?_, hhold,
    fun m hm => (hsends.others m hm).trans (huone.2 m hm), hsends.port.trans huone.port,
    hsends.sup.trans huone.sup, hsends.router.trans huone.router⟩
  · rw [hsends.motor, hul]; exact h.motor
  · rw [hsched]; rfl
  · rw [hsched, hul]; rfl
  · rw [hsched]; rfl
  · rw [hsched]; rfl
  · rw [hsched]; rfl
  · rw [hsched]; rfl
  · rw [hsched]; rfl
  · rw [hsched]; rfl
  · rw [hsched, ← hcounter]; rfl

/-- A run-up that ends on an empty line starts the idle-stop countdown, if one is set (R20). -/
theorem runUp_ends_empty {n : Line} {s : State} (hr : s.running = true) (hm : (s.line n).motor.runUp ≠ none)
    (hcur : (s.line n).sched.current = none) (hq : (s.line n).sched.queue = []) (hst : (s.line n).sched.stack = [])
    (hi : (s.line n).motor.idleStop = none) :
    ∃ t, exec (.runUpTimerExpiry n) s = .next t ∧ OnlyLine n s t ∧
      t.line n = { s.line n with
        motor := { state := .running, runUp := none,
                   idleStop := if (s.lineCfg n).idleStop = 0 then none
                     else some ((s.lineCfg n).idleStop * 10000) } } := by
  refine ⟨_, exec_runUpTimerExpiry hr hm, ?_⟩
  have hl := s.modMotor_line_same n fun m => { m with state := .running, runUp := none }
  have hone := s.modMotor_onlyLine n fun m => { m with state := .running, runUp := none }
  have hcfg : (s.modMotor n fun m => { m with state := .running, runUp := none }).lineCfg n = s.lineCfg n := rfl
  generalize s.modMotor n (fun m => { m with state := .running, runUp := none }) = v at *
  rw [State.choose_of_empty v n (by rw [hl]; exact hq) (by rw [hl]; exact hst)]
  refine ⟨hone.trans (v.motorEmpty_onlyLine n), ?_⟩
  by_cases hz : (s.lineCfg n).idleStop = 0
  · have hno : v.motorEmpty n = v := if_neg (by simp [hcfg, hz])
    rw [hno, hl, hi, if_pos hz]
  · have hyes : v.motorEmpty n = v.modMotor n fun m =>
        { m with idleStop := some (m.idleStop.getD ((v.lineCfg n).idleStop * 10000)) } :=
      if_pos (by simp [hcfg, hz, hl, Sched.isEmpty, hcur, hq, hst])
    rw [hyes, State.modMotor_line_same, hl, hcfg, hi, if_neg hz]
    rfl

/-- Settles O30: the timers by their own rules, and a freed line by the choice and the fresh start. -/
theorem lineTimersFreeTheLine : Obligations.LineTimersFreeTheLine := by
  refine ⟨fun n s hr => ⟨fun hi => ?_, fun w hw ht hq hst => ?_⟩,
    fun _ _ _ _ _ _ _ hr hfree hcur hst hh hsh hq hb he hx hs => freed_starts hr hfree hcur hst hh hsh hq hb he hx hs,
    fun _ _ hr hm hcur hq hst hi => runUp_ends_empty hr hm hcur hq hst hi⟩
  · have hex : exec (.idleStopExpiry n) s = .next (s.modMotor n fun _ => Motor.atRest) :=
      congrArg Host.Outcome.next (if_pos (by simp [hr, Option.isSome_iff_ne_none, hi]))
    exact ⟨_, hex, s.modMotor_onlyLine n _, s.modMotor_line_same n _⟩
  · refine ⟨_, exec_turnaroundTimerExpiry hr hw ht, ?_⟩
    rw [State.choose_of_empty _ n (by simpa using hq) (by simpa using hst)]
    exact ⟨s.modLine_onlyLine n _, s.modLine_line_same n _⟩

end Sys2Proof.Machine
end

section
namespace Sys2Proof.Machine

/-! ### Text that arrives: what its readers may change (R110, R128, R135, R162) -/

theorem State.linesLook_sendsFrom (s : State) (r : RecIx) (oldCount : Nat) (oldComplete : Bool) (ns : List Line)
    (m : Line) : (s.line m).SendsFrom ((s.linesLook r oldCount oldComplete ns).line m) := by
  induction ns generalizing s with
  | nil => exact .refl _
  | cons k ks ih =>
    exact ((s.lineTextChanged_sendsOnly k r oldCount oldComplete).lines m).trans (ih _)

/-- The send contexts and the supervisor unit look at a record after the lines, and leave the lines. -/
theorem State.textChanged_lines (s : State) (r : RecIx) (oldCount : Nat) (oldComplete : Bool) :
    (s.textChanged r oldCount oldComplete).lines = (s.linesLook r oldCount oldComplete (List.finRange 4)).lines := by
  unfold State.textChanged
  rw [(State.supTextChanged_printsOnly _ r).lines]
  obtain ⟨_, _, _, e⟩ := State.sendsLook_offersOnly (s.linesLook r oldCount oldComplete (List.finRange 4)) r
    (List.finRange 4)
  rw [e]

theorem State.textChanged_sendsFrom (s : State) (r : RecIx) (oldCount : Nat) (oldComplete : Bool) (m : Line) :
    (s.line m).SendsFrom ((s.textChanged r oldCount oldComplete).line m) := by
  rw [State.line_of_lines (s.textChanged_lines r oldCount oldComplete)]
  exact s.linesLook_sendsFrom r oldCount oldComplete _ m

/-! ### What the assembler's operations may change -/

/-- On line `n` the inputs, the receiver, the conditions and the shift stage are as they were, and on every other
line the receiving side. -/
structure AssemblesOnly (n : Line) (s t : State) : Prop where
  others : ∀ m, m ≠ n → t.inputs m = s.inputs m
  loops : t.loops n = s.loops n
  shift : (t.line n).tx.shift = (s.line n).tx.shift

theorem AssemblesOnly.refl (n : Line) (s : State) : AssemblesOnly n s s := ⟨fun _ _ => rfl, rfl, rfl⟩

theorem AssemblesOnly.trans {n : Line} {s t u : State} (h₁ : AssemblesOnly n s t) (h₂ : AssemblesOnly n t u) :
    AssemblesOnly n s u :=
  ⟨fun m hm => (h₂.others m hm).trans (h₁.others m hm), h₂.loops.trans h₁.loops, h₂.shift.trans h₁.shift⟩

theorem AssemblesOnly.of_sendsFrom {n : Line} {s t : State} (h : ∀ m, (s.line m).SendsFrom (t.line m)) :
    AssemblesOnly n s t := by
  refine ⟨fun m _ => (h m).inputs, ?_, (h n).shift⟩
  obtain ⟨_, _, _, _, e⟩ := h n
  simp only [State.loops, e]

theorem AssemblesOnly.of_lines {n : Line} {s t : State} (h : t.lines = s.lines) : AssemblesOnly n s t :=
  .of_sendsFrom fun m => by rw [State.line_of_lines h]; exact .refl _

theorem AssemblesOnly.of_dispatches {n : Line} {s t : State} (h : Dispatches s t) : AssemblesOnly n s t :=
  .of_sendsFrom fun m => (h.line m).1

theorem State.modAsm_assemblesOnly (s : State) (n : Line) (f : Assembler → Assembler) :
    AssemblesOnly n s (s.modAsm n f) := by
  refine ⟨fun m hm => ?_, by simp [State.loops], by simp⟩
  rw [State.inputs, (s.modAsm_onlyLine n f).2 m hm]; rfl

theorem State.modRecord_assemblesOnly (s : State) (n : Line) (r : RecIx) (f : Record → Record) :
    AssemblesOnly n s (s.modRecord r f) := .of_lines rfl

theorem State.returnToHunt_assemblesOnly (s : State) (n : Line) : AssemblesOnly n s (s.returnToHunt n) := by
  have hone : OnlyLine n s (s.returnToHunt n) := (s.modAsm_onlyLine n _).trans (State.turnReview_onlyLine _ n)
  obtain ⟨w, hl⟩ := s.returnToHunt_line n
  refine ⟨fun m hm => ?_, by simp [State.loops, hl], by rw [hl]⟩
  rw [State.inputs, hone.2 m hm]; rfl

theorem State.post_assemblesOnly (s : State) (n : Line) (x : Notice) : AssemblesOnly n s (s.post x) :=
  .of_lines (s.post_lines x)

theorem State.textChanged_assemblesOnly (s : State) (n : Line) (r : RecIx) (oldCount : Nat) (oldComplete : Bool) :
    AssemblesOnly n s (s.textChanged r oldCount oldComplete) :=
  .of_sendsFrom (s.textChanged_sendsFrom r oldCount oldComplete)

theorem State.tryFree_assemblesOnly (s : State) (n : Line) (r : RecIx) : AssemblesOnly n s (s.tryFree r) := by
  unfold State.tryFree
  split
  · exact .of_lines rfl
  · exact .refl n s

theorem State.allocateBlock_lines {s t : State} {r : RecIx} (h : s.allocateBlock r = some t) : t.lines = s.lines := by
  unfold State.allocateBlock State.drawBlock at h
  split at h
  · split at h
    · cases h
    · split at h
      · cases h
      · cases h; rfl
  · cases h

theorem State.writeChar_lines (s : State) (r : RecIx) (i : Nat) (c : Code) : (s.writeChar r i c).lines = s.lines := by
  unfold State.writeChar
  split <;> rfl

theorem State.appendChar_assemblesOnly (s : State) (n : Line) (r : RecIx) (c : Code) :
    AssemblesOnly n s (s.appendChar r c) :=
  (AssemblesOnly.of_lines (s.writeChar_lines r _ c)).trans <|
    (State.modRecord_assemblesOnly _ n r _).trans (State.textChanged_assemblesOnly _ n r _ _)

theorem State.storeChar_assemblesOnly (s : State) (n : Line) (r : RecIx) (c : Code) :
    AssemblesOnly n s (s.storeChar n r c) := by
  unfold State.storeChar
  split
  · exact .refl n s
  · split
    · split
      · rename_i t ht
        exact (AssemblesOnly.of_lines (State.allocateBlock_lines ht)).trans (t.appendChar_assemblesOnly n r c)
      · exact (s.modAsm_assemblesOnly n _).trans <| (State.modRecord_assemblesOnly _ n r _).trans
          (State.post_assemblesOnly _ n _)
    · exact s.appendChar_assemblesOnly n r c

theorem State.fillTable_assemblesOnly (s : State) (n : Line) (r : RecIx) (stations : List StationCode) :
    AssemblesOnly n s (s.fillTable n r stations) :=
  (s.modRecord_assemblesOnly n r _).trans (State.modAsm_assemblesOnly _ n _)

theorem State.headingEnds_assemblesOnly (s : State) (n : Line) (r : RecIx) (stations : List StationCode) :
    AssemblesOnly n s (s.headingEnds n r stations) := by
  unfold State.headingEnds
  simp only
  split
  · exact (s.fillTable_assemblesOnly n r stations).trans (.of_dispatches (State.dispatchRecord_dispatches _ r))
  · exact s.fillTable_assemblesOnly n r stations

theorem State.takeHeading_assemblesOnly (s : State) (n : Line) (r : RecIx) (h : Handed) :
    AssemblesOnly n s (s.takeHeading n r h) := by
  have hs : AssemblesOnly n s
      ((s.storeChar n r h.code).modAsm n fun a => { a with headingChars := a.headingChars + 1 }) :=
    (s.storeChar_assemblesOnly n r h.code).trans (State.modAsm_assemblesOnly _ n _)
  unfold State.takeHeading
  simp only
  split
  · split
    · exact hs.trans <| (State.modAsm_assemblesOnly _ n _).trans (State.modRecord_assemblesOnly _ n r _)
    · exact hs.trans (State.modAsm_assemblesOnly _ n _)
  · split
    · exact hs.trans <| (State.modRecord_assemblesOnly _ n r _).trans (State.headingEnds_assemblesOnly _ n r _)
    · exact hs.trans (State.headingEnds_assemblesOnly _ n r _)
  · exact hs.trans (State.headingEnds_assemblesOnly _ n r _)

theorem State.takeDesignator_assemblesOnly (s : State) (n : Line) (r : RecIx) (h : Handed) :
    AssemblesOnly n s (s.takeDesignator n r h) := by
  unfold State.takeDesignator
  split <;>
    exact (s.modRecord_assemblesOnly n r _).trans <| (State.storeChar_assemblesOnly _ n r _).trans
      (State.modAsm_assemblesOnly _ n _)

theorem State.checkChannel_assemblesOnly (s : State) (n : Line) (r : RecIx) (received : Nat) :
    AssemblesOnly n s (s.checkChannel n r received) := by
  have hs : AssemblesOnly n s ((s.modRecord r fun rec => { rec with inbound := some received }).modAsm n fun a =>
      { a with expectation := some (nextChannel received) }) :=
    (s.modRecord_assemblesOnly n r _).trans (State.modAsm_assemblesOnly _ n _)
  unfold State.checkChannel
  simp only
  split
  · exact hs
  · split
    · exact hs
    · exact hs.trans <| (State.modRecord_assemblesOnly _ n r _).trans (State.post_assemblesOnly _ n _)

theorem State.takeGroup_assemblesOnly (s : State) (n : Line) (r : RecIx) (h : Handed) :
    AssemblesOnly n s (s.takeGroup n r h) := by
  unfold State.takeGroup
  simp only
  split
  · exact (s.modRecord_assemblesOnly n r _).trans <| (State.modAsm_assemblesOnly _ n _).trans
      (State.takeDesignator_assemblesOnly _ n r h)
  · split
    · exact s.modAsm_assemblesOnly n _
    · split
      · exact (s.modAsm_assemblesOnly n _).trans (State.checkChannel_assemblesOnly _ n r _)
      · exact (s.modAsm_assemblesOnly n _).trans (State.modRecord_assemblesOnly _ n r _)

theorem State.takeOrdinary_assemblesOnly (s : State) (n : Line) (r : RecIx) (h : Handed) :
    AssemblesOnly n s (s.takeOrdinary n r h) := by
  unfold State.takeOrdinary
  split
  · split
    · exact s.takeGroup_assemblesOnly n r h
    · exact s.takeDesignator_assemblesOnly n r h
    all_goals exact s.takeHeading_assemblesOnly n r h
  · exact s.storeChar_assemblesOnly n r h.code
  all_goals exact .refl n s

theorem State.takeAll_assemblesOnly (s : State) (n : Line) (r : RecIx) (hs : List Handed) :
    AssemblesOnly n s (s.takeAll n r hs) := by
  induction hs generalizing s with
  | nil => exact .refl n s
  | cons h hs ih => exact (s.takeOrdinary_assemblesOnly n r h).trans (ih _)

theorem State.completeRecord_assemblesOnly (s : State) (n : Line) (r : RecIx) (truncated : Bool) :
    AssemblesOnly n s (s.completeRecord r truncated) :=
  (s.modRecord_assemblesOnly n r _).trans <| (State.textChanged_assemblesOnly _ n r _ _).trans
    (State.tryFree_assemblesOnly _ n r)

theorem State.malformedAtClose_assemblesOnly (s : State) (n : Line) (r : RecIx) :
    AssemblesOnly n s (s.malformedAtClose n r) := by
  unfold State.malformedAtClose
  split
  · exact s.fillTable_assemblesOnly n r _
  · exact .refl n s

theorem State.closeByRun_assemblesOnly (s : State) (n : Line) (r : RecIx) : AssemblesOnly n s (s.closeByRun n r) := by
  unfold State.closeByRun
  simp only
  split
  · exact (s.malformedAtClose_assemblesOnly n r).trans <| (State.completeRecord_assemblesOnly _ n r _).trans <|
      (AssemblesOnly.of_dispatches (State.dispatchAtClose_dispatches _ r _)).trans
        (State.returnToHunt_assemblesOnly _ n)
  · exact (AssemblesOnly.of_lines (s := s) (t := s.freeRecord r) rfl).trans (State.returnToHunt_assemblesOnly _ n)

theorem State.messageChar_assemblesOnly (s : State) (n : Line) (r : RecIx) (h : Handed) :
    AssemblesOnly n s (s.messageChar n r h) := by
  unfold State.messageChar
  simp only
  split
  · exact s.takeGroup_assemblesOnly n r h
  · split
    · split
      · exact s.modAsm_assemblesOnly n _
      · exact s.closeByRun_assemblesOnly n r
    · exact (s.modAsm_assemblesOnly n _).trans (State.takeAll_assemblesOnly _ n r _)

theorem State.countFraming_assemblesOnly (s : State) (n : Line) (r : RecIx) (framing : Bool) :
    AssemblesOnly n s (s.countFraming r framing) := by
  unfold State.countFraming
  split
  · exact s.modRecord_assemblesOnly n r _
  · exact .refl n s

theorem State.discardChar_assemblesOnly (s : State) (n : Line) (h : Handed) :
    AssemblesOnly n s (s.discardChar n h) := by
  unfold State.discardChar
  split
  · split
    · exact s.modAsm_assemblesOnly n _
    · exact s.returnToHunt_assemblesOnly n
  · exact s.modAsm_assemblesOnly n _

/-! ### Leaving HUNT (R8, R41, R150) -/

/-- What the end of a character leaves of line `n`: its inputs, and its receiver unless the shift stage of a HALF
line has begun (R8, R150). -/
structure HandedOn (n : Line) (s t : State) : Prop where
  others : ∀ m, m ≠ n → t.inputs m = s.inputs m
  loopIn : (t.line n).loopIn = (s.line n).loopIn
  sense : (t.line n).sense = (s.line n).sense
  rx : (t.line n).rx = if s.mode n = .half ∧ (t.line n).tx.shift ≠ none then { (s.line n).rx with state := .waitMark }
    else (s.line n).rx

theorem AssemblesOnly.rx {n : Line} {s t : State} (h : AssemblesOnly n s t) : (t.line n).rx = (s.line n).rx :=
  congrArg (·.2.2.1) h.loops

/-- Nothing suspends the receiver while the shift stage stays as it was. -/
theorem AssemblesOnly.handedOn {n : Line} {s t : State} (h : AssemblesOnly n s t)
    (hs : s.mode n = .half → (s.line n).tx.shift = none) : HandedOn n s t := by
  refine ⟨h.others, congrArg (·.1) h.loops, congrArg (·.2.1) h.loops, ?_⟩
  rw [if_neg fun hc => hc.2 (h.shift.trans (hs hc.1)), h.rx]

theorem AssemblesOnly.trans_handedOn {n : Line} {s t u : State} (h : AssemblesOnly n s t) (hm : t.mode n = s.mode n)
    (h' : HandedOn n t u) : HandedOn n s u := by
  refine ⟨fun m hne => (h'.others m hne).trans (h.others m hne), h'.loopIn.trans (congrArg (·.1) h.loops),
    h'.sense.trans (congrArg (·.2.1) h.loops), ?_⟩
  rw [h'.rx, hm, h.rx]

/-- What follows the withdrawal on a HALF line leaves the receiver and the shift stage. -/
theorem State.withdrawn_rest (s : State) (n : Line) :
    ((s.modTx n fun t => { t with holding := none }).putBack n).loops n = s.loops n ∧
    (((s.modTx n fun t => { t with holding := none }).putBack n).line n).tx.shift = (s.line n).tx.shift ∧
    ∀ m, m ≠ n → ((s.modTx n fun t => { t with holding := none }).putBack n).inputs m = s.inputs m := by
  have h := ((s.modTx_loadsOnly n none).sendsOnly.toSchedules.trans (State.putBack_schedules _ n))
  exact ⟨(AssemblesOnly.of_sendsFrom h.lines).loops, h.line.shift, fun m _ => (h.lines m).inputs⟩

/-- An assembler that leaves HUNT with the shift stage IDLE suspends a HALF line's receiver exactly when the shift
stage takes the held character first (R150). -/
theorem State.leftHunt_handedOn (s : State) (n : Line) (hs : s.mode n = .half → (s.line n).tx.shift = none) :
    HandedOn n s (s.leftHunt n) := by
  unfold State.leftHunt
  split
  · rename_i hm
    have hwait : AssemblesOnly n s (s.turnWait n) := by
      refine ⟨fun m hne => ?_, s.turnWait_loops n n, by rw [State.turnWait_line_same]⟩
      rw [State.inputs, (s.turnWait_onlyLine n).2 m hne]; rfl
    simp only
    split
    · refine hwait.trans_handedOn rfl ?_
      have hs' : ((s.turnWait n).line n).tx.shift = none := hwait.shift.trans (hs hm)
      have hm' : (s.turnWait n).mode n = .half := hm
      generalize s.turnWait n = u at *
      obtain ⟨hloops, hshift, hoth⟩ := (u.takeOrWithdraw n).withdrawn_rest n
      have hrx : ((u.takenOff n).line n).rx = ((u.takeOrWithdraw n).line n).rx := congrArg (·.2.2.1) hloops
      have hin : ((u.takenOff n).line n).loopIn = ((u.takeOrWithdraw n).line n).loopIn := congrArg (·.1) hloops
      have hsense : ((u.takenOff n).line n).sense = ((u.takeOrWithdraw n).line n).sense := congrArg (·.2.1) hloops
      have hshift' : ((u.takenOff n).line n).tx.shift = ((u.takeOrWithdraw n).line n).tx.shift := hshift
      have hoth' : ∀ m, m ≠ n → (u.takenOff n).inputs m = (u.takeOrWithdraw n).inputs m := hoth
      rcases u.takeOrWithdraw_cases n with ⟨-, e⟩ | ⟨-, -, e⟩ | ⟨hb, -, e⟩
      · rw [e] at hrx hin hsense hshift' hoth'
        exact ⟨hoth', hin, hsense, by rw [hshift', hrx, if_neg fun hc => hc.2 hs']⟩
      · rw [e] at hrx hin hsense hshift' hoth'
        exact ⟨hoth', hin, hsense, by rw [hshift', hrx, if_neg fun hc => hc.2 hs']; rfl⟩
      · rw [e] at hrx hin hsense hshift' hoth'
        have hhold : (u.line n).tx.holding.isSome = true := by
          simp only [State.mayBegin, Bool.and_eq_true] at hb
          exact hb.2
        obtain ⟨x, hx⟩ := Option.isSome_iff_exists.mp hhold
        obtain ⟨y, hy, -⟩ := Tx.begin_takes hx
        have hl : (u.chosen.beginHeld n).line n = { u.line n with
            tx := (u.line n).tx.begin, rx := { (u.line n).rx with state := .waitMark } } := by
          rw [State.beginHeld_line_same]
          simp only [State.chosen_line]
          rw [if_pos (show u.chosen.mode n = .half from hm')]
        rw [hl] at hrx hin hsense hshift'
        refine ⟨fun m hne => (hoth' m hne).trans ?_, hin, hsense, ?_⟩
        · rw [State.inputs, (u.chosen.beginHeld_onlyLine n).2 m hne]; rfl
        · rw [hshift', hrx, if_pos ⟨hm', by rw [hy]; nofun⟩]
    · exact hwait.handedOn hs
  · exact (AssemblesOnly.refl n s).handedOn hs

end Sys2Proof.Machine
end

section
namespace Sys2Proof.Machine

/-! ### A character handed to the assembler (R23, R24, R25) -/

theorem State.mode_of_boot {s t : State} (h : t.boot = s.boot) (n : Line) : t.mode n = s.mode n := by
  simp only [State.mode, State.lineCfg, h]

theorem State.openMessage_handedOn (s : State) (n : Line) (r : RecIx)
    (hs : s.mode n = .half → (s.line n).tx.shift = none) : HandedOn n s (s.openMessage n r) := by
  refine ((s.modRecord_assemblesOnly n r _).trans (State.modAsm_assemblesOnly _ n _)).trans_handedOn rfl
    (State.leftHunt_handedOn _ n fun hm => ?_)
  simpa using hs hm

theorem State.loseMessage_handedOn (s : State) (n : Line)
    (hs : s.mode n = .half → (s.line n).tx.shift = none) : HandedOn n s (s.loseMessage n) := by
  refine ((s.post_assemblesOnly n _).trans (State.modAsm_assemblesOnly _ n _)).trans_handedOn
    (s.post_mode (.messageLost n) n) (State.leftHunt_handedOn _ n fun hm => ?_)
  have hm' : s.mode n = .half := (s.post_mode (.messageLost n) n).symm.trans hm
  simpa using hs hm'

theorem State.openingRunDone_handedOn (s : State) (n : Line)
    (hs : s.mode n = .half → (s.line n).tx.shift = none) : HandedOn n s (s.openingRunDone n) := by
  unfold State.openingRunDone
  split
  · split
    · exact s.openMessage_handedOn n _ hs
    · exact s.loseMessage_handedOn n hs
  · exact s.loseMessage_handedOn n hs

theorem State.huntChar_handedOn (s : State) (n : Line) (h : Handed)
    (hs : s.mode n = .half → (s.line n).tx.shift = none) : HandedOn n s (s.huntChar n h) := by
  unfold State.huntChar
  split
  · split
    · exact (s.modAsm_assemblesOnly n _).handedOn hs
    · exact s.openingRunDone_handedOn n hs
  · exact (s.modAsm_assemblesOnly n _).handedOn hs

/-- Only the fourth opening code takes a HALF line's receiver with it. -/
theorem State.handOverChar_handedOn (s : State) (n : Line) (h : Handed) (framing : Bool)
    (hs : s.mode n = .half → (s.line n).tx.shift = none) : HandedOn n s (s.handOverChar n h framing) := by
  have hmessage : ∀ r, AssemblesOnly n s (((s.countFraming r framing).messageChar n r h).restartSilence n) := fun r =>
    (s.countFraming_assemblesOnly n r framing).trans <| (State.messageChar_assemblesOnly _ n r h).trans
      (State.modAsm_assemblesOnly _ n _)
  unfold State.handOverChar
  split
  · exact s.huntChar_handedOn n h hs
  · exact (s.discardChar_assemblesOnly n h).handedOn hs
  · exact (hmessage _).handedOn hs
  · exact (hmessage _).handedOn hs
  · exact (AssemblesOnly.refl n s).handedOn hs
  · exact (AssemblesOnly.refl n s).handedOn hs

/-! ### The receiver's readings (R5 to R8) -/

/-- A reading of LOOPn_IN that moves the receiver. -/
theorem State.readAs_spec (s : State) (n : Line) (level : Level) (after : RxState) :
    let t := (s.readPin n .loopIn level).setRx n after
    OnlyLine n s t ∧ (t.line n).rx = { (s.line n).rx with state := after } ∧ (t.line n).loopIn = level ∧
      (t.line n).sense = (s.line n).sense ∧ (t.line n).condIn.value = (s.line n).condIn.value ∧
      (t.line n).condSense = (s.line n).condSense ∧ (t.line n).tx = (s.line n).tx ∧
      (t.line n).motor = (s.line n).motor ∧ (t.line n).asm = (s.line n).asm ∧
      (t.line n).sched = (s.line n).sched := by
  obtain ⟨c, w, hl, hc, -⟩ := s.readPin_loopIn_line n level
  refine ⟨(s.readPin_onlyLine n .loopIn level).trans (State.setRx_onlyLine _ n after), ?_⟩
  rw [State.setRx_line_same, hl]
  exact ⟨rfl, rfl, rfl, hc, rfl, rfl, rfl, rfl, rfl⟩

theorem exec_receiverMarkReading {s : State} {n : Line} (h : MayReceive s n) (hb : (s.line n).rx.state = .waitMark) :
    exec (.receiverMarkReading n) s = .next ((s.readPin n .loopIn .marking).setRx n .huntStart) := by
  show execReceiverMarkReading n s = _
  simp [execReceiverMarkReading, State.receiving_of_mayReceive h, hb]

theorem exec_startTransition {s : State} {n : Line} (h : MayReceive s n) (hb : (s.line n).rx.state = .huntStart) :
    exec (.startTransition n) s = .next ((s.readPin n .loopIn .spacing).setRx n .inChar) := by
  show execStartTransition n s = _
  simp [execStartTransition, State.receiving_of_mayReceive h, hb]

theorem exec_falseStart {s : State} {n : Line} (h : MayReceive s n) (hb : (s.line n).rx.state = .inChar) :
    exec (.falseStart n) s = .next ((s.readPin n .loopIn .marking).setRx n .huntStart) := by
  show execFalseStart n s = _
  simp [execFalseStart, State.receiving_of_mayReceive h, hb]

theorem exec_characterReceived {s : State} {n : Line} (h : MidCharacter s n) (code : Code) (framing : Bool) :
    exec (.characterReceived n code framing) s = .next (s.endChar n code framing) := by
  show execCharacterReceived n code framing s = _
  simp [execCharacterReceived, State.receiving_of_mayReceive h.1, h.2]

/-- The state in which an ended character is handed over: the receiver hunts or waits, in the case the character
leaves (R6, R7). -/
def State.charEnded (s : State) (n : Line) (code : Code) (framing : Bool) : State :=
  ((s.readPin n .loopIn (if framing then .spacing else .marking)).setRxCase n
    (caseAfter code (s.line n).rx.case)).setRx n (if framing then .waitMark else .huntStart)

theorem State.endChar_eq (s : State) (n : Line) (code : Code) (framing : Bool) : s.endChar n code framing =
    (s.charEnded n code framing).handOverChar n ⟨code, caseAfter code (s.line n).rx.case⟩ framing := by
  simp only [State.endChar, State.charEnded, shiftOf_getD]

theorem State.charEnded_onlyLine (s : State) (n : Line) (code : Code) (framing : Bool) :
    OnlyLine n s (s.charEnded n code framing) :=
  (s.readPin_onlyLine n .loopIn _).trans <| (State.setRxCase_onlyLine _ n _).trans (State.setRx_onlyLine _ n _)

theorem State.charEnded_line (s : State) (n : Line) (code : Code) (framing : Bool) :
    ∃ c w, (s.charEnded n code framing).line n = { s.line n with
      loopIn := if framing then .spacing else .marking, condIn := c, turn := w,
      rx := { state := if framing then .waitMark else .huntStart, case := caseAfter code (s.line n).rx.case } } := by
  obtain ⟨c, w, hl, -⟩ := s.readPin_loopIn_line n (if framing then .spacing else .marking)
  refine ⟨c, w, ?_⟩
  rw [State.charEnded, State.setRx_line_same, State.setRxCase_line_same, hl]

/-- Settles O10: the three readings by their commands, the stop sample by what the hand-over leaves. -/
theorem receiverFollowsTheLoop : Obligations.ReceiverFollowsTheLoop := by
  unfold Obligations.ReceiverFollowsTheLoop
  refine ⟨fun n s c before after level hmem hrec hb => ?_, fun n code framing s hmid => ?_⟩
  · have hspec := s.readAs_spec n level after
    rw [hrec.2.2.1] at hspec
    simp only [List.mem_cons, Prod.mk.injEq, List.not_mem_nil, or_false] at hmem
    obtain ⟨rfl, rfl, rfl, rfl⟩ | ⟨rfl, rfl, rfl, rfl⟩ | ⟨rfl, rfl, rfl, rfl⟩ := hmem
    · exact ⟨_, exec_receiverMarkReading hrec hb, hspec⟩
    · exact ⟨_, exec_startTransition hrec hb, hspec⟩
    · exact ⟨_, exec_falseStart hrec hb, hspec⟩
  · obtain ⟨c, w, hl⟩ := s.charEnded_line n code framing
    have hone := s.charEnded_onlyLine n code framing
    have hmode := State.mode_of_boot hone.boot n
    have hh := (s.charEnded n code framing).handOverChar_handedOn n ⟨code, caseAfter code (s.line n).rx.case⟩ framing
      fun hm => by rw [hl]; exact hmid.1.2.2.2 (hmode.symm.trans hm)
    rw [← s.endChar_eq n code framing] at hh
    refine ⟨_, exec_characterReceived hmid code framing, congrArg Prod.fst (s.endChar_frame n code framing), ?_,
      by rw [hh.loopIn, hl], by rw [hh.sense, hl], fun m hm => ?_⟩
    · rw [hh.rx, hmode, hl]
      cases framing with
      | true => simp
      | false => by_cases hc : s.mode n = .half ∧ ((s.endChar n code false).line n).tx.shift ≠ none <;> simp [hc]
    · rw [hh.others m hm, State.inputs, hone.2 m hm]; rfl

end Sys2Proof.Machine
end

section
namespace Sys2Proof.Machine

/-! ### The tail (R136) -/

/-- The codes of a tail, as the code set gives them (R136). -/
def tailCodes (codes : CodeSet) (short : Bool) : List Code :=
  (if short then [8, 2] ++ codes.incomplete else []) ++ [8, 2] ++ List.replicate 4 codes.closing

theorem markLast_code (l : List Composed) : (markLast l).map (·.code) = l.map (·.code) := by
  induction l with
  | nil => rfl
  | cons c cs ih =>
    cases cs with
    | nil => rfl
    | cons d ds => simpa [markLast] using ih

/-- Of a list with no character marked, the last one alone is marked. -/
theorem markLast_last (l : List Composed) (hne : l ≠ []) (h : ∀ c ∈ l, c.last = false) :
    (markLast l).map (·.last) = List.replicate (l.length - 1) false ++ [true] := by
  induction l with
  | nil => exact absurd rfl hne
  | cons c cs ih =>
    cases cs with
    | nil => rfl
    | cons d ds =>
      have := ih (List.cons_ne_nil d ds) fun x hx => h x (List.mem_cons_of_mem c hx)
      simp [markLast, this, h c (List.mem_cons_self ..), List.replicate_succ]

/-- A tail is a CR, then what is left to send after it. -/
theorem State.tailOf_eq (s : State) (r : Record) : ∃ rest, s.tailOf r = plain crCode :: rest ∧
    rest.map (·.code) = (tailCodes s.boot.cfg.codes (r.overrun || r.truncated)).drop 1 ∧
    rest.map (·.last) = List.replicate ((tailCodes s.boot.cfg.codes (r.overrun || r.truncated)).length - 2) false ++
      [true] := by
  have split : ∀ short : Bool, ∃ l, (if short then crLf ++ s.incompleteGroup else []) ++ crLf ++ s.closingRun =
      plain crCode :: l ∧ l ≠ [] ∧ (∀ c ∈ l, c.last = false) ∧
      l.map (·.code) = (tailCodes s.boot.cfg.codes short).drop 1 := fun short => by
    have hsent : ∀ c ∈ s.incompleteGroup ++ crLf ++ s.closingRun, c.last = false := by
      intro c hc
      simp only [State.incompleteGroup, State.closingRun, crLf, plain, inLetters, List.mem_append, List.mem_map,
        List.mem_cons, List.not_mem_nil, or_false, List.mem_replicate] at hc
      obtain (⟨_, -, rfl⟩ | rfl | rfl) | ⟨-, rfl⟩ := hc <;> rfl
    cases short with
    | false =>
      refine ⟨_, rfl, nofun, fun c hc => ?_, rfl⟩
      exact hsent c (by rw [List.append_assoc]; exact List.mem_append_right _ (List.mem_cons_of_mem _ hc))
    | true =>
      refine ⟨plain lfCode :: (s.incompleteGroup ++ crLf ++ s.closingRun), rfl, nofun, ?_, ?_⟩
      · simpa [plain] using hsent
      · simp [tailCodes, State.incompleteGroup, State.closingRun, crLf, plain, inLetters, crCode, lfCode,
          Function.comp_def]
  obtain ⟨l, hl, hne, hlast, hcode⟩ := split (r.overrun || r.truncated)
  refine ⟨markLast l, ?_, ?_, ?_⟩
  · rw [State.tailOf, hl]
    cases l with
    | nil => exact absurd rfl hne
    | cons d ds => rfl
  · rw [markLast_code, hcode]
  · have hlen : l.length = (tailCodes s.boot.cfg.codes (r.overrun || r.truncated)).length - 1 := by
      rw [← List.length_map (f := (·.code)), hcode, List.length_drop]
    rw [markLast_last l hne hlast, hlen]
    rfl

/-- The tail is composed and its first CR is held; `before` is the scheduler as the tail was entered (R136). -/
def TailBegun (codes : CodeSet) (before : Sched) (l : LineUnit) (short : Bool) : Prop :=
  l.sched.phase = .tail ∧ l.sched.mark = false ∧ l.sched.midText = false ∧ l.sched.outstanding = false ∧
  l.tx.holding = some ⟨8, .composed, 0, false⟩ ∧
  l.sched.composed.map (·.code) = (tailCodes codes short).drop 1 ∧
  l.sched.composed.map (·.last) = List.replicate ((tailCodes codes short).length - 2) false ++ [true] ∧
  l.sched.current = before.current ∧ l.sched.nextIndex = before.nextIndex

/-- What a tail that has begun says is about the scheduler but its queue, and the holding stage. -/
theorem TailBegun.congr {codes : CodeSet} {before : Sched} {l l' : LineUnit} {short : Bool}
    (h : TailBegun codes before l short) (hh : l'.tx.holding = l.tx.holding)
    (hs : ∃ q, l'.sched = { l.sched with queue := q }) : TailBegun codes before l' short := by
  obtain ⟨q, hs⟩ := hs
  unfold TailBegun
  rw [hs, hh]
  exact h

/-! ### A request in TEXT (R135) -/

theorem State.serveText_of_loaded {s : State} {n : Line} {ref : CopyRef}
    (h : (s.line n).sched.nextIndex < (s.record ref.record).count) :
    (s.serveText n ref).line n = { s.line n with
      tx := { (s.line n).tx with
        holding := some ⟨s.charAt ref.record (s.line n).sched.nextIndex, .text, (s.line n).sched.nextIndex, false⟩ }
      sched := { (s.line n).sched with
        nextIndex := (s.line n).sched.nextIndex + 1, midText := true, outstanding := false } } := by
  simp [State.serveText, h, State.loadChar, Tx.load]

theorem State.serveText_of_waiting {s : State} {n : Line} {ref : CopyRef}
    (h : (s.record ref.record).count ≤ (s.line n).sched.nextIndex) (hc : (s.record ref.record).complete = false) :
    (s.serveText n ref).line n = { s.line n with sched := { (s.line n).sched with outstanding := true } } := by
  simp [State.serveText, Nat.not_lt.mpr h, hc]

theorem State.serveText_of_complete {s : State} {n : Line} {ref : CopyRef}
    (h : (s.record ref.record).count ≤ (s.line n).sched.nextIndex) (hc : (s.record ref.record).complete = true) :
    TailBegun s.boot.cfg.codes (s.line n).sched ((s.serveText n ref).line n)
      ((s.record ref.record).overrun || (s.record ref.record).truncated) := by
  have he : s.serveText n ref = (s.enterTail n (s.record ref.record)).loadNextComposed n := by
    simp [State.serveText, Nat.not_lt.mpr h, hc]
  obtain ⟨rest, ht, hcode, hlast⟩ := s.tailOf_eq (s.record ref.record)
  have hl : (s.enterTail n (s.record ref.record)).line n = { s.line n with sched := { (s.line n).sched with
      phase := .tail, composed := plain crCode :: rest, midText := false, mark := false, outstanding := false } } := by
    rw [State.enterTail, State.modSched_line_same, ht]
  have hload : loadComposed ((s.enterTail n (s.record ref.record)).line n).tx.caseAhead
      ((s.enterTail n (s.record ref.record)).line n).sched.composed = some (⟨8, .composed, 0, false⟩, rest) := by
    rw [hl]
    exact loadComposed_of_any rfl _ rest
  rw [he, State.loadNextComposed_of_some hload, hl]
  exact ⟨rfl, rfl, rfl, rfl, rfl, hcode, hlast, rfl, rfl⟩

/-! ### An outstanding request meets new text (R128, R135) -/

/-- Line `m` has a request of entry `e`'s text outstanding. -/
structure AsksFor (s : State) (m : Line) (e : QEntry) : Prop where
  current : (s.line m).sched.current = some e
  phase : (s.line m).sched.phase = .text
  outstanding : (s.line m).sched.outstanding = true
  holding : (s.line m).tx.holding = none

theorem AsksFor.congr {s t : State} {m : Line} {e : QEntry} (h : AsksFor s m e)
    (htx : (t.line m).tx = (s.line m).tx) (hs : (t.line m).sched = (s.line m).sched) : AsksFor t m e :=
  ⟨hs ▸ h.current, hs ▸ h.phase, hs ▸ h.outstanding, htx ▸ h.holding⟩

theorem State.answerText_of_asksFor {s : State} {m : Line} {e : QEntry} (h : AsksFor s m e) :
    s.answerText m e.copy.record = s.serveText m e.copy := by
  rw [s.answerText_of_outstanding m e h.current h.outstanding, s.serveLine_of_text m e h.holding h.current h.phase]

/-- The texts of the records, and what is composed around them, are the same in both states. -/
structure SameText (s t : State) : Prop where
  boot : t.boot = s.boot
  pool : t.store.pool = s.store.pool
  records : CopiesOnly s t

theorem SameText.refl (s : State) : SameText s s := ⟨rfl, rfl, fun _ => ⟨_, rfl⟩⟩

theorem SameText.trans {s t u : State} (h₁ : SameText s t) (h₂ : SameText t u) : SameText s u :=
  ⟨h₂.boot.trans h₁.boot, h₂.pool.trans h₁.pool, h₁.records.trans h₂.records⟩

theorem Schedules.sameText {n : Line} {s t : State} (h : Schedules n s t) : SameText s t := ⟨h.boot, h.pool, h.records⟩

theorem SameText.charAt {s t : State} (h : SameText s t) (r : RecIx) (i : Nat) : t.charAt r i = s.charAt r i := by
  obtain ⟨cs, e⟩ := h.records r
  simp only [State.charAt, Record.address, e, h.pool]

theorem State.linesLook_line_of_notMem {m : Line} {ns : List Line} (hm : m ∉ ns) (s : State) (r : RecIx)
    (oldCount : Nat) (oldComplete : Bool) : (s.linesLook r oldCount oldComplete ns).line m = s.line m := by
  induction ns generalizing s with
  | nil => rfl
  | cons k ks ih =>
    obtain ⟨hk, hks⟩ := not_or.mp (List.mem_cons.not.mp hm)
    exact (ih hks _).trans ((s.lineTextChanged_sendsOnly k r oldCount oldComplete).others m hk)

/-- Line `m` looks at the record once; the lines that look before and after it leave it and the text. -/
theorem State.linesLook_line {m : Line} {ns : List Line} (hm : m ∈ ns) (hd : ns.Nodup) (s : State) (r : RecIx)
    (oldCount : Nat) (oldComplete : Bool) : ∃ u, SameText s u ∧ u.line m = s.line m ∧
      (s.linesLook r oldCount oldComplete ns).line m = (u.lineTextChanged m r oldCount oldComplete).line m := by
  induction ns generalizing s with
  | nil => nomatch hm
  | cons k ks ih =>
    obtain ⟨hk, hks⟩ := List.nodup_cons.mp hd
    have hlook := s.lineTextChanged_sendsOnly k r oldCount oldComplete
    by_cases e : m = k
    · subst e
      exact ⟨s, .refl s, rfl, State.linesLook_line_of_notMem hk _ r oldCount oldComplete⟩
    · obtain ⟨u, hu, hl, ht⟩ := ih ((List.mem_cons.mp hm).resolve_left e) hks (s.lineTextChanged k r oldCount oldComplete)
      exact ⟨u, hlook.sameText.trans hu, hl.trans (hlook.others m e), ht⟩

theorem State.textChanged_line (s : State) (r : RecIx) (oldCount : Nat) (oldComplete : Bool) (m : Line) :
    ∃ u, SameText s u ∧ u.line m = s.line m ∧
      (s.textChanged r oldCount oldComplete).line m = (u.lineTextChanged m r oldCount oldComplete).line m := by
  rw [State.line_of_lines (s.textChanged_lines r oldCount oldComplete)]
  exact State.linesLook_line (List.mem_finRange m) (List.nodup_finRange 4) s r oldCount oldComplete

/-- A character added to the text is loaded at once; with no copy of the record queued on the line, none became
ready there (R135). -/
theorem State.textChanged_loads {s : State} {m : Line} {e : QEntry} (h : AsksFor s m e)
    (hi : (s.line m).sched.nextIndex < (s.record e.copy.record).count)
    (hq : ∀ q ∈ (s.line m).sched.queue, q.copy.record ≠ e.copy.record) (oldCount : Nat) (oldComplete : Bool) :
    (s.textChanged e.copy.record oldCount oldComplete).line m = { s.line m with
      tx := { (s.line m).tx with
        holding := some ⟨s.charAt e.copy.record (s.line m).sched.nextIndex, .text, (s.line m).sched.nextIndex, false⟩ }
      sched := { (s.line m).sched with
        nextIndex := (s.line m).sched.nextIndex + 1, midText := true, outstanding := false } } := by
  obtain ⟨u, hu, hl, ht⟩ := s.textChanged_line e.copy.record oldCount oldComplete m
  obtain ⟨cs, hrec⟩ := hu.records e.copy.record
  have hserve := u.serveText_of_loaded (n := m) (ref := e.copy) (by rw [hl, hrec]; exact hi)
  rw [hl, hu.charAt] at hserve
  have hready : ((u.serveText m e.copy).line m).sched.queue.any
      ((u.serveText m e.copy).newlyReady e.copy.record oldCount oldComplete) = false := by
    rw [hserve]
    exact List.any_eq_false.mpr fun q hq' => by simp [State.newlyReady, hq q hq']
  rw [ht, State.lineTextChanged_eq, State.answerText_of_asksFor (h.congr (hl ▸ rfl) (hl ▸ rfl)), hready, ← hserve]
  rfl

/-- A text that is complete with all of it loaded is answered with the tail (R136). -/
theorem State.textChanged_begins {s : State} {m : Line} {e : QEntry} (h : AsksFor s m e)
    (hi : (s.record e.copy.record).count ≤ (s.line m).sched.nextIndex)
    (hc : (s.record e.copy.record).complete = true) (oldCount : Nat) (oldComplete : Bool) :
    TailBegun s.boot.cfg.codes (s.line m).sched ((s.textChanged e.copy.record oldCount oldComplete).line m)
      ((s.record e.copy.record).overrun || (s.record e.copy.record).truncated) := by
  obtain ⟨u, hu, hl, ht⟩ := s.textChanged_line e.copy.record oldCount oldComplete m
  obtain ⟨cs, hrec⟩ := hu.records e.copy.record
  have hbegun := u.serveText_of_complete (n := m) (ref := e.copy) (by rw [hl, hrec]; exact hi) (by rw [hrec]; exact hc)
  rw [hl, hrec, hu.boot] at hbegun
  obtain ⟨hphase, -, -, -, -, -, -, hcur, -⟩ := id hbegun
  rw [ht, State.lineTextChanged_eq, State.answerText_of_asksFor (h.congr (hl ▸ rfl) (hl ▸ rfl))]
  split
  · rw [State.lookAgain_of_tail _ m (by rw [hcur, h.current]; rfl) hphase]
    exact hbegun
  · exact hbegun

end Sys2Proof.Machine
end

section
namespace Sys2Proof.Machine

/-! ### The record's text grows or is complete (R34, R35, R38) -/

theorem State.modAsm_sends (s : State) (n m : Line) (f : Assembler → Assembler) :
    ((s.modAsm n f).line m).tx = (s.line m).tx ∧ ((s.modAsm n f).line m).sched = (s.line m).sched := by
  rw [State.modAsm_line]
  split <;> exact ⟨rfl, rfl⟩

theorem State.returnToHunt_sends (s : State) (n m : Line) :
    ((s.returnToHunt n).line m).tx = (s.line m).tx ∧ ((s.returnToHunt n).line m).sched = (s.line m).sched := by
  by_cases h : m = n
  · subst h
    obtain ⟨w, hl⟩ := s.returnToHunt_line m
    rw [hl]
    exact ⟨rfl, rfl⟩
  · have hone : OnlyLine n s (s.returnToHunt n) := (s.modAsm_onlyLine n _).trans (State.turnReview_onlyLine _ n)
    rw [hone.2 m h]
    exact ⟨rfl, rfl⟩

theorem State.charEnded_sends (s : State) (n : Line) (code : Code) (framing : Bool) (m : Line) :
    ((s.charEnded n code framing).line m).tx = (s.line m).tx ∧
      ((s.charEnded n code framing).line m).sched = (s.line m).sched := by
  by_cases h : m = n
  · subst h
    obtain ⟨c, w, hl⟩ := s.charEnded_line m code framing
    rw [hl]
    exact ⟨rfl, rfl⟩
  · rw [(s.charEnded_onlyLine n code framing).2 m h]
    exact ⟨rfl, rfl⟩

theorem State.countFraming_lines (s : State) (r : RecIx) (framing : Bool) :
    (s.countFraming r framing).lines = s.lines := by
  unfold State.countFraming
  split <;> rfl

theorem State.countFraming_record (s : State) (r : RecIx) (framing : Bool) :
    ∃ k, (s.countFraming r framing).record r = { s.record r with mutilated := k } := by
  unfold State.countFraming
  split
  · exact ⟨_, s.modRecord_record_same r _⟩
  · exact ⟨_, rfl⟩

theorem State.countFraming_boot (s : State) (r : RecIx) (framing : Bool) :
    (s.countFraming r framing).boot = s.boot := by
  unfold State.countFraming
  split <;> rfl

theorem State.writeChar_record (s : State) (r : RecIx) (i : Nat) (c : Code) (q : RecIx) :
    (s.writeChar r i c).record q = s.record q := by
  unfold State.writeChar
  split <;> rfl

/-- A character written into a slot its record's chain has is read there (R43). -/
theorem State.writeChar_charAt {s : State} {r : RecIx} {i : Nat} {b : BlockNo} (c : Code)
    (hb : (s.record r).chain[i / 64]? = some b) (hp : PoolForm s) : (s.writeChar r i c).charAt r i = c := by
  have ha : (s.record r).address i = some (b.val * 64 + i % 64) := by simp [Record.address, Config.blockSize, hb]
  have hback : (c.setWidth 8).setWidth 5 = c := by rw [BitVec.setWidth_setWidth_of_le _ (by decide), BitVec.setWidth_eq]
  simp only [State.charAt, State.writeChar_record, ha, s.writeChar_read r i c _ _ ha hp, if_true, hback]

/-- A character stored where the chain has a slot is loaded for the copy that asks for it (R34, R135). -/
theorem State.appendChar_loads {s : State} {m : Line} {e : QEntry} {b : BlockNo} (h : AsksFor s m e) (c : Code)
    (hb : (s.record e.copy.record).chain[(s.record e.copy.record).count / 64]? = some b) (hp : PoolForm s)
    (hi : (s.line m).sched.nextIndex = (s.record e.copy.record).count)
    (hq : ∀ q ∈ (s.line m).sched.queue, q.copy.record ≠ e.copy.record) :
    (s.appendChar e.copy.record c).line m = { s.line m with
      tx := { (s.line m).tx with holding := some ⟨c, .text, (s.record e.copy.record).count, false⟩ }
      sched := { (s.line m).sched with
        nextIndex := (s.record e.copy.record).count + 1, midText := true, outstanding := false } } := by
  have hread := State.writeChar_charAt c hb hp
  have hline : (s.writeChar e.copy.record (s.record e.copy.record).count c).line m = s.line m :=
    State.line_of_lines (s.writeChar_lines _ _ c) m
  unfold State.appendChar
  simp only
  generalize hw : (s.writeChar e.copy.record (s.record e.copy.record).count c).modRecord e.copy.record
    (fun rec => { rec with count := (s.record e.copy.record).count + 1 }) = w
  have hwl : w.line m = s.line m := by rw [← hw]; exact hline
  have hcount : (w.record e.copy.record).count = (s.record e.copy.record).count + 1 := by
    rw [← hw, State.modRecord_record_same]
  have hat : w.charAt e.copy.record (s.record e.copy.record).count = c := by
    rw [← hw]
    simpa [State.charAt, Record.address] using hread
  have hloads := State.textChanged_loads (h.congr (t := w) (hwl ▸ rfl) (hwl ▸ rfl))
    (by rw [hwl, hi, hcount]; exact Nat.lt_succ_self _) (by rw [hwl]; exact hq) (s.record e.copy.record).count false
  rwa [hwl, hi, hat] at hloads

/-- The close of the message begins the tail of the copy that has sent all of the text (R136). -/
theorem State.completeRecord_begins {s : State} {m : Line} {e : QEntry} (h : AsksFor s m e)
    (hi : (s.line m).sched.nextIndex = (s.record e.copy.record).count) (truncated : Bool) :
    TailBegun s.boot.cfg.codes (s.line m).sched ((s.completeRecord e.copy.record truncated).line m)
      ((s.record e.copy.record).overrun || (s.record e.copy.record).truncated || truncated) := by
  unfold State.completeRecord
  simp only
  generalize hw : s.modRecord e.copy.record
    (fun rec => { rec with complete := true, state := .stored, truncated := rec.truncated || truncated }) = w
  have hwl : w.line m = s.line m := by rw [← hw]; rfl
  have hrec : w.record e.copy.record = { s.record e.copy.record with
      complete := true, state := .stored, truncated := (s.record e.copy.record).truncated || truncated } := by
    rw [← hw, State.modRecord_record_same]
  have hboot : w.boot = s.boot := by rw [← hw]; rfl
  have hbegun := State.textChanged_begins (h.congr (t := w) (hwl ▸ rfl) (hwl ▸ rfl))
    (by rw [hwl, hi, hrec]) (by rw [hrec]) (s.record e.copy.record).count false
  rw [hwl, hboot, hrec, ← Bool.or_assoc] at hbegun
  have hfree : ∀ u : State, (u.tryFree e.copy.record).line m = u.line m := fun u => by
    unfold State.tryFree
    split <;> rfl
  rw [hfree]
  exact hbegun

/-- Nothing that follows the close takes the tail from a line. -/
theorem State.closed_keeps {s t : State} {codes : CodeSet} {before : Sched} {m : Line} {short : Bool} (n : Line)
    (hd : Dispatches s t) (hc : before.current.isSome = true) (h : TailBegun codes before (s.line m) short) :
    TailBegun codes before ((t.returnToHunt n).line m) short := by
  obtain ⟨htx, hs⟩ := t.returnToHunt_sends n m
  obtain ⟨hphase, -, -, -, -, -, -, hcur, -⟩ := id h
  obtain ⟨q, mo, hl⟩ := (hd.line m).2 (hcur ▸ hc) hphase
  exact h.congr (by rw [htx, hl]) ⟨q, by rw [hs, hl]⟩

theorem State.closeByRun_begins {s : State} {n m : Line} {e : QEntry} (ha : (s.line n).asm.state = .text)
    (h : AsksFor s m e) (hi : (s.line m).sched.nextIndex = (s.record e.copy.record).count) :
    TailBegun s.boot.cfg.codes (s.line m).sched ((s.closeByRun n e.copy.record).line m)
      ((s.record e.copy.record).overrun || (s.record e.copy.record).truncated) := by
  have hc : s.closeByRun n e.copy.record =
      ((s.completeRecord e.copy.record false).dispatchAtClose e.copy.record false).returnToHunt n := by
    simp [State.closeByRun, Assembler.designatorTaken, State.malformedAtClose, ha]
  have hbegun := State.completeRecord_begins h hi false
  rw [Bool.or_false] at hbegun
  rw [hc]
  exact State.closed_keeps n (State.dispatchAtClose_dispatches _ _ _) (by rw [h.current]; rfl) hbegun

theorem State.closeTruncated_begins {s : State} {n m : Line} {e : QEntry} (cause : TruncateCause)
    (ha : (s.line n).asm.state = .text) (h : AsksFor s m e)
    (hi : (s.line m).sched.nextIndex = (s.record e.copy.record).count) :
    TailBegun s.boot.cfg.codes (s.line m).sched ((s.closeTruncated n e.copy.record cause).line m) true := by
  obtain ⟨htx, hs⟩ := s.modAsm_sends n m fun a => { a with closingCount := 0 }
  have hc : s.closeTruncated n e.copy.record cause =
      (((((s.modAsm n fun a => { a with closingCount := 0 }).completeRecord e.copy.record true).post (.truncated n cause
        (((s.modAsm n fun a => { a with closingCount := 0 }).completeRecord e.copy.record true).record
          e.copy.record).inbound)).dispatchAtClose e.copy.record false).returnToHunt n) := by
    simp [State.closeTruncated, Assembler.designatorTaken, State.malformedAtClose, ha]
  have hbegun := State.completeRecord_begins (h.congr htx hs) (by rw [hs]; exact hi) true
  rw [Bool.or_true, hs] at hbegun
  rw [hc]
  exact State.closed_keeps n (State.dispatchAtClose_dispatches _ _ _) (by rw [h.current]; rfl)
    (by rw [State.post_line]; exact hbegun)

/-! ### The commands -/

theorem State.endChar_of_text {s : State} {n : Line} {r : RecIx} (ha : (s.line n).asm.state = .text)
    (hr : (s.line n).asm.record = some r) (code : Code) (framing : Bool) : s.endChar n code framing =
      ((((s.charEnded n code framing).countFraming r framing).messageChar n r
        ⟨code, caseAfter code (s.line n).rx.case⟩).restartSilence n) := by
  obtain ⟨c, w, hl⟩ := s.charEnded_line n code framing
  rw [State.endChar_eq]
  simp [State.handOverChar, hl, ha, hr]

/-- A character that is no closing code is stored in TEXT at once when no closing codes are held back (R26, R34). -/
theorem State.messageChar_of_text {s : State} {n : Line} {r : RecIx} {h : Handed} (ha : (s.line n).asm.state = .text)
    (hcount : (s.line n).asm.closingCount = 0) (hcode : ¬(h.case = .letters ∧ h.code = s.boot.cfg.codes.closing)) :
    s.messageChar n r h = (s.modAsm n fun a => { a with closingCount := 0 }).storeChar n r h.code := by
  have hno : h.isCode s.boot.cfg.codes.closing = false := by simpa [Handed.isCode] using hcode
  simp [State.messageChar, ha, hno, hcount, State.takeAll, State.takeOrdinary]

/-- The fourth closing code of a run closes the message (R26, R35). -/
theorem State.messageChar_of_run {s : State} {n : Line} {r : RecIx} {h : Handed} (ha : (s.line n).asm.state = .text)
    (hcount : (s.line n).asm.closingCount = 3) (hcase : h.case = .letters)
    (hcode : h.code = s.boot.cfg.codes.closing) : s.messageChar n r h = s.closeByRun n r := by
  simp [State.messageChar, ha, hcount, Handed.isCode, hcase, hcode]

theorem exec_silenceTimerExpiry {s : State} {n : Line} {r : RecIx} (hr : s.running = true)
    (hs : (s.line n).asm.silence ≠ none) (ha : (s.line n).asm.state = .text) (hrec : (s.line n).asm.record = some r) :
    exec (.silenceTimerExpiry n) s = .next (s.closeTruncated n r .textSilence) := by
  show execSilenceTimerExpiry n s = _
  simp [execSilenceTimerExpiry, State.silenceEnds, hr, Option.isSome_iff_ne_none.mpr hs, ha, hrec]

end Sys2Proof.Machine
end

section
namespace Sys2Proof.Machine

/-- The state in which the assembler takes a character: what it reads of the record's text, of its own state and of
the sending side is as it was before the character ended. -/
theorem State.charCounted_reads (s : State) (n m : Line) (r : RecIx) (code : Code) (framing : Bool) :
    let u := (s.charEnded n code framing).countFraming r framing
    u.boot = s.boot ∧ u.store.pool = s.store.pool ∧ (∃ k, u.record r = { s.record r with mutilated := k }) ∧
      (u.line n).asm = (s.line n).asm ∧ (u.line m).tx = (s.line m).tx ∧ (u.line m).sched = (s.line m).sched := by
  have hone := s.charEnded_onlyLine n code framing
  obtain ⟨c, w, hl⟩ := s.charEnded_line n code framing
  obtain ⟨htx, hs⟩ := s.charEnded_sends n code framing m
  obtain ⟨k, hk⟩ := (s.charEnded n code framing).countFraming_record r framing
  have hline := State.line_of_lines ((s.charEnded n code framing).countFraming_lines r framing)
  refine ⟨(State.countFraming_boot _ r framing).trans hone.boot, ?_, ⟨k, by rw [hk, hone.record]⟩, ?_, ?_, ?_⟩
  · rw [State.countFraming_pool, hone.store]
  · rw [hline, hl]
  · rw [hline, htx]
  · rw [hline, hs]

/-- The shift stage takes its text character, and the next request is answered from the text, with the tail, or
stays outstanding (R12, R135, R136). -/
theorem textTaken_is_followed (n : Line) (s : State) (x : TxChar) (e : QEntry) (hd : MayDrive s n)
    (hs : (s.line n).tx.shift = none) (hx : (s.line n).tx.holding = some x)
    (hcase : (s.line n).tx.textCase = none ∨ (s.line n).tx.textCase = some (s.line n).tx.lineCase)
    (he : (s.line n).sched.current = some e) (hp : (s.line n).sched.phase = .text) :
    ∃ t, exec (.shiftStageBegin n) s = .next t ∧ OnlyLine n s t ∧ (t.line n).tx.shift = some x ∧
      ((s.line n).sched.nextIndex < (s.record e.copy.record).count →
        (t.line n).tx.holding = some ⟨s.charAt e.copy.record (s.line n).sched.nextIndex, .text,
          (s.line n).sched.nextIndex, false⟩ ∧
        (t.line n).sched = { (s.line n).sched with
          nextIndex := (s.line n).sched.nextIndex + 1, midText := true, outstanding := false }) ∧
      ((s.record e.copy.record).count ≤ (s.line n).sched.nextIndex → (s.record e.copy.record).complete = true →
        TailBegun s.boot.cfg.codes (s.line n).sched (t.line n)
          ((s.record e.copy.record).overrun || (s.record e.copy.record).truncated)) ∧
      ((s.record e.copy.record).count ≤ (s.line n).sched.nextIndex → (s.record e.copy.record).complete = false →
        (t.line n).tx.holding = none ∧ (t.line n).sched = { (s.line n).sched with outstanding := true }) := by
  have hone := s.beginHeld_onlyLine n
  have hl := s.beginHeld_line_same n
  rw [Tx.begin_of_take hx (.inr hcase)] at hl
  generalize hu : s.beginHeld n = u at hone hl
  have hexec := exec_shiftStageBegin hd hs hx
  rw [hu, u.serveLine_of_text n e (by rw [hl]) (by rw [hl]; exact he) (by rw [hl]; exact hp)] at hexec
  have hserve := u.serveText_loadsOnly n e.copy
  have hat : ∀ i, u.charAt e.copy.record i = s.charAt e.copy.record i := fun i => by
    simp only [State.charAt, hone.record, hone.store]
  refine ⟨_, hexec, hone.trans hserve.onlyLine, ?_, fun hi => ?_, fun hi hc => ?_, fun hi hc => ?_⟩
  · rw [hserve.sendsOnly.line.shift, hl]
  · rw [State.serveText_of_loaded (by rw [hl, hone.record]; exact hi), hat, hl]
    exact ⟨rfl, rfl⟩
  · have hbegun := State.serveText_of_complete (s := u) (n := n) (ref := e.copy) (by rw [hl, hone.record]; exact hi)
      (by rw [hone.record]; exact hc)
    rwa [hl, hone.record, hone.boot] at hbegun
  · rw [State.serveText_of_waiting (by rw [hl, hone.record]; exact hi) (by rw [hone.record]; exact hc), hl]
    exact ⟨rfl, rfl⟩

/-- A stored character answers an outstanding request at once (R34, R135). -/
theorem charStored_is_loaded {n m : Line} {s : State} {e : QEntry} {code : Code} {framing : Bool} {b : BlockNo}
    (ha : (s.line n).asm.state = .text) (hr : (s.line n).asm.record = some e.copy.record) (h : AsksFor s m e)
    (hi : (s.line m).sched.nextIndex = (s.record e.copy.record).count) (hmid : MidCharacter s n)
    (hcount : (s.line n).asm.closingCount = 0) (hover : (s.line n).asm.overrun = false)
    (hcode : ¬(caseAfter code (s.line n).rx.case = .letters ∧ code = s.boot.cfg.codes.closing))
    (hslot : (s.record e.copy.record).count % 64 ≠ 0)
    (hb : (s.record e.copy.record).chain[(s.record e.copy.record).count / 64]? = some b) (hpool : PoolForm s)
    (hq : ∀ q ∈ (s.line m).sched.queue, q.copy.record ≠ e.copy.record) :
    ∃ t, exec (.characterReceived n code framing) s = .next t ∧
      (t.line m).tx = { (s.line m).tx with
        holding := some ⟨code, .text, (s.record e.copy.record).count, false⟩ } ∧
      (t.line m).sched = { (s.line m).sched with
        nextIndex := (s.record e.copy.record).count + 1, midText := true, outstanding := false } := by
  have hexec := exec_characterReceived hmid code framing
  rw [State.endChar_of_text ha hr] at hexec
  obtain ⟨hboot, hp, ⟨k, hrec⟩, hasm, htx, hs⟩ := s.charCounted_reads n m e.copy.record code framing
  generalize (s.charEnded n code framing).countFraming e.copy.record framing = u at *
  rw [State.messageChar_of_text (by rw [hasm]; exact ha) (by rw [hasm]; exact hcount)
    (by rw [hboot]; exact hcode)] at hexec
  obtain ⟨htx', hs'⟩ := u.modAsm_sends n m fun a => { a with closingCount := 0 }
  have hvasm : ((u.modAsm n fun a => { a with closingCount := 0 }).line n).asm.overrun = false := by
    simp [hasm, hover]
  have hvrec : (u.modAsm n fun a => { a with closingCount := 0 }).record e.copy.record =
    { s.record e.copy.record with mutilated := k } := hrec
  have hvp : PoolForm (u.modAsm n fun a => { a with closingCount := 0 }) := by
    rw [PoolForm, State.modAsm_pool, hp]
    exact hpool
  generalize (u.modAsm n fun a => { a with closingCount := 0 }) = v at *
  have hstore : v.storeChar n e.copy.record code = v.appendChar e.copy.record code := by
    simp [State.storeChar, hvasm, hvrec, Config.blockSize, hslot]
  have hloads := State.appendChar_loads (h.congr (htx'.trans htx) (hs'.trans hs)) code (by rw [hvrec]; exact hb) hvp
    (by rw [hs', hs, hvrec]; exact hi) (by rw [hs', hs]; exact hq)
  obtain ⟨htx'', hs''⟩ := (v.appendChar e.copy.record code).modAsm_sends n m _
  refine ⟨_, hexec, ?_, ?_⟩
  · rw [hstore, State.restartSilence, htx'', hloads, htx', htx, hvrec]
  · rw [hstore, State.restartSilence, hs'', hloads, hs', hs, hvrec]

/-- The close of the message answers an outstanding request with the tail (R35, R36, R38, R136). -/
theorem close_is_answered {n m : Line} {s : State} {e : QEntry} {c : Instr} {framing : Bool}
    (ha : (s.line n).asm.state = .text) (hr : (s.line n).asm.record = some e.copy.record) (h : AsksFor s m e)
    (hi : (s.line m).sched.nextIndex = (s.record e.copy.record).count)
    (hc : c = .characterReceived n s.boot.cfg.codes.closing framing ∧ MidCharacter s n ∧
        caseAfter s.boot.cfg.codes.closing (s.line n).rx.case = .letters ∧ (s.line n).asm.closingCount = 3 ∨
      c = .silenceTimerExpiry n ∧ s.running = true ∧ (s.line n).asm.silence ≠ none) :
    ∃ t, exec c s = .next t ∧ TailBegun s.boot.cfg.codes (s.line m).sched (t.line m)
      ((s.record e.copy.record).overrun || (s.record e.copy.record).truncated || c == .silenceTimerExpiry n) := by
  obtain ⟨rfl, hmid, hcase, hcount⟩ | ⟨rfl, hrun, hsil⟩ := hc
  · have hexec := exec_characterReceived hmid s.boot.cfg.codes.closing framing
    rw [State.endChar_of_text ha hr] at hexec
    obtain ⟨hboot, -, ⟨k, hrec⟩, hasm, htx, hs⟩ := s.charCounted_reads n m e.copy.record s.boot.cfg.codes.closing framing
    generalize (s.charEnded n s.boot.cfg.codes.closing framing).countFraming e.copy.record framing = u at *
    rw [State.messageChar_of_run (by rw [hasm]; exact ha) (by rw [hasm]; exact hcount) hcase (by rw [hboot])] at hexec
    have hbegun := State.closeByRun_begins (s := u) (n := n) (by rw [hasm]; exact ha) (h.congr htx hs)
      (by rw [hs, hrec]; exact hi)
    rw [hboot, hs, hrec] at hbegun
    obtain ⟨htx', hs'⟩ := (u.closeByRun n e.copy.record).modAsm_sends n m _
    refine ⟨_, hexec, ?_⟩
    rw [show (Instr.characterReceived n s.boot.cfg.codes.closing framing == .silenceTimerExpiry n) = false from rfl,
      Bool.or_false]
    exact hbegun.congr (by rw [State.restartSilence, htx']) ⟨_, by rw [State.restartSilence, hs']⟩
  · refine ⟨_, exec_silenceTimerExpiry hrun hsil ha hr, ?_⟩
    rw [beq_self_eq_true, Bool.or_true]
    exact State.closeTruncated_begins .textSilence ha h hi

/-- Settles O28: the request the shift stage makes, then what a stored character and a close do to one that is
outstanding. -/
theorem outstandingRequestIsAnswered : Obligations.OutstandingRequestIsAnswered := by
  unfold Obligations.OutstandingRequestIsAnswered
  refine ⟨fun n s x e hd hs hx _ hcase he hp => textTaken_is_followed n s x e hd hs hx hcase he hp, ?_⟩
  rintro n m s _ e ha hr he rfl hp ho hh hi
  have h : AsksFor s m e := ⟨he, hp, ho, hh⟩
  exact ⟨fun code framing b hmid hcount hover hcode hslot hb hpool hq =>
    charStored_is_loaded ha hr h hi hmid hcount hover hcode hslot hb hpool hq,
    fun c framing hc => close_is_answered ha hr h hi hc⟩

end Sys2Proof.Machine
end

section
/-! Message reception: what the readers of a record and the dispatch of its copies leave of the copy tables. -/

namespace Sys2Proof.Machine

/-! ### Copies that stay unsettled -/

/-- Some copy of the table is not SETTLED. -/
def Unsettled (cs : List Copy) : Prop := ∃ c ∈ cs, c.state ≠ .settled

/-- A copy table whose copies stand for their stations still, and that settles none. -/
def TableKept (cs cs' : List Copy) : Prop :=
  cs'.map (·.station) = cs.map (·.station) ∧ (Unsettled cs → Unsettled cs')

/-- Records differ in their copy tables alone, and no copy settles. -/
def CopiesKept (s t : State) : Prop :=
  ∀ r, ∃ cs, t.record r = { s.record r with copies := cs } ∧ TableKept (s.record r).copies cs

theorem unsettled_cons (c : Copy) (cs : List Copy) : Unsettled (c :: cs) ↔ c.state ≠ .settled ∨ Unsettled cs := by
  simp [Unsettled]

theorem TableKept.modify {f : Copy → Copy}
    (hf : ∀ c, (f c).station = c.station ∧ (c.state ≠ .settled → (f c).state ≠ .settled)) (cs : List Copy) (i : Nat) :
    TableKept cs (cs.modify i f) := by
  induction cs generalizing i with
  | nil => exact ⟨by simp, fun ⟨_, h, _⟩ => nomatch h⟩
  | cons c cs ih =>
    cases i with
    | zero =>
      refine ⟨by simp [(hf c).1], ?_⟩
      simp only [List.modify_zero_cons, unsettled_cons]
      exact Or.imp_left (hf c).2
    | succ i =>
      refine ⟨by simp [(ih i).1], ?_⟩
      simp only [List.modify_succ_cons, unsettled_cons]
      exact Or.imp_right (ih i).2

theorem CopiesKept.of_records {s t : State} (h : ∀ r, t.record r = s.record r) : CopiesKept s t := fun r =>
  ⟨_, h r, rfl, id⟩

theorem CopiesKept.refl (s : State) : CopiesKept s s := .of_records fun _ => rfl

theorem CopiesKept.trans {s t u : State} (h₁ : CopiesKept s t) (h₂ : CopiesKept t u) : CopiesKept s u := fun r => by
  obtain ⟨cs, e, hm, hu⟩ := h₁ r
  obtain ⟨cs', e', hm', hu'⟩ := h₂ r
  rw [e] at e' hm' hu'
  exact ⟨cs', e', hm'.trans hm, hu' ∘ hu⟩

theorem State.modCopy_copiesKept (s : State) (ref : CopyRef) {f : Copy → Copy}
    (hf : ∀ c, (f c).station = c.station ∧ (c.state ≠ .settled → (f c).state ≠ .settled)) :
    CopiesKept s (s.modCopy ref f) := fun r => by
  rw [State.modCopy_record]
  split
  · exact ⟨_, rfl, .modify hf _ _⟩
  · exact ⟨_, rfl, rfl, id⟩

theorem State.setCopyState_copiesKept (s : State) (ref : CopyRef) {st : CopyState} (h : st ≠ .settled) :
    CopiesKept s (s.setCopyState ref st) :=
  s.modCopy_copiesKept ref fun c => ⟨rfl, fun hc => by simpa [hc] using h⟩

theorem LoadsOnly.copiesKept {n : Line} {s t : State} (h : LoadsOnly n s t) : CopiesKept s t :=
  .of_records h.onlyLine.record

/-! ### The lines start and look (R128 to R131) -/

theorem State.modSched_copiesKept (s : State) (n : Line) (f : Sched → Sched) : CopiesKept s (s.modSched n f) :=
  .of_records fun _ => rfl

theorem State.numberCopy_copiesKept (s : State) (n : Line) (ref : CopyRef) : CopiesKept s (s.numberCopy n ref) := by
  unfold State.numberCopy
  split
  · exact .refl s
  · exact (s.modCopy_copiesKept ref (by exact fun _ => ⟨rfl, id⟩)).trans (State.modSched_copiesKept _ n _)

theorem State.setTextCase_copiesKept (s : State) (n : Line) (k : Option Case) :
    CopiesKept s (s.modTx n fun t => { t with textCase := k }) := .of_records fun _ => rfl

theorem State.startFresh_copiesKept (s : State) (n : Line) (e : QEntry) : CopiesKept s (s.startFresh n e) :=
  (s.numberCopy_copiesKept n _).trans <| (State.setCopyState_copiesKept _ _ (by decide)).trans <|
    (State.modSched_copiesKept _ n _).trans <| (State.setTextCase_copiesKept _ n _).trans
      (State.serveLine_loadsOnly _ n).copiesKept

theorem State.startResume_copiesKept (s : State) (n : Line) (e : QEntry) : CopiesKept s (s.startResume n e) :=
  (s.numberCopy_copiesKept n _).trans <| (State.setCopyState_copiesKept _ _ (by decide)).trans <|
    (State.modCopy_copiesKept _ _ (by exact fun _ => ⟨rfl, id⟩)).trans <| (State.modSched_copiesKept _ n _).trans <|
      (State.setTextCase_copiesKept _ n _).trans (State.serveLine_loadsOnly _ n).copiesKept

theorem State.choose_copiesKept (s : State) (n : Line) : CopiesKept s (s.choose n) := by
  have hs : ∀ f, CopiesKept s (s.modSched n f) := fun f => (s.modSched_loadsOnly n f).copiesKept
  unfold State.choose
  split
  · simp only
    split
    · exact .refl s
    · exact (hs _).trans (State.startFresh_copiesKept _ n _)
    · exact (hs _).trans (State.startResume_copiesKept _ n _)
    · split
      · exact (hs _).trans (State.startFresh_copiesKept _ n _)
      · exact (hs _).trans (State.startResume_copiesKept _ n _)
  · exact .refl s

theorem State.preemptTest_copiesKept (s : State) (n : Line) : CopiesKept s (s.preemptTest n) := by
  unfold State.preemptTest
  simp only
  split
  · exact .refl s
  · split
    · split
      · exact (s.modSched_copiesKept n _).trans <| (State.modTx_loadsOnly _ n none).copiesKept.trans
          (State.serveLine_loadsOnly _ n).copiesKept
      · split
        · exact .of_records fun _ => rfl
        · exact .refl s
    · exact .refl s

theorem State.lookAgain_copiesKept (s : State) (n : Line) : CopiesKept s (s.lookAgain n) :=
  (s.preemptTest_copiesKept n).trans (State.choose_copiesKept _ n)

theorem State.lineTextChanged_copiesKept (s : State) (n : Line) (r : RecIx) (oldCount : Nat) (oldComplete : Bool) :
    CopiesKept s (s.lineTextChanged n r oldCount oldComplete) := by
  rw [State.lineTextChanged_eq]
  have h := (s.answerText_loadsOnly n r).copiesKept
  split
  · exact h.trans (State.lookAgain_copiesKept _ n)
  · exact h

theorem State.motorEnqueue_copiesKept (s : State) (n : Line) : CopiesKept s (s.motorEnqueue n) :=
  .of_records fun _ => rfl

theorem State.putBack_copiesKept (s : State) (n : Line) : CopiesKept s (s.putBack n) := by
  unfold State.putBack
  split
  · exact .refl s
  · have hclear : CopiesKept s (s.clearCurrent n) := .of_records fun _ => rfl
    exact hclear.trans <| (State.modCopy_copiesKept _ _ (by exact fun _ => ⟨rfl, id⟩)).trans <|
      (State.modSched_copiesKept _ n _).trans <| (State.setCopyState_copiesKept _ _ (by decide)).trans
        (State.motorEnqueue_copiesKept _ n)

/-! ### Dispatch (R66 to R71) -/

theorem State.enqueue_copiesKept (s : State) (n : Line) (ref : CopyRef) : CopiesKept s (s.enqueue n ref) := by
  have h : CopiesKept s (((s.modSched n fun sc => { sc with queue := s.insertEntry ⟨ref, s.lead n ref⟩ sc.queue }).setCopyState
      ref .queued).motorEnqueue n) :=
    (s.modSched_copiesKept n _).trans <| (State.setCopyState_copiesKept _ _ (by decide)).trans
      (State.motorEnqueue_copiesKept _ n)
  unfold State.enqueue
  simp only
  split
  · exact h.trans (State.lookAgain_copiesKept _ n)
  · exact h.trans (State.choose_copiesKept _ n)

theorem State.bindLocal_copiesKept (s : State) (n : Line) (ref : CopyRef) : CopiesKept s (s.bindLocal n ref) := by
  unfold State.bindLocal
  split
  · exact s.modCopy_copiesKept ref fun _ => ⟨rfl, fun _ => nofun⟩
  · exact (s.modCopy_copiesKept ref (by exact fun _ => ⟨rfl, id⟩)).trans (State.enqueue_copiesKept _ n ref)

/-- A send context that asks for a frame moves the highway port alone: no context becomes FREE or is taken, and the
hold-off stays (R83). -/
theorem State.askSend_port (s : State) (k : CtxIx) (kind : SendKind) : ∃ p, s.askSend k kind = { s with port := p } ∧
    p.holdOff = s.port.holdOff ∧ p.send = s.port.send.set k ((s.sendCtx k).map fun c =>
      { c with pending := some ⟨kind, s.port.stamp⟩ }) := by
  have hrefresh : ∀ u : State, ∃ x, u.refreshTenure = { u with port := { u.port with tenure := x } } := fun u => by
    unfold State.refreshTenure
    split <;> exact ⟨_, rfl⟩
  have hdrive : ∀ u : State, ∃ x d, u.drive (.send k) false = { u with port := { u.port with tenure := x, driven := d } } :=
    fun u => by
      unfold State.drive
      split <;> exact ⟨_, _, rfl⟩
  obtain ⟨x, hx⟩ := hrefresh (((s.deaden (.send k)).modSend k fun c =>
    { c with pending := some ⟨kind, s.port.stamp⟩ }).nextStamp)
  unfold State.askSend
  simp only [hx]
  split
  · obtain ⟨y, d, hy⟩ := hdrive { ((s.deaden (.send k)).modSend k fun c =>
      { c with pending := some ⟨kind, s.port.stamp⟩ }).nextStamp with port := { (((s.deaden (.send k)).modSend k fun c =>
      { c with pending := some ⟨kind, s.port.stamp⟩ }).nextStamp).port with tenure := x } }
    exact ⟨_, hy, rfl, rfl⟩
  · exact ⟨_, rfl, rfl, rfl⟩

end Sys2Proof.Machine
end

section
namespace Sys2Proof.Machine

/-! ### Send contexts (R69, R96) -/

/-- A send context given to a copy: its OFFER pending and nothing else begun; the copy goes to BACKOFF, and nothing
else moves but the port (R69, R96). -/
theorem State.giveSend_eq (s : State) (k : CtxIx) (ref : CopyRef) : ∃ p x,
    s.giveSend k ref = { s.setCopyState ref .backoff with port := p } ∧ p.holdOff = s.port.holdOff ∧
    p.send = s.port.send.set k (some { Send.begun ref with pending := some ⟨.offer, x⟩ }) := by
  have hask : s.giveSend k ref =
      (((s.setSend k (some (Send.begun ref))).setSend k (some (Send.begun ref))).setCopyState ref .backoff).askSend k
        .offer := by
    rw [State.giveSend, State.askOffer, State.setSend_sendCtx_same]
    rfl
  obtain ⟨p, hp, hold, hsend⟩ := State.askSend_port
    (((s.setSend k (some (Send.begun ref))).setSend k (some (Send.begun ref))).setCopyState ref .backoff) k .offer
  refine ⟨p, s.port.stamp, hask.trans hp, hold, hsend.trans ?_⟩
  simp [State.setSend, State.sendCtx]

theorem State.giveSend_copiesKept (s : State) (k : CtxIx) (ref : CopyRef) : CopiesKept s (s.giveSend k ref) := by
  obtain ⟨p, x, h, -⟩ := s.giveSend_eq k ref
  rw [h]
  exact (s.setCopyState_copiesKept ref (by decide)).trans (.of_records fun _ => rfl)

theorem State.offerCopy_copiesKept (s : State) (ref : CopyRef) : CopiesKept s (s.offerCopy ref) := by
  have hwait : CopiesKept s (s.waitForContext ref) :=
    (s.setCopyState_copiesKept ref (by decide)).trans (.of_records fun _ => rfl)
  unfold State.offerCopy
  split
  · split
    · exact (s.modCopy_copiesKept ref (by exact fun _ => ⟨rfl, id⟩)).trans (State.giveSend_copiesKept _ _ ref)
    · exact hwait
  · exact hwait

theorem State.dispatchCopy_copiesKept (s : State) (ref : CopyRef) : CopiesKept s (s.dispatchCopy ref) := by
  have h : CopiesKept s (s.startCounts ref) := s.modCopy_copiesKept ref (by exact fun _ => ⟨rfl, id⟩)
  unfold State.dispatchCopy
  simp only
  split
  · exact h.trans (State.bindLocal_copiesKept _ _ ref)
  · exact h.trans (State.offerCopy_copiesKept _ ref)

theorem State.dispatchAll_copiesKept (s : State) (refs : List CopyRef) : CopiesKept s (s.dispatchAll refs) := by
  induction refs generalizing s with
  | nil => exact .refl s
  | cons ref refs ih => exact (s.dispatchCopy_copiesKept ref).trans (ih _)

theorem State.dispatchRecord_copiesKept (s : State) (r : RecIx) : CopiesKept s (s.dispatchRecord r) :=
  s.dispatchAll_copiesKept _

theorem State.dispatchAtClose_copiesKept (s : State) (r : RecIx) (filled : Bool) :
    CopiesKept s (s.dispatchAtClose r filled) := by
  unfold State.dispatchAtClose
  split
  · exact s.dispatchRecord_copiesKept r
  · exact .refl s

/-! ### Text that arrives (R110, R128, R135, R162) -/

/-- What the readers of a record may change when they are told of its text: the sending side of lines, what the port
drives and asks for, what the supervisor unit prints, and copies that no one settles. -/
structure Heeds (s t : State) : Prop where
  boot : t.boot = s.boot
  router : t.router = s.router
  store : ∃ rs, t.store = { s.store with records := rs }
  account : t.sup.account = s.sup.account
  holdOff : t.port.holdOff = s.port.holdOff
  contexts : ∀ k, (t.sendCtx k).isNone = (s.sendCtx k).isNone
  copies : CopiesKept s t
  lines : ∀ m, (s.line m).SendsFrom (t.line m)

theorem Heeds.refl (s : State) : Heeds s s := ⟨rfl, rfl, ⟨_, rfl⟩, rfl, rfl, fun _ => rfl, .refl s, fun _ => .refl _⟩

theorem Heeds.trans {s t u : State} (h₁ : Heeds s t) (h₂ : Heeds t u) : Heeds s u where
  boot := h₂.boot.trans h₁.boot
  router := h₂.router.trans h₁.router
  store := by
    obtain ⟨_, e₁⟩ := h₁.store
    obtain ⟨rs, e₂⟩ := h₂.store
    exact ⟨rs, by rw [e₂, e₁]⟩
  account := h₂.account.trans h₁.account
  holdOff := h₂.holdOff.trans h₁.holdOff
  contexts k := (h₂.contexts k).trans (h₁.contexts k)
  copies := h₁.copies.trans h₂.copies
  lines m := (h₁.lines m).trans (h₂.lines m)

theorem Schedules.heeds {n : Line} {s t : State} (h : Schedules n s t) (hc : CopiesKept s t) : Heeds s t where
  boot := h.boot
  router := h.router
  store := by obtain ⟨_, rs, e⟩ := h.card; exact ⟨rs, by rw [e]⟩
  account := by rw [h.sup]
  holdOff := by rw [h.port]
  contexts k := by rw [State.sendCtx, h.port]; rfl
  copies := hc
  lines := h.lines

theorem PrintsOnly.heeds {s t : State} (h : PrintsOnly s t) : Heeds s t := by
  have hc := h.card
  exact ⟨by rw [hc], by rw [hc], ⟨_, by rw [hc]⟩, h.account, by rw [hc], fun k => by rw [hc]; rfl,
    .of_records fun r => by rw [hc]; rfl, fun m => by rw [State.line_of_lines h.lines]; exact .refl _⟩

theorem State.linesLook_heeds (s : State) (r : RecIx) (oldCount : Nat) (oldComplete : Bool) (ns : List Line) :
    Heeds s (s.linesLook r oldCount oldComplete ns) := by
  induction ns generalizing s with
  | nil => exact .refl s
  | cons k ks ih =>
    exact ((s.lineTextChanged_sendsOnly k r oldCount oldComplete).toSchedules.heeds
      (s.lineTextChanged_copiesKept k r oldCount oldComplete)).trans (ih _)

theorem State.askSend_heeds (s : State) (k : CtxIx) (kind : SendKind) : Heeds s (s.askSend k kind) := by
  obtain ⟨p, h, hold, hsend⟩ := s.askSend_port k kind
  rw [h]
  refine ⟨rfl, rfl, ⟨_, rfl⟩, rfl, hold, fun j => ?_, .of_records fun _ => rfl, fun _ => .refl _⟩
  simp only [State.sendCtx, hsend, Fin.getElem_fin, Vector.getElem_set]
  split
  · rename_i hkj
    simp [Fin.ext_iff.mpr hkj]
  · rfl

theorem State.sendsLook_heeds (s : State) (r : RecIx) (ks : List CtxIx) : Heeds s (s.sendsLook r ks) := by
  have hlook : ∀ (u : State) (k : CtxIx), Heeds u (u.lookNext k) := fun u k => by
    unfold State.lookNext
    split
    · simp only
      split
      · exact .refl u
      · split
        · exact u.askSend_heeds k _
        · split
          · exact u.askSend_heeds k _
          · exact .refl u
    · exact .refl u
  induction ks generalizing s with
  | nil => exact .refl s
  | cons k ks ih =>
    unfold State.sendsLook
    simp only
    split
    · exact (hlook s k).trans (ih _)
    · exact ih s

theorem State.textChanged_heeds (s : State) (r : RecIx) (oldCount : Nat) (oldComplete : Bool) :
    Heeds s (s.textChanged r oldCount oldComplete) :=
  (s.linesLook_heeds r oldCount oldComplete _).trans <| (State.sendsLook_heeds _ r _).trans
    (State.supTextChanged_printsOnly _ r).heeds

/-- A line with no copy going out and none of the record queued does not move when the record's text grows. -/
theorem State.textChanged_idle {s : State} {r : RecIx} {m : Line} (hc : (s.line m).sched.current = none)
    (hq : ∀ e ∈ (s.line m).sched.queue, e.copy.record ≠ r) (oldCount : Nat) (oldComplete : Bool) :
    (s.textChanged r oldCount oldComplete).line m = s.line m := by
  obtain ⟨u, -, hl, ht⟩ := s.textChanged_line r oldCount oldComplete m
  have hanswer : u.answerText m r = u := by simp [State.answerText, hl, hc]
  have hready : (u.line m).sched.queue.any (u.newlyReady r oldCount oldComplete) = false := by
    rw [hl]
    exact List.any_eq_false.mpr fun e he => by simp [State.newlyReady, hq e he]
  rw [ht, State.lineTextChanged_eq, hanswer, hready, ← hl]
  rfl

end Sys2Proof.Machine
end

section
namespace Sys2Proof.Machine

/-! ### A character ends and is handed over (R6, R7, R23) -/

/-- The mutilated count after a character with or without a framing fault (R7, R23). -/
def mutilatedAfter (framing : Bool) (k : Nat) : Nat := if framing then min 255 (k + 1) else k

theorem saturate_mutilatedMax (k : Nat) : saturate Config.mutilatedMax k = min 255 (k + 1) := by
  by_cases h : k < 255
  · rw [saturate, Config.mutilatedMax, if_pos h]; omega
  · rw [saturate, Config.mutilatedMax, if_neg h]; omega

/-- What the end of a character leaves to the assembler: its own line has moved in its loop, its receiver and the
timers alone. -/
structure CharEnded (n : Line) (s u : State) : Prop where
  only : OnlyLine n s u
  asm : (u.line n).asm = (s.line n).asm
  tx : (u.line n).tx = (s.line n).tx
  sched : (u.line n).sched = (s.line n).sched
  condIn : (u.line n).condIn.value = (s.line n).condIn.value
  condSense : (u.line n).condSense = (s.line n).condSense
  turn : ∀ k : Turnaround, (u.line n).turn.map (fun _ => k) = (s.line n).turn.map fun _ => k

theorem State.charEnded_spec (s : State) (n : Line) (code : Code) (framing : Bool) :
    CharEnded n s (s.charEnded n code framing) := by
  obtain ⟨c, w, hl, hc, hw⟩ := s.readPin_loopIn_line n (if framing then .spacing else .marking)
  have hline : (s.charEnded n code framing).line n = { s.line n with
      loopIn := if framing then .spacing else .marking, condIn := c, turn := w,
      rx := { state := if framing then .waitMark else .huntStart, case := caseAfter code (s.line n).rx.case } } := by
    rw [State.charEnded, State.setRx_line_same, State.setRxCase_line_same, hl]
  refine ⟨s.charEnded_onlyLine n code framing, ?_, ?_, ?_, ?_, ?_, ?_⟩ <;> rw [hline]
  · exact hc
  · exact hw

/-- What the assembler meets in the middle of a message: the character has ended, and its framing fault is counted
in the record. -/
structure CharMet (n : Line) (r : RecIx) (framing : Bool) (s u : State) : Prop where
  boot : u.boot = s.boot
  router : u.router = s.router
  port : u.port = s.port
  sup : u.sup = s.sup
  store : u.store =
    (s.modRecord r fun rec => { rec with mutilated := mutilatedAfter framing rec.mutilated }).store
  asm : (u.line n).asm = (s.line n).asm
  sched : ∀ m, (u.line m).sched = (s.line m).sched
  condIn : ∀ m, (u.line m).condIn.value = (s.line m).condIn.value
  condSense : ∀ m, (u.line m).condSense = (s.line m).condSense

theorem State.countFraming_eq (s : State) (r : RecIx) (framing : Bool) : s.countFraming r framing =
    s.modRecord r fun rec => { rec with mutilated := mutilatedAfter framing rec.mutilated } := by
  cases framing with
  | true => simp [State.countFraming, mutilatedAfter, saturate_mutilatedMax]
  | false =>
    show s = s.modRecord r fun rec => rec
    simp [State.modRecord, State.modStore]

/-- What the end of a character leaves of its own line it leaves of every line. -/
theorem CharEnded.every {n : Line} {s u : State} (h : CharEnded n s u) {α : Type} (f : LineUnit → α)
    (hf : f (u.line n) = f (s.line n)) (m : Line) : f (u.line m) = f (s.line m) := by
  by_cases hm : m = n
  · rw [hm, hf]
  · rw [h.only.2 m hm]

theorem State.charMet (s : State) (n : Line) (r : RecIx) (code : Code) (framing : Bool) :
    CharMet n r framing s ((s.charEnded n code framing).countFraming r framing) := by
  have h := s.charEnded_spec n code framing
  have hline : ∀ m, ((s.charEnded n code framing).countFraming r framing).line m = (s.charEnded n code framing).line m :=
    State.line_of_lines ((s.charEnded n code framing).countFraming_lines r framing)
  rw [State.countFraming_eq] at hline ⊢
  refine ⟨h.only.boot, h.only.router, h.only.port, h.only.sup, ?_, by rw [hline, h.asm],
    fun m => by rw [hline]; exact h.every (·.sched) h.sched m,
    fun m => by rw [hline]; exact h.every (·.condIn.value) h.condIn m,
    fun m => by rw [hline]; exact h.every (·.condSense) h.condSense m⟩
  simp only [State.modRecord, State.modStore, h.only.store]

section
variable {n : Line} {r : RecIx} {framing : Bool} {s u : State}

theorem CharMet.record (h : CharMet n r framing s u) :
    u.record r = { s.record r with mutilated := mutilatedAfter framing (s.record r).mutilated } := by
  rw [State.record, h.store]
  exact s.modRecord_record_same r _

theorem CharMet.pool (h : CharMet n r framing s u) : u.store.pool = s.store.pool := by rw [h.store]; rfl
theorem CharMet.freeList (h : CharMet n r framing s u) : u.store.freeList = s.store.freeList := by rw [h.store]; rfl
theorem CharMet.reserved (h : CharMet n r framing s u) : u.store.reserved = s.store.reserved := by rw [h.store]; rfl
theorem CharMet.served (h : CharMet n r framing s u) (hd : DeadCopiesServed s) : DeadCopiesServed u := by
  rwa [DeadCopiesServed, h.router, h.sup]

end

/-- A change of the assembler after the end of a character. -/
theorem CharEnded.modAsm {n : Line} {s u : State} (h : CharEnded n s u) (f : Assembler → Assembler) :
    OnlyLine n s (u.modAsm n f) ∧ ((u.modAsm n f).line n).asm = f (s.line n).asm ∧
    ((u.modAsm n f).line n).tx = (s.line n).tx ∧ ((u.modAsm n f).line n).sched = (s.line n).sched := by
  refine ⟨h.only.trans (u.modAsm_onlyLine n f), ?_⟩
  rw [State.modAsm_line_same]
  exact ⟨by rw [h.asm], h.tx, h.sched⟩

/-- A character in HUNT or DISCARD goes to the assembler once the receiver has ended it. -/
theorem exec_between {s : State} {n : Line} (h : MidCharacter s n) (code : Code) (framing : Bool) :
    ∃ u, CharEnded n s u ∧ ((s.line n).asm.state = .hunt →
        exec (.characterReceived n code framing) s = .next (u.huntChar n ⟨code, caseAfter code (s.line n).rx.case⟩)) ∧
      ((s.line n).asm.state = .discard →
        exec (.characterReceived n code framing) s = .next (u.discardChar n ⟨code, caseAfter code (s.line n).rx.case⟩)) := by
  have hu := s.charEnded_spec n code framing
  refine ⟨_, hu, fun ha => ?_, fun ha => ?_⟩ <;>
    rw [exec_characterReceived h, State.endChar_eq, State.handOverChar, hu.asm, ha]

/-- A character in HEADING or TEXT goes to the open message (R26). -/
theorem exec_in_message {s : State} {n : Line} {r : RecIx} (h : MidCharacter s n)
    (ha : (s.line n).asm.state = .heading ∨ (s.line n).asm.state = .text) (hr : (s.line n).asm.record = some r)
    (code : Code) (framing : Bool) : ∃ u, CharMet n r framing s u ∧
      exec (.characterReceived n code framing) s =
        .next ((u.messageChar n r ⟨code, caseAfter code (s.line n).rx.case⟩).restartSilence n) := by
  have hu := s.charEnded_spec n code framing
  refine ⟨_, s.charMet n r code framing, ?_⟩
  rw [exec_characterReceived h, State.endChar_eq, State.handOverChar, hu.asm, hr]
  rcases ha with ha | ha <;> rw [ha]

end Sys2Proof.Machine
end

section
namespace Sys2Proof.Machine

/-! ### The opening run (R24, R25, R50) -/

theorem Handed.isCode_iff (h : Handed) (c : Code) : h.isCode c = true ↔ h.case = .letters ∧ h.code = c := by
  simp [Handed.isCode]

theorem State.huntChar_of_other {s : State} {n : Line} {h : Handed}
    (hc : ¬(h.case = .letters ∧ h.code = s.boot.cfg.codes.opening)) :
    s.huntChar n h = s.modAsm n fun a => { a with openingCount := 0 } := by
  rw [← Handed.isCode_iff] at hc
  simp [State.huntChar, hc]

theorem State.huntChar_of_opening {s : State} {n : Line} {h : Handed}
    (hc : h.case = .letters ∧ h.code = s.boot.cfg.codes.opening) :
    s.huntChar n h = if (s.line n).asm.openingCount + 1 < 4 then
      s.modAsm n fun a => { a with openingCount := a.openingCount + 1 } else s.openingRunDone n :=
  if_pos ((Handed.isCode_iff h _).mpr hc)

/-- An assembler that leaves HUNT while its line has no copy going out, or is no HALF line, moves the turnaround of a
HALF line alone (R41, R148). -/
theorem State.leftHunt_of_idle {s : State} {n : Line} (h : s.mode n = .half → (s.line n).sched.current = none) :
    OnlyLine n s (s.leftHunt n) ∧ ∃ w, (s.leftHunt n).line n = { s.line n with turn := w } ∧
      (s.mode n = .half → w = (s.line n).turn.map fun _ => { waiting := true, timer := none }) := by
  by_cases hm : s.mode n = .half
  · have hl := s.turnWait_line_same n
    have he : s.leftHunt n = s.turnWait n := by simp [State.leftHunt, hm, hl, h hm]
    rw [he]
    exact ⟨s.turnWait_onlyLine n, _, hl, fun _ => rfl⟩
  · have he : s.leftHunt n = s := if_neg hm
    rw [he]
    exact ⟨.refl n s, _, rfl, fun h => absurd h hm⟩

theorem State.lowestFree_eq_some {s : State} {r : RecIx} (hr : (s.record r).state = .free)
    (hlow : ∀ q, q < r → (s.record q).state ≠ .free) : s.store.lowestFree = some r := by
  obtain ⟨as, bs, hl⟩ := List.append_of_mem (List.mem_finRange r)
  refine List.find?_eq_some_iff_append.mpr ⟨by simpa [State.record] using hr, as, bs, hl, fun q hq => ?_⟩
  have hlt : q < r := (List.pairwise_append.mp (hl ▸ List.pairwise_lt_finRange 32)).2.2 q hq r (List.mem_cons_self ..)
  simpa [State.record] using hlow q hlt

/-- The fourth opening code with a record to give (R25, R50, R52). -/
theorem State.openMessage_spec {s : State} {n : Line} (r : RecIx)
    (h : s.mode n = .half → (s.line n).sched.current = none) :
    let t := s.openMessage n r
    t.store = (s.modRecord r fun rec => Record.originated rec.gen n).store ∧ t.router = s.router ∧ t.port = s.port ∧
    t.sup = s.sup ∧ (∀ m, m ≠ n → t.line m = s.line m) ∧ ∃ w,
    t.line n = { s.line n with turn := w, asm := { (s.line n).asm with
      state := .heading, openingCount := 0, closingCount := 0
      step := if (s.lineCfg n).inboundCheck then .group else .designator
      group := [], currentCode := [], collected := [], headingChars := 0
      silence := some Config.headingSilence, record := some r, overrun := false } } ∧
    (s.mode n = .half → w = (s.line n).turn.map fun _ => { waiting := true, timer := none }) := by
  simp only [State.openMessage]
  generalize hv : (s.modRecord r fun rec => Record.originated rec.gen n).modAsm n _ = v
  have hl : v.line n = { s.line n with asm := { (s.line n).asm with
      state := .heading, openingCount := 0, closingCount := 0
      step := if (s.lineCfg n).inboundCheck then .group else .designator
      group := [], currentCode := [], collected := [], headingChars := 0
      silence := some Config.headingSilence, record := some r, overrun := false } } := by
    rw [← hv, State.modAsm_line_same]
    rfl
  have hoth : ∀ m, m ≠ n → v.line m = s.line m := fun m hm => by rw [← hv]; exact (State.modAsm_onlyLine _ n _).2 m hm
  have hmode : v.mode n = s.mode n := by rw [← hv]; rfl
  obtain ⟨hone, w, hw, hturn⟩ := State.leftHunt_of_idle (s := v) (n := n) (by rw [hmode, hl]; exact h)
  refine ⟨by rw [hone.store, ← hv]; rfl, by rw [hone.router, ← hv]; rfl, by rw [hone.port, ← hv]; rfl,
    by rw [hone.sup, ← hv]; rfl, fun m hm => (hone.2 m hm).trans (hoth m hm), w, by rw [hw, hl], fun hm => ?_⟩
  rw [hturn (hmode.trans hm), hl]

/-- The fourth opening code with no record to give (R25). -/
theorem State.loseMessage_spec {s : State} {n : Line} (h : s.mode n = .half → (s.line n).sched.current = none)
    (hd : DeadCopiesServed s) :
    let t := s.loseMessage n
    t.store = s.store ∧ t.router = s.router ∧ t.port = s.port ∧
    t.sup.account = (s.sup.posted (.messageLost n)).account ∧ (∀ m, m ≠ n → t.line m = s.line m) ∧ ∃ w,
    t.line n = { s.line n with turn := w, asm := { (s.line n).asm with
      state := .discard, openingCount := 0, closingCount := 0 } } := by
  obtain ⟨hsup, hacc, -⟩ := s.post_of_served (.messageLost n) hd
  simp only [State.loseMessage]
  generalize hv : (s.post (.messageLost n)).modAsm n _ = v
  have hl : v.line n = { s.line n with asm := { (s.line n).asm with
      state := .discard, openingCount := 0, closingCount := 0 } } := by
    rw [← hv, State.modAsm_line_same, State.post_line]
  have hoth : ∀ m, m ≠ n → v.line m = s.line m := fun m hm => by
    rw [← hv, (State.modAsm_onlyLine _ n _).2 m hm, State.post_line]
  have hmode : v.mode n = s.mode n := by rw [← hv]; exact s.post_mode _ n
  obtain ⟨hone, w, hw, -⟩ := State.leftHunt_of_idle (s := v) (n := n) (by rw [hmode, hl]; exact h)
  refine ⟨by rw [hone.store, ← hv, hsup]; rfl, by rw [hone.router, ← hv, hsup]; rfl, by rw [hone.port, ← hv, hsup]; rfl,
    by rw [hone.sup, ← hv]; exact hacc, fun m hm => (hone.2 m hm).trans (hoth m hm), w, by rw [hw, hl]⟩

/-- The fourth opening code in HUNT ends the opening run (R25). -/
theorem exec_fourthOpeningCode {n : Line} {code : Code} {framing : Bool} {s : State} (hmid : MidCharacter s n)
    (ha : (s.line n).asm.state = .hunt) (hcount : (s.line n).asm.openingCount = 3)
    (hcode : caseAfter code (s.line n).rx.case = .letters ∧ code = s.boot.cfg.codes.opening) :
    ∃ u, CharEnded n s u ∧ exec (.characterReceived n code framing) s = .next (u.openingRunDone n) := by
  obtain ⟨u, hu, hexec, -⟩ := exec_between hmid code framing
  have hexec := hexec ha
  rw [State.huntChar_of_opening (by rw [hu.only.boot]; exact hcode), if_neg (by rw [hu.asm, hcount]; decide)] at hexec
  exact ⟨u, hu, hexec⟩

/-- The opening run opens a message where the FREE records exceed the pledges, and loses it where they do not
(R25, R50). -/
theorem CharEnded.openingRunDone {n : Line} {s u : State} (hu : CharEnded n s u) :
    (∀ r, s.store.recordAvailable = true → (s.record r).state = .free → (∀ q, q < r → (s.record q).state ≠ .free) →
      u.openingRunDone n = u.openMessage n r) ∧
    (s.store.recordAvailable = false → u.openingRunDone n = u.loseMessage n) := by
  refine ⟨fun r havail hr hlow => ?_, fun hnone => ?_⟩
  · rw [State.openingRunDone, hu.only.store, if_pos havail, State.lowestFree_eq_some hr hlow]
  · rw [State.openingRunDone, hu.only.store, hnone]
    rfl

/-- Settles O11: a character in HUNT by its code and the count, the fourth opening code by the FREE records. -/
theorem openingRunOpensAMessage : Obligations.OpeningRunOpensAMessage := by
  unfold Obligations.OpeningRunOpensAMessage
  refine ⟨fun n code framing s hmid ha => ?_, fun n code framing s hmid ha hcount hcase hcode hhalf => ?_⟩
  · obtain ⟨u, hu, hexec, -⟩ := exec_between hmid code framing
    have hexec := hexec ha
    refine ⟨fun hopen => ?_, fun hopen hlt => ?_⟩
    · rw [← hu.only.boot] at hopen
      rw [State.huntChar_of_other hopen] at hexec
      exact ⟨_, hexec, hu.modAsm _⟩
    · rw [← hu.only.boot] at hopen
      rw [State.huntChar_of_opening hopen, if_pos (by rw [hu.asm]; omega)] at hexec
      exact ⟨_, hexec, hu.modAsm _⟩
  · obtain ⟨u, hu, hexec⟩ := exec_fourthOpeningCode (framing := framing) hmid ha hcount ⟨hcase, hcode⟩
    obtain ⟨hopens, hloses⟩ := hu.openingRunDone
    have hhalf' : u.mode n = .half → (u.line n).sched.current = none := by rw [hu.only.mode, hu.sched]; exact hhalf
    refine ⟨fun r havail hr hlow => ?_, fun hnone hd => ?_⟩
    · rw [hopens r (by simpa [Store.recordAvailable] using havail) hr hlow] at hexec
      obtain ⟨hstore, hrouter, hport, hsup, hoth, w, hline, hturn⟩ := State.openMessage_spec r hhalf'
      have hst : (u.openMessage n r).store = (s.modRecord r fun rec => Record.originated rec.gen n).store := by
        rw [hstore]
        simp only [State.modRecord, State.modStore, hu.only.store]
      have hrec : ∀ q, (u.openMessage n r).record q = (s.modRecord r fun rec => Record.originated rec.gen n).record q :=
        fun q => by rw [State.record, hst]; rfl
      refine ⟨_, hexec, by rw [hrec, State.modRecord_record_same]; rfl,
        fun q hq => by rw [hrec, State.modRecord_record_ne _ _ _ _ hq], by rw [hst]; rfl, by rw [hst]; rfl, by rw [hst]; rfl,
        by rw [hst]; rfl, ?_, fun hm => ?_, by rw [hline]; exact hu.sched, by rw [hline]; exact hu.tx,
        fun m hm => (hoth m hm).trans (hu.only.2 m hm), hrouter.trans hu.only.router, hport.trans hu.only.port,
        hsup.trans hu.only.sup⟩
      · rw [hline, hu.asm, State.lineCfg, State.lineCfg, hu.only.boot]
        rfl
      · rw [hline]
        exact (hturn (by rw [hu.only.mode]; exact hm)).trans (hu.turn _)
    · rw [hloses (by simpa [Store.recordAvailable] using hnone)] at hexec
      obtain ⟨hstore, hrouter, hport, hsup, hoth, w, hline⟩ := State.loseMessage_spec hhalf'
        (by rwa [DeadCopiesServed, hu.only.router, hu.only.sup])
      exact ⟨_, hexec, by rw [hline, hu.asm], by rw [hsup, hu.only.sup], hstore.trans hu.only.store,
        by rw [hline]; exact hu.sched, fun m hm => (hoth m hm).trans (hu.only.2 m hm),
        hrouter.trans hu.only.router, hport.trans hu.only.port⟩

end Sys2Proof.Machine
end

section
namespace Sys2Proof.Machine

/-! ### A character joins the text (R34, R43, R44, R58) -/

theorem Heeds.pool {s t : State} (h : Heeds s t) : t.store.pool = s.store.pool := by
  obtain ⟨_, e⟩ := h.store; rw [e]
theorem Heeds.freeList {s t : State} (h : Heeds s t) : t.store.freeList = s.store.freeList := by
  obtain ⟨_, e⟩ := h.store; rw [e]
theorem Heeds.reserved {s t : State} (h : Heeds s t) : t.store.reserved = s.store.reserved := by
  obtain ⟨_, e⟩ := h.store; rw [e]

/-- Character `c` joins the end of record `r`'s text, which takes the blocks `bs` from the head of the free list
first. -/
structure Stored (r : RecIx) (c : Code) (bs : List BlockNo) (s t : State) : Prop where
  boot : t.boot = s.boot
  account : t.sup.account = s.sup.account
  lines : ∀ m, (s.line m).SendsFrom (t.line m)
  freeList : s.store.freeList = bs ++ t.store.freeList
  reserved : t.store.reserved = s.store.reserved
  record : ∃ cs, t.record r = { s.record r with
    count := (s.record r).count + 1, chain := (s.record r).chain ++ bs, copies := cs }
  pool : PoolForm s → ∀ b, ((s.record r).chain ++ bs)[(s.record r).count / 64]? = some b → ∀ a,
    poolRead t.store.pool a =
      if a = 64 * b.val + (s.record r).count % 64 then c.setWidth 8 else poolRead s.store.pool a

theorem State.writeChar_rest (s : State) (r : RecIx) (i : Nat) (c : Code) :
    ∃ p, s.writeChar r i c = { s with store := { s.store with pool := p } } := by
  unfold State.writeChar
  split
  · exact ⟨_, rfl⟩
  · exact ⟨_, rfl⟩

theorem State.appendChar_stored (s : State) (r : RecIx) (c : Code) : Stored r c [] s (s.appendChar r c) := by
  have hread := fun a b => s.writeChar_read r (s.record r).count c a b
  obtain ⟨p, hp⟩ := s.writeChar_rest r (s.record r).count c
  unfold State.appendChar
  simp only
  generalize s.writeChar r (s.record r).count c = w at *
  have hrec : w.record r = s.record r := by rw [hp]; rfl
  generalize hv : w.modRecord r (fun rec => { rec with count := (s.record r).count + 1 }) = v
  have hvr : v.record r = { s.record r with count := (s.record r).count + 1 } := by
    rw [← hv, State.modRecord_record_same, hrec]
  have hvl : v.lines = s.lines := by rw [← hv, hp]; rfl
  have hvp : v.store.pool = w.store.pool := by rw [← hv]; rfl
  have h := v.textChanged_heeds r (s.record r).count false
  obtain ⟨cs, he, -⟩ := h.copies r
  refine ⟨h.boot.trans (by rw [← hv, hp]; rfl), h.account.trans (by rw [← hv, hp]; rfl),
    fun m => by rw [← State.line_of_lines hvl]; exact h.lines m, ?_, h.reserved.trans (by rw [← hv, hp]; rfl),
    ⟨cs, by rw [he, hvr, List.append_nil]⟩, fun hwf b hb a => ?_⟩
  · rw [h.freeList, ← hv, hp]; rfl
  · rw [List.append_nil] at hb
    have haddr : (s.record r).address (s.record r).count = some (64 * b.val + (s.record r).count % 64) := by
      simp [Record.address, Config.blockSize, hb, Nat.mul_comm]
    rw [h.pool, hvp]
    exact hread _ a haddr hwf

theorem State.storeChar_of_room {s : State} {n : Line} {r : RecIx} (ho : (s.line n).asm.overrun = false)
    (hc : (s.record r).count % 64 ≠ 0) (c : Code) : s.storeChar n r c = s.appendChar r c := by
  simp [State.storeChar, ho, Config.blockSize, hc]

/-- In the last block of the record's chain a character takes no block. -/
theorem State.storeChar_stored_in_block {s : State} {n : Line} {r : RecIx} (ho : (s.line n).asm.overrun = false)
    (hc : (s.record r).count % 64 ≠ 0) (c : Code) : Stored r c [] s (s.storeChar n r c) := by
  rw [State.storeChar_of_room ho hc]
  exact s.appendChar_stored r c

/-- A character that begins a block takes the head of the free list, where the class of the record is admitted. -/
theorem State.storeChar_stored_in_new_block {s : State} {n : Line} {r : RecIx} {b : BlockNo} {rest : List BlockNo}
    (ho : (s.line n).asm.overrun = false) (hc : (s.record r).count % 64 = 0) (hf : s.store.freeList = b :: rest)
    (ha : s.store.reservationCount + 1 + floorOf (s.record r).cls ≤ s.store.freeList.length)
    (hr : (s.record r).state ≠ .free) (c : Code) : Stored r c [b] s (s.storeChar n r c) := by
  generalize hv : (s.modStore fun st => { st with freeList := rest }).modRecord r
    (fun rec => { rec with chain := rec.chain ++ [b] }) = v
  have halloc : s.allocateBlock r = some v := by
    rw [State.allocateBlock, if_pos (by simpa [Store.admits] using ha), State.drawBlock, hf, ← hv]
    exact if_neg hr
  have hst : s.storeChar n r c = v.appendChar r c := by simp [State.storeChar, ho, Config.blockSize, hc, halloc]
  have hrec : v.record r = { s.record r with chain := (s.record r).chain ++ [b] } := by
    rw [← hv, State.modRecord_record_same]; rfl
  have hvl : v.lines = s.lines := by rw [← hv]; rfl
  have hvp : v.store.pool = s.store.pool := by rw [← hv]; rfl
  have h := v.appendChar_stored r c
  rw [hst]
  refine ⟨h.boot.trans (by rw [← hv]; rfl), h.account.trans (by rw [← hv]; rfl),
    fun m => by rw [← State.line_of_lines hvl]; exact h.lines m, ?_, h.reserved.trans (by rw [← hv]; rfl), ?_,
    fun hp d hd a => ?_⟩
  · have hvf : v.store.freeList = rest := by rw [← hv]; rfl
    rw [hf, ← hvf, h.freeList]
    rfl
  · obtain ⟨cs, e⟩ := h.record
    exact ⟨cs, by rw [e, hrec, List.append_nil]⟩
  · have hpool := h.pool (by rw [PoolForm, hvp]; exact hp) d
    rw [hrec, List.append_nil, hvp] at hpool
    exact hpool hd a

/-- The store refuses a block: the character is dropped, record and assembler are marked, and a notice is posted
(R34, R58). -/
theorem State.storeChar_refused {s : State} {n : Line} {r : RecIx} (ho : (s.line n).asm.overrun = false)
    (hc : (s.record r).count % 64 = 0)
    (ha : s.store.freeList.length < s.store.reservationCount + 1 + floorOf (s.record r).cls)
    (hd : DeadCopiesServed s) (c : Code) :
    let t := s.storeChar n r c
    t.store = (s.modRecord r fun rec => { rec with overrun := true }).store ∧
    t.sup.account = (s.sup.posted (.overrunLine n (s.record r).inbound)).account ∧
    (t.line n).asm = { (s.line n).asm with overrun := true } := by
  have hst : s.storeChar n r c = s.lineOverrun n r := by
    have : s.allocateBlock r = none := if_neg (by simpa [Store.admits] using ha)
    simp [State.storeChar, ho, Config.blockSize, hc, this]
  have hin : (((s.modAsm n fun a => { a with overrun := true }).modRecord r fun rec =>
      { rec with overrun := true }).record r).inbound = (s.record r).inbound := by
    rw [State.modRecord_record_same]; rfl
  simp only [hst, State.lineOverrun, hin]
  obtain ⟨hsup, hacc, -⟩ := State.post_of_served ((s.modAsm n fun a => { a with overrun := true }).modRecord r fun rec =>
    { rec with overrun := true }) (.overrunLine n (s.record r).inbound) hd
  refine ⟨by rw [hsup]; rfl, hacc, ?_⟩
  rw [State.post_line, State.modRecord_line, State.modAsm_line_same]

end Sys2Proof.Machine
end

section
namespace Sys2Proof.Machine

/-! ### TEXT (R26, R34, R43, R44) -/

/-- A block stands once on a chain at most (R44). -/
theorem StoreAccounts.chain_nodup {s : State} (h : StoreAccounts s) (r : RecIx) : (s.record r).chain.Nodup := by
  refine List.nodup_iff_count_le_one.mpr fun b => ?_
  have hmem : (s.record r).chain.count b ∈ s.store.records.toList.map fun x => x.chain.count b :=
    List.mem_map.mpr ⟨s.record r, by simp [State.record], rfl⟩
  have hle := List.le_sum_of_mem hmem
  have hplace := h.1 b
  rw [Store.places] at hplace
  omega

theorem State.charAt_of_block {s : State} {r : RecIx} {i : Nat} {b : BlockNo}
    (h : (s.record r).chain[i / 64]? = some b) :
    s.charAt r i = (poolRead s.store.pool (64 * b.val + i % 64)).setWidth 5 := by
  simp [State.charAt, Record.address, Config.blockSize, h, Nat.mul_comm]

/-- The assembler of line `n` is in TEXT and record `r` takes `k` more characters: what blocks they need the class of
the record is admitted to. -/
structure TakesText (n : Line) (r : RecIx) (k : Nat) (s : State) : Prop where
  state : (s.line n).asm.state = .text
  overrun : (s.line n).asm.overrun = false
  pool : PoolForm s
  accounts : StoreAccounts s
  used : (s.record r).state ≠ .free
  chain : (s.record r).chain.length = ((s.record r).count + 63) / 64
  room : ((s.record r).count + k + 63) / 64 - ((s.record r).count + 63) / 64 = 0 ∨
    s.store.reservationCount + (((s.record r).count + k + 63) / 64 - ((s.record r).count + 63) / 64) +
      floorOf (s.record r).cls ≤ s.store.freeList.length

/-- The text of record `r` in state `t` is that of `s` and the characters `cs` behind it, in blocks from the head of
the free list. -/
structure TextExtended (r : RecIx) (cs : List Code) (s t : State) : Prop where
  count : (t.record r).count = (s.record r).count + cs.length
  chain : (t.record r).chain = (s.record r).chain ++ s.store.freeList.take
    (((s.record r).count + cs.length + 63) / 64 - ((s.record r).count + 63) / 64)
  freeList : t.store.freeList = s.store.freeList.drop
    (((s.record r).count + cs.length + 63) / 64 - ((s.record r).count + 63) / 64)
  before : ∀ i, i < (s.record r).count → t.charAt r i = s.charAt r i
  added : ∀ i c, cs[i]? = some c → t.charAt r ((s.record r).count + i) = c

/-- A stored character is read at its place, and every earlier one reads as before (R43). -/
theorem Stored.charAt {r : RecIx} {c : Code} {bs : List BlockNo} {s t : State} (h : Stored r c bs s t)
    (hp : PoolForm s) (ht : StoreAccounts t)
    (hlen : ((s.record r).chain ++ bs).length = ((s.record r).count + 1 + 63) / 64)
    (hold : (s.record r).chain.length = ((s.record r).count + 63) / 64) :
    (∀ i, i < (s.record r).count → t.charAt r i = s.charAt r i) ∧ t.charAt r (s.record r).count = c := by
  obtain ⟨cs, hrec⟩ := h.record
  have hnodup := ht.chain_nodup r
  have hchain : (t.record r).chain = (s.record r).chain ++ bs := by rw [hrec]
  rw [hchain] at hnodup
  have hb : ((s.record r).chain ++ bs)[(s.record r).count / 64]? =
      some (((s.record r).chain ++ bs)[(s.record r).count / 64]'(by rw [hlen]; omega)) := List.getElem?_eq_getElem _
  generalize ((s.record r).chain ++ bs)[(s.record r).count / 64]'_ = b at hb
  have hpool := h.pool hp b hb
  refine ⟨fun i hi => ?_, ?_⟩
  · have hlt : i / 64 < (s.record r).chain.length := by rw [hold]; omega
    have hd : (s.record r).chain[i / 64]? = some ((s.record r).chain[i / 64]) := List.getElem?_eq_getElem hlt
    generalize (s.record r).chain[i / 64] = d at hd
    have hd' : ((s.record r).chain ++ bs)[i / 64]? = some d := by rw [List.getElem?_append_left hlt, hd]
    have hne : 64 * d.val + i % 64 ≠ 64 * b.val + (s.record r).count % 64 := by
      intro e
      have hdb : d = b := Fin.ext (by omega)
      have hix : i / 64 = (s.record r).count / 64 := by
        rw [hdb, ← hb] at hd'
        exact (List.getElem?_inj (by rw [List.length_append]; omega) hnodup).mp hd'
      omega
    rw [State.charAt_of_block (hchain ▸ hd'), State.charAt_of_block hd, hpool, if_neg hne]
  · have hback : (c.setWidth 8).setWidth 5 = c := by
      rw [BitVec.setWidth_setWidth_of_le _ (by decide), BitVec.setWidth_eq]
    rw [State.charAt_of_block (hchain ▸ hb), hpool, if_pos rfl, hback]

/-- One character of TEXT. -/
theorem State.storeChar_extends {n : Line} {r : RecIx} {k : Nat} {s : State} (h : TakesText n r (k + 1) s) (c : Code) :
    TakesText n r k (s.storeChar n r c) ∧ TextExtended r [c] s (s.storeChar n r c) ∧
      ((s.storeChar n r c).line n).asm = (s.line n).asm := by
  obtain ⟨bs, hbs, hst, hlen⟩ : ∃ bs, bs = s.store.freeList.take (((s.record r).count + 1 + 63) / 64 -
      ((s.record r).count + 63) / 64) ∧ Stored r c bs s (s.storeChar n r c) ∧
      bs.length = ((s.record r).count + 1 + 63) / 64 - ((s.record r).count + 63) / 64 := by
    by_cases hc : (s.record r).count % 64 = 0
    · have hone : ((s.record r).count + 1 + 63) / 64 - ((s.record r).count + 63) / 64 = 1 := by omega
      have hroom := h.room.resolve_left (by omega)
      obtain ⟨b, rest, hf⟩ : ∃ b rest, s.store.freeList = b :: rest :=
        List.exists_cons_of_length_pos (by omega)
      refine ⟨[b], by rw [hone, hf]; rfl, State.storeChar_stored_in_new_block h.overrun hc hf (by omega) h.used c, ?_⟩
      rw [hone]; rfl
    · have hzero : ((s.record r).count + 1 + 63) / 64 - ((s.record r).count + 63) / 64 = 0 := by omega
      exact ⟨[], by rw [hzero]; rfl, State.storeChar_stored_in_block h.overrun hc c, hzero.symm⟩
  have haccounts : StoreAccounts (s.storeChar n r c) := State.storeChar_StoreAccounts s n r c h.accounts
  have hpool : PoolForm (s.storeChar n r c) := State.storeChar_PoolForm s n r c h.pool
  generalize s.storeChar n r c = t at *
  have hasm : (t.line n).asm = (s.line n).asm := (hst.lines n).asm
  obtain ⟨hbefore, hat⟩ := hst.charAt h.pool haccounts (by rw [List.length_append, h.chain, hlen]; omega) h.chain
  obtain ⟨cs, hrec⟩ := hst.record
  have hfree : t.store.freeList = s.store.freeList.drop bs.length := by rw [hst.freeList, List.drop_left]
  have hres : t.store.reservationCount = s.store.reservationCount := by
    simp only [Store.reservationCount, hst.reserved]
  refine ⟨⟨hasm ▸ h.state, hasm ▸ h.overrun, hpool, haccounts, by rw [hrec]; exact h.used, ?_, ?_⟩,
    ⟨by rw [hrec]; rfl, by rw [hrec, hbs]; rfl, by rw [hfree, hlen]; rfl, hbefore, fun i d hd => ?_⟩, hasm⟩
  · rw [hrec, List.length_append, h.chain, hlen]
    simp only
    omega
  · have hroom := h.room
    rw [hrec, hfree, hres, List.length_drop, hlen]
    simp only
    omega
  · obtain ⟨rfl, rfl⟩ : i = 0 ∧ c = d := by
      cases i with
      | zero => exact ⟨rfl, by simpa using hd⟩
      | succ i => simp at hd
    exact hat

theorem TextExtended.cons {r : RecIx} {c : Code} {cs : List Code} {s t u : State} (h : TextExtended r [c] s t)
    (h' : TextExtended r cs t u) : TextExtended r (c :: cs) s u := by
  have hcount := h.count
  simp only [List.length_singleton] at hcount
  have hsplit : ((s.record r).count + (c :: cs).length + 63) / 64 - ((s.record r).count + 63) / 64 =
      (((s.record r).count + 1 + 63) / 64 - ((s.record r).count + 63) / 64) +
        (((s.record r).count + 1 + cs.length + 63) / 64 - ((s.record r).count + 1 + 63) / 64) := by
    rw [List.length_cons]; omega
  refine ⟨?_, ?_, ?_, fun i hi => ?_, fun i d hd => ?_⟩
  · rw [h'.count, hcount, List.length_cons]; omega
  · rw [h'.chain, h.chain, h.freeList, hcount, hsplit, List.take_add, List.append_assoc]
    rfl
  · rw [h'.freeList, h.freeList, hcount, hsplit, ← List.drop_drop]
    rfl
  · rw [h'.before i (by omega), h.before i hi]
  · cases i with
    | zero => rw [h'.before _ (by omega), h.added 0 d (by simpa using hd)]
    | succ i =>
      have := h'.added i d (by simpa using hd)
      rw [hcount] at this
      rwa [Nat.add_assoc, Nat.add_comm 1 i] at this

/-- Characters taken in TEXT stand behind the text in their order (R26). -/
theorem State.takeAll_extends {n : Line} {r : RecIx} (hs : List Handed) {s : State} (h : TakesText n r hs.length s) :
    TextExtended r (hs.map (·.code)) s (s.takeAll n r hs) ∧ ((s.takeAll n r hs).line n).asm = (s.line n).asm := by
  induction hs generalizing s with
  | nil => exact ⟨⟨rfl, by simp [State.takeAll], by simp [State.takeAll], fun _ _ => rfl, nofun⟩, rfl⟩
  | cons x xs ih =>
    have hone : s.takeOrdinary n r x = s.storeChar n r x.code := by simp [State.takeOrdinary, h.state]
    obtain ⟨ht, he, hasm⟩ := State.storeChar_extends h x.code
    rw [State.takeAll, hone]
    exact ⟨he.cons (ih ht).1, (ih ht).2.trans hasm⟩

end Sys2Proof.Machine
end

section
namespace Sys2Proof.Machine

theorem State.modAsm_self {s : State} {n : Line} {f : Assembler → Assembler} (h : f (s.line n).asm = (s.line n).asm) :
    s.modAsm n f = s := by
  have : s.modAsm n f = s.modLine n fun _ => s.line n := by
    simp only [State.modAsm, State.modLine]
    rw [show f s.lines[n].asm = s.lines[n].asm from h]
    rfl
  rw [this, State.modLine_self]

/-- With no closing code pending a character past the channel group that is none is taken at once (R26). -/
theorem State.messageChar_of_ordinary {s : State} {n : Line} {r : RecIx} {h : Handed}
    (hg : ¬((s.line n).asm.state = .heading ∧ (s.line n).asm.step = .group)) (hcount : (s.line n).asm.closingCount = 0)
    (hcode : ¬(h.case = .letters ∧ h.code = s.boot.cfg.codes.closing)) :
    s.messageChar n r h = s.takeOrdinary n r h := by
  rw [← Handed.isCode_iff] at hcode
  have hself : (s.modAsm n fun a => { a with closingCount := 0 }) = s := State.modAsm_self (by rw [← hcount])
  simp [State.messageChar, hg, hcode, hcount, State.takeAll, hself]

/-- The closing codes held are released before a character that is none (R26). -/
theorem State.messageChar_releases {s : State} {n : Line} {r : RecIx} {h : Handed} (ha : (s.line n).asm.state = .text)
    (hcode : ¬(h.case = .letters ∧ h.code = s.boot.cfg.codes.closing)) :
    s.messageChar n r h = (s.modAsm n fun a => { a with closingCount := 0 }).takeAll n r
      (List.replicate (s.line n).asm.closingCount ⟨s.boot.cfg.codes.closing, .letters⟩ ++ [h]) := by
  rw [← Handed.isCode_iff] at hcode
  simp [State.messageChar, ha, hcode]

theorem State.takeOrdinary_of_text {s : State} {n : Line} (ha : (s.line n).asm.state = .text) (r : RecIx) (h : Handed) :
    s.takeOrdinary n r h = s.storeChar n r h.code := by simp [State.takeOrdinary, ha]

/-- The silence time of a state (R36). -/
theorem State.restartSilence_asm (s : State) (n : Line) : ((s.restartSilence n).line n).asm =
    { (s.line n).asm with silence := match (s.line n).asm.state with
      | .heading => some 10000
      | .text => some 60000
      | .hunt | .discard => none } := by
  rw [State.restartSilence, State.modAsm_line_same]
  rfl

@[simp] theorem State.restartSilence_store (s : State) (n : Line) : (s.restartSilence n).store = s.store := rfl
@[simp] theorem State.restartSilence_sup (s : State) (n : Line) : (s.restartSilence n).sup = s.sup := rfl
@[simp] theorem State.restartSilence_router (s : State) (n : Line) : (s.restartSilence n).router = s.router := rfl
@[simp] theorem State.restartSilence_record (s : State) (n : Line) (r : RecIx) :
    (s.restartSilence n).record r = s.record r := rfl

theorem State.restartSilence_text {s : State} {n : Line} (h : (s.line n).asm.state = .text) :
    ((s.restartSilence n).line n).asm = { (s.line n).asm with silence := some 60000 } := by
  rw [State.restartSilence_asm, h]

theorem State.restartSilence_heading {s : State} {n : Line} (h : (s.line n).asm.state = .heading) :
    ((s.restartSilence n).line n).asm = { (s.line n).asm with silence := some 10000 } := by
  rw [State.restartSilence_asm, h]

theorem CharMet.reservationCount {n : Line} {r : RecIx} {framing : Bool} {s u : State} (h : CharMet n r framing s u) :
    u.store.reservationCount = s.store.reservationCount := by simp only [Store.reservationCount, h.reserved]

/-- A character of TEXT with no closing code pending goes to the store (R26, R34). -/
theorem exec_textChar {n : Line} {code : Code} {framing : Bool} {s : State} {r : RecIx} (hmid : MidCharacter s n)
    (ha : (s.line n).asm.state = .text) (hr : (s.line n).asm.record = some r) (hcount : (s.line n).asm.closingCount = 0)
    (hcode : ¬(caseAfter code (s.line n).rx.case = .letters ∧ code = s.boot.cfg.codes.closing)) :
    ∃ u, CharMet n r framing s u ∧
      exec (.characterReceived n code framing) s = .next ((u.storeChar n r code).restartSilence n) := by
  obtain ⟨u, hu, hexec⟩ := exec_in_message hmid (.inr ha) hr code framing
  have ha' : (u.line n).asm.state = .text := by rw [hu.asm, ha]
  rw [State.messageChar_of_ordinary (by rw [ha']; nofun) (by rw [hu.asm, hcount]) (by rw [hu.boot]; exact hcode),
    State.takeOrdinary_of_text ha'] at hexec
  exact ⟨u, hu, hexec⟩

/-- What a stored character of TEXT leaves, next to the state that the character met (R34, R36, R43). -/
theorem Stored.in_text {n : Line} {r : RecIx} {c : Code} {bs : List BlockNo} {framing : Bool} {s u v : State}
    (h : Stored r c bs u v) (hu : CharMet n r framing s u) (ha : (s.line n).asm.state = .text) (hp : PoolForm s)
    {b : BlockNo} (hb : ((s.record r).chain ++ bs)[(s.record r).count / 64]? = some b) :
    let t := v.restartSilence n
    (t.record r).count = (s.record r).count + 1 ∧ (t.record r).chain = (s.record r).chain ++ bs ∧
    (t.record r).mutilated = mutilatedAfter framing (s.record r).mutilated ∧
    s.store.freeList = bs ++ t.store.freeList ∧
    poolRead t.store.pool (64 * b.val + (s.record r).count % 64) = c.setWidth 8 ∧
    (∀ a, a ≠ 64 * b.val + (s.record r).count % 64 → poolRead t.store.pool a = poolRead s.store.pool a) ∧
    (t.line n).asm = { (s.line n).asm with silence := some 60000 } := by
  obtain ⟨cs, he⟩ := h.record
  have hasm : (v.line n).asm = (s.line n).asm := (h.lines n).asm.trans hu.asm
  have hread := h.pool (by rw [PoolForm, hu.pool]; exact hp) b (by rw [hu.record]; exact hb)
  rw [hu.record, hu.pool] at hread
  simp only [State.restartSilence_record, State.restartSilence_store, he, hu.record, true_and]
  refine ⟨by rw [← hu.freeList, h.freeList], by rw [hread, if_pos rfl], fun a ha => by rw [hread, if_neg ha], ?_⟩
  rw [State.restartSilence_text (by rw [hasm, ha]), hasm]

/-- The closing codes held and the character behind them join the text (R26, R43, R44). -/
theorem closingCodes_released {n : Line} {code : Code} {framing : Bool} {s : State} {r : RecIx} (hmid : MidCharacter s n)
    (hr : (s.line n).asm.record = some r)
    (hcode : ¬(caseAfter code (s.line n).rx.case = .letters ∧ code = s.boot.cfg.codes.closing))
    (h : TakesText n r ((s.line n).asm.closingCount + 1) s) :
    ∃ t, exec (.characterReceived n code framing) s = .next t ∧
      TextExtended r (List.replicate (s.line n).asm.closingCount s.boot.cfg.codes.closing ++ [code]) s t ∧
      (t.line n).asm = { (s.line n).asm with closingCount := 0, silence := some 60000 } := by
  obtain ⟨u, hu, hexec⟩ := exec_in_message hmid (.inr h.state) hr code framing
  rw [State.messageChar_releases (by rw [hu.asm, h.state]) (by rw [hu.boot]; exact hcode), hu.boot, hu.asm] at hexec
  generalize hv : (u.modAsm n fun a => { a with closingCount := 0 }) = v at hexec
  have hvs : v.store = u.store := by rw [← hv]; rfl
  have hvasm : (v.line n).asm = { (s.line n).asm with closingCount := 0 } := by
    rw [← hv, State.modAsm_line_same, hu.asm]
  have hvrec : v.record r = { s.record r with mutilated := mutilatedAfter framing (s.record r).mutilated } := by
    rw [State.record, hvs]; exact hu.record
  have hchar : ∀ i, v.charAt r i = s.charAt r i := fun i => by
    simp only [State.charAt, Record.address, hvrec, hvs, hu.pool]
  have haccounts : StoreAccounts v := by
    have hm := s.modRecord_StoreAccounts r (fun rec => { rec with mutilated := mutilatedAfter framing rec.mutilated })
      h.accounts ⟨rfl, id⟩
    simp only [StoreAccounts, State.record] at hm ⊢
    rwa [hvs, hu.store]
  have htakes : TakesText n r ((s.line n).asm.closingCount + 1) v :=
    ⟨by rw [hvasm]; exact h.state, by rw [hvasm]; exact h.overrun, by rw [PoolForm, hvs, hu.pool]; exact h.pool,
      haccounts, by rw [hvrec]; exact h.used, by rw [hvrec]; exact h.chain,
      by rw [hvrec, hvs, hu.freeList, hu.reservationCount]; exact h.room⟩
  obtain ⟨hext, hasm⟩ := State.takeAll_extends (List.replicate (s.line n).asm.closingCount
    (⟨s.boot.cfg.codes.closing, .letters⟩ : Handed) ++ [⟨code, caseAfter code (s.line n).rx.case⟩])
    (by rw [List.length_append, List.length_replicate]; exact htakes)
  rw [List.map_append, List.map_replicate] at hext
  generalize v.takeAll n r _ = w at hexec hext hasm
  obtain ⟨hcount, hchain, hfree, hbefore, hadded⟩ := hext
  simp only [hvrec, hvs, hu.freeList, hchar] at hcount hchain hfree hbefore hadded
  refine ⟨_, hexec, ⟨hcount, hchain, hfree, hbefore, hadded⟩, ?_⟩
  rw [State.restartSilence_text (by rw [hasm, hvasm]; exact h.state), hasm, hvasm]

/-- Settles O13: where a character of TEXT is written, by the room of the record's last block and the admission of its
class; the codes held, by what a run of characters does. -/
theorem textAndPendingCodesAreStored : Obligations.TextAndPendingCodesAreStored := by
  unfold Obligations.TextAndPendingCodesAreStored
  refine ⟨fun n code framing s r hmid ha hr hcount hover hcode hpool hused => ?_,
    fun n code framing s r hmid ha hr hpos hmax hover hcode hpool hacc hused hchain hroom => ?_⟩
  · obtain ⟨u, hu, hexec⟩ := exec_textChar hmid ha hr hcount hcode (framing := framing)
    have hover' : (u.line n).asm.overrun = false := by rw [hu.asm, hover]
    have hrec := hu.record
    refine ⟨fun b hslot hb => ?_, fun b rest hslot hlen hf hadm => ?_, fun hslot hnone hd => ?_⟩
    · have h := State.storeChar_stored_in_block (r := r) hover' (by rw [hrec]; exact hslot) code
      obtain ⟨hc, hch, hmut, hfree, hat, hrest, hasm⟩ := h.in_text hu ha hpool (by rw [List.append_nil]; exact hb)
      exact ⟨_, hexec, hc, hch.trans (List.append_nil _), hmut, hfree.symm, hat, hrest, hasm⟩
    · have h := State.storeChar_stored_in_new_block (r := r) hover' (by rw [hrec]; exact hslot)
        (by rw [hu.freeList]; exact hf) (by rw [hu.freeList, hu.reservationCount, hrec]; exact hadm)
        (by rw [hrec]; exact hused) code
      obtain ⟨hc, hch, hmut, hfree, hat, hrest, hasm⟩ := h.in_text hu ha hpool
        (b := b) (by rw [List.getElem?_append_right hlen.le, hlen, Nat.sub_self]; rfl)
      rw [hslot] at hat hrest
      rw [hf] at hfree
      exact ⟨_, hexec, hc, hch, hmut, (List.cons.inj hfree).2.symm, hat, hrest, hasm⟩
    · obtain ⟨hstore, hsup, hasm⟩ := State.storeChar_refused hover' (r := r) (by rw [hrec]; exact hslot)
        (by rw [hu.freeList, hu.reservationCount, hrec]; exact hnone) (hu.served hd) code
      refine ⟨_, hexec, ?_, ?_, ?_, ?_, ?_⟩
      · rw [State.restartSilence_record, State.record, hstore]
        exact (u.modRecord_record_same r _).trans (by rw [hrec]; rfl)
      · rw [State.restartSilence_store, hstore]; exact hu.freeList
      · rw [State.restartSilence_store, hstore]; exact hu.pool
      · rw [State.restartSilence_sup, hsup, hu.sup, hrec]
      · rw [State.restartSilence_text (by rw [hasm, hu.asm]; exact ha), hasm, hu.asm]
  · have htakes : TakesText n r ((s.line n).asm.closingCount + 1) s :=
      ⟨ha, hover, hpool, hacc, hused, hchain, by simp only [← Nat.add_assoc] at hroom ⊢; omega⟩
    obtain ⟨t, hexec, hext, hasm⟩ := closingCodes_released (framing := framing) hmid hr hcode htakes
    have hlen : (List.replicate (s.line n).asm.closingCount s.boot.cfg.codes.closing ++ [code]).length =
        (s.line n).asm.closingCount + 1 := by simp
    obtain ⟨hc, hch, hfree, hbefore, hadded⟩ := hext
    rw [hlen] at hc hch hfree
    refine ⟨t, hexec, hc, hch, hfree, hbefore, fun i hi => hadded i _ ?_, hadded _ _ ?_, hasm⟩
    · rw [List.getElem?_append_left (by simpa using hi), List.getElem?_replicate, if_pos hi]
    · rw [List.getElem?_append_right (by simp), List.length_replicate, Nat.sub_self]; rfl

end Sys2Proof.Machine
end

section
namespace Sys2Proof.Machine

/-! ### The close of a message (R35, R38) -/

/-- What the readers of a record, a dispatch and a posting leave alike: the configuration, the free list, the text,
every record but for its copies, and the receiving side of the lines. -/
structure Follows (s t : State) : Prop where
  boot : t.boot = s.boot
  freeList : t.store.freeList = s.store.freeList
  pool : t.store.pool = s.store.pool
  copies : CopiesKept s t
  lines : ∀ m, (s.line m).SendsFrom (t.line m)

theorem Follows.trans {s t u : State} (h₁ : Follows s t) (h₂ : Follows t u) : Follows s u :=
  ⟨h₂.boot.trans h₁.boot, h₂.freeList.trans h₁.freeList, h₂.pool.trans h₁.pool, h₁.copies.trans h₂.copies,
    fun m => (h₁.lines m).trans (h₂.lines m)⟩

theorem Heeds.follows {s t : State} (h : Heeds s t) : Follows s t := ⟨h.boot, h.freeList, h.pool, h.copies, h.lines⟩

theorem Heeds.served {s t : State} (h : Heeds s t) (hd : DeadCopiesServed s) : DeadCopiesServed t := by
  have hq : t.sup.queue = s.sup.queue := congrArg Prod.fst h.account
  rwa [DeadCopiesServed, h.router, hq]

theorem Dispatches.follows {s t : State} (h : Dispatches s t) (hc : CopiesKept s t) : Follows s t :=
  ⟨h.boot, h.freeList, h.pool, hc, fun m => (h.line m).1⟩

theorem OnlySup.follows {s t : State} (h : OnlySup s t) : Follows s t := by
  have hl : t.lines = s.lines := by rw [h]
  exact ⟨by rw [h], by rw [h], by rw [h], .of_records fun r => by rw [h]; rfl,
    fun m => by rw [State.line_of_lines hl]; exact .refl _⟩

theorem State.dispatchAtClose_follows (s : State) (r : RecIx) (filled : Bool) :
    Follows s (s.dispatchAtClose r filled) :=
  (s.dispatchAtClose_dispatches r filled).follows (s.dispatchAtClose_copiesKept r filled)

/-- A record at its close: text_complete and STORED (R35, R38). -/
def Record.closedAs (truncated : Bool) (rec : Record) : Record :=
  { rec with complete := true, state := .stored, truncated := rec.truncated || truncated }

/-- A record with an unsettled copy is kept at its close, and its readers are told (R35, R60). -/
theorem State.completeRecord_heeds {s : State} {r : RecIx} (h : Unsettled (s.record r).copies) (truncated : Bool) :
    Heeds (s.modRecord r (Record.closedAs truncated)) (s.completeRecord r truncated) := by
  have ht := (s.modRecord r (Record.closedAs truncated)).textChanged_heeds r (s.record r).count false
  obtain ⟨cs, he, -, hu⟩ := ht.copies r
  rw [State.modRecord_record_same] at he hu
  obtain ⟨c, hc, hs⟩ := hu h
  have hkept : (((s.modRecord r (Record.closedAs truncated)).textChanged r (s.record r).count false).record r).mayFree =
      false := by
    have : (cs.all fun c => c.state = .settled) = false := List.all_eq_false.mpr ⟨c, hc, by simpa using hs⟩
    simp [Record.mayFree, he, Record.allSettled, this]
  have hcomplete : s.completeRecord r truncated =
      (s.modRecord r (Record.closedAs truncated)).textChanged r (s.record r).count false := by
    unfold State.completeRecord State.tryFree
    exact if_neg (by rw [Bool.not_eq_true]; exact hkept)
  rw [hcomplete]
  exact ht

/-- The close by the closing run: the record closes and goes to the router (R35, R40). -/
theorem State.completed_follows {s : State} {r : RecIx} (h : Unsettled (s.record r).copies) (filled : Bool) :
    let v := (s.completeRecord r false).dispatchAtClose r filled
    Follows (s.modRecord r (Record.closedAs false)) v ∧ v.sup.account = s.sup.account := by
  have hc := State.completeRecord_heeds h false
  refine ⟨hc.follows.trans (State.dispatchAtClose_follows _ r filled), ?_⟩
  rw [(State.dispatchAtClose_dispatches _ r filled).sup]
  exact hc.account

/-- A posting reads the queue and the lost-notice count alone (R158). -/
theorem Supervisor.posted_account {u v : Supervisor} (h : u.account = v.account) (n : Notice) :
    (u.posted n).account = (v.posted n).account := by
  obtain ⟨hq, hl⟩ := Prod.mk.inj h
  have hp : u.places = v.places := by rw [Supervisor.places, Supervisor.places, hq]
  unfold Supervisor.posted
  rw [hp, hq, hl]
  split
  · rfl
  · split
    · rfl
    · split <;> rfl

/-- The close by silence or OPEN: the record closes TRUNCATED, a notice names the cause, and the record goes to the
router (R38, R40). -/
theorem State.truncated_follows {s : State} {n : Line} {r : RecIx} (cause : TruncateCause)
    (h : Unsettled (s.record r).copies) (hd : DeadCopiesServed s) (filled : Bool) :
    let u := s.completeRecord r true
    let v := (u.post (.truncated n cause (u.record r).inbound)).dispatchAtClose r filled
    Follows (s.modRecord r (Record.closedAs true)) v ∧
      v.sup.account = (s.sup.posted (.truncated n cause (s.record r).inbound)).account := by
  have hc := State.completeRecord_heeds h true
  simp only
  generalize s.completeRecord r true = u at *
  obtain ⟨cs, he, -⟩ := hc.copies r
  have hin : (u.record r).inbound = (s.record r).inbound := by rw [he, State.modRecord_record_same]; rfl
  obtain ⟨hsup, hacc, -⟩ := u.post_of_served (.truncated n cause (u.record r).inbound) (hc.served hd)
  refine ⟨hc.follows.trans (hsup.follows.trans (State.dispatchAtClose_follows _ r filled)), ?_⟩
  rw [(State.dispatchAtClose_dispatches _ r filled).sup, hacc, hin]
  exact Supervisor.posted_account hc.account _

/-! The assembler at a close. -/

theorem Assembler.designatorTaken_of_text {a : Assembler} (h : a.state = .text) : a.designatorTaken = true := by
  simp [Assembler.designatorTaken, h]

theorem Assembler.designatorTaken_of_heading {a : Assembler} (h : a.state = .heading) :
    a.designatorTaken = true ↔ a.step ≠ .group ∧ a.step ≠ .designator := by
  cases hs : a.step <;> simp [Assembler.designatorTaken, h, hs]

theorem State.fillTable_record (s : State) (n : Line) (r : RecIx) (stations : List StationCode) :
    (s.fillTable n r stations).record r = { s.record r with copies := stations.map newCopy } := by
  rw [State.fillTable, State.modAsm_record, State.modRecord_record_same]

theorem State.fillTable_line (s : State) (n m : Line) (r : RecIx) (stations : List StationCode) :
    (s.fillTable n r stations).line m =
      if m = n then { s.line m with asm := { (s.line m).asm with state := .text } } else s.line m :=
  State.modAsm_line _ n m _

/-- The state in which a message closes: in HEADING the copy table takes the intercept copy first (R33). -/
def State.closing (s : State) (n : Line) (r : RecIx) : State :=
  if (s.line n).asm.state = .heading then s.fillTable n r [interceptCode] else s

theorem State.closeByRun_eq {s : State} {n : Line} (r : RecIx) (h : (s.line n).asm.designatorTaken = true) :
    s.closeByRun n r = (((s.closing n r).completeRecord r false).dispatchAtClose r
      ((s.line n).asm.state = .heading)).returnToHunt n := by
  simp only [State.closeByRun, h, if_true]
  rfl

theorem State.closeByRun_of_early {s : State} {n : Line} (r : RecIx) (h : (s.line n).asm.designatorTaken = false) :
    s.closeByRun n r = (s.freeRecord r).returnToHunt n := by
  simp only [State.closeByRun, h]
  rfl

theorem State.closeTruncated_eq {s : State} {n : Line} (r : RecIx) (cause : TruncateCause)
    (h : (s.line n).asm.designatorTaken = true) : s.closeTruncated n r cause =
      let u := ((s.modAsm n fun a => { a with closingCount := 0 }).closing n r).completeRecord r true
      ((u.post (.truncated n cause (u.record r).inbound)).dispatchAtClose r
        ((s.line n).asm.state = .heading)).returnToHunt n := by
  simp only [State.closeTruncated, h, if_true]
  rfl

theorem State.closeTruncated_of_early {s : State} {n : Line} (r : RecIx) (cause : TruncateCause)
    (h : (s.line n).asm.designatorTaken = false) :
    s.closeTruncated n r cause = (s.freeRecord r).returnToHunt n := by
  simp only [State.closeTruncated, h]
  rfl

/-- A line after its assembler has returned to HUNT (R35, R41). -/
theorem State.returnToHunt_turn (s : State) (n : Line) : ∃ w, (s.returnToHunt n).line n = { s.line n with
      asm := { (s.line n).asm with state := .hunt, openingCount := 0, closingCount := 0, silence := none, record := none }
      turn := w } ∧ ∀ k : Turnaround, w.map (fun _ => k) = (s.line n).turn.map fun _ => k := by
  rw [State.returnToHunt, State.turnReview_line_same, State.modAsm_line_same]
  exact ⟨_, rfl, fun k => by simp [Function.comp_def]⟩

theorem State.returnToHunt_onlyLine (s : State) (n : Line) : OnlyLine n s (s.returnToHunt n) :=
  (s.modAsm_onlyLine n _).trans (State.turnReview_onlyLine _ n)

/-- A message that its close completes: TEXT with a copy that keeps the record, or HEADING past the designator
(R33, R35, R60). -/
def ClosesComplete (s : State) (n : Line) (r : RecIx) : Prop :=
  (s.line n).asm.state = .text ∧ Unsettled (s.record r).copies ∨
    (s.line n).asm.state = .heading ∧ (s.line n).asm.step ≠ .group ∧ (s.line n).asm.step ≠ .designator

/-- What the close of a message leaves: its record complete and STORED, with one intercept copy when the heading was
open; the assembler in HUNT and the rest of the line's receiving side as it was. -/
structure MessageClosed (n : Line) (r : RecIx) (truncated : Bool) (s t : State) : Prop where
  boot : t.boot = s.boot
  freeList : t.store.freeList = s.store.freeList
  pool : t.store.pool = s.store.pool
  record : ∃ cs, t.record r = { (s.record r).closedAs truncated with copies := cs } ∧
    ((s.line n).asm.state = .heading → cs.map (·.station) = [[0, 0, 0, 0]])
  asm : (t.line n).asm = { (s.line n).asm with
    state := .hunt, openingCount := 0, closingCount := 0, silence := none, record := none }
  rx : (t.line n).rx = (s.line n).rx
  condIn : (t.line n).condIn = (s.line n).condIn
  turn : ∀ k : Turnaround, (t.line n).turn.map (fun _ => k) = (s.line n).turn.map fun _ => k

theorem ClosesComplete.designatorTaken {s : State} {n : Line} {r : RecIx} (h : ClosesComplete s n r) :
    (s.line n).asm.designatorTaken = true := by
  rcases h with ⟨ha, -⟩ | ⟨ha, hs⟩
  · exact Assembler.designatorTaken_of_text ha
  · exact (Assembler.designatorTaken_of_heading ha).mpr hs

theorem State.closing_record (s : State) (n : Line) (r : RecIx) : (s.closing n r).record r =
    if (s.line n).asm.state = .heading then { s.record r with copies := [newCopy interceptCode] } else s.record r := by
  unfold State.closing
  split
  · exact s.fillTable_record n r _
  · rfl

theorem State.closing_line (s : State) (n : Line) (r : RecIx) : (s.closing n r).line n =
    { s.line n with asm := { (s.line n).asm with state := ((s.closing n r).line n).asm.state } } := by
  unfold State.closing
  split
  · rw [State.fillTable_line, if_pos rfl]
  · rfl

theorem ClosesComplete.unsettled {s : State} {n : Line} {r : RecIx} (h : ClosesComplete s n r) :
    Unsettled ((s.closing n r).record r).copies := by
  rw [State.closing_record]
  rcases h with ⟨ha, hc⟩ | ⟨ha, -⟩
  · rwa [if_neg (by rw [ha]; nofun)]
  · rw [if_pos ha]
    exact ⟨_, List.mem_singleton_self _, nofun⟩

/-- A close is told by what follows the change of the record. -/
theorem Follows.closed {s v : State} {n : Line} {r : RecIx} {truncated : Bool}
    (hv : Follows ((s.closing n r).modRecord r (Record.closedAs truncated)) v) :
    MessageClosed n r truncated s (v.returnToHunt n) := by
  have hone := v.returnToHunt_onlyLine n
  obtain ⟨w, hl, hw⟩ := v.returnToHunt_turn n
  have hline := hv.lines n
  rw [State.modRecord_line] at hline
  have hrest : (s.closing n r).boot = s.boot ∧ (s.closing n r).store.freeList = s.store.freeList ∧
      (s.closing n r).store.pool = s.store.pool := by
    unfold State.closing
    split <;> exact ⟨rfl, rfl, rfl⟩
  obtain ⟨hboot, hfree, hpool⟩ := hrest
  obtain ⟨cs, he, hstations, -⟩ := hv.copies r
  rw [State.modRecord_record_same, State.closing_record] at he hstations
  refine ⟨hone.boot.trans (hv.boot.trans hboot), by rw [hone.store, hv.freeList]; exact hfree,
    by rw [hone.store, hv.pool]; exact hpool, ⟨cs, ?_, fun ha => ?_⟩, ?_, ?_, ?_, fun k => ?_⟩
  · rw [hone.record, he]
    split <;> rfl
  · rw [if_pos ha] at hstations
    exact hstations
  · rw [hl, hline.asm, s.closing_line]
  · rw [hl, hline.rx, s.closing_line]
  · rw [hl, hline.condIn, s.closing_line]
  · rw [hl]
    exact (hw k).trans (by rw [hline.turn, s.closing_line])

/-- The fourth closing code completes the message (R33, R35). -/
theorem State.closeByRun_closed {s : State} {n : Line} {r : RecIx} (h : ClosesComplete s n r) :
    MessageClosed n r false s (s.closeByRun n r) ∧ (s.closeByRun n r).sup.account = s.sup.account := by
  obtain ⟨hf, hacc⟩ := State.completed_follows h.unsettled ((s.line n).asm.state = .heading)
  rw [s.closeByRun_eq r h.designatorTaken]
  refine ⟨hf.closed, ?_⟩
  rw [(State.returnToHunt_onlyLine _ n).sup, hacc]
  unfold State.closing
  split <;> rfl

/-- Silence or OPEN completes the message TRUNCATED, and a notice names the cause (R33, R38). -/
theorem State.closeTruncated_closed {s : State} {n : Line} {r : RecIx} (cause : TruncateCause)
    (h : ClosesComplete s n r) (hd : DeadCopiesServed s) :
    MessageClosed n r true s (s.closeTruncated n r cause) ∧
      (s.closeTruncated n r cause).sup.account = (s.sup.posted (.truncated n cause (s.record r).inbound)).account := by
  generalize hu : (s.modAsm n fun a => { a with closingCount := 0 }) = u
  have hasm : (u.line n).asm = { (s.line n).asm with closingCount := 0 } := by rw [← hu, State.modAsm_line_same]
  have hl : u.line n = { s.line n with asm := { (s.line n).asm with closingCount := 0 } } := by
    rw [← hu, State.modAsm_line_same]
  have hr : u.record r = s.record r := by rw [← hu]; rfl
  have h' : ClosesComplete u n r := by simpa only [ClosesComplete, hl, hr] using h
  have hrest : (u.closing n r).sup = s.sup ∧ (u.closing n r).router = s.router ∧
      ((u.closing n r).record r).inbound = (s.record r).inbound := by
    unfold State.closing
    split
    · rw [State.fillTable_record, hr, ← hu]
      exact ⟨rfl, rfl, rfl⟩
    · rw [hr, ← hu]
      exact ⟨rfl, rfl, rfl⟩
  obtain ⟨hsup, hrouter, hin⟩ := hrest
  obtain ⟨hf, hacc⟩ := State.truncated_follows (n := n) cause h'.unsettled (by rwa [DeadCopiesServed, hrouter, hsup])
    ((s.line n).asm.state = .heading)
  have hc := hf.closed
  rw [s.closeTruncated_eq r cause h.designatorTaken, hu]
  refine ⟨⟨hc.boot.trans (by rw [← hu]; rfl), hc.freeList.trans (by rw [← hu]; rfl), hc.pool.trans (by rw [← hu]; rfl), ?_,
    hc.asm.trans (by rw [hl]), hc.rx.trans (by rw [hl]), hc.condIn.trans (by rw [hl]),
    fun k => (hc.turn k).trans (by rw [hl])⟩, ?_⟩
  · obtain ⟨cs, he, hst⟩ := hc.record
    exact ⟨cs, by rw [he, hr], fun ha => hst (by rw [hl]; exact ha)⟩
  · rw [(State.returnToHunt_onlyLine _ n).sup, hacc, hsup, hin]

/-- Before its designator a message closes by freeing its record (R33, R35, R38). -/
structure MessageDropped (n : Line) (r : RecIx) (s t : State) : Prop where
  boot : t.boot = s.boot
  router : t.router = s.router
  sup : t.sup = s.sup
  record : t.record r = Record.cleared ((s.record r).gen + 1)
  freeList : t.store.freeList = s.store.freeList ++ (s.record r).chain
  pool : t.store.pool = s.store.pool
  asm : (t.line n).asm = { (s.line n).asm with
    state := .hunt, openingCount := 0, closingCount := 0, silence := none, record := none }
  rx : (t.line n).rx = (s.line n).rx
  condIn : (t.line n).condIn = (s.line n).condIn
  turn : ∀ k : Turnaround, (t.line n).turn.map (fun _ => k) = (s.line n).turn.map fun _ => k

theorem State.freeRecord_dropped (s : State) (n : Line) (r : RecIx) :
    MessageDropped n r s ((s.freeRecord r).returnToHunt n) := by
  have hone := (s.freeRecord r).returnToHunt_onlyLine n
  obtain ⟨w, hl, hw⟩ := (s.freeRecord r).returnToHunt_turn n
  exact ⟨hone.boot, hone.router, hone.sup, by rw [hone.record, State.freeRecord, State.modRecord_record_same]; rfl,
    by rw [hone.store]; rfl, by rw [hone.store]; rfl, by rw [hl]; rfl, by rw [hl]; rfl, by rw [hl]; rfl,
    fun k => by rw [hl]; exact hw k⟩

end Sys2Proof.Machine
end

section
namespace Sys2Proof.Machine

/-! ### The closing run (R26, R35, R39) -/

/-- A closing code past the channel group is counted, and the fourth closes the message (R26, R35). -/
theorem State.messageChar_of_closing {s : State} {n : Line} {r : RecIx} {h : Handed}
    (hg : ¬((s.line n).asm.state = .heading ∧ (s.line n).asm.step = .group))
    (hcode : h.case = .letters ∧ h.code = s.boot.cfg.codes.closing) :
    s.messageChar n r h = if (s.line n).asm.closingCount + 1 < 4 then
      s.modAsm n fun a => { a with closingCount := a.closingCount + 1 } else s.closeByRun n r := by
  rw [← Handed.isCode_iff] at hcode
  simp [State.messageChar, hg, hcode]

theorem State.discardChar_of_other {s : State} {n : Line} {h : Handed}
    (hc : ¬(h.case = .letters ∧ h.code = s.boot.cfg.codes.closing)) :
    s.discardChar n h = s.modAsm n fun a => { a with closingCount := 0 } := by
  rw [← Handed.isCode_iff] at hc
  simp [State.discardChar, hc]

theorem State.discardChar_of_closing {s : State} {n : Line} {h : Handed}
    (hc : h.case = .letters ∧ h.code = s.boot.cfg.codes.closing) :
    s.discardChar n h = if (s.line n).asm.closingCount + 1 < 4 then
      s.modAsm n fun a => { a with closingCount := a.closingCount + 1 } else s.returnToHunt n :=
  if_pos ((Handed.isCode_iff h _).mpr hc)

theorem State.restartSilence_hunt {s : State} {n : Line} (h : (s.line n).asm.state = .hunt)
    (hs : (s.line n).asm.silence = none) : ((s.restartSilence n).line n).asm = (s.line n).asm := by
  rw [State.restartSilence_asm, h, ← hs]

/-- A closing code of a message past its channel group (R26, R35). -/
theorem exec_closingCode {n : Line} {framing : Bool} {s : State} {r : RecIx} (hmid : MidCharacter s n)
    (ha : (s.line n).asm.state = .text ∨ (s.line n).asm.state = .heading ∧ (s.line n).asm.step ≠ .group)
    (hr : (s.line n).asm.record = some r) (hcase : caseAfter s.boot.cfg.codes.closing (s.line n).rx.case = .letters) :
    ∃ u, CharMet n r framing s u ∧ exec (.characterReceived n s.boot.cfg.codes.closing framing) s =
      .next ((if (s.line n).asm.closingCount + 1 < 4 then
        u.modAsm n fun a => { a with closingCount := a.closingCount + 1 } else u.closeByRun n r).restartSilence n) := by
  obtain ⟨u, hu, hexec⟩ := exec_in_message hmid (ha.symm.imp_left And.left) hr s.boot.cfg.codes.closing framing
  have hg : ¬((u.line n).asm.state = .heading ∧ (u.line n).asm.step = .group) := by
    rw [hu.asm]
    rcases ha with ha | ⟨-, ha⟩
    · rw [ha]; nofun
    · exact fun h => ha h.2
  rw [State.messageChar_of_closing hg ⟨hcase, by rw [hu.boot]⟩, hu.asm] at hexec
  exact ⟨u, hu, hexec⟩

theorem CharMet.closesComplete {n : Line} {r : RecIx} {framing : Bool} {s u : State} (hu : CharMet n r framing s u)
    (h : ClosesComplete s n r) : ClosesComplete u n r := by
  rw [ClosesComplete, hu.asm, hu.record]
  exact h

/-- The fourth closing code completes the message (R33, R35). -/
theorem fourthClosingCode_closes {n : Line} {framing : Bool} {s : State} {r : RecIx} (hmid : MidCharacter s n)
    (h : ClosesComplete s n r) (hr : (s.line n).asm.record = some r)
    (hcase : caseAfter s.boot.cfg.codes.closing (s.line n).rx.case = .letters)
    (hcount : (s.line n).asm.closingCount = 3) :
    ∃ t k cs, exec (.characterReceived n s.boot.cfg.codes.closing framing) s = .next t ∧
      t.record r = { s.record r with complete := true, state := .stored, mutilated := k, copies := cs } ∧
      ((s.line n).asm.state = .heading → cs.map (·.station) = [[0, 0, 0, 0]]) ∧
      t.store.pool = s.store.pool ∧ t.sup.account = s.sup.account ∧
      (t.line n).asm = { (s.line n).asm with
        state := .hunt, openingCount := 0, closingCount := 0, silence := none, record := none } := by
  obtain ⟨u, hu, hexec⟩ := exec_closingCode (framing := framing) hmid (h.imp And.left fun h => ⟨h.1, h.2.1⟩) hr hcase
  obtain ⟨hclosed, hacc⟩ := State.closeByRun_closed (hu.closesComplete h)
  rw [if_neg (by rw [hcount]; decide)] at hexec
  obtain ⟨cs, he, hst⟩ := hclosed.record
  rw [hu.record, Record.closedAs, Bool.or_false] at he
  refine ⟨_, _, cs, hexec, he, fun ha => hst (by rw [hu.asm]; exact ha), hclosed.pool.trans hu.pool,
    hacc.trans (by rw [hu.sup]), ?_⟩
  rw [State.restartSilence_hunt (by rw [hclosed.asm]) (by rw [hclosed.asm]), hclosed.asm, hu.asm]

/-- Settles O14: closing codes counted, the fourth by what its close leaves, and DISCARD. -/
theorem closingRunClosesTheMessage : Obligations.ClosingRunClosesTheMessage := by
  unfold Obligations.ClosingRunClosesTheMessage
  refine ⟨fun n framing s r hmid ha hr hcase => ⟨fun hlt => ?_, fun hcount ht hc => ?_, fun hcount hh hs => ?_,
    fun hcount hh hs => ?_⟩, fun n code framing s hmid ha => ?_⟩
  · obtain ⟨u, hu, hexec⟩ := exec_closingCode (framing := framing) hmid ha hr hcase
    rw [if_pos (by omega)] at hexec
    refine ⟨_, hexec, ?_, by rw [State.restartSilence_record, State.modAsm_record, hu.record], hu.pool⟩
    rw [State.restartSilence_asm, State.modAsm_line_same, hu.asm]
    rcases ha with ha | ⟨ha, -⟩ <;> simp [ha]
  · obtain ⟨t, k, cs, hexec, he, -, hpool, hacc, hasm⟩ :=
      fourthClosingCode_closes (framing := framing) hmid (.inl ⟨ht, hc⟩) hr hcase hcount
    exact ⟨t, hexec, by rw [he], by rw [he], by rw [he], by rw [he], by rw [he], hpool, hacc, hasm⟩
  · have hg : (s.line n).asm.step ≠ .group := (ha.resolve_left (by rw [hh]; nofun)).2
    obtain ⟨t, k, cs, hexec, he, hst, hpool, hacc, hasm⟩ :=
      fourthClosingCode_closes (framing := framing) hmid (.inr ⟨hh, hg, hs⟩) hr hcase hcount
    exact ⟨t, hexec, by rw [he], by rw [he], by rw [he], by rw [he]; exact hst hh, by rw [he], hpool, hacc, hasm⟩
  · obtain ⟨u, hu, hexec⟩ := exec_closingCode (framing := framing) hmid ha hr hcase
    have hearly : (u.line n).asm.designatorTaken = false := by
      rw [hu.asm]; simp [Assembler.designatorTaken, hh, hs]
    have hd := u.freeRecord_dropped n r
    rw [if_neg (by omega), State.closeByRun_of_early r hearly] at hexec
    refine ⟨_, hexec, ?_, ?_, ?_, ?_, ?_, hd.sup.trans hu.sup, hd.router.trans hu.router, ?_⟩
    · rw [State.restartSilence_record, hd.record]; rfl
    · rw [State.restartSilence_record, hd.record, hu.record]; rfl
    · rw [State.restartSilence_record, hd.record]; rfl
    · rw [State.restartSilence_record, hd.record]; rfl
    · rw [State.restartSilence_store, hd.freeList, hu.freeList, hu.record]
    · rw [State.restartSilence_hunt (by rw [hd.asm]) (by rw [hd.asm]), hd.asm, hu.asm]
  · obtain ⟨u, hu, -, hexec⟩ := exec_between hmid code framing
    have hexec := hexec ha
    by_cases hclosing : caseAfter code (s.line n).rx.case = .letters ∧ code = s.boot.cfg.codes.closing
    · rw [State.discardChar_of_closing (by rw [hu.only.boot]; exact hclosing), hu.asm] at hexec
      by_cases hlt : (s.line n).asm.closingCount < 3
      · rw [if_pos (by omega)] at hexec
        obtain ⟨hone, hasm, htx, hsched⟩ := hu.modAsm fun a => { a with closingCount := a.closingCount + 1 }
        exact ⟨_, hexec, hone, htx, hsched, absurd hclosing, fun _ _ => hasm, fun _ h => absurd hlt (by omega)⟩
      · rw [if_neg (by omega)] at hexec
        obtain ⟨w, hl, -⟩ := u.returnToHunt_turn n
        exact ⟨_, hexec, hu.only.trans (u.returnToHunt_onlyLine n), by rw [hl]; exact hu.tx, by rw [hl]; exact hu.sched,
          absurd hclosing, fun _ h => absurd h hlt, fun _ _ => by rw [hl, hu.asm]⟩
    · rw [State.discardChar_of_other (by rw [hu.only.boot]; exact hclosing)] at hexec
      obtain ⟨hone, hasm, htx, hsched⟩ := hu.modAsm fun a => { a with closingCount := 0 }
      exact ⟨_, hexec, hone, htx, hsched, fun _ => hasm, fun h => absurd h hclosing, fun h => absurd h hclosing⟩

end Sys2Proof.Machine
end

section
namespace Sys2Proof.Machine

/-! ### Silence and OPEN (R36, R37, R38, R39) -/

theorem exec_headingSilence {s : State} {n : Line} {r : RecIx} (hr : s.running = true)
    (hs : (s.line n).asm.silence ≠ none) (ha : (s.line n).asm.state = .heading) (hrec : (s.line n).asm.record = some r) :
    exec (.silenceTimerExpiry n) s = .next (s.closeTruncated n r .headingSilence) := by
  show execSilenceTimerExpiry n s = _
  simp [execSilenceTimerExpiry, State.silenceEnds, hr, Option.isSome_iff_ne_none.mpr hs, ha, hrec]

/-- Line `n` between the loss of its receive condition and what the assembler makes of it (R8, R9). -/
structure LoopOpened (n : Line) (s w : State) : Prop where
  only : OnlyLine n s w
  asm : (w.line n).asm = (s.line n).asm
  value : (w.line n).condIn.value = .open
  timer : (w.line n).condIn.openTimer = some 60000
  rx : (w.line n).rx.state = .waitMark
  turn : (w.line n).turn = (s.line n).turn

/-- The send side of a HALF line hears of OPEN behind the assembler, and the turnaround waits (R11, R16, R148). -/
def State.halfOpened (s : State) (n : Line) : State :=
  if s.mode n = .half then (s.sendLost n).turnWait n else s

/-- The spacing timer of a CLOSED receive condition tells the assembler of OPEN, then a HALF line's send side (R9, R11). -/
theorem exec_loopOpens {s : State} {n : Line} (hr : s.running = true) (hm : s.mode n ≠ .send)
    (hv : (s.line n).condIn.value = .closed) (ht : (s.line n).condIn.spacingTimer ≠ none) :
    ∃ w, LoopOpened n s w ∧ ((w.asmLineOpen n).boot = s.boot →
      exec (.spacingTimerExpiry n .loopIn) s = .next ((w.asmLineOpen n).halfOpened n)) := by
  generalize hw : (((s.spacingEnds n .loopIn).modCond n .loopIn fun c =>
    { c with value := .open, openTimer := some Config.openTime }).setRx n .waitMark) = w
  have hl : w.line n = { s.line n with
      condIn := { (s.line n).condIn with spacingTimer := none, value := .open, openTimer := some 60000 }
      rx := { (s.line n).rx with state := .waitMark } } := by
    rw [← hw, State.setRx_line_same, State.modCond_line_loopIn, State.spacingEnds, State.modCond_line_loopIn]
    rfl
  refine ⟨w, ⟨?_, by rw [hl], by rw [hl], by rw [hl], by rw [hl], by rw [hl]⟩, fun hb => ?_⟩
  · rw [← hw]
    exact (s.modCond_onlyLine n _ _).trans <| (State.modCond_onlyLine _ n _ _).trans (State.setRx_onlyLine _ n _)
  · have hexec := exec_spacingTimerExpiry (pin := .loopIn) hr (by simpa [keepsCond] using hm) ht hv
    have hmode : (w.asmLineOpen n).mode n = s.mode n := State.mode_of_boot hb n
    have hopens : (s.spacingEnds n .loopIn).condOpens n .loopIn = (w.asmLineOpen n).halfOpened n := by
      rw [State.halfOpened, hmode, ← hw]
      by_cases h : s.mode n = .half
      · have h' : (s.spacingEnds n .loopIn).mode n = .half := h
        simp [State.condOpens, State.receiveLost, receiveSide, sendSide, h, h']
      · have h' : (s.spacingEnds n .loopIn).mode n ≠ .half := h
        simp [State.condOpens, State.receiveLost, receiveSide, sendSide, h, h']
    rw [hexec, hopens]

/-- What a HALF line's send side leaves when its condition has gone OPEN. -/
theorem State.halfOpened_spec {s : State} {n : Line} (hv : (s.line n).condIn.value = .open)
    (hw : (s.line n).rx.state = .waitMark) :
    let t := s.halfOpened n
    (∀ m, m ≠ n → t.line m = s.line m) ∧ t.sup = s.sup ∧ t.port = s.port ∧
    t.store.freeList = s.store.freeList ∧ t.store.pool = s.store.pool ∧ CopiesKept s t ∧
    (t.line n).condIn = (s.line n).condIn ∧ (t.line n).rx.state = .waitMark ∧ (t.line n).asm = (s.line n).asm ∧
    (s.mode n = .half → (t.line n).turn = (s.line n).turn.map fun _ => { waiting := true, timer := none }) := by
  by_cases hm : s.mode n = .half
  · have ht : s.halfOpened n = (s.sendLost n).turnWait n := if_pos hm
    have hone := (s.sendLost n).turnWait_onlyLine n
    obtain ⟨hoth, -, hsup, hport, -, hfree, hpool⟩ := s.sendLost_others n
    obtain ⟨rx, mo, sc, k, hl, hrx, -⟩ := s.sendLost_line n
    have hcopies : CopiesKept s (s.sendLost n) :=
      (CopiesKept.of_records (s.abandonTx_onlyLine n).record).trans (State.putBack_copiesKept _ n)
    rw [ht]
    refine ⟨fun m hne => (hone.2 m hne).trans (hoth m hne), hone.sup.trans hsup, hone.port.trans hport,
      by rw [hone.store, hfree], by rw [hone.store, hpool], hcopies.trans (.of_records hone.record), ?_, ?_, ?_, fun _ => ?_⟩
    all_goals rw [State.turnWait_line_same, hl]
    exact hrx (by rw [hv]; nofun) hw
  · have ht : s.halfOpened n = s := if_neg hm
    rw [ht]
    exact ⟨fun _ _ => rfl, rfl, rfl, rfl, rfl, .refl s, rfl, hw, rfl, fun h => absurd h hm⟩

/-- The receiving side of line `n` after its condition went OPEN in the middle of a message (R8, R9, R37, R148). -/
structure MessageOpened (n : Line) (s t : State) : Prop where
  value : (t.line n).condIn.value = .open
  timer : (t.line n).condIn.openTimer = some 60000
  rx : (t.line n).rx.state = .waitMark
  turn : s.mode n = .half → (t.line n).turn = (s.line n).turn.map fun _ => { waiting := true, timer := none }
  asm : (t.line n).asm = { (s.line n).asm with
    state := .hunt, openingCount := 0, closingCount := 0, silence := none, record := none }
  pool : t.store.pool = s.store.pool

/-- What the assembler made of OPEN, next to the state that the condition left. -/
theorem LoopOpened.opened {n : Line} {s w v : State} (h : LoopOpened n s w) (hboot : v.boot = w.boot)
    (hasm : (v.line n).asm = { (w.line n).asm with
      state := .hunt, openingCount := 0, closingCount := 0, silence := none, record := none })
    (hrx : (v.line n).rx = (w.line n).rx) (hcond : (v.line n).condIn = (w.line n).condIn)
    (hturn : ∀ k : Turnaround, (v.line n).turn.map (fun _ => k) = (w.line n).turn.map fun _ => k)
    (hpool : v.store.pool = w.store.pool) : MessageOpened n s (v.halfOpened n) := by
  have hmode : v.mode n = s.mode n := (State.mode_of_boot hboot n).trans (h.only.mode n)
  obtain ⟨-, -, -, -, hp, -, hc, hr, ha, ht⟩ := State.halfOpened_spec (s := v) (n := n) (by rw [hcond, h.value])
    (by rw [hrx, h.rx])
  refine ⟨by rw [hc, hcond, h.value], by rw [hc, hcond, h.timer], hr, fun hm => ?_, by rw [ha, hasm, h.asm],
    by rw [hp, hpool, h.only.store]⟩
  rw [ht (hmode.trans hm), hturn, h.turn]

/-- OPEN in the middle of a message that its close completes (R37, R38). -/
theorem loopOpens_closes {s : State} {n : Line} {r : RecIx} (hr : s.running = true) (hm : s.mode n ≠ .send)
    (hv : (s.line n).condIn.value = .closed) (ht : (s.line n).condIn.spacingTimer ≠ none)
    (h : ClosesComplete s n r) (hrec : (s.line n).asm.record = some r) (hd : DeadCopiesServed s) :
    ∃ t cs, exec (.spacingTimerExpiry n .loopIn) s = .next t ∧ MessageOpened n s t ∧
      t.record r = { s.record r with complete := true, state := .stored, truncated := true, copies := cs } ∧
      ((s.line n).asm.state = .heading → cs.map (·.station) = [[0, 0, 0, 0]]) ∧
      t.sup.account = (s.sup.posted (.truncated n .lineOpen (s.record r).inbound)).account := by
  obtain ⟨w, hw, hexec⟩ := exec_loopOpens hr hm hv ht
  have hopen : w.asmLineOpen n = w.closeTruncated n r .lineOpen := by
    rw [State.asmLineOpen, hw.asm, hrec]
    rcases h with ⟨ha, -⟩ | ⟨ha, -⟩ <;> rw [ha]
  have h' : ClosesComplete w n r := by rw [ClosesComplete, hw.asm, hw.only.record]; exact h
  obtain ⟨hc, hacc⟩ := State.closeTruncated_closed .lineOpen h' (by rwa [DeadCopiesServed, hw.only.router, hw.only.sup])
  obtain ⟨cs, he, hst⟩ := hc.record
  rw [hopen] at hexec
  obtain ⟨-, hsup, -, -, -, hcopies, -⟩ := State.halfOpened_spec (s := w.closeTruncated n r .lineOpen) (n := n)
    (by rw [hc.condIn, hw.value]) (by rw [hc.rx, hw.rx])
  obtain ⟨cs', he', hstations, -⟩ := hcopies r
  rw [he] at he' hstations
  refine ⟨_, cs', hexec (hc.boot.trans hw.only.boot),
    hw.opened hc.boot hc.asm hc.rx hc.condIn hc.turn hc.pool, ?_, fun ha => ?_, ?_⟩
  · rw [he', hw.only.record, Record.closedAs, Bool.or_true]
  · rw [hstations]; exact hst (by rw [hw.asm]; exact ha)
  · rw [hsup, hacc, hw.only.sup, hw.only.record]

/-- OPEN before the designator (R33, R37, R38). -/
theorem loopOpens_drops {s : State} {n : Line} {r : RecIx} (hr : s.running = true) (hm : s.mode n ≠ .send)
    (hv : (s.line n).condIn.value = .closed) (ht : (s.line n).condIn.spacingTimer ≠ none)
    (ha : (s.line n).asm.state = .heading) (hrec : (s.line n).asm.record = some r)
    (hs : (s.line n).asm.step = .group ∨ (s.line n).asm.step = .designator) :
    ∃ t, exec (.spacingTimerExpiry n .loopIn) s = .next t ∧ MessageOpened n s t ∧
      t.record r = Record.cleared ((s.record r).gen + 1) ∧
      t.store.freeList = s.store.freeList ++ (s.record r).chain ∧ t.sup = s.sup := by
  obtain ⟨w, hw, hexec⟩ := exec_loopOpens hr hm hv ht
  have hopen : w.asmLineOpen n = (w.freeRecord r).returnToHunt n := by
    rw [State.asmLineOpen, hw.asm, hrec, ha]
    refine State.closeTruncated_of_early r .lineOpen ?_
    rw [hw.asm]
    rcases hs with hs | hs <;> simp [Assembler.designatorTaken, ha, hs]
  have hc := w.freeRecord_dropped n r
  rw [hopen] at hexec
  obtain ⟨-, hsup, -, hfree, -, hcopies, -⟩ := State.halfOpened_spec (s := (w.freeRecord r).returnToHunt n) (n := n)
    (by rw [hc.condIn, hw.value]) (by rw [hc.rx, hw.rx])
  obtain ⟨cs, he, hstations, -⟩ := hcopies r
  rw [hc.record] at he hstations
  have hnil : cs = [] := List.map_eq_nil_iff.mp hstations
  refine ⟨_, hexec (hc.boot.trans hw.only.boot), hw.opened hc.boot hc.asm hc.rx hc.condIn hc.turn hc.pool, ?_, ?_, ?_⟩
  · rw [he, hnil, hw.only.record]; rfl
  · rw [hfree, hc.freeList, hw.only.store, hw.only.record]
  · rw [hsup, hc.sup, hw.only.sup]

/-- OPEN of a line whose message was lost (R39). -/
theorem loopOpens_discards {s : State} {n : Line} (hr : s.running = true) (hm : s.mode n ≠ .send)
    (hv : (s.line n).condIn.value = .closed) (ht : (s.line n).condIn.spacingTimer ≠ none)
    (ha : (s.line n).asm.state = .discard) :
    ∃ t, exec (.spacingTimerExpiry n .loopIn) s = .next t ∧ MessageOpened n s t ∧
      t.store.freeList = s.store.freeList ∧ t.sup = s.sup ∧ (∀ m, m ≠ n → t.line m = s.line m) ∧ t.port = s.port := by
  obtain ⟨w, hw, hexec⟩ := exec_loopOpens hr hm hv ht
  have hopen : w.asmLineOpen n = w.returnToHunt n := by rw [State.asmLineOpen, hw.asm, ha]
  have hone := w.returnToHunt_onlyLine n
  obtain ⟨k, hl, hk⟩ := w.returnToHunt_turn n
  rw [hopen] at hexec
  obtain ⟨hoth, hsup, hport, hfree, -⟩ := State.halfOpened_spec (s := w.returnToHunt n) (n := n)
    (by rw [hl]; exact hw.value) (by rw [hl]; exact hw.rx)
  exact ⟨_, hexec (hone.boot.trans hw.only.boot),
    hw.opened hone.boot (by rw [hl]) (by rw [hl]) (by rw [hl]) (by rw [hl]; exact hk) (by rw [hone.store]),
    by rw [hfree, hone.store, hw.only.store], by rw [hsup, hone.sup, hw.only.sup],
    fun m hne => (hoth m hne).trans ((hone.2 m hne).trans (hw.only.2 m hne)), by rw [hport, hone.port, hw.only.port]⟩

/-- An assembler that has returned to HUNT, item by item. -/
theorem atHunt {n : Line} {s t : State} (h : (t.line n).asm = { (s.line n).asm with
      state := .hunt, openingCount := 0, closingCount := 0, silence := none, record := none })
    (hp : t.store.pool = s.store.pool) :
    (t.line n).asm.state = .hunt ∧ (t.line n).asm.openingCount = 0 ∧ (t.line n).asm.closingCount = 0 ∧
      (t.line n).asm.silence = none ∧ (t.line n).asm.record = none ∧ t.store.pool = s.store.pool := by
  rw [h]
  exact ⟨rfl, rfl, rfl, rfl, rfl, hp⟩

theorem MessageOpened.parts {n : Line} {s t : State} (h : MessageOpened n s t) :
    (t.line n).condIn.value = .open ∧ (t.line n).condIn.openTimer = some 60000 ∧ (t.line n).rx.state = .waitMark ∧
      (s.mode n = .half → (t.line n).turn = (s.line n).turn.map fun _ => { waiting := true, timer := none }) ∧
      (t.line n).asm.state = .hunt ∧ (t.line n).asm.openingCount = 0 ∧ (t.line n).asm.closingCount = 0 ∧
      (t.line n).asm.record = none ∧ (t.line n).asm.silence = none ∧ t.store.pool = s.store.pool := by
  obtain ⟨hstate, hopening, hclosing, hsilence, hrecord, hpool⟩ := atHunt h.asm h.pool
  exact ⟨h.value, h.timer, h.rx, h.turn, hstate, hopening, hclosing, hrecord, hsilence, hpool⟩

/-- Settles O15: silence by the close it brings, OPEN by the same close between the condition and the send side. -/
theorem silenceOrOpenLineClosesTheMessage : Obligations.SilenceOrOpenLineClosesTheMessage := by
  unfold Obligations.SilenceOrOpenLineClosesTheMessage
  refine ⟨fun n s r hr hs hrec => ⟨fun ha hc hd => ?_, fun ha hg hds hd => ?_, fun ha hst => ?_⟩,
    fun n s hr hm hv ht => ⟨fun r ha hrec hc hd => ?_, fun r ha hrec hg hds hd => ?_, fun r ha hrec hst => ?_,
      fun ha => ?_⟩⟩
  · obtain ⟨hcl, hacc⟩ := State.closeTruncated_closed .textSilence (.inl ⟨ha, hc⟩) hd
    obtain ⟨cs, he, -⟩ := hcl.record
    exact ⟨_, exec_silenceTimerExpiry hr hs ha hrec,
      atHunt hcl.asm hcl.pool,
      by rw [he]; rfl, by rw [he]; rfl, by rw [he]; exact Bool.or_true _, by rw [he]; rfl, by rw [he]; rfl, hacc⟩
  · obtain ⟨hcl, hacc⟩ := State.closeTruncated_closed (r := r) .headingSilence (.inr ⟨ha, hg, hds⟩) hd
    obtain ⟨cs, he, hst⟩ := hcl.record
    exact ⟨_, exec_headingSilence hr hs ha hrec,
      atHunt hcl.asm hcl.pool,
      by rw [he]; rfl, by rw [he]; rfl, by rw [he]; exact Bool.or_true _, by rw [he]; exact hst ha, hacc⟩
  · have hearly : (s.line n).asm.designatorTaken = false := by
      rcases hst with hst | hst <;> simp [Assembler.designatorTaken, ha, hst]
    have hcl := s.freeRecord_dropped n r
    have hexec := exec_headingSilence hr hs ha hrec
    rw [State.closeTruncated_of_early r _ hearly] at hexec
    exact ⟨_, hexec, atHunt hcl.asm hcl.pool,
      by rw [hcl.record]; rfl, by rw [hcl.record]; rfl, by rw [hcl.record]; rfl, by rw [hcl.record]; rfl,
      hcl.freeList, hcl.sup⟩
  · obtain ⟨t, cs, hexec, ho, he, -, hacc⟩ := loopOpens_closes hr hm hv ht (.inl ⟨ha, hc⟩) hrec hd
    exact ⟨t, hexec, ho.parts, by rw [he], by rw [he], by rw [he], by rw [he], hacc⟩
  · obtain ⟨t, cs, hexec, ho, he, hst, hacc⟩ := loopOpens_closes hr hm hv ht (.inr ⟨ha, hg, hds⟩) hrec hd
    exact ⟨t, hexec, ho.parts, by rw [he], by rw [he], by rw [he], by rw [he], by rw [he]; exact hst ha, hacc⟩
  · obtain ⟨t, hexec, ho, he, hfree, hsup⟩ := loopOpens_drops hr hm hv ht ha hrec hst
    exact ⟨t, hexec, ho.parts, by rw [he]; rfl, by rw [he]; rfl, by rw [he]; rfl, by rw [he]; rfl, hfree, hsup⟩
  · obtain ⟨t, hexec, ho, hrest⟩ := loopOpens_discards hr hm hv ht ha
    exact ⟨t, hexec, ho.parts, hrest⟩

end Sys2Proof.Machine
end

section
namespace Sys2Proof.Machine

/-! ### The channel group (R27, R28, R29) -/

theorem State.messageChar_of_group {s : State} {n : Line} (ha : (s.line n).asm.state = .heading)
    (hs : (s.line n).asm.step = .group) (r : RecIx) (h : Handed) : s.messageChar n r h = s.takeGroup n r h := by
  simp [State.messageChar, ha, hs]

/-- A character while the heading step is GROUP (R28). -/
theorem exec_groupChar {n : Line} {s : State} {r : RecIx} (hmid : MidCharacter s n)
    (ha : (s.line n).asm.state = .heading) (hs : (s.line n).asm.step = .group) (hr : (s.line n).asm.record = some r)
    (code : Code) (framing : Bool) : ∃ u, CharMet n r framing s u ∧
      exec (.characterReceived n code framing) s =
        .next ((u.takeGroup n r ⟨code, caseAfter code (s.line n).rx.case⟩).restartSilence n) := by
  obtain ⟨u, hu, hexec⟩ := exec_in_message hmid (.inl ha) hr code framing
  rw [State.messageChar_of_group (by rw [hu.asm, ha]) (by rw [hu.asm, hs])] at hexec
  exact ⟨u, hu, hexec⟩

/-- The sixth character judges the group (R28). -/
theorem State.takeGroup_of_six {s : State} {n : Line} {r : RecIx} {h1 h2 h3 h4 h5 h6 : Handed}
    (hg : (s.line n).asm.group = [h1, h2, h3, h4, h5]) : s.takeGroup n r h6 =
      match groupNumber [h1, h2, h3, h4, h5, h6] with
      | some k => (s.modAsm n fun a => { a with group := [h1, h2, h3, h4, h5, h6], step := .designator }).checkChannel n r k
      | none => (s.modAsm n fun a => { a with group := [h1, h2, h3, h4, h5, h6], step := .designator }).defaultHeading r := by
  simp only [State.takeGroup, hg]
  rfl

theorem digitOf_digitCode : ∀ a : Fin 10, digitOf (digitCode a.val) = some a.val := by decide

/-- Three digits in figures case, a letters shift and a space are a channel number, when it is not 000 (R28). -/
theorem groupNumber_of_digits {h1 h5 h6 : Handed} {a b c : Nat} (ha : a ≤ 9) (hb : b ≤ 9) (hc : c ≤ 9)
    (hpos : 1 ≤ 100 * a + 10 * b + c) (h5s : h5.code = 31) (h6s : h6.code = 4) :
    groupNumber [h1, ⟨digitCode a, .figures⟩, ⟨digitCode b, .figures⟩, ⟨digitCode c, .figures⟩, h5, h6] =
      some (100 * a + 10 * b + c) := by
  have hdigit : ∀ d, d ≤ 9 → (⟨digitCode d, .figures⟩ : Handed).digit = some d := fun d hd =>
    digitOf_digitCode ⟨d, by omega⟩
  have hnum : a * 100 + b * 10 + c = 100 * a + 10 * b + c := by omega
  simp only [groupNumber, hdigit a ha, hdigit b hb, hdigit c hc, hnum]
  exact if_pos ⟨h5s, h6s, hpos⟩

/-- The expectation after a channel number (R29). -/
theorem nextChannel_eq {k : Nat} (h : k ≤ 999) : nextChannel k = if k = 999 then 1 else k + 1 := by
  unfold nextChannel
  by_cases hk : k = 999
  · rw [if_pos hk, if_neg (by omega)]
  · rw [if_neg hk, if_pos (by omega)]

theorem OnlySup.record {s t : State} (h : OnlySup s t) (q : RecIx) : t.record q = s.record q := by
  rw [h]
  rfl

/-- A received channel number moves the expectation on; another one than was expected is a gap (R29). -/
theorem State.checkChannel_spec {s : State} {n : Line} {r : RecIx} (k : Nat) (hd : DeadCopiesServed s) :
    let t := s.checkChannel n r k
    (t.line n).asm = { (s.line n).asm with expectation := some (nextChannel k) } ∧
    (∃ gap, t.record r = { s.record r with inbound := some k, sequenceGap := gap } ∧
      (∀ e, (s.line n).asm.expectation = some e → e ≠ k →
        gap = true ∧ t.sup.account = (s.sup.posted (.sequenceGap n e k)).account) ∧
      ((∀ e, (s.line n).asm.expectation = some e → e = k) → gap = (s.record r).sequenceGap ∧ t.sup = s.sup)) := by
  generalize hu : ((s.modRecord r fun rec => { rec with inbound := some k }).modAsm n fun a =>
    { a with expectation := some (nextChannel k) }) = u
  have hasm : (u.line n).asm = { (s.line n).asm with expectation := some (nextChannel k) } := by
    rw [← hu, State.modAsm_line_same, State.modRecord_line]
  have hrec : u.record r = { s.record r with inbound := some k } := by
    rw [← hu, State.modAsm_record, State.modRecord_record_same]
  have hsup : u.sup = s.sup := by rw [← hu]; rfl
  have hrouter : u.router = s.router := by rw [← hu]; rfl
  have hcheck : s.checkChannel n r k = match (s.line n).asm.expectation with
      | none => u
      | some e => if e = k then u
        else (u.modRecord r fun rec => { rec with sequenceGap := true }).post (.sequenceGap n e k) := by
    rw [← hu]; rfl
  simp only [hcheck]
  cases he : (s.line n).asm.expectation with
  | none => exact ⟨hasm, _, hrec, nofun, fun _ => ⟨rfl, hsup⟩⟩
  | some e =>
    by_cases hk : e = k
    · simp only [if_pos hk]
      exact ⟨hasm, _, hrec, fun e' h hne => absurd (by cases h; exact hk) hne, fun _ => ⟨rfl, hsup⟩⟩
    · simp only [if_neg hk]
      obtain ⟨hone, hacc, -⟩ := (u.modRecord r fun rec => { rec with sequenceGap := true }).post_of_served
        (.sequenceGap n e k) (by simpa [DeadCopiesServed, hsup, hrouter] using hd)
      refine ⟨?_, true, ?_, fun e' h _ => ⟨rfl, ?_⟩, fun h => absurd (h e rfl) hk⟩
      · rw [State.post_line, State.modRecord_line, hasm]
      · rw [hone.record, State.modRecord_record_same, hrec]
      · cases h
        rw [hacc, State.modRecord_sup, hsup]

/-- Settles O16: the judgement of the group, then its number against the expectation. -/
theorem channelGroupIsJudged : Obligations.ChannelGroupIsJudged := by
  unfold Obligations.ChannelGroupIsJudged
  intro n code framing s r h1 h2 h3 h4 h5 hmid ha hs hr hg hd
  obtain ⟨u, hu, hexec⟩ := exec_groupChar hmid ha hs hr code framing
  rw [State.takeGroup_of_six (by rw [hu.asm]; exact hg)] at hexec
  generalize hv : (u.modAsm n fun a => { a with
    group := [h1, h2, h3, h4, h5, ⟨code, caseAfter code (s.line n).rx.case⟩], step := .designator }) = v at hexec
  have hasm : (v.line n).asm = { (s.line n).asm with
      group := [h1, h2, h3, h4, h5, ⟨code, caseAfter code (s.line n).rx.case⟩], step := .designator } := by
    rw [← hv, State.modAsm_line_same, hu.asm]
  have hrec : v.record r = { s.record r with mutilated := mutilatedAfter framing (s.record r).mutilated } := by
    rw [← hv]; exact hu.record
  have hsup : v.sup = s.sup := by rw [← hv]; exact hu.sup
  refine ⟨fun a b c hna hnb hnc hpos h2d h3d h4d h5s h6s => ?_, fun hnone => ?_⟩
  · subst h2d h3d h4d
    rw [groupNumber_of_digits hna hnb hnc hpos h5s h6s] at hexec
    obtain ⟨hasm', gap, hrec', hgap, hno⟩ := State.checkChannel_spec (s := v) (n := n) (r := r) (100 * a + 10 * b + c)
      (by rw [← hv]; exact hu.served hd)
    rw [hasm] at hasm' hgap hno
    rw [nextChannel_eq (by omega)] at hasm'
    rw [hrec] at hrec' hno
    rw [hsup] at hgap hno
    refine ⟨_, hexec, ?_, by rw [State.restartSilence_record, hrec'], by rw [State.restartSilence_record, hrec'],
      by rw [State.restartSilence_record, hrec']; rfl, fun hg => ?_, fun hg => ?_⟩
    · rw [State.restartSilence_heading (by rw [hasm']; exact ha), hasm']
    · obtain ⟨hsome, hne⟩ := hg
      obtain ⟨e, he⟩ := Option.ne_none_iff_exists'.mp hsome
      rw [he] at hne
      have hne' : e ≠ 100 * a + 10 * b + c := fun h => hne (by rw [h])
      refine ⟨by rw [State.restartSilence_record, hrec']; exact (hgap e he hne').1, fun e' he' => ?_⟩
      cases he.symm.trans he'
      exact (hgap e he hne').2
    · obtain ⟨hkeep, hs'⟩ := hno fun e he => by
        by_contra hne
        exact hg ⟨by rw [he]; nofun, by rw [he]; exact fun h => hne (Option.some.inj h)⟩
      exact ⟨by rw [State.restartSilence_record, hrec']; exact hkeep, hs'⟩
  · rw [hnone] at hexec
    refine ⟨_, hexec, ?_, ?_, hsup⟩
    · rw [State.restartSilence_heading (by rw [State.defaultHeading, State.modRecord_line, hasm]; exact ha),
        State.defaultHeading, State.modRecord_line, hasm]
    · rw [State.restartSilence_record, State.defaultHeading, State.modRecord_record_same, hrec]
      rfl

end Sys2Proof.Machine
end

section
namespace Sys2Proof.Machine

/-! ### The designator (R27, R30, R34, R58) -/

/-- What a designator leaves of the record's items before it is stored (R30). -/
def Record.designatedAs (taken : Option Precedence) (rec : Record) : Record :=
  { rec with cls := taken.getD .general, headingDefaulted := rec.headingDefaulted || taken.isNone }

theorem State.takeDesignator_eq (s : State) (n : Line) (r : RecIx) (h : Handed) : s.takeDesignator n r h =
    ((s.modRecord r (Record.designatedAs (s.boot.cfg.codes.designated h))).storeChar n r h.code).modAsm n fun a =>
      { a with headingChars := 1, step := .afterDesignator } := by
  unfold State.takeDesignator Record.designatedAs
  cases s.boot.cfg.codes.designated h with
  | none => simp
  | some c => simp

/-- What the designator meets: the character has ended, and a missing channel group is marked (R27, R28). -/
structure DesignatorMet (n : Line) (r : RecIx) (framing missing : Bool) (s v : State) : Prop where
  boot : v.boot = s.boot
  router : v.router = s.router
  sup : v.sup = s.sup
  pool : v.store.pool = s.store.pool
  freeList : v.store.freeList = s.store.freeList
  reserved : v.store.reserved = s.store.reserved
  record : v.record r = { s.record r with
    mutilated := mutilatedAfter framing (s.record r).mutilated
    headingDefaulted := (s.record r).headingDefaulted || missing }
  asm : (v.line n).asm = { (s.line n).asm with step := .designator }

/-- The heading step is at DESIGNATOR, or a first character of the group that is no figures shift puts it there: the
character is the designator (R27). -/
theorem exec_designator {n : Line} {code : Code} {framing missing : Bool} {s : State} {r : RecIx} (hmid : MidCharacter s n)
    (ha : (s.line n).asm.state = .heading) (hr : (s.line n).asm.record = some r)
    (hmissing : missing = decide ((s.line n).asm.step = .group ∧ code ≠ 27))
    (h : missing = true ∧ (s.line n).asm.group = [] ∨ (s.line n).asm.step = .designator ∧
      (s.line n).asm.closingCount = 0 ∧
      ¬(caseAfter code (s.line n).rx.case = .letters ∧ code = s.boot.cfg.codes.closing)) :
    ∃ v, DesignatorMet n r framing missing s v ∧ exec (.characterReceived n code framing) s =
      .next ((v.takeDesignator n r ⟨code, caseAfter code (s.line n).rx.case⟩).restartSilence n) := by
  rcases h with ⟨hm, hgroup⟩ | ⟨hstep, hcount, hcode⟩
  · obtain ⟨hstep, hne⟩ := of_decide_eq_true (hmissing ▸ hm)
    obtain ⟨u, hu, hexec⟩ := exec_groupChar hmid ha hstep hr code framing
    have htake : ∀ c, u.takeGroup n r ⟨code, c⟩ =
        ((u.defaultHeading r).modAsm n fun a => { a with step := .designator }).takeDesignator n r ⟨code, c⟩ := by
      intro c
      have hne' : code ≠ figuresShift := hne
      simp [State.takeGroup, hu.asm, hgroup, hne']
    rw [htake] at hexec
    refine ⟨(u.defaultHeading r).modAsm n fun a => { a with step := .designator },
      ⟨hu.boot, hu.router, hu.sup, hu.pool, hu.freeList, hu.reserved, ?_, ?_⟩, hexec⟩
    · rw [State.modAsm_record, State.defaultHeading, State.modRecord_record_same, hu.record, hm, Bool.or_true]
    · rw [State.modAsm_line_same, State.defaultHeading, State.modRecord_line, hu.asm]
  · obtain ⟨u, hu, hexec⟩ := exec_in_message hmid (.inl ha) hr code framing
    have hno : missing = false := by rw [hmissing, hstep]; rfl
    have hself : (s.line n).asm = { (s.line n).asm with step := .designator } := by rw [← hstep]
    rw [State.messageChar_of_ordinary (by rw [hu.asm, hstep]; nofun) (by rw [hu.asm, hcount])
      (by rw [hu.boot]; exact hcode)] at hexec
    refine ⟨u, ⟨hu.boot, hu.router, hu.sup, hu.pool, hu.freeList, hu.reserved, ?_, hu.asm.trans hself⟩, ?_⟩
    · rw [hu.record, hno, Bool.or_false]
    · simpa [State.takeOrdinary, hu.asm, ha, hstep] using hexec

/-- What the designator is stored from: its class and marks are in the record (R27, R30). -/
structure DesignatorJudged (n : Line) (r : RecIx) (framing missing : Bool) (taken : Option Precedence) (s w : State) :
    Prop where
  router : w.router = s.router
  sup : w.sup = s.sup
  pool : w.store.pool = s.store.pool
  freeList : w.store.freeList = s.store.freeList
  reserved : w.store.reserved = s.store.reserved
  record : w.record r = { s.record r with
    cls := taken.getD .general, mutilated := mutilatedAfter framing (s.record r).mutilated
    headingDefaulted := (s.record r).headingDefaulted || missing || taken.isNone }
  asm : (w.line n).asm = { (s.line n).asm with step := .designator }

theorem DesignatorMet.judged {n : Line} {r : RecIx} {framing missing : Bool} {s v : State}
    (h : DesignatorMet n r framing missing s v) (taken : Option Precedence) :
    DesignatorJudged n r framing missing taken s (v.modRecord r (Record.designatedAs taken)) :=
  ⟨h.router, h.sup, h.pool, h.freeList, h.reserved, by rw [State.modRecord_record_same, h.record]; rfl, h.asm⟩

/-- The line's assembler once the designator is taken (R30, R36). -/
theorem State.afterDesignator_asm {v : State} {n : Line} (ha : (v.line n).asm.state = .heading) :
    (((v.modAsm n fun a => { a with headingChars := 1, step := .afterDesignator }).restartSilence n).line n).asm =
      { (v.line n).asm with headingChars := 1, step := .afterDesignator, silence := some 10000 } := by
  rw [State.restartSilence_heading (by rw [State.modAsm_line_same]; exact ha), State.modAsm_line_same]

section
variable {n : Line} {r : RecIx} {framing missing : Bool} {taken : Option Precedence} {s w : State}

theorem DesignatorJudged.reservationCount (h : DesignatorJudged n r framing missing taken s w) :
    w.store.reservationCount = s.store.reservationCount := by simp only [Store.reservationCount, h.reserved]

/-- The designator is stored at index 0 of the record's first block (R34, R44). -/
theorem DesignatorJudged.stored (hw : DesignatorJudged n r framing missing taken s w)
    (ha : (s.line n).asm.state = .heading) (hover : (s.line n).asm.overrun = false) (hused : (s.record r).state ≠ .free)
    (hzero : (s.record r).count = 0) (hempty : (s.record r).chain = []) (hpool : PoolForm s) {b : BlockNo}
    {rest : List BlockNo} (hf : s.store.freeList = b :: rest)
    (hadm : s.store.reservationCount + 1 + floorOf (taken.getD .general) ≤ s.store.freeList.length) (code : Code) :
    let t := ((w.storeChar n r code).modAsm n fun a =>
      { a with headingChars := 1, step := .afterDesignator }).restartSilence n
    (∃ cs, t.record r = { w.record r with count := 1, chain := [b], copies := cs }) ∧ t.store.freeList = rest ∧
    (∀ a, poolRead t.store.pool a = if a = 64 * b.val then code.setWidth 8 else poolRead s.store.pool a) ∧
    (t.line n).asm =
      { (s.line n).asm with headingChars := 1, step := .afterDesignator, silence := some 10000 } := by
  have hcount : (w.record r).count = 0 := by rw [hw.record]; exact hzero
  have hchain : (w.record r).chain = [] := by rw [hw.record]; exact hempty
  have h := State.storeChar_stored_in_new_block (r := r) (by rw [hw.asm]; exact hover) (by rw [hcount])
    (hw.freeList.trans hf) (by rw [hw.freeList, hw.reservationCount, hw.record]; exact hadm)
    (by rw [hw.record]; exact hused) code
  obtain ⟨cs, hrec⟩ := h.record
  have hread := h.pool (by rw [PoolForm, hw.pool]; exact hpool) b (by rw [hchain, hcount]; rfl)
  have hfree := h.freeList
  have hasm : ((w.storeChar n r code).line n).asm = { (s.line n).asm with step := .designator } :=
    (h.lines n).asm.trans hw.asm
  rw [hcount, hw.pool] at hread
  rw [hcount, hchain] at hrec
  rw [hw.freeList, hf] at hfree
  refine ⟨⟨cs, ?_⟩, (List.cons.inj hfree).2.symm, hread, ?_⟩
  · rw [State.restartSilence_record, State.modAsm_record, hrec]
    rfl
  · rw [State.afterDesignator_asm (by rw [hasm]; exact ha), hasm]

/-- The store refuses the designator a block (R34, R58). -/
theorem DesignatorJudged.refused (hw : DesignatorJudged n r framing missing taken s w)
    (ha : (s.line n).asm.state = .heading) (hover : (s.line n).asm.overrun = false) (hzero : (s.record r).count = 0)
    (hnone : s.store.freeList.length < s.store.reservationCount + 1 + floorOf (taken.getD .general))
    (hd : DeadCopiesServed s) (code : Code) :
    let t := ((w.storeChar n r code).modAsm n fun a =>
      { a with headingChars := 1, step := .afterDesignator }).restartSilence n
    t.record r = { w.record r with overrun := true } ∧ t.store.freeList = s.store.freeList ∧
    t.store.pool = s.store.pool ∧ t.sup.account = (s.sup.posted (.overrunLine n (s.record r).inbound)).account ∧
    (t.line n).asm =
      { (s.line n).asm with
        headingChars := 1, step := .afterDesignator, silence := some 10000, overrun := true } := by
  obtain ⟨hstore, hsup, hasm⟩ := State.storeChar_refused (r := r) (by rw [hw.asm]; exact hover)
    (by rw [hw.record, hzero]) (by rw [hw.freeList, hw.reservationCount, hw.record]; exact hnone)
    (by rwa [DeadCopiesServed, hw.router, hw.sup]) code
  refine ⟨?_, ?_, ?_, ?_, ?_⟩
  · rw [State.restartSilence_record, State.modAsm_record, State.record, hstore]
    exact w.modRecord_record_same r fun x => { x with overrun := true }
  · exact (congrArg Store.freeList hstore).trans hw.freeList
  · exact (congrArg Store.pool hstore).trans hw.pool
  · exact hsup.trans (by rw [hw.sup, hw.record])
  · rw [State.afterDesignator_asm (by rw [hasm, hw.asm]; exact ha), hasm, hw.asm]

end

/-- A figures shift begins the channel group (R28). -/
theorem exec_groupBegins {n : Line} {framing : Bool} {s : State} {r : RecIx} (hmid : MidCharacter s n)
    (ha : (s.line n).asm.state = .heading) (hr : (s.line n).asm.record = some r)
    (hstep : (s.line n).asm.step = .group) (hgroup : (s.line n).asm.group = []) :
    ∃ t, exec (.characterReceived n 27 framing) s = .next t ∧
      (t.line n).asm = { (s.line n).asm with group := [⟨27, .figures⟩], silence := some 10000 } ∧
      t.record r = { s.record r with mutilated := mutilatedAfter framing (s.record r).mutilated } ∧
      t.store.freeList = s.store.freeList ∧ t.store.pool = s.store.pool ∧ t.sup = s.sup := by
  obtain ⟨u, hu, hexec⟩ := exec_groupChar hmid ha hstep hr 27 framing
  have htake : u.takeGroup n r ⟨27, caseAfter 27 (s.line n).rx.case⟩ =
      u.modAsm n fun a => { a with group := [⟨27, .figures⟩] } := by
    have hcase : caseAfter 27 (s.line n).rx.case = .figures := rfl
    rw [hcase]
    simp [State.takeGroup, hu.asm, hgroup, figuresShift]
  rw [htake] at hexec
  refine ⟨_, hexec, ?_, hu.record, hu.freeList, hu.pool, hu.sup⟩
  rw [State.restartSilence_heading (by rw [State.modAsm_line_same, hu.asm, ha]), State.modAsm_line_same, hu.asm]

/-- Settles O17: what meets the designator, its class, then how the store takes it. -/
theorem designatorGivesTheClass : Obligations.DesignatorGivesTheClass := by
  unfold Obligations.DesignatorGivesTheClass
  intro n code framing s r hmid ha hr a reads taken cls missing mutilated
  refine ⟨fun hwhen hover hused hzero hempty hpool => ?_, fun hstep hgroup hcode => ?_⟩
  · obtain ⟨v, hv, hexec⟩ := exec_designator (framing := framing) (missing := missing) hmid ha hr rfl
      (hwhen.imp id fun ⟨h1, h2, h3⟩ => ⟨h1, h2, of_decide_eq_false h3⟩)
    have htaken : v.boot.cfg.codes.designated ⟨code, caseAfter code (s.line n).rx.case⟩ = taken := by
      simp [CodeSet.designated, Handed.isCode, taken, reads, hv.boot]
    rw [State.takeDesignator_eq, htaken] at hexec
    have hw := hv.judged taken
    refine ⟨fun b rest hf hadm => ?_, fun hnone hd => ?_⟩
    · obtain ⟨⟨cs, hrec⟩, hfree, hread, hasm⟩ := hw.stored ha hover hused hzero hempty hpool hf hadm code
      rw [hw.record] at hrec
      exact ⟨_, hexec, by rw [hrec], by rw [hrec], by rw [hrec], by rw [hrec], hfree, by rw [hrec]; rfl, by rw [hrec],
        (hread _).trans (if_pos rfl), fun i hi => (hread i).trans (if_neg hi), hasm⟩
    · obtain ⟨hrec, hfree, hpl, hacc, hasm⟩ := hw.refused ha hover hzero hnone hd code
      exact ⟨_, hexec, by rw [hrec, hw.record]; rfl, hfree, hpl, hacc, hasm⟩
  · subst hcode
    exact exec_groupBegins hmid ha hr hstep hgroup

end Sys2Proof.Machine
end

section
namespace Sys2Proof.Machine

/-! ### The heading line as it is read (R31, R32) -/

/-- A heading character within the limit after which the parse goes on. -/
theorem Assembler.readAll_going {a a' : Assembler} {h : Handed} {d : Bool} (hlimit : a.headingChars + 1 < 80)
    (hparse : Assembler.parse { a with headingChars := a.headingChars + 1 } h = .going a' d) (hs : List Handed) :
    a.readAll (h :: hs) = a'.readAll hs := by
  have : ¬Config.headingMax ≤ a.headingChars + 1 := Nat.not_le.mpr hlimit
  simp only [Assembler.readAll, Assembler.parseLimited, hparse, this, if_false]

/-- The characters of a code are collected (R31). -/
theorem Assembler.readAll_codeChars {a : Assembler} (cs : StationCode) (hs : List Handed) (hstep : a.step = .code)
    (hlen : a.currentCode.length + cs.length ≤ 4) (hcs : ∀ c ∈ cs, isCodeValue c = true)
    (hlimit : a.headingChars + cs.length < 80) :
    a.readAll (cs.map (⟨·, .letters⟩) ++ hs) = Assembler.readAll
      { a with currentCode := a.currentCode ++ cs, headingChars := a.headingChars + cs.length } hs := by
  induction cs generalizing a with
  | nil => simp
  | cons c cs ih =>
    rw [List.length_cons] at hlen hlimit
    have hc := hcs c (List.mem_cons_self ..)
    have hparse : Assembler.parse { a with headingChars := a.headingChars + 1 } ⟨c, .letters⟩ =
        .going { a with headingChars := a.headingChars + 1, currentCode := a.currentCode ++ [c] } false := by
      have hshift : shiftOf c = none := by
        simp only [isCodeValue, Bool.and_eq_true, decide_eq_true_eq] at hc
        simp [shiftOf, hc]
      have hroom : a.currentCode.length < 4 := by omega
      simp [Assembler.parse, hshift, hstep, isCodeChar, hc, hroom]
    rw [List.map_cons, List.cons_append, Assembler.readAll_going (by omega) hparse,
      ih (a := { a with headingChars := a.headingChars + 1, currentCode := a.currentCode ++ [c] }) hstep
        (by simp only [List.length_append, List.length_singleton]; omega)
        (fun d hd => hcs d (List.mem_cons_of_mem _ hd)) (by simp only; omega)]
    simp only [List.append_assoc, List.singleton_append, List.length_cons, Nat.add_assoc, Nat.add_comm 1]

/-- A whole code that is new, and among the six, joins the collected ones (R32). -/
theorem Assembler.codeDone_of_new {a : Assembler} (hnew : a.currentCode ∉ a.collected) (hroom : a.collected.length ≤ 5) :
    a.codeDone = ({ a with collected := a.collected ++ [a.currentCode], currentCode := [] }, false) := by
  have : ¬Config.codesMax ≤ a.collected.length := by rw [Config.codesMax]; omega
  simp [Assembler.codeDone, hnew, this]

/-- A space or CR takes a whole new code (R31, R32). -/
theorem Assembler.parse_after_code {a : Assembler} (hstep : a.step = .code) (hwhole : a.currentCode.length = 4)
    (hnew : a.currentCode ∉ a.collected) (hroom : a.collected.length ≤ 5) :
    a.parse ⟨spaceCode, .letters⟩ =
      .going { a with collected := a.collected ++ [a.currentCode], currentCode := [] } false ∧
    a.parse ⟨crCode, .letters⟩ =
      .going { a with collected := a.collected ++ [a.currentCode], currentCode := [], step := .afterCR } false := by
  have hdone := Assembler.codeDone_of_new hnew hroom
  constructor
  · simp [Assembler.parse, hstep, hwhole, hdone, show shiftOf spaceCode = none from rfl,
      show isCodeChar ⟨spaceCode, .letters⟩ = false from rfl]
  · simp [Assembler.parse, hstep, hwhole, hdone, show shiftOf crCode = none from rfl,
      show isCodeChar ⟨crCode, .letters⟩ = false from rfl, show crCode ≠ spaceCode by decide]

/-- The LF after CR completes the heading (R31, R32). -/
theorem Assembler.parse_lf {a : Assembler} (hstep : a.step = .afterCR) (c : Case) : a.parse ⟨lfCode, c⟩ = .complete := by
  simp [Assembler.parse, hstep, show shiftOf lfCode = none from rfl, show lfCode ≠ crCode by decide]

theorem headingLine_nil : headingLine [] = [⟨crCode, .letters⟩, ⟨lfCode, .letters⟩] := rfl

theorem headingLine_cons (code : StationCode) (codes : List StationCode) : headingLine (code :: codes) =
    ⟨spaceCode, .letters⟩ :: (code.map (⟨·, .letters⟩) ++ headingLine codes) := by
  simp [headingLine]

theorem headingLine_length_pos (codes : List StationCode) : 0 < (headingLine codes).length := by simp [headingLine]

/-- Once a whole code is taken, the rest of the line completes the heading with it and the codes behind it. -/
theorem Assembler.readAll_after_code (codes : List StationCode) {a : Assembler} (hstep : a.step = .code)
    (hwhole : a.currentCode.length = 4) (hlen : a.collected.length + 1 + codes.length ≤ 6)
    (hnodup : (a.collected ++ a.currentCode :: codes).Nodup)
    (hcodes : ∀ code ∈ codes, code.length = 4 ∧ ∀ c ∈ code, isCodeValue c = true)
    (hlimit : a.headingChars + (headingLine codes).length ≤ 80) :
    a.readAll (headingLine codes) = some (a.collected ++ a.currentCode :: codes) := by
  induction codes generalizing a with
  | nil =>
    rw [headingLine_nil] at hlimit ⊢
    simp only [List.length_cons, List.length_nil] at hlimit hlen
    have hnew := fun h => (List.nodup_append.mp hnodup).2.2 _ h _ (List.mem_cons_self ..) rfl
    rw [Assembler.readAll_going (by omega) (Assembler.parse_after_code
      (a := { a with headingChars := a.headingChars + 1 }) hstep hwhole hnew (by simp only; omega)).2]
    simp only [Assembler.readAll, Assembler.parseLimited, Assembler.parse_lf, List.isEmpty_nil, if_true]
  | cons code codes ih =>
    obtain ⟨hfour, hvalues⟩ := hcodes code (List.mem_cons_self ..)
    rw [headingLine_cons] at hlimit ⊢
    simp only [List.length_cons, List.length_append, List.length_map] at hlimit hlen
    have hnew := fun h => (List.nodup_append.mp hnodup).2.2 _ h _ (List.mem_cons_self ..) rfl
    have hone := headingLine_length_pos codes
    have hlist : a.collected ++ a.currentCode :: code :: codes =
        a.collected ++ [a.currentCode] ++ code :: codes := by simp
    rw [hlist] at hnodup ⊢
    refine (Assembler.readAll_going (by omega) (Assembler.parse_after_code
      (a := { a with headingChars := a.headingChars + 1 }) hstep hwhole hnew (by simp only; omega)).1 _).trans ?_
    refine (Assembler.readAll_codeChars (a := { a with
      headingChars := a.headingChars + 1, collected := a.collected ++ [a.currentCode], currentCode := [] })
      code _ hstep (by simp [hfour]) hvalues (by simp only; omega)).trans ?_
    exact ih hstep hfour (by simp only [List.length_append, List.length_singleton]; omega) hnodup
      (fun d hd => hcodes d (List.mem_cons_of_mem _ hd)) (by simp only; omega)

/-- A good heading line is read as its codes (R31, R32). -/
theorem Assembler.readAll_headingLine {codes : List StationCode} {a : Assembler} (hpos : 1 ≤ codes.length)
    (hmax : codes.length ≤ 6) (hnodup : codes.Nodup)
    (hcodes : ∀ code ∈ codes, code.length = 4 ∧ ∀ c ∈ code, isCodeValue c = true) (hstep : a.step = .afterDesignator)
    (hcollected : a.collected = []) (hlimit : a.headingChars + (headingLine codes).length ≤ 80) :
    a.readAll (headingLine codes) = some codes := by
  obtain ⟨code, codes, rfl⟩ := List.exists_cons_of_length_pos hpos
  obtain ⟨hfour, hvalues⟩ := hcodes code (List.mem_cons_self ..)
  rw [headingLine_cons] at hlimit ⊢
  simp only [List.length_cons, List.length_append, List.length_map] at hlimit hmax
  have hspace : Assembler.parse { a with headingChars := a.headingChars + 1 } ⟨spaceCode, .letters⟩ =
      .going { a with headingChars := a.headingChars + 1, step := .code, currentCode := [] } false := by
    simp [Assembler.parse, hstep, show shiftOf spaceCode = none from rfl]
  have hone := headingLine_length_pos codes
  rw [Assembler.readAll_going (by omega) hspace,
    Assembler.readAll_codeChars code _ rfl (by simp [hfour]) hvalues (by simp only; omega),
    Assembler.readAll_after_code codes rfl hfour (by simp only [hcollected, List.length_nil]; omega)
      (by simpa [hcollected] using hnodup) (fun d hd => hcodes d (List.mem_cons_of_mem _ hd)) (by simp only; omega)]
  simp [hcollected]

end Sys2Proof.Machine
end

section
namespace Sys2Proof.Machine

/-! ### A heading character is stored or refused (R31, R34) -/

/-- What the storing of a character in record `r` by the assembler of line `n` leaves alone, whether a block is refused
and a dead copy handed over or not. -/
structure CharKept (n : Line) (r : RecIx) (s t : State) : Prop where
  boot : t.boot = s.boot
  waitList : t.router.waitList = s.router.waitList
  holdOff : t.port.holdOff = s.port.holdOff
  contexts : ∀ k, (t.sendCtx k).isNone = (s.sendCtx k).isNone
  records : ∀ q, ∃ ct ch ov cs, t.record q = { s.record q with count := ct, chain := ch, overrun := ov, copies := cs }
  asm : ∃ v, (t.line n).asm = { (s.line n).asm with overrun := v }
  condIn : ∀ m, (t.line m).condIn.value = (s.line m).condIn.value
  condSense : ∀ m, (t.line m).condSense.value = (s.line m).condSense.value
  idle : ∀ m, (s.line m).sched.current = none → (∀ e ∈ (s.line m).sched.queue, e.copy.record ≠ r) →
    (t.line m).sched = (s.line m).sched

section
variable {n : Line} {r : RecIx} {s t u : State}

theorem CharKept.trans (h₁ : CharKept n r s t) (h₂ : CharKept n r t u) : CharKept n r s u where
  boot := h₂.boot.trans h₁.boot
  waitList := h₂.waitList.trans h₁.waitList
  holdOff := h₂.holdOff.trans h₁.holdOff
  contexts k := (h₂.contexts k).trans (h₁.contexts k)
  records q := by
    obtain ⟨_, _, _, _, e₁⟩ := h₁.records q
    obtain ⟨ct, ch, ov, cs, e₂⟩ := h₂.records q
    exact ⟨ct, ch, ov, cs, by rw [e₂, e₁]⟩
  asm := by
    obtain ⟨_, e₁⟩ := h₁.asm
    obtain ⟨v, e₂⟩ := h₂.asm
    exact ⟨v, by rw [e₂, e₁]⟩
  condIn m := (h₂.condIn m).trans (h₁.condIn m)
  condSense m := (h₂.condSense m).trans (h₁.condSense m)
  idle m hc hq := by
    have h := h₁.idle m hc hq
    exact (h₂.idle m (by rw [h]; exact hc) (by rw [h]; exact hq)).trans h

/-- A step that leaves the lines, the port and the wait list, and of a record all but its text, mark and copies. -/
theorem CharKept.of_store (hb : t.boot = s.boot) (hr : t.router.waitList = s.router.waitList) (hp : t.port = s.port)
    (hl : t.lines = s.lines)
    (hrec : ∀ q, ∃ ct ch ov cs, t.record q = { s.record q with count := ct, chain := ch, overrun := ov, copies := cs }) :
    CharKept n r s t := by
  have hline := State.line_of_lines hl
  exact ⟨hb, hr, by rw [hp], fun k => by rw [State.sendCtx, hp]; rfl, hrec, ⟨_, by rw [hline]⟩, fun m => by rw [hline],
    fun m => by rw [hline], fun m _ _ => by rw [hline]⟩

theorem CharKept.modRecord (s : State) (q : RecIx) (f : Record → Record)
    (hf : ∃ ct ch ov cs, f (s.record q) = { s.record q with count := ct, chain := ch, overrun := ov, copies := cs }) :
    CharKept n r s (s.modRecord q f) := by
  refine .of_store rfl rfl rfl rfl fun p => ?_
  by_cases hp : p = q
  · subst hp
    rw [State.modRecord_record_same]
    exact hf
  · exact ⟨_, _, _, _, s.modRecord_record_ne q p f hp⟩

/-- The readers of the record are told of its text. -/
theorem CharKept.textChanged (s : State) (oldCount : Nat) (oldComplete : Bool) :
    CharKept n r s (s.textChanged r oldCount oldComplete) := by
  have h := s.textChanged_heeds r oldCount oldComplete
  refine ⟨h.boot, by rw [h.router], h.holdOff, h.contexts, fun q => ?_, ⟨_, (h.lines n).asm⟩,
    fun m => by rw [(h.lines m).condIn], fun m => by rw [(h.lines m).condSense],
    fun m hc hq => by rw [State.textChanged_idle hc hq]⟩
  obtain ⟨cs, e, -⟩ := h.copies q
  exact ⟨_, _, _, cs, e⟩

theorem PrintsOnly.charKept (h : PrintsOnly s t) : CharKept n r s t :=
  have hc := h.card
  .of_store (by rw [hc]) (by rw [hc]) (by rw [hc]) h.lines fun q => ⟨_, _, _, _, hc.record q⟩

theorem CharKept.handOverMany (s : State) (fuel : Nat) : CharKept n r s (s.handOverMany fuel) := by
  induction fuel generalizing s with
  | zero => exact .of_store rfl rfl rfl rfl fun _ => ⟨_, _, _, _, rfl⟩
  | succ k ih =>
    unfold State.handOverMany
    split
    · exact .of_store rfl rfl rfl rfl fun _ => ⟨_, _, _, _, rfl⟩
    · rename_i ref rest _
      split
      · exact .of_store rfl rfl rfl rfl fun _ => ⟨_, _, _, _, rfl⟩
      · have hrouter : CharKept n r s (s.modRouter fun r => { r with deadList := rest }) :=
          .of_store rfl rfl rfl rfl fun _ => ⟨_, _, _, _, rfl⟩
        have hcopy := CharKept.modRecord (n := n) (r := r) (s.modRouter fun r => { r with deadList := rest })
          ref.record (fun x => { x with copies := x.copies.modify ref.ix.val fun c =>
            { c with state := if c.state = .settled then .settled else .deadQueued } }) ⟨_, _, _, _, rfl⟩
        have hqueue : ∀ (u : State) f, CharKept n r u (u.modSup f) := fun _ _ =>
          .of_store rfl rfl rfl rfl fun _ => ⟨_, _, _, _, rfl⟩
        exact hrouter.trans (hcopy.trans ((hqueue _ _).trans ((State.beginPrint_printsOnly _).charKept.trans (ih _))))

theorem CharKept.post (s : State) (x : Notice) : CharKept n r s (s.post x) := by
  have hqueue : CharKept n r s (s.modSup fun u => u.posted x) := .of_store rfl rfl rfl rfl fun _ => ⟨_, _, _, _, rfl⟩
  exact hqueue.trans ((State.beginPrint_printsOnly _).charKept.trans (CharKept.handOverMany _ _))

theorem CharKept.markOverrun (s : State) : CharKept n r s (s.modAsm n fun a => { a with overrun := true }) where
  boot := rfl
  waitList := rfl
  holdOff := rfl
  contexts _ := rfl
  records _ := ⟨_, _, _, _, rfl⟩
  asm := ⟨true, by rw [State.modAsm_line_same]⟩
  condIn m := by rw [State.modAsm_line]; split <;> rfl
  condSense m := by rw [State.modAsm_line]; split <;> rfl
  idle m _ _ := by rw [State.modAsm_line]; split <;> rfl

theorem CharKept.appendChar (s : State) (c : Code) : CharKept n r s (s.appendChar r c) := by
  obtain ⟨p, hp⟩ := s.writeChar_rest r (s.record r).count c
  have hwrite : CharKept n r s (s.writeChar r (s.record r).count c) := by
    rw [hp]; exact .of_store rfl rfl rfl rfl fun _ => ⟨_, _, _, _, rfl⟩
  exact hwrite.trans ((CharKept.modRecord _ r _ ⟨_, _, _, _, rfl⟩).trans (CharKept.textChanged _ _ _))

theorem CharKept.storeChar (s : State) (c : Code) : CharKept n r s (s.storeChar n r c) := by
  have hblock : ∀ v, s.allocateBlock r = some v → CharKept n r s v := fun v hv => by
    unfold State.allocateBlock State.drawBlock at hv
    split at hv
    · split at hv
      · cases hv
      · rename_i b rest _
        split at hv
        · cases hv
        · cases hv
          have hfree : CharKept n r s (s.modStore fun st => { st with freeList := rest }) :=
            .of_store rfl rfl rfl rfl fun _ => ⟨_, _, _, _, rfl⟩
          exact hfree.trans (CharKept.modRecord _ r _ ⟨_, _, _, _, rfl⟩)
    · cases hv
  unfold State.storeChar
  split
  · exact .of_store rfl rfl rfl rfl fun _ => ⟨_, _, _, _, rfl⟩
  · split
    · split
      · exact (hblock _ ‹_›).trans (CharKept.appendChar _ c)
      · exact (CharKept.markOverrun s).trans ((CharKept.modRecord _ r _ ⟨_, _, _, _, rfl⟩).trans (CharKept.post _ _))
    · exact CharKept.appendChar s c

end

end Sys2Proof.Machine
end

section
namespace Sys2Proof.Machine

/-! ### A heading character is taken (R31 to R33) -/

/-- What a heading character makes of the message once it is stored and counted (R31). -/
def State.headingParsed (s : State) (n : Line) (r : RecIx) (p : Parse) : State :=
  match p with
  | .going a d => if d then (s.modAsm n fun _ => a).defaultHeading r else s.modAsm n fun _ => a
  | .malformed d => (if d then s.defaultHeading r else s).headingEnds n r [interceptCode]
  | .complete => s.headingEnds n r (s.line n).asm.collected

theorem State.takeHeading_eq (s : State) (n : Line) (r : RecIx) (h : Handed) :
    let w := (s.storeChar n r h.code).modAsm n fun a => { a with headingChars := a.headingChars + 1 }
    s.takeHeading n r h = w.headingParsed n r ((w.line n).asm.parseLimited h) := by
  unfold State.takeHeading State.headingParsed
  rfl

theorem State.modAsm_line_rest (s : State) (n m : Line) (f : Assembler → Assembler) :
    ∃ a, (s.modAsm n f).line m = { s.line m with asm := a } := by
  rw [State.modAsm_line]
  split
  · exact ⟨_, rfl⟩
  · exact ⟨_, rfl⟩

/-- What the parse of a heading character meets: the character is received, stored or refused, and counted. -/
structure HeadingMet (n : Line) (r : RecIx) (s w : State) : Prop where
  boot : w.boot = s.boot
  waitList : w.router.waitList = s.router.waitList
  holdOff : w.port.holdOff = s.port.holdOff
  contexts : ∀ k, (w.sendCtx k).isNone = (s.sendCtx k).isNone
  records : ∀ q, ∃ mu ct ch ov cs, w.record q =
    { s.record q with mutilated := mu, count := ct, chain := ch, overrun := ov, copies := cs }
  asm : ∃ v, (w.line n).asm =
    { (s.line n).asm with overrun := v, headingChars := (s.line n).asm.headingChars + 1 }
  condIn : ∀ m, (w.line m).condIn.value = (s.line m).condIn.value
  condSense : ∀ m, (w.line m).condSense.value = (s.line m).condSense.value
  idle : ∀ m, (s.line m).sched.current = none → (∀ e ∈ (s.line m).sched.queue, e.copy.record ≠ r) →
    (w.line m).sched = (s.line m).sched

theorem CharMet.records {n : Line} {r : RecIx} {framing : Bool} {s u : State} (h : CharMet n r framing s u) (q : RecIx) :
    ∃ mu, u.record q = { s.record q with mutilated := mu } := by
  have hq : u.record q = (s.modRecord r fun x => { x with mutilated := mutilatedAfter framing x.mutilated }).record q := by
    rw [State.record, h.store]
    rfl
  rw [hq, State.modRecord_record]
  split
  · exact ⟨_, rfl⟩
  · exact ⟨_, rfl⟩

/-- A character of the heading from the designator on is stored, counted and parsed (R31). -/
theorem exec_headingChar {n : Line} {code : Code} {s : State} {r : RecIx} (hmid : MidCharacter s n)
    (ha : (s.line n).asm.state = .heading) (hr : (s.line n).asm.record = some r)
    (hstep : (s.line n).asm.step = .afterDesignator ∨ (s.line n).asm.step = .code ∨ (s.line n).asm.step = .afterCR)
    (hcount : (s.line n).asm.closingCount = 0)
    (hcode : ¬(caseAfter code (s.line n).rx.case = .letters ∧ code = s.boot.cfg.codes.closing)) (framing : Bool) :
    ∃ w, HeadingMet n r s w ∧ exec (.characterReceived n code framing) s = .next ((w.headingParsed n r
      ((w.line n).asm.parseLimited ⟨code, caseAfter code (s.line n).rx.case⟩)).restartSilence n) := by
  obtain ⟨u, hu, hexec⟩ := exec_in_message hmid (.inl ha) hr code framing
  have htake : ∀ h, u.takeOrdinary n r h = u.takeHeading n r h := fun h => by
    unfold State.takeOrdinary
    rw [hu.asm, ha]
    rcases hstep with e | e | e <;> rw [e]
  have hgroup : (s.line n).asm.step ≠ .group := by
    rcases hstep with e | e | e <;> rw [e] <;> nofun
  rw [State.messageChar_of_ordinary (by rw [hu.asm]; exact fun h => hgroup h.2) (by rw [hu.asm, hcount])
    (by rw [hu.boot]; exact hcode), htake, State.takeHeading_eq] at hexec
  have hk := CharKept.storeChar (n := n) (r := r) u code
  refine ⟨_, ?_, hexec⟩
  simp only
  generalize u.storeChar n r code = v at hk
  have hline := fun m => v.modAsm_line_rest n m fun a => { a with headingChars := a.headingChars + 1 }
  refine ⟨hk.boot.trans hu.boot, hk.waitList.trans (by rw [hu.router]), hk.holdOff.trans (by rw [hu.port]),
    fun k => (hk.contexts k).trans (by rw [State.sendCtx, hu.port]; rfl), fun q => ?_, ?_, fun m => ?_, fun m => ?_,
    fun m hc hq => ?_⟩
  · obtain ⟨mu, e₁⟩ := hu.records q
    obtain ⟨ct, ch, ov, cs, e₂⟩ := hk.records q
    exact ⟨mu, ct, ch, ov, cs, by rw [State.modAsm_record, e₂, e₁]⟩
  · obtain ⟨x, e⟩ := hk.asm
    exact ⟨x, by rw [State.modAsm_line_same, e, hu.asm]⟩
  · obtain ⟨_, e⟩ := hline m
    rw [e]
    exact (hk.condIn m).trans (hu.condIn m)
  · obtain ⟨_, e⟩ := hline m
    rw [e]
    exact (hk.condSense m).trans (by rw [hu.condSense])
  · obtain ⟨_, e⟩ := hline m
    have hs := hu.sched m
    rw [e]
    exact (hk.idle m (by rw [hs]; exact hc) (by rw [hs]; exact hq)).trans hs

/-- A class dispatched at its close stays with the assembler when the heading ends (R40). -/
theorem State.headingEnds_of_late {s : State} {r : RecIx} (h : s.dispatchedEarly (s.record r).cls = false) (n : Line)
    (stations : List StationCode) : s.headingEnds n r stations = s.fillTable n r stations := by
  have hcls : ((s.fillTable n r stations).record r).cls = (s.record r).cls := by rw [State.fillTable_record]
  have hno : (s.fillTable n r stations).dispatchedEarly ((s.fillTable n r stations).record r).cls = false := by
    rw [hcls]; exact h
  simp only [State.headingEnds, hno]
  rfl

theorem DispatchedAtClose.not_early {s : State} {r : RecIx} (h : DispatchedAtClose s r) :
    s.dispatchedEarly (s.record r).cls = false := by
  rcases h with h | h | ⟨h, hcut⟩
  · rw [h]; rfl
  · rw [h]; rfl
  · rw [h]; exact hcut

/-- The test of R40 rests on the configuration. -/
theorem State.dispatchedEarly_congr {s t : State} (h : t.boot = s.boot) (c : Precedence) :
    t.dispatchedEarly c = s.dispatchedEarly c := by
  unfold State.dispatchedEarly
  rw [h]

theorem HeadingMet.record {n : Line} {r : RecIx} {s w : State} (h : HeadingMet n r s w) :
    (w.record r).state = (s.record r).state ∧ (w.record r).cls = (s.record r).cls ∧
    (w.record r).headingDefaulted = (s.record r).headingDefaulted ∧ (w.record r).complete = (s.record r).complete := by
  obtain ⟨_, _, _, _, _, e⟩ := h.records r
  rw [e]
  exact ⟨rfl, rfl, rfl, rfl⟩

theorem HeadingMet.not_early {n : Line} {r : RecIx} {s w : State} (h : HeadingMet n r s w) (hd : DispatchedAtClose s r) :
    w.dispatchedEarly (w.record r).cls = false := by
  rw [State.dispatchedEarly_congr h.boot, h.record.2.1, hd.not_early]

/-- The assembler once the heading has ended (R32, R33, R36). -/
theorem State.fillTable_asm (s : State) (n : Line) (r : RecIx) (stations : List StationCode) :
    (((s.fillTable n r stations).restartSilence n).line n).asm =
      { (s.line n).asm with state := .text, silence := some 60000 } := by
  have h : ((s.fillTable n r stations).line n).asm = { (s.line n).asm with state := .text } := by
    rw [State.fillTable, State.modAsm_line_same, State.modRecord_line]
  rw [State.restartSilence_text (by rw [h]), h]

theorem Assembler.parseLimited_lf {a : Assembler} (hstep : a.step = .afterCR) (c : Case) :
    a.parseLimited ⟨lfCode, c⟩ = .complete := by
  rw [Assembler.parseLimited, Assembler.parse_lf hstep]

/-- Settles O18: the heading line is read character by character; its LF fills the table. -/
theorem headingIsReadAndCompleted : Obligations.HeadingIsReadAndCompleted := by
  unfold Obligations.HeadingIsReadAndCompleted
  refine ⟨fun codes a hpos hmax hnodup hcodes hstep hcol hlimit =>
    Assembler.readAll_headingLine hpos hmax hnodup hcodes hstep hcol hlimit,
    fun n framing s r hmid ha hstep hr hcount hclosing hd => ?_⟩
  obtain ⟨w, hw, hexec⟩ := exec_headingChar hmid ha hr (.inr (.inr hstep)) hcount
    (fun h => hclosing h.2.symm) framing (code := lfCode)
  obtain ⟨v, hasm⟩ := hw.asm
  rw [Assembler.parseLimited_lf (by rw [hasm]; exact hstep)] at hexec
  have hcol : (w.line n).asm.collected = (s.line n).asm.collected := by rw [hasm]
  simp only [State.headingParsed, State.headingEnds_of_late (hw.not_early hd), hcol] at hexec
  have hcopies : ((w.fillTable n r (s.line n).asm.collected).record r).copies =
      (s.line n).asm.collected.map newCopy := by rw [State.fillTable_record]
  refine ⟨_, hexec, hcopies, fun c hc => ?_, ?_, ?_, ?_, ?_⟩
  · rw [State.restartSilence_record, hcopies] at hc
    obtain ⟨x, -, rfl⟩ := List.mem_map.mp hc
    exact ⟨rfl, rfl, rfl, rfl, rfl, rfl, rfl, rfl, rfl⟩
  · rw [State.fillTable_asm]
  · rw [State.fillTable_asm]
  · rw [State.fillTable_asm, hasm]
    exact hr
  · rw [State.restartSilence_record, State.fillTable_record]
    exact hw.record.1

end Sys2Proof.Machine
end

section
namespace Sys2Proof.Machine

/-! ### A malformed heading (R31, R32, R33) -/

/-- A space or CR takes a whole code (R31). -/
def Assembler.TakesCode (a : Assembler) (h : Handed) : Prop :=
  a.step = .code ∧ isCodeChar h = false ∧ a.currentCode.length = 4 ∧ (h.code = 4 ∨ h.code = 8)

/-- The characters that the table of R31 allows at a step. -/
def Assembler.Allows (a : Assembler) (h : Handed) : Prop :=
  (h.code = 31 ∨ h.code = 27) ∨ a.step = .afterDesignator ∧ h.code = 4 ∨
  a.step = .code ∧ isCodeChar h = true ∧ a.currentCode.length < 4 ∨ a.TakesCode h ∨
  a.step = .afterCR ∧ (h.code = 8 ∨ h.code = 2)

/-- The character completes a code that is ignored (R32). -/
def Assembler.Ignores (a : Assembler) (h : Handed) : Prop :=
  ¬(h.code = 31 ∨ h.code = 27) ∧ a.TakesCode h ∧ (a.currentCode ∈ a.collected ∨ 6 ≤ a.collected.length)

theorem shiftOf_isSome (c : Code) : (shiftOf c).isSome = true ↔ c = 31 ∨ c = 27 := by
  unfold shiftOf lettersShift figuresShift
  split
  · exact iff_of_true rfl (.inl ‹_›)
  · split
    · exact iff_of_true rfl (.inr ‹_›)
    · exact iff_of_false nofun fun h => h.elim ‹_› ‹_›

theorem Assembler.codeDone_ignored (a : Assembler) :
    a.codeDone.2 = true ↔ a.currentCode ∈ a.collected ∨ 6 ≤ a.collected.length := by
  have htest : (a.collected.contains a.currentCode || Config.codesMax ≤ a.collected.length) = true ↔
      a.currentCode ∈ a.collected ∨ 6 ≤ a.collected.length := by
    rw [Bool.or_eq_true, List.contains_iff_mem, decide_eq_true_eq]
    rfl
  rw [← htest]
  unfold Assembler.codeDone
  split
  · exact iff_of_true rfl ‹_›
  · exact iff_of_false nofun ‹_›

section
variable {a : Assembler} {h : Handed}

/-- What the parse says of a character at the steps behind the designator, its place in the table given: a character
out of place spoils the heading, LF after CR completes it, and after any other the parse goes on (R31). -/
def Assembler.Judges (a : Assembler) (h : Handed) : Prop :=
  (¬a.Allows h → a.parse h = .malformed false) ∧
  (a.Allows h → ¬(a.step = .afterCR ∧ h.code = 2) → ∃ a' d, a.parse h = .going a' d ∧ (d = true ↔ a.Ignores h))

theorem Assembler.judges_shift (hs : h.code = 31 ∨ h.code = 27) : a.Judges h := by
  have hparse : a.parse h = .going a false := by rw [Assembler.parse, if_pos ((shiftOf_isSome _).mpr hs)]
  exact ⟨fun hno => absurd (.inl hs) hno, fun _ _ => ⟨a, false, hparse, nofun, fun hi => absurd hs hi.1⟩⟩

/-! The table of R31, for a character that is no shift. -/

theorem Assembler.parse_afterDesignator (hs : ¬(h.code = 31 ∨ h.code = 27)) (e : a.step = .afterDesignator) :
    a.parse h = if h.code = 4 then .going { a with step := .code, currentCode := [] } false else .malformed false := by
  simp only [Assembler.parse, if_neg fun x => hs ((shiftOf_isSome _).mp x), e]
  rfl

theorem Assembler.parse_afterCR (hs : ¬(h.code = 31 ∨ h.code = 27)) (e : a.step = .afterCR) :
    a.parse h = if h.code = 8 then .going a false else if h.code = 2 then .complete else .malformed false := by
  simp only [Assembler.parse, if_neg fun x => hs ((shiftOf_isSome _).mp x), e]
  rfl

theorem Assembler.parse_codeChar (hs : ¬(h.code = 31 ∨ h.code = 27)) (e : a.step = .code) (hc : isCodeChar h = true) :
    a.parse h = if a.currentCode.length < 4 then .going { a with currentCode := a.currentCode ++ [h.code] } false
      else .malformed false := by
  simp only [Assembler.parse, if_neg fun x => hs ((shiftOf_isSome _).mp x), e, if_pos hc]

theorem Assembler.parse_codeEnd (hs : ¬(h.code = 31 ∨ h.code = 27)) (e : a.step = .code) (hc : isCodeChar h = false) :
    a.parse h = if a.currentCode.length = 4 then
        if h.code = 4 then .going a.codeDone.1 a.codeDone.2
        else if h.code = 8 then .going { a.codeDone.1 with step := .afterCR } a.codeDone.2 else .malformed false
      else .malformed false := by
  simp only [Assembler.parse, if_neg fun x => hs ((shiftOf_isSome _).mp x), e, hc]
  rfl

theorem Assembler.judges_afterDesignator (hs : ¬(h.code = 31 ∨ h.code = 27)) (e : a.step = .afterDesignator) :
    a.Judges h := by
  have hparse := Assembler.parse_afterDesignator hs e
  have hallows : a.Allows h ↔ h.code = 4 := by
    simp only [Assembler.Allows, Assembler.TakesCode, hs, e, reduceCtorEq, true_and, false_and, false_or, or_false]
  have hno : ¬a.Ignores h := fun hi => by have := hi.2.1.1; rw [e] at this; cases this
  exact ⟨fun hbad => hparse.trans (if_neg fun h4 => hbad (hallows.mpr h4)), fun hok _ =>
    ⟨_, _, hparse.trans (if_pos (hallows.mp hok)), nofun, fun hi => absurd hi hno⟩⟩

theorem Assembler.judges_afterCR (hs : ¬(h.code = 31 ∨ h.code = 27)) (e : a.step = .afterCR) : a.Judges h := by
  have hparse := Assembler.parse_afterCR hs e
  have hallows : a.Allows h ↔ h.code = 8 ∨ h.code = 2 := by
    simp only [Assembler.Allows, Assembler.TakesCode, hs, e, reduceCtorEq, true_and, false_and, false_or]
  have hno : ¬a.Ignores h := fun hi => by have := hi.2.1.1; rw [e] at this; cases this
  refine ⟨fun hbad => ?_, fun hok hlf => ?_⟩
  · exact hparse.trans ((if_neg fun h8 => hbad (hallows.mpr (.inl h8))).trans
      (if_neg fun h2 => hbad (hallows.mpr (.inr h2))))
  · have h8 : h.code = 8 := (hallows.mp hok).resolve_right fun h2 => hlf ⟨e, h2⟩
    exact ⟨_, _, hparse.trans (if_pos h8), nofun, fun hi => absurd hi hno⟩

theorem Assembler.judges_code (hs : ¬(h.code = 31 ∨ h.code = 27)) (e : a.step = .code) : a.Judges h := by
  have hallows : a.Allows h ↔ isCodeChar h = true ∧ a.currentCode.length < 4 ∨ a.TakesCode h := by
    simp only [Assembler.Allows, hs, e, reduceCtorEq, true_and, false_and, false_or, or_false]
  cases hc : isCodeChar h with
  | true =>
    have hparse := Assembler.parse_codeChar hs e hc
    have hno : ¬a.TakesCode h := fun ht => by have := ht.2.1; rw [hc] at this; cases this
    refine ⟨fun hbad => hparse.trans (if_neg fun hl => hbad (hallows.mpr (.inl ⟨hc, hl⟩))), fun hok _ => ?_⟩
    exact ⟨_, _, hparse.trans (if_pos ((hallows.mp hok).resolve_right hno).2), nofun, fun hi => absurd hi.2.1 hno⟩
  | false =>
    have hparse := Assembler.parse_codeEnd hs e hc
    have htakes : a.Allows h ↔ a.TakesCode h := hallows.trans (or_iff_right fun hx => by
      rw [hc] at hx
      cases hx.1)
    refine ⟨fun hbad => ?_, fun hok _ => ?_⟩
    · by_cases hl : a.currentCode.length = 4
      · have hx : ¬(h.code = 4 ∨ h.code = 8) := fun hx => hbad (htakes.mpr ⟨e, hc, hl, hx⟩)
        exact hparse.trans ((if_pos hl).trans ((if_neg fun h4 => hx (.inl h4)).trans (if_neg fun h8 => hx (.inr h8))))
      · exact hparse.trans (if_neg hl)
    · have ht := htakes.mp hok
      have hignores : a.codeDone.2 = true ↔ a.Ignores h :=
        a.codeDone_ignored.trans ⟨fun hx => ⟨hs, ht, hx⟩, fun hi => hi.2.2⟩
      obtain ⟨-, -, hl, hx⟩ := ht
      have hgoing := hparse.trans (if_pos hl)
      by_cases h4 : h.code = 4
      · exact ⟨_, _, hgoing.trans (if_pos h4), hignores⟩
      · exact ⟨_, _, hgoing.trans ((if_neg h4).trans (if_pos (hx.resolve_left h4))), hignores⟩

theorem Assembler.judges (hstep : a.step = .afterDesignator ∨ a.step = .code ∨ a.step = .afterCR) : a.Judges h := by
  by_cases hs : h.code = 31 ∨ h.code = 27
  · exact Assembler.judges_shift hs
  · rcases hstep with e | e | e
    · exact Assembler.judges_afterDesignator hs e
    · exact Assembler.judges_code hs e
    · exact Assembler.judges_afterCR hs e

/-- Out of place, or the 80th character without completing it, a character spoils the heading; a code it completes is
still ignored as the table says (R31, R32). -/
theorem Assembler.parseLimited_malformed
    (hstep : a.step = .afterDesignator ∨ a.step = .code ∨ a.step = .afterCR)
    (hbad : ¬a.Allows h ∨ 80 ≤ a.headingChars ∧ ¬(a.step = .afterCR ∧ h.code = 2)) :
    ∃ d, a.parseLimited h = .malformed d ∧ (d = true ↔ a.Ignores h) := by
  obtain ⟨hout, hgoing⟩ : a.Judges h := Assembler.judges hstep
  by_cases hok : a.Allows h
  · obtain ⟨hlimit, hlf⟩ := hbad.resolve_left (not_not_intro hok)
    obtain ⟨a', d, hparse, hd⟩ := hgoing hok hlf
    refine ⟨d, ?_, hd⟩
    simp only [Assembler.parseLimited, hparse]
    exact if_pos hlimit
  · have hno : ¬a.Ignores h := fun hi => hok (.inr (.inr (.inr (.inl hi.2.1))))
    exact ⟨false, by simp only [Assembler.parseLimited, hout hok], nofun, fun hi => absurd hi hno⟩

end

/-- A code that is ignored marks the record (R32). -/
theorem State.ignoredCode_spec (w : State) (r : RecIx) (d : Bool) :
    let x := if d = true then w.defaultHeading r else w
    x.boot = w.boot ∧
    x.record r = { w.record r with headingDefaulted := (w.record r).headingDefaulted || d } ∧
    ∀ n, x.line n = w.line n := by
  cases d with
  | true =>
    refine ⟨rfl, ?_, fun n => rfl⟩
    rw [Bool.or_true]
    exact w.modRecord_record_same r fun x => { x with headingDefaulted := true }
  | false =>
    refine ⟨rfl, ?_, fun n => rfl⟩
    rw [Bool.or_false]
    rfl

/-- Settles O19: the parse finds the heading malformed, and its table takes the intercept copy. -/
theorem malformedHeadingTakesTheIntercept : Obligations.MalformedHeadingTakesTheIntercept := by
  unfold Obligations.MalformedHeadingTakesTheIntercept
  intro n code framing s r hmid ha hr hcount hcode hd a h shift whole allowed ignored hstep hbad
  obtain ⟨w, hw, hexec⟩ := exec_headingChar hmid ha hr hstep hcount hcode framing
  obtain ⟨v, hasm⟩ := hw.asm
  rw [hasm] at hexec
  obtain ⟨d, hparse, hd'⟩ := Assembler.parseLimited_malformed
    (a := { (s.line n).asm with overrun := v, headingChars := (s.line n).asm.headingChars + 1 }) (h := h) hstep
    (hbad.imp id fun hx => ⟨Nat.succ_le_succ hx.1, hx.2⟩)
  rw [hparse] at hexec
  obtain ⟨hstate, -, hdefaulted, -⟩ := hw.record
  obtain ⟨hboot, hrec, hline⟩ := w.ignoredCode_spec r d
  simp only [State.headingParsed] at hexec
  generalize (if d = true then w.defaultHeading r else w) = x at hexec hboot hrec hline
  have hlate : x.dispatchedEarly (x.record r).cls = false := by
    rw [State.dispatchedEarly_congr hboot, hrec]
    exact hw.not_early hd
  rw [State.headingEnds_of_late hlate] at hexec
  refine ⟨_, hexec, ?_, ?_, ?_, ?_, ?_, ?_⟩
  · rw [State.restartSilence_record, State.fillTable_record]
    rfl
  · rw [State.restartSilence_record, State.fillTable_record, hrec]
    simp only [hdefaulted, Bool.or_eq_true]
    exact or_congr_right hd'
  · rw [State.restartSilence_record, State.fillTable_record, hrec]
    exact hstate
  · rw [State.fillTable_asm]
  · rw [State.fillTable_asm]
  · rw [State.fillTable_asm, hline, hasm]
    exact hr

end Sys2Proof.Machine
end

section
namespace Sys2Proof.Machine

/-! ### The copy table at a dispatch (R32, R66) -/

/-- The copy table of record `r` holds for each station code of the heading, by its place, the copy `f` gives. -/
def TableIs (s : State) (r : RecIx) (codes : List StationCode) (f : Nat → StationCode → Copy) : Prop :=
  (s.record r).copies = codes.mapIdx f

section
variable {s t : State} {r : RecIx} {codes : List StationCode} {f g : Nat → StationCode → Copy}

theorem TableIs.copyIs (h : TableIs s r codes f) {i : CopyIx} {c : StationCode} (hc : codes[i.val]? = some c) :
    CopyIs s ⟨r, i⟩ (f i.val c) := by
  rw [CopyIs, show (s.record r).copies = _ from h, List.getElem?_mapIdx, hc]
  rfl

theorem TableIs.congr (h : TableIs s r codes f) (hfg : ∀ i c, codes[i]? = some c → f i c = g i c) :
    TableIs s r codes g := by
  refine Eq.trans h (List.ext_getElem? fun i => ?_)
  rw [List.getElem?_mapIdx, List.getElem?_mapIdx]
  cases hc : codes[i]? with
  | none => rfl
  | some c => exact congrArg some (hfg i c hc)

theorem TableIs.of_record (h : TableIs s r codes f) (hr : t.record r = s.record r) : TableIs t r codes f := by
  rw [TableIs, hr]
  exact h

theorem TableIs.modCopy (h : TableIs s r codes f) (i : CopyIx) (g : Copy → Copy) :
    TableIs (s.modCopy ⟨r, i⟩ g) r codes fun j c => if j = i.val then g (f j c) else f j c := by
  rw [TableIs, State.modCopy, State.modRecord_record_same, show (s.record r).copies = _ from h]
  refine List.ext_getElem? fun j => ?_
  rw [List.getElem?_modify, List.getElem?_mapIdx, List.getElem?_mapIdx]
  cases codes[j]? with
  | none => rfl
  | some c =>
    by_cases hj : i.val = j
    · simp [hj]
    · simp [hj, Ne.symm hj]

theorem TableIs.of_copyIs (h : TableIs s r codes f) {i : CopyIx} {y : Copy} (hy : CopyIs s ⟨r, i⟩ y) :
    ∃ c, codes[i.val]? = some c ∧ y = f i.val c := by
  rw [CopyIs, show (s.record r).copies = _ from h, List.getElem?_mapIdx, Option.map_eq_some_iff] at hy
  obtain ⟨c, hc, rfl⟩ := hy
  exact ⟨c, hc, rfl⟩

/-- A new copy's counts start where they stand (R66). -/
theorem TableIs.startCounts (h : TableIs s r codes f) {i : CopyIx}
    (hnew : ∀ c, codes[i.val]? = some c → f i.val c = newCopy c) : TableIs (s.startCounts ⟨r, i⟩) r codes f := by
  refine (h.modCopy i _).congr fun j c hc => ?_
  by_cases hj : j = i.val
  · subst hj
    rw [if_pos rfl, hnew c hc]
    rfl
  · rw [if_neg hj]

/-- The lowest copies of a record, in copy-table order. -/
def firstCopies (r : RecIx) (k : Nat) : List CopyRef := ((List.finRange 6).take k).map fun i => ⟨r, i⟩

theorem firstCopies_succ {k : Nat} (hk : k < 6) (r : RecIx) :
    firstCopies r (k + 1) = firstCopies r k ++ [⟨r, ⟨k, hk⟩⟩] := by
  have hget : (List.finRange 6)[k]? = some ⟨k, hk⟩ := by simp [hk]
  rw [firstCopies, firstCopies, List.take_add_one, hget, List.map_append]
  rfl

theorem firstCopies_getElem? {k i : Nat} {ref : CopyRef} {r : RecIx} (h : (firstCopies r k)[i]? = some ref) :
    ref.record = r ∧ ref.ix.val = i ∧ i < k := by
  rw [firstCopies, List.getElem?_map, List.getElem?_take] at h
  split at h
  · obtain ⟨x, hx, rfl⟩ := Option.map_eq_some_iff.mp h
    obtain ⟨hi, rfl⟩ := List.getElem?_eq_some_iff.mp hx
    exact ⟨rfl, by simp, ‹_›⟩
  · cases h

theorem mem_firstCopies {k : Nat} {ref : CopyRef} {r : RecIx} (h : ref ∈ firstCopies r k) :
    ref.record = r ∧ ref.ix.val < k := by
  obtain ⟨i, hi⟩ := List.getElem?_of_mem h
  obtain ⟨hr, hix, hlt⟩ := firstCopies_getElem? hi
  exact ⟨hr, hix ▸ hlt⟩

theorem finRange_filter_lt : ∀ k : Fin 7, (List.finRange 6).filter (fun i => i.val < k.val) = (List.finRange 6).take k := by
  decide

/-- A table of unrouted copies is dispatched whole, in its order (R66). -/
theorem State.dispatchRecord_of_table (h : TableIs s r codes fun _ c => newCopy c) (hmax : codes.length ≤ 6) :
    s.dispatchRecord r = s.dispatchAll (firstCopies r codes.length) := by
  have hlen : (s.record r).copies.length = codes.length := by
    rw [show (s.record r).copies = _ from h, List.length_mapIdx]
  have hcopies : s.copiesOf r = firstCopies r codes.length := by
    rw [State.copiesOf, hlen]
    exact congrArg (List.map _) (finRange_filter_lt ⟨codes.length, by omega⟩)
  have hall : (firstCopies r codes.length).filter (fun ref => s.copyState ref = .unrouted) =
      firstCopies r codes.length := by
    refine List.filter_eq_self.mpr fun ref href => ?_
    obtain ⟨rfl, hix⟩ := mem_firstCopies href
    have hcopy := State.copyIs_copy (h.copyIs (i := ref.ix) (List.getElem?_eq_getElem hix))
    simp only [State.copyState, hcopy]
    rfl
  rw [State.dispatchRecord, hcopies, hall]

theorem State.dispatchAll_append (s : State) (xs ys : List CopyRef) :
    s.dispatchAll (xs ++ ys) = (s.dispatchAll xs).dispatchAll ys := by
  induction xs generalizing s with
  | nil => rfl
  | cons x xs ih => exact ih _

/-- The line a station code is served by: its own line, or for an intercept copy the intercept line (R64, R65). -/
def State.serving (s : State) (c : StationCode) : Option Line :=
  if c = interceptCode then s.interceptLine else s.localLine c

theorem State.dispatchLine_of_copyIs {ref : CopyRef} {c : Copy} (h : CopyIs s ref c) :
    s.dispatchLine ref = s.serving c.station := by
  simp only [State.dispatchLine, State.isIntercept, State.serving, State.copyIs_copy h, decide_eq_true_eq]

theorem State.serving_congr (hb : t.boot = s.boot) (hc : ∀ m, t.canSend m = s.canSend m) (c : StationCode) :
    t.serving c = s.serving c := by
  simp only [State.serving, State.interceptLine, State.localLine, hb, hc]

end

end Sys2Proof.Machine
end

section
namespace Sys2Proof.Machine

/-! ### Copies bound to one held line (R56, R67, R126) -/

/-- A new entry stands behind every entry of equal or higher class in an ordered queue (R126). -/
theorem State.insertEntry_eq_queuePlaced (s : State) (e : QEntry) (q : List QEntry) (h : ClassOrdered s q) :
    s.insertEntry e q = queuePlaced s e q := by
  induction q with
  | nil => rfl
  | cons x xs ih =>
    obtain ⟨hx, hxs⟩ := List.pairwise_cons.mp h
    by_cases hle : s.entryClass e ≤ s.entryClass x
    · simp [State.insertEntry, queuePlaced, hle, ih hxs, Nat.not_lt.mpr hle]
    · have hlt : ∀ y ∈ x :: xs, s.entryClass y < s.entryClass e := fun y hy => by
        rcases List.mem_cons.mp hy with rfl | hy
        · exact Nat.not_le.mp hle
        · exact (hx y hy).trans_lt (Nat.not_le.mp hle)
      have hnone : (x :: xs).filter (fun y => s.entryClass e ≤ s.entryClass y) = [] :=
        List.filter_eq_nil_iff.mpr fun y hy => by simpa using hlt y hy
      have hall : (x :: xs).filter (fun y => s.entryClass y < s.entryClass e) = x :: xs :=
        List.filter_eq_self.mpr fun y hy => by simpa using hlt y hy
      rw [queuePlaced, hnone, hall, State.insertEntry, if_neg hle]
      rfl

theorem State.entryClass_congr {s t : State} (h : ∀ q, (t.record q).cls = (s.record q).cls) (e : QEntry) :
    t.entryClass e = s.entryClass e := by
  rw [State.entryClass, State.classOf, h]
  rfl

theorem CopiesKept.entryClass {s t : State} (h : CopiesKept s t) (e : QEntry) : t.entryClass e = s.entryClass e :=
  State.entryClass_congr (fun q => by
    obtain ⟨_, hq, -⟩ := h q
    rw [hq]) e

theorem State.insertEntry_congr {s t : State} (h : ∀ e, t.entryClass e = s.entryClass e) (e : QEntry) (q : List QEntry) :
    t.insertEntry e q = s.insertEntry e q := by
  induction q with
  | nil => rfl
  | cons x xs ih => simp only [State.insertEntry, h, ih]

theorem queuePlaced_congr {s t : State} (h : ∀ e, t.entryClass e = s.entryClass e) (e : QEntry) (q : List QEntry) :
    queuePlaced t e q = queuePlaced s e q := by
  simp only [queuePlaced, h]

/-- On a line that is held and has no copy going out a copy is queued, and nothing starts (R126, R129). -/
theorem State.enqueue_of_open {s : State} {n : Line} (hcond : s.sendCond n = some .open)
    (hcur : (s.line n).sched.current = none) (ref : CopyRef) : s.enqueue n ref =
      ((s.modSched n fun sc => { sc with queue := s.insertEntry ⟨ref, s.lead n ref⟩ sc.queue }).setCopyState ref
        .queued).motorEnqueue n := by
  unfold State.enqueue
  simp only
  generalize hv : ((s.modSched n fun sc => { sc with queue := s.insertEntry ⟨ref, s.lead n ref⟩ sc.queue }).setCopyState
    ref .queued).motorEnqueue n = v
  have hline : v.line n = { s.line n with
      sched := { (s.line n).sched with queue := s.insertEntry ⟨ref, s.lead n ref⟩ (s.line n).sched.queue }
      motor := (v.line n).motor } := by
    rw [← hv]
    simp [State.motorEnqueue]
  have hopen : v.sendCond n = some .open := by
    rw [State.sendCond_congr (s := s) (by rw [← hv]; rfl) (by rw [hline]) (by rw [hline]), hcond]
  have hchoose : v.choose n = v := by
    have hfree : v.freeToStart n = false := by simp [State.freeToStart, State.mayDrive, hopen]
    simp [State.choose, hfree]
  have htest : v.preemptTest n = v := by
    have : (v.line n).sched.current = none := by rw [hline]; exact hcur
    simp [State.preemptTest, this]
  rw [State.lookAgain, htest, hchoose, ite_self]

/-- A copy of a table whose first `j` copies are bound to line `m`: the first is queued, the others join it. -/
def boundCopy (m : Line) (j i : Nat) (c : StationCode) : Copy :=
  if i < j then
    if i = 0 then { newCopy c with line := some m, state := .queued }
    else { newCopy c with line := some m, joinedWith := some 0 }
  else newCopy c

section
variable {s t : State} {r : RecIx} {codes : List StationCode} {m : Line}

/-- The first copy is queued on its line (R67, R126). -/
theorem State.dispatchCopy_queues {c : StationCode} (ht : TableIs t r codes fun _ c => newCopy c)
    (hc : codes[0]? = some c) (hserve : t.serving c = some m) (hcond : t.sendCond m = some .open)
    (hcur : (t.line m).sched.current = none) :
    let u := t.dispatchCopy ⟨r, 0⟩
    TableIs u r codes (boundCopy m 1) ∧ u.router = t.router ∧
      ∃ lead, (u.line m).sched.queue = t.insertEntry ⟨⟨r, 0⟩, lead⟩ (t.line m).sched.queue := by
  have hcounts : TableIs (t.startCounts ⟨r, 0⟩) r codes fun _ c => newCopy c := ht.startCounts fun _ _ => rfl
  have hline : (t.startCounts ⟨r, 0⟩).dispatchLine ⟨r, 0⟩ = some m :=
    (State.dispatchLine_of_copyIs (hcounts.copyIs (i := 0) hc)).trans hserve
  have hnone : (t.startCounts ⟨r, 0⟩).partner m ⟨r, 0⟩ = none :=
    State.partner_eq_none.mpr fun i ⟨_, y, hy, hl, _⟩ => by
      obtain ⟨d, -, rfl⟩ := hcounts.of_copyIs hy
      cases hl
  have hdispatch : t.dispatchCopy ⟨r, 0⟩ =
      ((t.startCounts ⟨r, 0⟩).modCopy ⟨r, 0⟩ fun c => { c with line := some m }).enqueue m ⟨r, 0⟩ := by
    simp only [State.dispatchCopy, hline, State.bindLocal, hnone]
  have hbound := hcounts.modCopy 0 fun c => { c with line := some m }
  simp only [hdispatch]
  generalize hv : (t.startCounts ⟨r, 0⟩).modCopy ⟨r, 0⟩ (fun c => { c with line := some m }) = v at hbound ⊢
  have hlines : v.lines = t.lines := by rw [← hv]; rfl
  have hcls : ∀ e, v.entryClass e = t.entryClass e := fun e => by
    rw [← hv]
    exact ((t.modCopy_copiesKept ⟨r, 0⟩ (by exact fun _ => ⟨rfl, id⟩)).trans
      (State.modCopy_copiesKept _ ⟨r, 0⟩ (by exact fun _ => ⟨rfl, id⟩))).entryClass e
  rw [State.enqueue_of_open (by rw [← hv]; exact hcond) (by rw [State.line_of_lines hlines]; exact hcur)]
  refine ⟨?_, by rw [← hv]; rfl, v.lead m ⟨r, 0⟩, ?_⟩
  · have hqueued : TableIs ((v.modSched m fun sc => { sc with
        queue := v.insertEntry ⟨⟨r, 0⟩, v.lead m ⟨r, 0⟩⟩ sc.queue }).setCopyState ⟨r, 0⟩ .queued) r codes _ :=
      TableIs.modCopy (hbound.of_record rfl) 0 _
    refine (TableIs.of_record hqueued rfl).congr fun i c _ => ?_
    cases i with
    | zero => rfl
    | succ i => rfl
  · rw [← State.line_of_lines hlines m, ← State.insertEntry_congr hcls]
    simp [State.motorEnqueue]

/-- A later copy joins the first one (R56, R67). -/
theorem State.dispatchCopy_joins {j : Nat} {c : StationCode} (hj : j < 6) (hpos : 0 < j)
    (ht : TableIs t r codes (boundCopy m j)) (hc : codes[j]? = some c) (hserve : t.serving c = some m) :
    let u := t.dispatchCopy ⟨r, ⟨j, hj⟩⟩
    TableIs u r codes (boundCopy m (j + 1)) ∧ u.router = t.router ∧ u.lines = t.lines := by
  have hnew : ∀ c, boundCopy m j j c = newCopy c := fun c => if_neg (lt_irrefl j)
  have hcounts : TableIs (t.startCounts ⟨r, ⟨j, hj⟩⟩) r codes (boundCopy m j) := ht.startCounts fun c _ => hnew c
  have hline : (t.startCounts ⟨r, ⟨j, hj⟩⟩).dispatchLine ⟨r, ⟨j, hj⟩⟩ = some m := by
    rw [State.dispatchLine_of_copyIs (hcounts.copyIs hc), hnew]
    exact hserve
  obtain ⟨d, hd⟩ : ∃ d, codes[0]? = some d :=
    ⟨_, List.getElem?_eq_getElem (Nat.zero_lt_of_lt (List.getElem?_eq_some_iff.mp hc).1)⟩
  have hfirst : BoundThere (t.startCounts ⟨r, ⟨j, hj⟩⟩) m ⟨r, ⟨j, hj⟩⟩ 0 := by
    refine ⟨fun e => hpos.ne (Fin.ext_iff.mp e), _, hcounts.copyIs (i := 0) hd, ?_⟩
    simp [boundCopy, hpos, show (newCopy d).joinedWith = none from rfl]
  have hpartner : (t.startCounts ⟨r, ⟨j, hj⟩⟩).partner m ⟨r, ⟨j, hj⟩⟩ = some 0 := by
    cases hp : (t.startCounts ⟨r, ⟨j, hj⟩⟩).partner m ⟨r, ⟨j, hj⟩⟩ with
    | none => exact absurd hfirst (State.partner_eq_none.mp hp 0)
    | some p =>
      by_contra hne
      have hlt : 0 < p := Fin.pos_iff_ne_zero.mpr fun e => hne (by rw [e])
      exact (State.partner_eq_some hp).2 0 hlt hfirst
  have hdispatch : t.dispatchCopy ⟨r, ⟨j, hj⟩⟩ = (t.startCounts ⟨r, ⟨j, hj⟩⟩).modCopy ⟨r, ⟨j, hj⟩⟩ fun c =>
      { c with line := some m, joinedWith := some 0, state := .unrouted } := by
    simp only [State.dispatchCopy, hline, State.bindLocal, hpartner]
  simp only [hdispatch]
  refine ⟨(hcounts.modCopy _ _).congr fun i c _ => ?_, rfl, rfl⟩
  unfold boundCopy
  by_cases hi : i = j
  · subst hi
    simp only [lt_irrefl, if_false, if_true, Nat.lt_succ_self, hpos.ne']
    rfl
  · have : i < j + 1 ↔ i < j := by omega
    simp only [hi, if_false, this]

/-- With every station on one held line, the first copies of a table are bound there: one entry is queued, and each
later copy joins it (R56, R66, R67). -/
theorem State.dispatchAll_binds (ht : TableIs t r codes fun _ c => newCopy c) (hmax : codes.length ≤ 6)
    (hserve : ∀ c ∈ codes, t.serving c = some m) (hcond : t.sendCond m = some .open)
    (hcur : (t.line m).sched.current = none) {j : Nat} (hpos : 1 ≤ j) (hj : j ≤ codes.length) :
    let u := t.dispatchAll (firstCopies r j)
    TableIs u r codes (boundCopy m j) ∧ u.router = t.router ∧
      ∃ lead, (u.line m).sched.queue = t.insertEntry ⟨⟨r, 0⟩, lead⟩ (t.line m).sched.queue := by
  have hget : ∀ i, i < codes.length → ∃ c, codes[i]? = some c ∧ t.serving c = some m := fun i hi =>
    ⟨_, List.getElem?_eq_getElem hi, hserve _ (List.getElem_mem hi)⟩
  induction j, hpos using Nat.le_induction with
  | base =>
    obtain ⟨c, hc, hs⟩ := hget 0 hj
    exact State.dispatchCopy_queues ht hc hs hcond hcur
  | succ j hpos ih =>
    obtain ⟨htable, hrouter, lead, hqueue⟩ := ih (by omega)
    obtain ⟨c, hc, hs⟩ := hget j (by omega)
    have hd := t.dispatchAll_dispatches (firstCopies r j)
    obtain ⟨htable', hrouter', hlines⟩ := State.dispatchCopy_joins (by omega) hpos htable hc
      ((State.serving_congr hd.boot hd.canSend c).trans hs)
    rw [firstCopies_succ (by omega), State.dispatchAll_append]
    refine ⟨htable', hrouter'.trans hrouter, lead, ?_⟩
    rw [← hqueue, ← State.line_of_lines hlines m]
    rfl

end

end Sys2Proof.Machine
end

section
namespace Sys2Proof.Machine

/-! ### Copies offered on the highway (R69, R70, R71) -/

/-- The FREE send contexts, lowest first. -/
def freeSends (s : State) : List CtxIx := (List.finRange 4).filter fun k => (s.sendCtx k).isNone

theorem State.freeSendCtx_eq (s : State) : s.freeSendCtx = (freeSends s).head? := by
  rw [freeSends, List.head?_filter]
  rfl

theorem freeSends_congr {s t : State} (h : ∀ k, (t.sendCtx k).isNone = (s.sendCtx k).isNone) :
    freeSends t = freeSends s := by simp only [freeSends, h]

theorem freeSends_nodup (s : State) : (freeSends s).Nodup := (List.nodup_finRange 4).filter _

/-- A copy with its first attempt in BACKOFF (R71). -/
def startedCopy (threshold : Nat) (c : StationCode) : Copy :=
  { newCopy c with state := .backoff, attempt := if c = interceptCode then threshold else 1 }

section
variable {s t : State} {r : RecIx} {codes : List StationCode} {f : Nat → StationCode → Copy} {i : CopyIx}
  {c : StationCode}

/-- A send context that is taken leaves the other FREE ones. -/
theorem freeSends_of_taken {k : CtxIx} {ks : List CtxIx} (hfree : freeSends s = k :: ks)
    (hsame : (t.sendCtx k).isNone = false) (hother : ∀ k', k' ≠ k → t.sendCtx k' = s.sendCtx k') : freeSends t = ks := by
  have hnodup := freeSends_nodup s
  rw [hfree] at hnodup
  have hfilter : freeSends t = (freeSends s).filter (· ≠ k) := by
    rw [freeSends, freeSends, List.filter_filter]
    refine List.filter_congr fun k' _ => ?_
    by_cases hk : k' = k
    · simp [hk, hsame]
    · simp [hk, hother k' hk]
  rw [hfilter, hfree, List.filter_cons_of_neg (by simp)]
  exact List.filter_eq_self.mpr fun k' hk' => decide_eq_true fun e => (List.nodup_cons.mp hnodup).1 (e ▸ hk')

/-- A copy that no line serves starts its series in the lowest FREE send context (R69, R71). -/
theorem State.dispatchCopy_of_free {k : CtxIx} {ks : List CtxIx}
    (hcopy : CopyIs (t.startCounts ⟨r, i⟩) ⟨r, i⟩ (newCopy c)) (hserve : t.serving c = none)
    (hfree : freeSends t = k :: ks) (hwait : t.router.waitList = []) (hold : t.port.holdOff = none) :
    t.dispatchCopy ⟨r, i⟩ = ((t.startCounts ⟨r, i⟩).modCopy ⟨r, i⟩ fun x =>
      { x with attempt := if c = interceptCode then t.boot.cfg.threshold else 1 }).giveSend k ⟨r, i⟩ := by
  have hline : (t.startCounts ⟨r, i⟩).dispatchLine ⟨r, i⟩ = none := (State.dispatchLine_of_copyIs hcopy).trans hserve
  have hctx : (t.startCounts ⟨r, i⟩).freeSendCtx = some k := by
    rw [State.freeSendCtx_eq]
    exact congrArg List.head? hfree
  have hfirst : (t.startCounts ⟨r, i⟩).firstAttempt ⟨r, i⟩ = if c = interceptCode then t.boot.cfg.threshold else 1 := by
    simp only [State.firstAttempt, State.isIntercept, State.copyIs_copy hcopy, decide_eq_true_eq]
    rfl
  have htest : ((t.startCounts ⟨r, i⟩).router.waitList.isEmpty && (t.startCounts ⟨r, i⟩).port.holdOff.isNone) = true := by
    rw [show (t.startCounts ⟨r, i⟩).router.waitList = [] from hwait,
      show (t.startCounts ⟨r, i⟩).port.holdOff = none from hold]
    rfl
  simp only [State.dispatchCopy, hline, State.offerCopy, hctx, htest, if_true, State.startSeries, hfirst]

/-- A copy that no line serves takes the lowest FREE send context and asks for its first OFFER (R69, R71). -/
theorem State.dispatchCopy_starts {k : CtxIx} {ks : List CtxIx} (ht : TableIs t r codes f)
    (hnew : ∀ c, f i.val c = newCopy c) (hc : codes[i.val]? = some c) (hserve : t.serving c = none)
    (hfree : freeSends t = k :: ks) (hwait : t.router.waitList = []) (hold : t.port.holdOff = none) :
    let u := t.dispatchCopy ⟨r, i⟩
    TableIs u r codes (fun j c => if j = i.val then startedCopy t.boot.cfg.threshold c else f j c) ∧
    u.router = t.router ∧ u.port.holdOff = none ∧ freeSends u = ks ∧ OffersCopy u k ⟨r, i⟩ ∧
    ∀ k', k' ≠ k → u.sendCtx k' = t.sendCtx k' := by
  have hcounts : TableIs (t.startCounts ⟨r, i⟩) r codes f := ht.startCounts fun c _ => hnew c
  have htable := hcounts.modCopy i fun x => { x with attempt := if c = interceptCode then t.boot.cfg.threshold else 1 }
  have hdispatch := State.dispatchCopy_of_free (hnew c ▸ hcounts.copyIs hc) hserve hfree hwait hold
  generalize hv : ((t.startCounts ⟨r, i⟩).modCopy ⟨r, i⟩ fun x =>
    { x with attempt := if c = interceptCode then t.boot.cfg.threshold else 1 }) = v at hdispatch htable
  have hport : v.port = t.port := by rw [← hv]; rfl
  obtain ⟨p, x, hgive, hhold, hsend⟩ := v.giveSend_eq k ⟨r, i⟩
  have hsame : (t.dispatchCopy ⟨r, i⟩).sendCtx k = some { Send.begun ⟨r, i⟩ with pending := some ⟨.offer, x⟩ } := by
    rw [hdispatch, hgive, State.sendCtx, hsend]
    simp
  have hother : ∀ k', k' ≠ k → (t.dispatchCopy ⟨r, i⟩).sendCtx k' = t.sendCtx k' := fun k' hk => by
    rw [hdispatch, hgive, State.sendCtx, hsend, State.sendCtx, hport]
    exact Vector.getElem_set_ne _ _ fun e => hk (Fin.ext e.symm)
  refine ⟨?_, ?_, ?_, freeSends_of_taken hfree (by rw [hsame]; rfl) hother, ⟨x, hsame⟩, hother⟩
  · have hbackoff := htable.modCopy i fun c => { c with state := if c.state = .settled then .settled else .backoff }
    rw [hdispatch, hgive]
    refine (TableIs.of_record hbackoff rfl).congr fun j d hd => ?_
    by_cases hj : j = i.val
    · subst hj
      cases hc.symm.trans hd
      simp only [if_true, hnew]
      rfl
    · simp only [if_neg hj]
  · rw [hdispatch, hgive, ← hv]
    rfl
  · rw [hdispatch, hgive]
    exact hhold.trans (by rw [hport, hold])

/-- A copy that no line serves waits at the tail of the wait list where no send context is FREE (R69). -/
theorem State.dispatchCopy_waits (ht : TableIs t r codes f) (hnew : ∀ c, f i.val c = newCopy c)
    (hc : codes[i.val]? = some c) (hserve : t.serving c = none) (hfree : freeSends t = [])
    (hwait : ⟨r, i⟩ ∉ t.router.waitList) :
    let u := t.dispatchCopy ⟨r, i⟩
    TableIs u r codes (fun j c => if j = i.val then { newCopy c with state := .backoff } else f j c) ∧
    u.router.waitList = t.router.waitList ++ [⟨r, i⟩] ∧ u.port = t.port := by
  have hcounts : TableIs (t.startCounts ⟨r, i⟩) r codes f := ht.startCounts fun c _ => hnew c
  have hcopy := hcounts.copyIs hc
  rw [hnew] at hcopy
  have hline : (t.startCounts ⟨r, i⟩).dispatchLine ⟨r, i⟩ = none := (State.dispatchLine_of_copyIs hcopy).trans hserve
  have hctx : (t.startCounts ⟨r, i⟩).freeSendCtx = none := by
    rw [State.freeSendCtx_eq]
    exact congrArg List.head? hfree
  have hdispatch : t.dispatchCopy ⟨r, i⟩ = (t.startCounts ⟨r, i⟩).waitForContext ⟨r, i⟩ := by
    simp only [State.dispatchCopy, hline, State.offerCopy, hctx]
  simp only [hdispatch, State.waitForContext]
  have hbackoff := hcounts.modCopy i fun c => { c with state := if c.state = .settled then .settled else .backoff }
  refine ⟨(TableIs.of_record hbackoff rfl).congr fun j d _ => ?_, ?_, rfl⟩
  · by_cases hj : j = i.val
    · subst hj
      simp only [if_true, hnew]
      rfl
    · simp only [if_neg hj]
  · have : (t.router.waitList.contains ⟨r, i⟩) = false := by simpa using hwait
    show (if t.router.waitList.contains ⟨r, i⟩ = true then t.router.waitList else _) = _
    rw [this]
    rfl

/-- A copy of a table whose first `j` copies have been offered on `free` send contexts. -/
def offeredCopy (threshold free j i : Nat) (c : StationCode) : Copy :=
  if i < j then if i < free then startedCopy threshold c else { newCopy c with state := .backoff } else newCopy c

/-- Of the first `j` copies of a table dispatched from state `s` those that a FREE send context is left for have begun
their series, the others wait in order (R69). -/
structure OfferedUpTo (r : RecIx) (codes : List StationCode) (s : State) (j : Nat) (t : State) : Prop where
  table : TableIs t r codes (offeredCopy s.boot.cfg.threshold (freeSends s).length j)
  contexts : freeSends t = (freeSends s).drop j
  waits : t.router.waitList = (firstCopies r j).drop (freeSends s).length
  holdOff : t.port.holdOff = none
  offers : ∀ (i : Nat) k ref, (firstCopies r j)[i]? = some ref → (freeSends s)[i]? = some k → OffersCopy t k ref

theorem offeredCopy_new (threshold free j : Nat) (c : StationCode) : offeredCopy threshold free j j c = newCopy c :=
  if_neg (lt_irrefl j)

theorem firstCopies_length {j : Nat} (hj : j ≤ 6) (r : RecIx) : (firstCopies r j).length = j := by
  simp [firstCopies, hj]

theorem firstCopies_succ_getElem? {j i : Nat} (hj : j < 6) (r : RecIx) : (firstCopies r (j + 1))[i]? =
    if i = j then some ⟨r, ⟨j, hj⟩⟩ else (firstCopies r j)[i]? := by
  rw [firstCopies_succ hj]
  by_cases hlt : i < j
  · rw [List.getElem?_append_left (by rw [firstCopies_length hj.le]; exact hlt), if_neg hlt.ne]
  · rw [List.getElem?_append_right (by rw [firstCopies_length hj.le]; omega), firstCopies_length hj.le]
    by_cases he : i = j
    · rw [if_pos he, he, Nat.sub_self]
      rfl
    · rw [if_neg he, List.getElem?_eq_none (by simp; omega), List.getElem?_eq_none (by
        rw [firstCopies_length hj.le]; omega)]

theorem offeredCopy_succ (threshold free j i : Nat) (c : StationCode) : offeredCopy threshold free (j + 1) i c =
    if i = j then if j < free then startedCopy threshold c else { newCopy c with state := .backoff }
    else offeredCopy threshold free j i c := by
  unfold offeredCopy
  by_cases he : i = j
  · rw [he, if_pos (Nat.lt_succ_self j), if_pos rfl]
  · have : i < j + 1 ↔ i < j := by omega
    rw [if_neg he, if_congr this rfl rfl]

/-- The next copy is offered where a send context is left for it. -/
theorem OfferedUpTo.starts {j : Nat} (h : OfferedUpTo r codes s j t) (hj : j < 6) (hfree : j < (freeSends s).length)
    (hboot : t.boot = s.boot) (hc : codes[j]? = some c) (hserve : t.serving c = none) :
    OfferedUpTo r codes s (j + 1) (t.dispatchCopy ⟨r, ⟨j, hj⟩⟩) := by
  have hdrop : (freeSends s).drop j = (freeSends s)[j] :: (freeSends s).drop (j + 1) := List.drop_eq_getElem_cons hfree
  have hnone : ∀ i, i ≤ j + 1 → (firstCopies r i).drop (freeSends s).length = [] := fun i hi =>
    List.drop_eq_nil_of_le (by rw [firstCopies_length (by omega)]; omega)
  obtain ⟨htable, hrouter, hhold, hctx, hoffer, hother⟩ := State.dispatchCopy_starts (i := ⟨j, hj⟩) h.table
    (offeredCopy_new _ _ j) hc hserve (h.contexts.trans hdrop) (h.waits.trans (hnone j (by omega))) h.holdOff
  refine ⟨htable.congr fun i d _ => ?_, hctx, ?_, hhold, fun i k ref href hk => ?_⟩
  · rw [offeredCopy_succ, if_pos hfree, hboot]
  · rw [hrouter, h.waits, hnone j (by omega), hnone (j + 1) le_rfl]
  · rw [firstCopies_succ_getElem? hj] at href
    by_cases he : i = j
    · subst he
      rw [if_pos rfl] at href
      cases href
      rw [List.getElem?_eq_getElem hfree] at hk
      cases hk
      exact hoffer
    · rw [if_neg he] at href
      obtain ⟨x, hx⟩ := h.offers i k ref href hk
      have hne : k ≠ (freeSends s)[j] := fun e => he <|
        (List.getElem?_inj (List.getElem?_eq_some_iff.mp hk).1 (freeSends_nodup s)).mp
          (hk.trans (by rw [e, List.getElem?_eq_getElem hfree]))
      exact ⟨x, (hother k hne).trans hx⟩

/-- The next copy waits where none is left. -/
theorem OfferedUpTo.waits_next {j : Nat} (h : OfferedUpTo r codes s j t) (hj : j < 6) (hfree : (freeSends s).length ≤ j)
    (hc : codes[j]? = some c) (hserve : t.serving c = none) :
    OfferedUpTo r codes s (j + 1) (t.dispatchCopy ⟨r, ⟨j, hj⟩⟩) := by
  have hctx : freeSends t = [] := h.contexts.trans (List.drop_eq_nil_of_le hfree)
  have hnew : ⟨r, ⟨j, hj⟩⟩ ∉ t.router.waitList := fun hmem => by
    rw [h.waits] at hmem
    exact lt_irrefl j (mem_firstCopies (List.mem_of_mem_drop hmem)).2
  obtain ⟨htable, hwait, hport⟩ := State.dispatchCopy_waits (i := ⟨j, hj⟩) h.table (offeredCopy_new _ _ j) hc hserve
    hctx hnew
  have hsend : ∀ k, (t.dispatchCopy ⟨r, ⟨j, hj⟩⟩).sendCtx k = t.sendCtx k := fun k => by
    rw [State.sendCtx, hport]
    rfl
  refine ⟨htable.congr fun i d _ => ?_, ?_, ?_, hport ▸ h.holdOff, fun i k ref href hk => ?_⟩
  · rw [offeredCopy_succ, if_neg hfree.not_gt]
  · exact (freeSends_congr fun k => by rw [hsend k]).trans (hctx.trans (List.drop_eq_nil_of_le (by omega)).symm)
  · rw [hwait, h.waits, firstCopies_succ hj, List.drop_append_of_le_length (by rw [firstCopies_length hj.le]; exact hfree)]
  · have hi := (List.getElem?_eq_some_iff.mp hk).1
    rw [firstCopies_succ_getElem? hj, if_neg (by omega)] at href
    obtain ⟨x, hx⟩ := h.offers i k ref href hk
    exact ⟨x, (hsend k).trans hx⟩

/-- With no line to serve any station, the first copies of a table are offered on the FREE send contexts, and the others
wait (R69, R71). -/
theorem State.dispatchAll_offers (ht : TableIs s r codes fun _ c => newCopy c) (hmax : codes.length ≤ 6)
    (hserve : ∀ c ∈ codes, s.serving c = none) (hwait : s.router.waitList = []) (hold : s.port.holdOff = none)
    {j : Nat} (hj : j ≤ codes.length) : OfferedUpTo r codes s j (s.dispatchAll (firstCopies r j)) := by
  induction j with
  | zero => exact ⟨ht, rfl, hwait.trans (by simp [firstCopies]), hold, fun i k ref href => by cases href⟩
  | succ j ih =>
    have h := ih (by omega)
    have hd := s.dispatchAll_dispatches (firstCopies r j)
    have hc : codes[j]? = some codes[j] := List.getElem?_eq_getElem hj
    have hs : (s.dispatchAll (firstCopies r j)).serving codes[j] = none :=
      (State.serving_congr hd.boot hd.canSend _).trans (hserve _ (List.getElem_mem hj))
    rw [firstCopies_succ (by omega), State.dispatchAll_append]
    by_cases hfree : j < (freeSends s).length
    · exact h.starts (by omega) hfree hd.boot hc hs
    · exact h.waits_next (by omega) (by omega) hc hs

end

end Sys2Proof.Machine
end

section
namespace Sys2Proof.Machine

/-! ### Dispatch at heading complete (R40) -/

/-- A class that is dispatched at heading complete goes to the router with its table (R40). -/
theorem State.headingEnds_of_early {s : State} {r : RecIx} (h : s.dispatchedEarly (s.record r).cls = true) (n : Line)
    (stations : List StationCode) : s.headingEnds n r stations = (s.fillTable n r stations).dispatchRecord r := by
  have hcls : ((s.fillTable n r stations).record r).cls = (s.record r).cls := by rw [State.fillTable_record]
  have hyes : (s.fillTable n r stations).dispatchedEarly ((s.fillTable n r stations).record r).cls = true := by
    rw [hcls]; exact h
  simp only [State.headingEnds, hyes, if_true]

theorem serving_iff (s : State) (c : StationCode) (m : Line) : s.serving c = some m ↔
    c = [0, 0, 0, 0] ∧ s.interceptLine = some m ∨ c ≠ [0, 0, 0, 0] ∧ s.localLine c = some m := by
  have hcode : interceptCode = [0, 0, 0, 0] := rfl
  rw [State.serving, hcode]
  by_cases h : c = [0, 0, 0, 0]
  · simp [h]
  · rw [if_neg h]
    exact ⟨fun e => .inr ⟨h, e⟩, fun e => (e.resolve_left fun x => h x.1).2⟩

/-- The heading of an early class ends, by LF or malformed at its first character, and its table is dispatched
(R32, R33, R40). -/
theorem exec_earlyHeading {n : Line} {code : Code} {s : State} {r : RecIx} {codes : List StationCode}
    (hmid : MidCharacter s n) (ha : (s.line n).asm.state = .heading) (hr : (s.line n).asm.record = some r)
    (hcount : (s.line n).asm.closingCount = 0)
    (hcls : (s.record r).cls = .order ∨ (s.record r).cls = .running ∧ s.boot.cfg.runningCut = true)
    (hend : ((s.line n).asm.step = .afterCR ∧ code = 2 ∧ s.boot.cfg.codes.closing ≠ 2 ∧
        codes = (s.line n).asm.collected ∨
      (s.line n).asm.step = .afterDesignator ∧ code ≠ 4 ∧ code ≠ 27 ∧ code ≠ 31 ∧
        ¬(caseAfter code (s.line n).rx.case = .letters ∧ code = s.boot.cfg.codes.closing) ∧
        codes = [[0, 0, 0, 0]])) (framing : Bool) :
    ∃ w, HeadingMet n r s w ∧ exec (.characterReceived n code framing) s =
      .next (((w.fillTable n r codes).dispatchRecord r).restartSilence n) := by
  have hearly : s.dispatchedEarly (s.record r).cls = true := by
    rcases hcls with h | ⟨h, hcut⟩
    · rw [h]; rfl
    · rw [h]; exact hcut
  have hends : ∀ w, HeadingMet n r s w → ∀ stations,
      w.headingEnds n r stations = (w.fillTable n r stations).dispatchRecord r := fun w hw stations =>
    State.headingEnds_of_early (by rw [State.dispatchedEarly_congr hw.boot, hw.record.2.1, hearly]) n stations
  rcases hend with ⟨hstep, rfl, hclosing, rfl⟩ | ⟨hstep, h4, h27, h31, hcode, rfl⟩
  · obtain ⟨w, hw, hexec⟩ := exec_headingChar hmid ha hr (.inr (.inr hstep)) hcount
      (fun h => hclosing h.2.symm) framing (code := lfCode)
    obtain ⟨v, hasm⟩ := hw.asm
    have hcol : (w.line n).asm.collected = (s.line n).asm.collected := by rw [hasm]
    rw [Assembler.parseLimited_lf (by rw [hasm]; exact hstep), State.headingParsed, hcol, hends w hw] at hexec
    exact ⟨w, hw, hexec⟩
  · obtain ⟨w, hw, hexec⟩ := exec_headingChar hmid ha hr (.inl hstep) hcount hcode framing
    obtain ⟨v, hasm⟩ := hw.asm
    have hparse : (w.line n).asm.parseLimited ⟨code, caseAfter code (s.line n).rx.case⟩ = .malformed false := by
      have hno : ¬(code = 31 ∨ code = 27) := fun h => h.elim h31 h27
      have hstep' : (w.line n).asm.step = .afterDesignator := by rw [hasm]; exact hstep
      rw [Assembler.parseLimited, Assembler.parse_afterDesignator hno hstep', if_neg h4]
    rw [hparse, State.headingParsed, if_neg Bool.false_ne_true, hends w hw] at hexec
    exact ⟨w, hw, hexec⟩

/-- The state in which the table of an early class is dispatched: the heading has ended and the table is filled. -/
structure TableFilled (n : Line) (r : RecIx) (codes : List StationCode) (s v : State) : Prop where
  boot : v.boot = s.boot
  waitList : v.router.waitList = s.router.waitList
  holdOff : v.port.holdOff = s.port.holdOff
  free : freeSends v = freeSends s
  table : TableIs v r codes fun _ c => newCopy c
  state : (v.record r).state = (s.record r).state
  complete : (v.record r).complete = (s.record r).complete
  cls : ∀ e, v.entryClass e = s.entryClass e
  sendCond : ∀ m, v.sendCond m = s.sendCond m
  asm : (v.line n).asm.state = .text ∧ (v.line n).asm.record = (s.line n).asm.record
  idle : ∀ m, (s.line m).sched.current = none → (∀ e ∈ (s.line m).sched.queue, e.copy.record ≠ r) →
    (v.line m).sched = (s.line m).sched

section
variable {n : Line} {r : RecIx} {codes : List StationCode} {s v w : State}

theorem HeadingMet.filled (h : HeadingMet n r s w) (codes : List StationCode) :
    TableFilled n r codes s (w.fillTable n r codes) := by
  have hline : ∀ m, ∃ a, (w.fillTable n r codes).line m = { w.line m with asm := a } := fun m =>
    State.modAsm_line_rest (w.modRecord r fun rec => { rec with copies := codes.map newCopy }) n m _
  obtain ⟨hstate, -, -, hcomplete⟩ := h.record
  refine ⟨h.boot, h.waitList, h.holdOff, freeSends_congr h.contexts, ?_, ?_, ?_, fun e => ?_, fun m => ?_, ?_,
    fun m hc hq => ?_⟩
  · rw [TableIs, State.fillTable_record]
    exact List.ext_getElem? fun i => by rw [List.getElem?_map, List.getElem?_mapIdx]
  · rw [State.fillTable_record]
    exact hstate
  · rw [State.fillTable_record]
    exact hcomplete
  · refine State.entryClass_congr (fun q => ?_) e
    obtain ⟨_, _, _, _, _, hrec⟩ := h.records q
    rw [State.fillTable, State.modAsm_record, State.modRecord_record, hrec]
    split <;> rfl
  · obtain ⟨_, e⟩ := hline m
    exact State.sendCond_congr h.boot (by rw [e]; exact h.condIn m) (by rw [e]; exact h.condSense m)
  · obtain ⟨_, e⟩ := h.asm
    rw [State.fillTable, State.modAsm_line_same, State.modRecord_line, e]
    exact ⟨rfl, rfl⟩
  · obtain ⟨_, e⟩ := hline m
    rw [e]
    exact h.idle m hc hq

theorem TableFilled.serving (h : TableFilled n r codes s v) (c : StationCode) : v.serving c = s.serving c :=
  State.serving_congr h.boot (fun m => by rw [State.canSend, State.canSend, h.sendCond]) c

/-- The message goes on in TEXT when its table has been dispatched (R40). -/
theorem TableFilled.goes_on (h : TableFilled n r codes s v) :
    let t := (v.dispatchRecord r).restartSilence n
    (t.line n).asm.state = .text ∧ (t.line n).asm.record = (s.line n).asm.record ∧
    (t.record r).state = (s.record r).state ∧ (t.record r).complete = (s.record r).complete := by
  obtain ⟨htext, hrecord⟩ := h.asm
  have hasm := ((v.dispatchRecord_dispatches r).line n).1.asm
  obtain ⟨cs, hrec, -⟩ := v.dispatchRecord_copiesKept r r
  refine ⟨?_, ?_, ?_, ?_⟩
  · rw [State.restartSilence_asm, hasm]
    exact htext
  · rw [State.restartSilence_asm, hasm]
    exact hrecord
  · rw [State.restartSilence_record, hrec]
    exact h.state
  · rw [State.restartSilence_record, hrec]
    exact h.complete

theorem State.restartSilence_sched (s : State) (n m : Line) : ((s.restartSilence n).line m).sched = (s.line m).sched := by
  rw [State.restartSilence, State.modAsm_line]
  split <;> rfl

/-- All stations on one held line: one queue entry, which every other copy joins (R66, R67). -/
theorem TableFilled.binds (h : TableFilled n r codes s v) (hpos : 1 ≤ codes.length) (hmax : codes.length ≤ 6) {m : Line}
    (hserve : ∀ c ∈ codes, s.serving c = some m) (hcond : s.sendCond m = some .open)
    (hcur : (s.line m).sched.current = none) (hqueue : ∀ e ∈ (s.line m).sched.queue, e.copy.record ≠ r)
    (hord : ClassOrdered s (s.line m).sched.queue) :
    let t := (v.dispatchRecord r).restartSilence n
    (t.record r).copies = codes.mapIdx (fun i c =>
      if i = 0 then { newCopy c with line := some m, state := .queued }
      else { newCopy c with line := some m, joinedWith := some 0 }) ∧
    (∃ lead, (t.line m).sched.queue = queuePlaced s ⟨⟨r, 0⟩, lead⟩ (s.line m).sched.queue) ∧
    t.router.waitList = s.router.waitList := by
  have hidle := h.idle m hcur hqueue
  obtain ⟨htable, hrouter, lead, hput⟩ := State.dispatchAll_binds h.table hmax
    (fun c hc => (h.serving c).trans (hserve c hc)) ((h.sendCond m).trans hcond) (by rw [hidle]; exact hcur) hpos le_rfl
  rw [← State.dispatchRecord_of_table h.table hmax] at htable hrouter hput
  refine ⟨htable.congr fun i c hc => ?_, ⟨lead, ?_⟩, (congrArg Router.waitList hrouter).trans h.waitList⟩
  · exact if_pos (List.getElem?_eq_some_iff.mp hc).1
  · rw [State.restartSilence_sched, hput, hidle, State.insertEntry_congr h.cls, State.insertEntry_eq_queuePlaced _ _ _ hord]

/-- No line for any station: first offers on the FREE send contexts, lowest first, and the rest waits (R69, R71). -/
theorem TableFilled.offers (h : TableFilled n r codes s v) (hmax : codes.length ≤ 6)
    (hserve : ∀ c ∈ codes, s.serving c = none) (hwait : s.router.waitList = []) (hold : s.port.holdOff = none) :
    OfferedUpTo r codes v codes.length (v.dispatchRecord r) := by
  rw [State.dispatchRecord_of_table h.table hmax]
  exact State.dispatchAll_offers h.table hmax (fun c hc => (h.serving c).trans (hserve c hc)) (h.waitList.trans hwait)
    (h.holdOff.trans hold) le_rfl

end

/-- Settles O20: the heading ends, and what the dispatch of a new table does, by the line its stations have. -/
theorem earlyClassIsDispatchedAtHeadingComplete : Obligations.EarlyClassIsDispatchedAtHeadingComplete := by
  unfold Obligations.EarlyClassIsDispatchedAtHeadingComplete
  intro n code framing s r codes hmid ha hr hcount hcls hend hpos hmax serves goesOn
  obtain ⟨w, hw, hexec⟩ := exec_earlyHeading hmid ha hr hcount hcls hend framing
  have hfilled := hw.filled codes
  generalize w.fillTable n r codes = v at hexec hfilled
  obtain ⟨htext, hrecord, hstate, hcomplete⟩ := hfilled.goes_on
  refine ⟨fun m hserve hcond hcur hentries hord => ?_, fun hserve hwait hold => ?_⟩
  · obtain ⟨htable, ⟨lead, hqueue⟩, hlist⟩ := hfilled.binds hpos hmax
      (fun c hc => (serving_iff s c m).mpr (hserve c hc)) hcond hcur
      (fun e he => hentries m e (List.mem_append_left _ he)) hord
    exact ⟨_, lead, hexec, ⟨htext, hrecord.trans hr, hstate, hcomplete⟩, htable, hqueue, hlist⟩
  · have hnone : ∀ c ∈ codes, s.serving c = none := fun c hc => Option.eq_none_iff_forall_ne_some.mpr fun m hm =>
      hserve c hc m ((serving_iff s c m).mp hm)
    obtain ⟨htable, -, hwaits, -, hctx⟩ := hfilled.offers hmax hnone hwait hold
    rw [hfilled.free] at htable hwaits hctx
    rw [hfilled.boot] at htable
    intro refs free
    refine ⟨_, hexec, ⟨htext, hrecord.trans hr, hstate, hcomplete⟩, ?_, hwaits, fun ref k c hmem hc => ?_,
      fun ref c hmem hc => ?_⟩
    · exact (congrArg List.length htable).trans List.length_mapIdx
    · obtain ⟨i, hi⟩ := List.getElem?_of_mem hmem
      obtain ⟨href, hk⟩ := List.getElem?_zip_eq_some.mp hi
      obtain ⟨rfl, hix, hlt⟩ := firstCopies_getElem? href
      have hcopy := htable.copyIs (i := ref.ix) hc
      rw [offeredCopy, if_pos (hix ▸ hlt), if_pos (hix ▸ (List.getElem?_eq_some_iff.mp hk).1)] at hcopy
      exact ⟨hctx i k ref href hk, hcopy⟩
    · obtain ⟨i, hi⟩ := List.getElem?_of_mem hmem
      rw [List.getElem?_drop] at hi
      obtain ⟨rfl, hix, hlt⟩ := firstCopies_getElem? hi
      have hcopy := htable.copyIs (i := ref.ix) hc
      rw [offeredCopy, if_pos (hix ▸ hlt), if_neg (by rw [hix]; exact Nat.not_lt.mpr (Nat.le_add_right ..))] at hcopy
      exact hcopy

end Sys2Proof.Machine
end

section
namespace Sys2Proof.Machine

/-! ### The store is kept by every command (R43 to R47, R59, R60) -/

/-- The pool's form and the store's accounts hold in `t` if they hold in `s`. -/
def StoreKept (s t : State) : Prop := (PoolForm s → PoolForm t) ∧ (StoreAccounts s → StoreAccounts t)

theorem StoreKept.refl (s : State) : StoreKept s s := ⟨id, id⟩

theorem StoreKept.trans {s t u : State} (h₁ : StoreKept s t) (h₂ : StoreKept t u) : StoreKept s u :=
  ⟨fun h => h₂.1 (h₁.1 h), fun h => h₂.2 (h₁.2 h)⟩

/-- Both rest on the message store alone. -/
theorem StoreKept.of_store {s t : State} (h : t.store = s.store) : StoreKept s t := by
  simp only [StoreKept, PoolForm, StoreAccounts, State.record, h]
  exact ⟨id, id⟩

theorem StoreKept.ite {s t u : State} {p : Prop} [Decidable p] (ht : StoreKept s t) (hu : StoreKept s u) :
    StoreKept s (if p then t else u) := by
  split
  · exact ht
  · exact hu

/-- A command's change under a condition; else the card is as it was (log 1). -/
theorem StoreKept.guarded {s t : State} {p : Prop} [Decidable p] (ht : StoreKept s t) :
    StoreKept s (if p then t else s) := ht.ite (.refl s)

theorem State.modPort_storeKept (s : State) (f : Port → Port) : StoreKept s (s.modPort f) := .of_store rfl
theorem State.undrive_storeKept (s : State) : StoreKept s s.undrive := .of_store rfl
theorem State.modSupTx_storeKept (s : State) (f : Tx → Tx) : StoreKept s (s.modSupTx f) := .of_store rfl
theorem State.modLine_storeKept (s : State) (n : Line) (f : LineUnit → LineUnit) : StoreKept s (s.modLine n f) :=
  .of_store rfl
theorem State.modMotor_storeKept (s : State) (n : Line) (f : Motor → Motor) : StoreKept s (s.modMotor n f) :=
  .of_store rfl
theorem State.setRx_storeKept (s : State) (n : Line) (st : RxState) : StoreKept s (s.setRx n st) := .of_store rfl
theorem State.setSend_storeKept (s : State) (k : CtxIx) (c : Option Send) : StoreKept s (s.setSend k c) := .of_store rfl
theorem State.readPin_storeKept (s : State) (n : Line) (pin : LoopPin) (level : Level) :
    StoreKept s (s.readPin n pin level) := .of_store (s.readPin_onlyLine n pin level).store
theorem State.finishChar_storeKept (s : State) (n : Line) (c : TxChar) : StoreKept s (s.finishChar n c) :=
  .of_store (s.finishChar_onlyLine n c).store
theorem State.shiftTakes_storeKept (s : State) (n : Line) : StoreKept s (s.shiftTakes n) :=
  .of_store (s.shiftTakes_onlyLine n).store
theorem State.serveLine_storeKept (s : State) (n : Line) : StoreKept s (s.serveLine n) :=
  .of_store (s.serveLine_loadsOnly n).onlyLine.store
theorem State.choose_storeKept (s : State) (n : Line) : StoreKept s (s.choose n) :=
  ⟨s.choose_PoolForm n, s.choose_StoreAccounts n⟩
theorem State.condOpens_storeKept (s : State) (n : Line) (pin : LoopPin) : StoreKept s (s.condOpens n pin) :=
  ⟨s.condOpens_PoolForm n pin, s.condOpens_StoreAccounts n pin⟩
theorem State.supServe_storeKept (s : State) : StoreKept s s.supServe :=
  ⟨s.supServe_PoolForm, s.supServe_StoreAccounts⟩
theorem State.supFollows_storeKept (s : State) (held : Option TxChar) : StoreKept s (s.supFollows held) :=
  ⟨s.supFollows_PoolForm held, s.supFollows_StoreAccounts held⟩
theorem State.endTenure_storeKept (s : State) : StoreKept s s.endTenure :=
  ⟨s.endTenure_PoolForm, s.endTenure_StoreAccounts⟩
theorem State.spoiled_storeKept (s : State) (k : CtxIx) (ref : CopyRef) : StoreKept s (s.spoiled k ref) :=
  ⟨s.spoiled_PoolForm k ref, s.spoiled_StoreAccounts k ref⟩
theorem State.takerAbandons_storeKept (s : State) (k : CtxIx) (ref : CopyRef) : StoreKept s (s.takerAbandons k ref) :=
  ⟨s.takerAbandons_PoolForm k ref, s.takerAbandons_StoreAccounts k ref⟩

/-- A frame that is reported sent and ends the tenure (R86). -/
theorem State.endTenure_after {s t : State} (h : StoreKept s.undrive t) : StoreKept s t.endTenure :=
  s.undrive_storeKept.trans (h.trans t.endTenure_storeKept)

/-- What a command answers keeps the store. -/
def KeepsStore (s : State) (o : Host.Outcome State Fault Refusal) : Prop := ∀ t, o = .next t → StoreKept s t

theorem keepsStore_next {s t : State} (h : StoreKept s t) : KeepsStore s (.next t) := by
  rintro _ ⟨⟩
  exact h

/-- A command that is refused when it is ill-formed (log 18). -/
theorem keepsStore_wellFormed {s t : State} {p : Prop} [Decidable p] (h : StoreKept s t) :
    KeepsStore s (if p then .next t else .refused .illFormed) := by
  split
  · exact keepsStore_next h
  · rintro _ ⟨⟩

/-! The start-up unit's commands. -/

theorem State.reset_storeAccounts : StoreAccounts State.reset := resetMeetsTheInvariants.2.1

theorem execResetAsserted_keepsStore (s : State) : KeepsStore s (execResetAsserted s) :=
  keepsStore_next ⟨fun _ => State.reset_poolWf, fun _ => State.reset_storeAccounts⟩

theorem execImageReadComplete_keepsStore (image : List Byte) (busy : Bool) (s : State) :
    KeepsStore s (execImageReadComplete image busy s) := by
  refine keepsStore_wellFormed (.guarded (.ite ?_ (.of_store rfl)))
  exact ⟨fun _ => State.postAll_PoolForm _ _ (State.enterRunning_PoolForm _ _ _),
    fun _ => State.postAll_StoreAccounts _ _ (State.enterRunning_StoreAccounts _ _ _)⟩

theorem execRestartKeyPress_keepsStore (s : State) : KeepsStore s (execRestartKeyPress s) :=
  have h : StoreKept s { s with boot := { s.boot with keyArmed := false } } := .of_store rfl
  keepsStore_next (.ite (h.trans ⟨State.ownRestart_PoolForm _, State.ownRestart_StoreAccounts _⟩) h)

/-! Receivers and line conditions. -/

theorem execCharacterReceived_keepsStore (n : Line) (code : Code) (framing : Bool) (s : State) :
    KeepsStore s (execCharacterReceived n code framing s) :=
  keepsStore_next (.guarded ⟨s.endChar_PoolForm n code framing, s.endChar_StoreAccounts n code framing⟩)

theorem execSilenceTimerExpiry_keepsStore (n : Line) (s : State) : KeepsStore s (execSilenceTimerExpiry n s) :=
  keepsStore_next (.guarded ⟨s.silenceEnds_PoolForm n, s.silenceEnds_StoreAccounts n⟩)

theorem execSpacingTimerExpiry_keepsStore (n : Line) (pin : LoopPin) (s : State) :
    KeepsStore s (execSpacingTimerExpiry n pin s) := by
  have h : StoreKept s (s.spacingEnds n pin) := .of_store rfl
  exact keepsStore_next (.guarded (.ite (h.trans (State.condOpens_storeKept _ n pin)) h))

theorem execMarkingTimerExpiry_keepsStore (n : Line) (pin : LoopPin) (s : State) :
    KeepsStore s (execMarkingTimerExpiry n pin s) :=
  keepsStore_next (.guarded (.ite (.of_store rfl) ⟨s.condCloses_PoolForm n pin, s.condCloses_StoreAccounts n pin⟩))

theorem execOpenTimerExpiry_keepsStore (n : Line) (pin : LoopPin) (s : State) :
    KeepsStore s (execOpenTimerExpiry n pin s) :=
  keepsStore_next (.guarded ⟨s.condFails_PoolForm n pin, s.condFails_StoreAccounts n pin⟩)

theorem execBreakHeard_keepsStore (n : Line) (unit : Fin 6) (s : State) : KeepsStore s (execBreakHeard n unit s) :=
  keepsStore_next (.guarded ((s.readPin_storeKept n _ _).trans (State.condOpens_storeKept _ n _)))

/-! Line transmitters and the supervisor transmitter. -/

theorem execShiftStageBegin_keepsStore (n : Line) (s : State) : KeepsStore s (execShiftStageBegin n s) :=
  keepsStore_next (.guarded ((StoreKept.of_store (s.beginHeld_onlyLine n).store).trans (State.serveLine_storeKept _ n)))

theorem execCharacterSent_keepsStore (n : Line) (shiftFirst : Bool) (s : State) :
    KeepsStore s (execCharacterSent n shiftFirst s) := by
  refine keepsStore_next ?_
  split
  · exact .refl s
  · rename_i c _
    have hfinish := s.finishChar_storeKept n c
    refine .guarded (StoreKept.trans (t := if shiftFirst then (s.finishChar n c).shiftTakes n else s.finishChar n c)
      (.ite (hfinish.trans (State.shiftTakes_storeKept _ n)) hfinish) ?_)
    exact StoreKept.trans ⟨State.reportSent_PoolForm _ n c, State.reportSent_StoreAccounts _ n c⟩ <|
      StoreKept.trans ⟨State.shiftFollows_PoolForm _ n _, State.shiftFollows_StoreAccounts _ n _⟩
        (State.serveLine_storeKept _ n)

theorem execFillSent_keepsStore (n : Line) (s : State) : KeepsStore s (execFillSent n s) := by
  refine keepsStore_next ?_
  split
  · exact .refl s
  · exact .guarded <| (s.finishChar_storeKept n _).trans <|
      StoreKept.trans ⟨State.reportFill_PoolForm _ n, State.reportFill_StoreAccounts _ n⟩ <|
        (State.shiftTakes_storeKept _ n).trans (State.serveLine_storeKept _ n)

theorem execRunUpTimerExpiry_keepsStore (n : Line) (s : State) : KeepsStore s (execRunUpTimerExpiry n s) :=
  keepsStore_next <| .guarded <| (s.modMotor_storeKept n _).trans <| (State.choose_storeKept _ n).trans
    (.of_store (State.motorEmpty_onlyLine _ n).store)

theorem execTurnaroundTimerExpiry_keepsStore (n : Line) (s : State) :
    KeepsStore s (execTurnaroundTimerExpiry n s) :=
  keepsStore_next (.guarded ((s.modLine_storeKept n _).trans (State.choose_storeKept _ n)))

theorem execSupervisorCharacterSent_keepsStore (s : State) : KeepsStore s (execSupervisorCharacterSent s) := by
  refine keepsStore_next ?_
  split
  · exact .refl s
  · rename_i c _
    have hfinish := s.modSupTx_storeKept fun t => t.finish c
    refine .guarded (StoreKept.trans
      (t := if c.last then (s.modSupTx fun t => t.finish c).itemEnded else s.modSupTx fun t => t.finish c)
      (.ite (hfinish.trans ⟨State.itemEnded_PoolForm _, State.itemEnded_StoreAccounts _⟩) hfinish) ?_)
    exact (State.supFollows_storeKept _ _).trans (State.supServe_storeKept _)

theorem execSupervisorFillSent_keepsStore (s : State) : KeepsStore s (execSupervisorFillSent s) := by
  refine keepsStore_next ?_
  split
  · exact .refl s
  · exact .guarded <| (s.modSupTx_storeKept _).trans <|
      StoreKept.trans ⟨State.supCountFill_PoolForm _, State.supCountFill_StoreAccounts _⟩ <|
        (State.supFollows_storeKept _ _).trans (State.supServe_storeKept _)

/-! The highway port drives. -/

theorem execArbitrationRound_keepsStore (rivals : List Nat) (s : State) :
    KeepsStore s (execArbitrationRound rivals s) :=
  keepsStore_wellFormed <| .guarded <| (s.modPort_storeKept _).trans
    ⟨State.round_PoolForm _ rivals, State.round_StoreAccounts _ rivals⟩

theorem execOfferSent_keepsStore (s : State) : KeepsStore s (execOfferSent s) := by
  refine keepsStore_next ?_
  split
  · split
    · exact State.endTenure_after ⟨State.offerReported_PoolForm _ _, State.offerReported_StoreAccounts _ _⟩
    · exact State.endTenure_after (.refl _)
  · exact .refl s

theorem execClaimSent_keepsStore (s : State) : KeepsStore s (execClaimSent s) := by
  refine keepsStore_next ?_
  split
  · split
    · exact State.endTenure_after ⟨State.claimReported_PoolForm _ _, State.claimReported_StoreAccounts _ _⟩
    · exact State.endTenure_after (.refl _)
  · exact .refl s

theorem execTextSent_keepsStore (s : State) : KeepsStore s (execTextSent s) := by
  refine keepsStore_next ?_
  split
  · split
    · exact s.undrive_storeKept.trans ⟨State.textReported_PoolForm _ _ _, State.textReported_StoreAccounts _ _ _⟩
    · exact State.endTenure_after (.refl _)
  · exact .refl s

theorem execCloseSent_keepsStore (s : State) : KeepsStore s (execCloseSent s) := by
  refine keepsStore_next ?_
  split
  · split
    · exact State.endTenure_after ⟨State.closeReported_PoolForm _ _, State.closeReported_StoreAccounts _ _⟩
    · exact State.endTenure_after (.refl _)
  · exact .refl s

theorem execTakerAnswerSent_keepsStore (s : State) : KeepsStore s (execTakerAnswerSent s) := by
  refine keepsStore_next ?_
  split
  · split
    · exact State.endTenure_after ⟨State.answerReported_PoolForm _ _, State.answerReported_StoreAccounts _ _⟩
    · exact State.endTenure_after (.refl _)
    · exact .refl s
  · exact .refl s

theorem execAnswerSent_keepsStore (s : State) : KeepsStore s (execAnswerSent s) := by
  refine keepsStore_next ?_
  split
  · split
    · exact State.endTenure_after (State.modPort_storeKept _ _)
    · exact State.endTenure_after (.refl _)
    · exact .refl s
  · exact .refl s

theorem execRestartSent_keepsStore (s : State) : KeepsStore s (execRestartSent s) := by
  refine keepsStore_next ?_
  split
  · exact .ite (State.endTenure_after (State.modPort_storeKept _ _)) (State.endTenure_after (.refl _))
  · exact .refl s

/-! The highway port hears a frame. -/

theorem execOfferReceived_keepsStore (bytes : List Byte) (s : State) : KeepsStore s (execOfferReceived bytes s) := by
  refine keepsStore_wellFormed ?_
  split
  · exact .ite (.refl s) ⟨s.weighOffer_PoolForm _ _ _ _ _ _, s.weighOffer_StoreAccounts _ _ _ _ _ _⟩
  · exact .refl s

theorem execClaimReceived_keepsStore (bytes : List Byte) (s : State) : KeepsStore s (execClaimReceived bytes s) := by
  refine keepsStore_wellFormed ?_
  split
  · exact .ite (.guarded ⟨s.judgeClaim_PoolForm _ _, s.judgeClaim_StoreAccounts _ _⟩)
      ⟨s.hearRival_PoolForm _, s.hearRival_StoreAccounts _⟩
  · exact .refl s

theorem execTextReceived_keepsStore (bytes : List Byte) (s : State) : KeepsStore s (execTextReceived bytes s) := by
  refine keepsStore_wellFormed ?_
  split
  · exact .ite (.refl s) ⟨s.hearText_PoolForm _ _ _, s.hearText_StoreAccounts _ _ _⟩
  · exact .refl s

theorem execCloseReceived_keepsStore (bytes : List Byte) (s : State) : KeepsStore s (execCloseReceived bytes s) := by
  refine keepsStore_wellFormed ?_
  split
  · refine .ite (.refl s) ?_
    split
    · exact .refl s
    · split
      · exact ⟨s.takeClose_PoolForm _ _ _ _ _ _ _, s.takeClose_StoreAccounts _ _ _ _ _ _ _⟩
      · exact .refl s
  · exact .refl s

theorem execReceiptReceived_keepsStore (bytes : List Byte) (s : State) : KeepsStore s (execReceiptReceived bytes s) := by
  refine keepsStore_wellFormed ?_
  split
  · split
    · exact .refl s
    · exact .guarded (.ite ⟨s.handed_PoolForm _ _, s.handed_StoreAccounts _ _⟩ (s.spoiled_storeKept _ _))
  · exact .refl s

theorem execAbandonTakerReceived_keepsStore (bytes : List Byte) (s : State) :
    KeepsStore s (execAbandonTakerReceived bytes s) := by
  refine keepsStore_wellFormed ?_
  split
  · split
    · exact .refl s
    · exact .of_store rfl
    · exact s.takerAbandons_storeKept _ _
    · exact s.takerAbandons_storeKept _ _
    · exact s.takerAbandons_storeKept _ _
    · exact .refl s
    · exact .refl s
  · exact .refl s

theorem execAbandonOriginReceived_keepsStore (bytes : List Byte) (s : State) :
    KeepsStore s (execAbandonOriginReceived bytes s) := by
  refine keepsStore_wellFormed ?_
  split
  · exact .guarded ⟨s.originAbandons_PoolForm _, s.originAbandons_StoreAccounts _⟩
  · exact .refl s

theorem execRestartReceived_keepsStore (bytes : List Byte) (s : State) : KeepsStore s (execRestartReceived bytes s) := by
  refine keepsStore_wellFormed ?_
  split
  · exact ⟨s.warmRestart_PoolForm _ _, s.warmRestart_StoreAccounts _ _⟩
  · exact .refl s

/-! The highway port's timers. -/

theorem execContinuationWindowExpiry_keepsStore (s : State) : KeepsStore s (execContinuationWindowExpiry s) := by
  refine keepsStore_next ?_
  split
  · exact .guarded s.endTenure_storeKept
  · exact .refl s
  · exact .refl s
  · exact .refl s

theorem execClaimWindowExpiry_keepsStore (k : CtxIx) (s : State) : KeepsStore s (execClaimWindowExpiry k s) := by
  refine keepsStore_next ?_
  split
  · have h := s.setSend_storeKept k
    exact .guarded (.ite ((h _).trans ⟨State.unclaimed_PoolForm _ _ _, State.unclaimed_StoreAccounts _ _ _⟩) (h _))
  · exact .refl s

theorem execBackoffWaitExpiry_keepsStore (k : CtxIx) (s : State) : KeepsStore s (execBackoffWaitExpiry k s) := by
  refine keepsStore_next ?_
  split
  · exact .guarded ((s.setSend_storeKept k _).trans
      ⟨State.reoffer_PoolForm _ _ _ _, State.reoffer_StoreAccounts _ _ _ _⟩)
  · exact .refl s

theorem execReceiptWaitExpiry_keepsStore (k : CtxIx) (s : State) : KeepsStore s (execReceiptWaitExpiry k s) := by
  refine keepsStore_next ?_
  split
  · exact .guarded (s.spoiled_storeKept k _)
  · exact .refl s

theorem execStallTimerExpiry_keepsStore (k : CtxIx) (s : State) : KeepsStore s (execStallTimerExpiry k s) := by
  refine keepsStore_next ?_
  split
  · exact .guarded ⟨s.abandonTake_PoolForm _ _ _, s.abandonTake_StoreAccounts _ _ _⟩
  · exact .refl s

/-- Every command keeps the pool's form and the store's accounts. -/
theorem exec_keepsStore (c : Instr) (s : State) : KeepsStore s (exec c s) := by
  cases c with
  | resetAsserted => exact execResetAsserted_keepsStore s
  | resetReleased straps => exact keepsStore_next (.guarded (.of_store rfl))
  | imageReadComplete image busy => exact execImageReadComplete_keepsStore image busy s
  | restartKeyPress => exact execRestartKeyPress_keepsStore s
  | restartKeyReleased => exact keepsStore_next (.of_store rfl)
  | lampFlashToggle => exact keepsStore_next (.guarded (.of_store rfl))
  | receiverMarkReading n =>
    exact keepsStore_next (.guarded ((s.readPin_storeKept n _ _).trans (State.setRx_storeKept _ n _)))
  | startTransition n =>
    exact keepsStore_next (.guarded ((s.readPin_storeKept n _ _).trans (State.setRx_storeKept _ n _)))
  | falseStart n =>
    exact keepsStore_next (.guarded ((s.readPin_storeKept n _ _).trans (State.setRx_storeKept _ n _)))
  | characterReceived n code framing => exact execCharacterReceived_keepsStore n code framing s
  | silenceTimerExpiry n => exact execSilenceTimerExpiry_keepsStore n s
  | loopTransition n pin level => exact keepsStore_next (s.readPin_storeKept n pin level)
  | spacingTimerExpiry n pin => exact execSpacingTimerExpiry_keepsStore n pin s
  | markingTimerExpiry n pin => exact execMarkingTimerExpiry_keepsStore n pin s
  | openTimerExpiry n pin => exact execOpenTimerExpiry_keepsStore n pin s
  | breakHeard n unit => exact execBreakHeard_keepsStore n unit s
  | shiftStageBegin n => exact execShiftStageBegin_keepsStore n s
  | characterSent n shiftFirst => exact execCharacterSent_keepsStore n shiftFirst s
  | fillSent n => exact execFillSent_keepsStore n s
  | runUpTimerExpiry n => exact execRunUpTimerExpiry_keepsStore n s
  | idleStopExpiry n => exact keepsStore_next (.guarded (.of_store rfl))
  | turnaroundTimerExpiry n => exact execTurnaroundTimerExpiry_keepsStore n s
  | supervisorShiftBegin =>
    exact keepsStore_next (.guarded ((s.modSupTx_storeKept _).trans (State.supServe_storeKept _)))
  | supervisorCharacterSent => exact execSupervisorCharacterSent_keepsStore s
  | supervisorFillSent => exact execSupervisorFillSent_keepsStore s
  | arbitrationRound rivals => exact execArbitrationRound_keepsStore rivals s
  | offerSent => exact execOfferSent_keepsStore s
  | claimSent => exact execClaimSent_keepsStore s
  | textSent => exact execTextSent_keepsStore s
  | closeSent => exact execCloseSent_keepsStore s
  | takerAnswerSent => exact execTakerAnswerSent_keepsStore s
  | answerSent => exact execAnswerSent_keepsStore s
  | restartSent => exact execRestartSent_keepsStore s
  | offerReceived bytes => exact execOfferReceived_keepsStore bytes s
  | claimReceived bytes => exact execClaimReceived_keepsStore bytes s
  | textReceived bytes => exact execTextReceived_keepsStore bytes s
  | closeReceived bytes => exact execCloseReceived_keepsStore bytes s
  | receiptReceived bytes => exact execReceiptReceived_keepsStore bytes s
  | abandonTakerReceived bytes => exact execAbandonTakerReceived_keepsStore bytes s
  | abandonOriginReceived bytes => exact execAbandonOriginReceived_keepsStore bytes s
  | restartReceived bytes => exact execRestartReceived_keepsStore bytes s
  | continuationWindowExpiry => exact execContinuationWindowExpiry_keepsStore s
  | claimWindowExpiry k => exact execClaimWindowExpiry_keepsStore k s
  | backoffWaitExpiry k => exact execBackoffWaitExpiry_keepsStore k s
  | receiptWaitExpiry k => exact execReceiptWaitExpiry_keepsStore k s
  | stallTimerExpiry k => exact execStallTimerExpiry_keepsStore k s
  | holdOffExpiry => exact keepsStore_next (.guarded ⟨s.holdOffEnds_PoolForm, s.holdOffEnds_StoreAccounts⟩)

theorem step_storeKept {s t : State} (h : step s = .next t) : StoreKept s t := by
  unfold step at h
  split at h
  · cases h
    exact .refl s
  · rename_i c rest _
    have hqueue : StoreKept s { s with pending := rest } := .of_store rfl
    exact hqueue.trans (exec_keepsStore c _ t h)

/-- Settles O59: each command is a chain of operations that keep both, or sets the store up anew. -/
theorem everyCommandKeepsTheStore : Obligations.EveryCommandKeepsTheStore :=
  ⟨fun _ _ h e => (step_storeKept e).1 h, fun _ _ h e => (step_storeKept e).2 h⟩

end Sys2Proof.Machine
end

section
namespace Sys2Proof.Machine

/-! ### Admission and allocation (R44, R48, R58, R59) -/

theorem Store.admits_iff (st : Store) (cls : Precedence) (cost : Nat) :
    st.admits cls cost = true ↔ st.reservationCount + cost + floorOf cls ≤ st.freeList.length :=
  decide_eq_true_iff

/-- A block is drawn from a free list that has one, for a record in use (R44, R51). -/
theorem State.drawBlock_isSome {s : State} {r : RecIx} (hr : (s.record r).state ≠ .free) :
    (s.drawBlock r).isSome = true ↔ s.store.freeList ≠ [] := by
  cases hf : s.store.freeList <;> simp [State.drawBlock, hf, hr]

/-- An admitted request meets a free list that is not empty (R48). -/
theorem Store.freeList_of_admits {st : Store} {cls : Precedence} (h : st.admits cls 1 = true) : st.freeList ≠ [] := by
  rw [Store.admits_iff] at h
  exact List.ne_nil_of_length_pos (by omega)

theorem State.allocateBlock_isSome {s : State} {r : RecIx} (hr : (s.record r).state ≠ .free) :
    (s.allocateBlock r).isSome = true ↔ s.store.admits (s.record r).cls 1 = true := by
  unfold State.allocateBlock
  split
  · rename_i h
    exact iff_of_true ((State.drawBlock_isSome hr).mpr (Store.freeList_of_admits h)) h
  · rename_i h
    exact iff_of_false (by simp) h

/-- A block from the context's own reservation (R59). -/
theorem State.relayedBlock_of_reserved {s : State} {k : CtxIx} (h : 0 < s.store.reserved[k]) (r : RecIx) :
    s.relayedBlock k r = (s.drawBlock r).map fun t => t.setReserved k (s.store.reserved[k] - 1) := if_pos h

/-- With no reservation left the admission test decides (R59). -/
theorem State.relayedBlock_of_none {s : State} {k : CtxIx} (h : s.store.reserved[k] = 0) (r : RecIx) :
    s.relayedBlock k r = s.allocateBlock r := if_neg (by rw [h]; exact Nat.lt_irrefl 0)

/-- Settles O58, by the test's inequality and the two sources of a block. -/
theorem admissionByTheFloorOfTheClass : Obligations.AdmissionByTheFloorOfTheClass := by
  refine ⟨fun st cls cost => ?_, ⟨rfl, rfl, rfl, rfl⟩, fun s k r hr => ⟨State.allocateBlock_isSome hr, fun hk hf => ?_,
    fun hk => State.relayedBlock_of_none hk r⟩⟩
  · rw [Store.admits_iff]
    cases cls <;> simp only [floorOf] <;> omega
  · rw [State.relayedBlock_of_reserved hk, Option.isSome_map]
    exact (State.drawBlock_isSome hr).mpr hf

end Sys2Proof.Machine
end

section
namespace Sys2Proof.Machine

/-! ### Frames that are well-formed (R80, R81, R90) -/

/-- The kind byte of a frame (section 12.2). -/
def Frame.kind : Frame → Byte
  | .offer _ _ _ _ _ _ => 1
  | .claim _ _ => 2
  | .text _ _ _ => 3
  | .close _ _ _ _ _ _ => 4
  | .receipt _ _ => 5
  | .abandon _ _ => 6
  | .restart _ => 7

theorem parseOffer_kind {l : List Byte} {f : Frame} (h : parseOffer l = some f) : f.kind = 1 := by
  unfold parseOffer at h
  split at h
  · simp only [Option.bind_eq_bind, Option.bind_eq_some_iff, Option.ite_none_right_eq_some] at h
    obtain ⟨_, -, _, -, _, -, -, ⟨⟩⟩ := h
    rfl
  · cases h

theorem parseClaim_kind {l : List Byte} {f : Frame} (h : parseClaim l = some f) : f.kind = 2 := by
  unfold parseClaim at h
  split at h
  · simp only [Option.bind_eq_bind, Option.bind_eq_some_iff, Option.dite_none_right_eq_some] at h
    obtain ⟨_, -, _, ⟨⟩⟩ := h
    rfl
  · cases h

theorem codesOf_length {l : List Byte} {cs : List Code} (h : codesOf l = some cs) : cs.length = l.length := by
  induction l generalizing cs with
  | nil => cases h; rfl
  | cons b l ih =>
    unfold codesOf at h
    split at h
    · obtain ⟨ds, hd, rfl⟩ := Option.map_eq_some_iff.mp h
      simp [ih hd]
    · cases h

/-- A TEXT carries at most 64 characters (R81). -/
theorem parseText_spec {l : List Byte} {f : Frame} (h : parseText l = some f) :
    ∃ tag q cs, f = .text tag q cs ∧ cs.length ≤ 64 := by
  unfold parseText at h
  split at h
  · simp only [Option.bind_eq_bind, Option.bind_eq_some_iff, Option.ite_none_right_eq_some] at h
    obtain ⟨tag, -, cs, hcs, ⟨-, -, hmax, hlen⟩, ⟨⟩⟩ := h
    exact ⟨tag, _, cs, rfl, by rw [codesOf_length hcs, hlen]; exact hmax⟩
  · cases h

theorem parseClose_kind {l : List Byte} {f : Frame} (h : parseClose l = some f) : f.kind = 4 := by
  unfold parseClose at h
  split at h
  · simp only [Option.bind_eq_bind, Option.bind_eq_some_iff, Option.ite_none_right_eq_some] at h
    obtain ⟨_, -, -, ⟨⟩⟩ := h
    rfl
  · cases h

theorem parseReceipt_kind {l : List Byte} {f : Frame} (h : parseReceipt l = some f) : f.kind = 5 := by
  unfold parseReceipt at h
  split at h
  · simp only [Option.bind_eq_bind, Option.bind_eq_some_iff] at h
    obtain ⟨_, -, h⟩ := h
    split at h
    · cases h; rfl
    · split at h
      · cases h; rfl
      · cases h
  · cases h

/-- A reason that the origin gives has side 1 (R81). -/
theorem Reason.side_of_byOrigin {why : Reason} (h : why.byOrigin = true) : why.bytes.head? = some 1 := by
  revert h
  cases why <;> decide

/-- The side byte of an ABANDON names the side of its reason (R81). -/
theorem parseAbandon_spec {l : List Byte} {f : Frame} (h : parseAbandon l = some f) :
    ∃ s r x side reason tag why, l = [s, r, x, side, reason] ∧ f = .abandon tag why ∧ why.bytes = [side, reason] := by
  unfold parseAbandon at h
  split at h
  · rename_i s r x side reason
    simp only [Option.bind_eq_bind, Option.bind_eq_some_iff] at h
    obtain ⟨tag, -, why, hwhy, ⟨⟩⟩ := h
    exact ⟨s, r, x, side, reason, tag, why, rfl, rfl, by simpa using List.find?_some hwhy⟩
  · cases h

theorem parseRestart_kind {l : List Byte} {f : Frame} (h : parseRestart l = some f) : f.kind = 7 := by
  unfold parseRestart at h
  split at h
  · split at h
    · cases h; rfl
    · cases h
  · cases h

/-- The body of a frame begins with the frame's kind byte. -/
theorem parseBody_kind {body : List Byte} {f : Frame} (h : parseBody body = some f) : ∃ rest, body = f.kind :: rest := by
  cases body with
  | nil => cases h
  | cons kind rest =>
    refine ⟨rest, congrArg (· :: rest) ?_⟩
    simp only [parseBody] at h
    split_ifs at h with h1 h2 h3 h4 h5 h6 h7
    · rw [parseOffer_kind h, h1]
    · rw [parseClaim_kind h, h2]
    · obtain ⟨_, _, _, rfl, -⟩ := parseText_spec h
      exact h3
    · rw [parseClose_kind h, h4]
    · rw [parseReceipt_kind h, h5]
    · obtain ⟨_, _, _, _, _, _, _, -, rfl, -⟩ := parseAbandon_spec h
      exact h6
    · rw [parseRestart_kind h, h7]

theorem parseBody_text (rest : List Byte) : parseBody (3 :: rest) = parseText rest := rfl
theorem parseBody_abandon (rest : List Byte) : parseBody (6 :: rest) = parseAbandon rest := rfl

theorem parseFrame_eq_some {bytes : List Byte} {f : Frame} (h : parseFrame bytes = some f) :
    ∃ body check, bytes = body ++ check ∧ parseBody body = some f := by
  unfold parseFrame at h
  simp only at h
  split at h
  · exact ⟨_, _, (List.take_append_drop (bytes.length - 2) bytes).symm, h⟩
  · cases h

/-- A frame that is taken is of the kind of its row (log 18). -/
theorem kindFits_of_parse {bytes : List Byte} {f : Frame} (h : parseFrame bytes = some f) : kindFits f.kind bytes = true := by
  obtain ⟨body, check, rfl, hbody⟩ := parseFrame_eq_some h
  obtain ⟨rest, rfl⟩ := parseBody_kind hbody
  simp [kindFits]

theorem length_le_of_parse {bytes : List Byte} {tag : Tag} {q : Nat} {cs : List Code}
    (h : parseFrame bytes = some (.text tag q cs)) : cs.length ≤ 64 := by
  obtain ⟨body, check, -, hbody⟩ := parseFrame_eq_some h
  obtain ⟨rest, rfl⟩ := parseBody_kind hbody
  rw [Frame.kind, parseBody_text] at hbody
  obtain ⟨_, _, _, ⟨⟩, hlen⟩ := parseText_spec hbody
  exact hlen

theorem sideFits_of_parse {bytes : List Byte} {tag : Tag} {why : Reason} (h : parseFrame bytes = some (.abandon tag why))
    (ho : why.byOrigin = true) : sideFits 2 bytes = true := by
  obtain ⟨body, check, rfl, hbody⟩ := parseFrame_eq_some h
  obtain ⟨rest, rfl⟩ := parseBody_kind hbody
  rw [Frame.kind, parseBody_abandon] at hbody
  obtain ⟨s, r, x, side, reason, _, _, rfl, ⟨⟩, hbytes⟩ := parseAbandon_spec hbody
  have hside := Reason.side_of_byOrigin ho
  rw [hbytes] at hside
  cases hside
  rfl

/-! ### The commands of a port that takes frames (R79, R80, R82, R90) -/

theorem State.heard_of_takes {s : State} (h : TakesFrames s) (bytes : List Byte) : s.heard bytes = parseFrame bytes := by
  obtain ⟨hr, hi⟩ := h
  simp [State.heard, State.hears, hr, hi]

theorem State.owns_of_ne {s : State} {tag : Tag} (h : tag.slot ≠ s.boot.slot) : s.owns tag = false := decide_eq_false h

theorem State.takeOf_of_holds {s : State} {k : CtxIx} {tag : Tag} {c : Take} (h : TakeHolds s k tag c) :
    s.takeOf tag = some k := by
  obtain ⟨hc, ht, honly⟩ := h
  cases hf : s.takeOf tag with
  | none =>
    have := List.find?_eq_none.mp hf k (List.mem_finRange k)
    simp [hc, ht] at this
  | some j =>
    have hj := List.find?_some hf
    obtain ⟨c', hc', ht'⟩ := (Option.any_eq_true ..).mp hj
    rw [honly j c' hc' (of_decide_eq_true ht')]

theorem State.takeOf_of_none {s : State} {tag : Tag} (h : ∀ k c, s.takeCtx k = some c → c.tag ≠ tag) :
    s.takeOf tag = none := by
  refine List.find?_eq_none.mpr fun k _ => ?_
  cases hc : s.takeCtx k with
  | none => simp
  | some c => simp [h k c hc]

section
variable {s : State} {bytes : List Byte} {tag : Tag}

theorem exec_textReceived {seq : Nat} {chars : List Code} (h : TakesFrames s) (ht : tag.slot ≠ s.boot.slot)
    (hp : parseFrame bytes = some (.text tag seq chars)) :
    exec (.textReceived bytes) s = .next (s.hearText tag seq chars) := by
  have hw : Instr.wellFormed (.textReceived bytes) = true := kindFits_of_parse hp
  show execTextReceived bytes s = _
  simp only [execTextReceived, hw, State.heard_of_takes h, hp, State.owns_of_ne ht]
  rfl

theorem exec_textReceived_held {seq : Nat} {chars : List Code} {k : CtxIx} {c : Take} (h : TakesFrames s)
    (ht : tag.slot ≠ s.boot.slot) (hk : TakeHolds s k tag c) (hp : parseFrame bytes = some (.text tag seq chars)) :
    exec (.textReceived bytes) s = .next (s.takeText k c seq chars) := by
  rw [exec_textReceived h ht hp, State.hearText, State.takeOf_of_holds hk]
  simp only [hk.1]

theorem exec_closeReceived_held {total check mutilated : Nat} {overrun truncated : Bool} {k : CtxIx} {c : Take}
    (h : TakesFrames s) (ht : tag.slot ≠ s.boot.slot) (hk : TakeHolds s k tag c)
    (hp : parseFrame bytes = some (.close tag total check overrun truncated mutilated)) :
    exec (.closeReceived bytes) s = .next (s.takeClose k c total check overrun truncated mutilated) := by
  have hw : Instr.wellFormed (.closeReceived bytes) = true := kindFits_of_parse hp
  show execCloseReceived bytes s = _
  simp only [execCloseReceived, hw, State.heard_of_takes h, hp, State.owns_of_ne ht, State.takeOf_of_holds hk, hk.1]
  rfl

theorem exec_abandonOriginReceived_held {why : Reason} {k : CtxIx} {c : Take} (h : TakesFrames s)
    (ht : tag.slot ≠ s.boot.slot) (hk : TakeHolds s k tag c) (hc : c.phase = .taking) (ho : why.byOrigin = true)
    (hp : parseFrame bytes = some (.abandon tag why)) :
    exec (.abandonOriginReceived bytes) s = .next (s.giveUpTake k c) := by
  have hw : Instr.wellFormed (.abandonOriginReceived bytes) = true := by
    rw [Instr.wellFormed, Bool.and_eq_true]
    exact ⟨kindFits_of_parse hp, sideFits_of_parse hp ho⟩
  show execAbandonOriginReceived bytes s = _
  simp only [execAbandonOriginReceived, hw, State.heard_of_takes h, hp, State.owns_of_ne ht, ho, State.originAbandons,
    State.takeOf_of_holds hk, hk.1, hc]
  rfl

end

end Sys2Proof.Machine
end

section
namespace Sys2Proof.Machine

/-! ### What the store's readers and the router leave of the taking side -/

/-- The start-up unit, the pool, the take contexts with their reservations and the port's lists are as they were. -/
structure TakesKept (s t : State) : Prop where
  boot : t.boot = s.boot
  pool : t.store.pool = s.store.pool
  reserved : t.store.reserved = s.store.reserved
  pledges : t.store.pledges = s.store.pledges
  take : t.port.take = s.port.take
  answers : t.port.answers = s.port.answers
  ended : t.port.ended = s.port.ended

/-- What the readers of a text, the router and the hand-over of dead copies may change: besides, the free list stays,
and all of a record but its copy table. -/
structure Serves (s t : State) : Prop extends TakesKept s t where
  freeList : t.store.freeList = s.store.freeList
  copies : CopiesKept s t

theorem TakesKept.refl (s : State) : TakesKept s s := ⟨rfl, rfl, rfl, rfl, rfl, rfl, rfl⟩

theorem TakesKept.trans {s t u : State} (h₁ : TakesKept s t) (h₂ : TakesKept t u) : TakesKept s u where
  boot := h₂.boot.trans h₁.boot
  pool := h₂.pool.trans h₁.pool
  reserved := h₂.reserved.trans h₁.reserved
  pledges := h₂.pledges.trans h₁.pledges
  take := h₂.take.trans h₁.take
  answers := h₂.answers.trans h₁.answers
  ended := h₂.ended.trans h₁.ended

theorem TakesKept.takeCtx {s t : State} (h : TakesKept s t) (k : CtxIx) : t.takeCtx k = s.takeCtx k := by
  rw [State.takeCtx, h.take]; rfl

theorem Serves.refl (s : State) : Serves s s := ⟨.refl s, rfl, .refl s⟩

theorem Serves.trans {s t u : State} (h₁ : Serves s t) (h₂ : Serves t u) : Serves s u where
  toTakesKept := h₁.toTakesKept.trans h₂.toTakesKept
  freeList := h₂.freeList.trans h₁.freeList
  copies := h₁.copies.trans h₂.copies

/-- The items of a record but its copies. -/
theorem Serves.record {s t : State} (h : Serves s t) (r : RecIx) : ∃ cs, t.record r = { s.record r with copies := cs } := by
  obtain ⟨cs, e, -⟩ := h.copies r
  exact ⟨cs, e⟩

theorem Serves.length {s t : State} (h : Serves s t) (r : RecIx) :
    (t.record r).copies.length = (s.record r).copies.length := by
  obtain ⟨cs, e, hm, -⟩ := h.copies r
  simpa [e] using congrArg List.length hm

theorem Serves.of_store {s t : State} (hb : t.boot = s.boot) (hs : t.store = s.store) (hp : t.port = s.port) : Serves s t :=
  ⟨⟨hb, by rw [hs], by rw [hs], by rw [hs], by rw [hp], by rw [hp], by rw [hp]⟩, by rw [hs],
    .of_records fun r => by rw [State.record, hs]; rfl⟩

theorem OnlyLine.serves {n : Line} {s t : State} (h : OnlyLine n s t) : Serves s t := .of_store h.boot h.store h.port

theorem OnlySup.serves {s t : State} (h : OnlySup s t) : Serves s t := by
  rw [OnlySup] at h
  exact .of_store (by rw [h]) (by rw [h]) (by rw [h])

theorem Schedules.serves {n : Line} {s t : State} (h : Schedules n s t) (hc : CopiesKept s t) : Serves s t := by
  have hp := h.port
  obtain ⟨_, _, e⟩ := h.card
  exact ⟨⟨by rw [e], by rw [e], by rw [e], by rw [e], by rw [hp], by rw [hp], by rw [hp]⟩, by rw [e], hc⟩

theorem State.modRouter_serves (s : State) (f : Router → Router) : Serves s (s.modRouter f) := .of_store rfl rfl rfl

theorem State.modSup_serves (s : State) (f : Supervisor → Supervisor) : Serves s (s.modSup f) := .of_store rfl rfl rfl

theorem State.modCopy_serves (s : State) (ref : CopyRef) {f : Copy → Copy}
    (hf : ∀ c, (f c).station = c.station ∧ (c.state ≠ .settled → (f c).state ≠ .settled)) :
    Serves s (s.modCopy ref f) := ⟨⟨rfl, rfl, rfl, rfl, rfl, rfl, rfl⟩, rfl, s.modCopy_copiesKept ref hf⟩

theorem State.setCopyState_serves (s : State) (ref : CopyRef) {st : CopyState} (h : st ≠ .settled) :
    Serves s (s.setCopyState ref st) := ⟨⟨rfl, rfl, rfl, rfl, rfl, rfl, rfl⟩, rfl, s.setCopyState_copiesKept ref h⟩

/-- A change of the port that leaves its taking side. -/
theorem State.modPort_serves (s : State) {f : Port → Port} (ht : (f s.port).take = s.port.take)
    (ha : (f s.port).answers = s.port.answers) (he : (f s.port).ended = s.port.ended) : Serves s (s.modPort f) :=
  ⟨⟨rfl, rfl, rfl, rfl, ht, ha, he⟩, rfl, .of_records fun _ => rfl⟩

/-! Pending frames and send contexts. -/

theorem State.refreshTenure_serves (s : State) : Serves s s.refreshTenure := by
  unfold State.refreshTenure
  split
  · exact s.modPort_serves rfl rfl rfl
  · exact .refl s

theorem State.endTenure_serves (s : State) : Serves s s.endTenure :=
  (s.modPort_serves rfl rfl rfl).trans (State.refreshTenure_serves _)

theorem State.drive_serves (s : State) (source : FrameSource) (byRound : Bool) : Serves s (s.drive source byRound) := by
  unfold State.drive
  split
  · exact s.modPort_serves rfl rfl rfl
  · exact .refl s

theorem State.deaden_serves (s : State) (source : FrameSource) : Serves s (s.deaden source) := s.modPort_serves rfl rfl rfl

theorem State.setSend_serves (s : State) (k : CtxIx) (c : Option Send) : Serves s (s.setSend k c) :=
  s.modPort_serves rfl rfl rfl

theorem State.closeWindow_serves (s : State) (k : CtxIx) : Serves s (s.closeWindow k) := by
  unfold State.closeWindow
  split
  · exact s.endTenure_serves
  · exact s.refreshTenure_serves

theorem State.freeSend_serves (s : State) (k : CtxIx) : Serves s (s.freeSend k) :=
  (s.deaden_serves _).trans <| (State.setSend_serves _ k none).trans (State.closeWindow_serves _ k)

theorem State.askSend_serves (s : State) (k : CtxIx) (kind : SendKind) : Serves s (s.askSend k kind) := by
  have h : Serves s (((s.deaden (.send k)).modSend k fun c =>
      { c with pending := some ⟨kind, s.port.stamp⟩ }).nextStamp).refreshTenure :=
    (s.deaden_serves _).trans <| (State.setSend_serves _ k _).trans <|
      (State.modPort_serves _ rfl rfl rfl).trans (State.refreshTenure_serves _)
  unfold State.askSend
  simp only
  split
  · exact h.trans (State.drive_serves _ _ _)
  · exact h

theorem State.askOffer_serves (s : State) (k : CtxIx) : Serves s (s.askOffer k) := by
  unfold State.askOffer
  split
  · exact (s.setSend_serves k _).trans <| (State.setCopyState_serves _ _ (by decide)).trans (State.askSend_serves _ k _)
  · exact .refl s

theorem State.startSeries_serves (s : State) (k : CtxIx) (ref : CopyRef) : Serves s (s.startSeries k ref) :=
  (s.modCopy_serves ref (by exact fun _ => ⟨rfl, id⟩)).trans <|
    (State.setSend_serves _ k _).trans (State.askOffer_serves _ k)

theorem State.waitForContext_serves (s : State) (ref : CopyRef) : Serves s (s.waitForContext ref) :=
  (s.setCopyState_serves ref (by decide)).trans (State.modRouter_serves _ _)

theorem State.offerCopy_serves (s : State) (ref : CopyRef) : Serves s (s.offerCopy ref) := by
  unfold State.offerCopy
  split
  · split
    · exact s.startSeries_serves _ ref
    · exact s.waitForContext_serves ref
  · exact s.waitForContext_serves ref

theorem State.lookNext_serves (s : State) (k : CtxIx) : Serves s (s.lookNext k) := by
  unfold State.lookNext
  split
  · simp only
    split
    · exact .refl s
    · split
      · exact s.askSend_serves k _
      · split
        · exact s.askSend_serves k _
        · exact .refl s
  · exact .refl s

/-! Lines, dispatch and the wait for a context. -/

theorem State.enqueue_serves (s : State) (n : Line) (ref : CopyRef) : Serves s (s.enqueue n ref) :=
  (s.enqueue_schedules n ref).serves (s.enqueue_copiesKept n ref)

theorem State.bindLocal_serves (s : State) (n : Line) (ref : CopyRef) : Serves s (s.bindLocal n ref) := by
  unfold State.bindLocal
  split
  · exact s.modCopy_serves ref fun _ => ⟨rfl, fun _ => nofun⟩
  · exact (s.modCopy_serves ref (by exact fun _ => ⟨rfl, id⟩)).trans (State.enqueue_serves _ n ref)

theorem State.dispatchCopy_serves (s : State) (ref : CopyRef) : Serves s (s.dispatchCopy ref) := by
  have h : Serves s (s.startCounts ref) := s.modCopy_serves ref (by exact fun _ => ⟨rfl, id⟩)
  unfold State.dispatchCopy
  simp only
  split
  · exact h.trans (State.bindLocal_serves _ _ ref)
  · exact h.trans (State.offerCopy_serves _ ref)

theorem State.serveWaitMany_serves (s : State) (fuel : Nat) : Serves s (s.serveWaitMany fuel) := by
  induction fuel generalizing s with
  | zero => exact .refl s
  | succ fuel ih =>
    unfold State.serveWaitMany
    split
    · split
      · simp only
        split
        · exact (s.modRouter_serves _).trans <| (State.bindLocal_serves _ _ _).trans (ih _)
        · exact (s.modRouter_serves _).trans <| (State.startSeries_serves _ _ _).trans (ih _)
      · exact .refl s
    · exact .refl s

theorem State.withdraw_onlyLine (s : State) (n : Line) (ref : CopyRef) : OnlyLine n s (s.withdraw n ref) := by
  have hmark : ∀ u : State, OnlyLine n u (u.reconsiderMark n) := fun u => by
    unfold State.reconsiderMark
    split
    · split
      · exact .refl n u
      · exact u.modSched_onlyLine n _
    · exact .refl n u
  exact (s.modSched_onlyLine n _).trans <| (hmark _).trans (State.motorEmpty_onlyLine _ n)

/-! The supervisor unit and text that arrives. -/

theorem State.handOverMany_serves (s : State) (fuel : Nat) : Serves s (s.handOverMany fuel) := by
  induction fuel generalizing s with
  | zero => exact .refl s
  | succ fuel ih =>
    unfold State.handOverMany
    split
    · exact .refl s
    · split
      · exact .refl s
      · rename_i ref _ _ _
        exact (s.modRouter_serves _).trans <| (State.setCopyState_serves _ ref (st := .deadQueued) (by decide)).trans <|
          (State.modSup_serves _ _).trans <| (State.beginPrint_printsOnly _).card.serves.trans (ih _)

theorem State.handOverSought_serves (s : State) (fuel : Nat) : Serves s (s.handOverSought fuel) := by
  induction fuel generalizing s with
  | zero => exact .refl s
  | succ fuel ih =>
    have hchosen : Serves s s.chosen := .of_store rfl rfl rfl
    rcases s.handOverSought_cases fuel with ⟨-, h⟩ | ⟨-, -, h⟩ | ⟨-, -, h⟩
    · rw [h]; exact .refl s
    · rw [h]; exact hchosen
    · rw [h]; exact hchosen.trans <| (State.handOverMany_serves _ 1).trans (ih _)

theorem State.placeFreed_serves (s before : State) (sought : Bool) : Serves s (s.placeFreed before sought) := by
  rcases s.placeFreed_cases before sought with ⟨-, h⟩ | ⟨-, ⟨-, h⟩ | ⟨-, h⟩⟩
  · rw [h]; exact .refl s
  · rw [h]; exact s.handOverSought_serves _
  · rw [h]; exact s.handOverMany_serves _

theorem State.tellPlaces_serves (s before : State) : Serves s (s.tellPlaces before) := s.placeFreed_serves before _

theorem State.sendsLook_serves (s : State) (r : RecIx) (ks : List CtxIx) : Serves s (s.sendsLook r ks) := by
  induction ks generalizing s with
  | nil => exact .refl s
  | cons k ks ih =>
    unfold State.sendsLook
    simp only
    split
    · exact (s.lookNext_serves k).trans (ih _)
    · exact ih s

theorem State.linesLook_serves (s : State) (r : RecIx) (oldCount : Nat) (oldComplete : Bool) (ns : List Line) :
    Serves s (s.linesLook r oldCount oldComplete ns) := by
  induction ns generalizing s with
  | nil => exact .refl s
  | cons n ns ih =>
    exact ((s.lineTextChanged_sendsOnly n r oldCount oldComplete).toSchedules.serves
      (s.lineTextChanged_copiesKept n r oldCount oldComplete)).trans (ih _)

theorem State.textChanged_serves (s : State) (r : RecIx) (oldCount : Nat) (oldComplete : Bool) :
    Serves s (s.textChanged r oldCount oldComplete) :=
  (s.linesLook_serves r oldCount oldComplete _).trans <| (State.sendsLook_serves _ r _).trans
    (State.supTextChanged_printsOnly _ r).card.serves

end Sys2Proof.Machine
end

section
namespace Sys2Proof.Machine

/-! ### A transfer that is being received (R118, R119) -/

theorem State.modTake_takeCtx_same {s : State} {k : CtxIx} {c : Take} (h : s.takeCtx k = some c) (f : Take → Take) :
    (s.modTake k f).takeCtx k = some (f c) := by
  rw [State.modTake, State.setTake_takeCtx_same, h]
  rfl

theorem State.modTake_takeCtx_ne (s : State) (k : CtxIx) (f : Take → Take) {j : CtxIx} (h : j ≠ k) :
    (s.modTake k f).takeCtx j = s.takeCtx j := s.setTake_takeCtx_ne k j _ h

section
variable {s : State} {k : CtxIx} {tag : Tag} {c : Take} {r : RecIx}

theorem Take.accepts_iff (c : Take) (seq : Nat) :
    c.accepts seq = true ↔ seq = c.nextSeq ∧ (c.lastCount = 0 ∨ c.lastCount = 64) := by
  simp only [Take.accepts, Bool.and_eq_true, Bool.or_eq_true, decide_eq_true_iff]
  rfl

theorem Receives.takeText_in_sequence (h : Receives s k tag c r) {seq : Nat} (ha : c.accepts seq = true) (chars : List Code) :
    s.takeText k c seq chars = (s.storeBlock k r c chars).modTake k fun t => t.tallied chars := by
  obtain ⟨-, hphase, hstep, hrec, -⟩ := h
  simp only [State.takeText, hphase, hstep, hrec, if_pos ha]

theorem Receives.takeText_out_of_sequence (h : Receives s k tag c r) {seq : Nat} (ha : c.accepts seq = false)
    (chars : List Code) : s.takeText k c seq chars = s.abandonTake k c .order := by
  obtain ⟨-, hphase, hstep, hrec, -⟩ := h
  simp [State.takeText, hphase, hstep, hrec, ha]

end

/-! ### A block is granted and filled (R43, R44, R59) -/

/-- The grant of block `b` to record `r` for take context `k`: the head of the free list joins the chain, and one
reserved block, if any is left, is used (R44, R59). -/
def State.granted (s : State) (k : CtxIx) (r : RecIx) (b : BlockNo) (rest : List BlockNo) : State :=
  ((s.modStore fun st => { st with freeList := rest }).modRecord r fun rec =>
    { rec with chain := rec.chain ++ [b] }).setReserved k (s.store.reserved[k] - 1)

theorem State.setReserved_self {s : State} {k : CtxIx} {v : Nat} (h : s.store.reserved[k] = v) : s.setReserved k v = s := by
  subst h
  simp [State.setReserved, State.modStore]

theorem State.relayedBlock_granted {s : State} {k : CtxIx} {r : RecIx} {b : BlockNo} {rest : List BlockNo}
    (hr : (s.record r).state ≠ .free) (hf : s.store.freeList = b :: rest)
    (hroom : 0 < s.store.reserved[k] ∨ s.store.admits (s.record r).cls 1 = true) :
    s.relayedBlock k r = some (s.granted k r b rest) := by
  have hdraw : s.drawBlock r = some ((s.modStore fun st => { st with freeList := rest }).modRecord r fun rec =>
      { rec with chain := rec.chain ++ [b] }) := by
    simp only [State.drawBlock, hf, if_neg hr]
  by_cases hk : 0 < s.store.reserved[k]
  · rw [State.relayedBlock_of_reserved hk, hdraw]
    rfl
  · have hzero : s.store.reserved[k] = 0 := Nat.eq_zero_of_not_pos hk
    rw [State.relayedBlock_of_none hzero, State.allocateBlock, if_pos (hroom.resolve_left hk), hdraw, State.granted,
      State.setReserved_self (by rw [hzero]; exact hzero)]

theorem State.granted_record (s : State) (k : CtxIx) (r : RecIx) (b : BlockNo) (rest : List BlockNo) :
    (s.granted k r b rest).record r = { s.record r with chain := (s.record r).chain ++ [b] } := by
  rw [State.granted, State.setReserved_record, State.modRecord_record_same]
  rfl

/-- Only the pool differs after characters are written. -/
theorem State.writeChars_rest (cs : List Code) (s : State) (r : RecIx) (i : Nat) :
    ∃ p, s.writeChars r i cs = { s with store := { s.store with pool := p } } := by
  induction cs generalizing s i with
  | nil => exact ⟨_, rfl⟩
  | cons c cs ih =>
    obtain ⟨_, hc⟩ := s.writeChar_rest r i c
    obtain ⟨p, hcs⟩ := ih (s.writeChar r i c) (i + 1)
    exact ⟨p, by rw [State.writeChars, hcs, hc]⟩

/-- Characters written from slot `j` of a record's last block on stand there one after another, and every other slot
is as it was (R43). -/
theorem State.writeChars_in_block (cs : List Code) {s : State} {r : RecIx} {chain : List BlockNo} {b : BlockNo} {j : Nat}
    (hc : (s.record r).chain = chain ++ [b]) (hj : j + cs.length ≤ 64) (hp : PoolForm s) :
    (∀ i, i < cs.length → (cs[i]?).map (·.setWidth 8) =
      some (poolRead (s.writeChars r (64 * chain.length + j) cs).store.pool (64 * b.val + j + i))) ∧
    ∀ a, a < 64 * b.val + j ∨ 64 * b.val + j + cs.length ≤ a →
      poolRead (s.writeChars r (64 * chain.length + j) cs).store.pool a = poolRead s.store.pool a := by
  induction cs generalizing s j with
  | nil => exact ⟨fun i hi => absurd hi (Nat.not_lt_zero i), fun _ _ => rfl⟩
  | cons c cs ih =>
    rw [List.length_cons] at hj
    have haddr : (s.record r).address (64 * chain.length + j) = some (64 * b.val + j) := by
      have hdiv : (64 * chain.length + j) / 64 = chain.length := by omega
      have hmod : (64 * chain.length + j) % 64 = j := by omega
      simp [Record.address, Config.blockSize, hc, hdiv, hmod, Nat.mul_comm]
    have hread := fun a => s.writeChar_read r _ c _ a haddr hp
    have hchain : ((s.writeChar r (64 * chain.length + j) c).record r).chain = chain ++ [b] := by
      rw [State.writeChar_record, hc]
    obtain ⟨hin, hout⟩ := ih (j := j + 1) hchain (by omega) (State.writeChar_PoolForm s r _ c hp)
    refine ⟨fun i hi => ?_, fun a ha => ?_⟩
    · cases i with
      | zero =>
        rw [State.writeChars, Nat.add_assoc, hout _ (by omega), hread]
        simp
      | succ i =>
        have hslot : 64 * b.val + j + (i + 1) = 64 * b.val + (j + 1) + i := by omega
        rw [State.writeChars, Nat.add_assoc (64 * chain.length), List.getElem?_cons_succ, hslot]
        exact hin i (by simpa using hi)
    · rw [List.length_cons] at ha
      rw [State.writeChars, Nat.add_assoc (64 * chain.length), hout a (by omega), hread, if_neg (by omega)]

/-- What the taking side stores of a TEXT: the granted block holds its characters (R59, R119). -/
structure BlockStored (k : CtxIx) (r : RecIx) (b : BlockNo) (rest : List BlockNo) (chars : List Code) (s t : State) :
    Prop where
  take : t.port.take = s.port.take
  count : (t.record r).count = (s.record r).count + chars.length
  chain : (t.record r).chain = (s.record r).chain ++ [b]
  freeList : t.store.freeList = rest
  reserved : t.store.reserved = s.store.reserved.set k (s.store.reserved[k] - 1)
  inside : ∀ i, i < chars.length →
    (chars[i]?).map (·.setWidth 8) = some (poolRead t.store.pool (64 * b.val + i))
  outside : ∀ a, (a < 64 * b.val ∨ 64 * b.val + chars.length ≤ a) →
    poolRead t.store.pool a = poolRead s.store.pool a

theorem State.appendBlock_stored {s : State} {r : RecIx} {chars : List Code} (k : CtxIx) (b : BlockNo)
    (rest : List BlockNo) (hlen : chars.length ≤ 64) (hp : PoolForm s)
    (hcount : (s.record r).count = 64 * (s.record r).chain.length) :
    BlockStored k r b rest chars s ((s.granted k r b rest).appendBlock r chars) := by
  have hrec := s.granted_record k r b rest
  have hpool : (s.granted k r b rest).store.pool = s.store.pool := rfl
  have hg : (s.granted k r b rest).port.take = s.port.take ∧ (s.granted k r b rest).store.freeList = rest ∧
    (s.granted k r b rest).store.reserved = s.store.reserved.set k (s.store.reserved[k] - 1) := ⟨rfl, rfl, rfl⟩
  generalize s.granted k r b rest = v at hrec hpool hg ⊢
  obtain ⟨htake, hfree, hres⟩ := hg
  have hc : (v.record r).count = 64 * (s.record r).chain.length + 0 := by rw [hrec, Nat.add_zero]; exact hcount
  obtain ⟨hin, hout⟩ := State.writeChars_in_block (s := v) (r := r) (j := 0) chars (by rw [hrec]) (by omega)
    (by rw [PoolForm, hpool]; exact hp)
  obtain ⟨p, hw⟩ := State.writeChars_rest chars v r (v.record r).count
  rw [← hc] at hin hout
  have hcount' : (v.record r).count = (s.record r).count := by rw [hrec]
  unfold State.appendBlock
  simp only
  have hserves := State.textChanged_serves ((v.writeChars r (v.record r).count chars).modRecord r fun rec =>
    { rec with count := (v.record r).count + chars.length }) r (v.record r).count false
  obtain ⟨cs, e⟩ := hserves.record r
  have hwrec : (v.writeChars r (v.record r).count chars).record r = v.record r := by rw [hw]; rfl
  rw [State.modRecord_record_same, hwrec] at e
  have hchain : (v.record r).chain = (s.record r).chain ++ [b] := by rw [hrec]
  refine ⟨hserves.take.trans ?_, by rw [e, hcount'], by rw [e, hchain], hserves.freeList.trans ?_,
    hserves.reserved.trans ?_, ?_, ?_⟩
  · rw [State.modRecord_port, hw]; exact htake
  · rw [hw]; exact hfree
  · rw [hw]; exact hres
  · rw [hserves.pool]; exact hin
  · rw [hserves.pool, ← hpool]; exact hout

section
variable {s : State} {k : CtxIx} {tag : Tag} {c : Take} {r : RecIx} {chars : List Code}

theorem State.storeBlock_granted {b : BlockNo} {rest : List BlockNo} (ho : c.overrun = false)
    (hr : (s.record r).state ≠ .free) (hf : s.store.freeList = b :: rest)
    (hroom : 0 < s.store.reserved[k] ∨ s.store.admits (s.record r).cls 1 = true) :
    s.storeBlock k r c chars = (s.granted k r b rest).appendBlock r chars := by
  simp [State.storeBlock, ho, State.relayedBlock_granted hr hf hroom]

theorem State.storeBlock_refused (ho : c.overrun = false) (hk : s.store.reserved[k] = 0)
    (hroom : s.store.admits (s.record r).cls 1 = false) : s.storeBlock k r c chars = s.takeOverrun k r c := by
  simp [State.storeBlock, ho, State.relayedBlock_of_none hk, State.allocateBlock, hroom]

theorem State.storeBlock_overrun (ho : c.overrun = true) : s.storeBlock k r c chars = s := by
  simp [State.storeBlock, ho]

/-- The store refuses the block: record and context are marked and a notice is posted (R59, R119). -/
theorem State.takeOverrun_spec (hc : s.takeCtx k = some c) (hd : DeadCopiesServed s) :
    (s.takeOverrun k r c).takeCtx k = some { c with overrun := true } ∧
    (s.takeOverrun k r c).store = (s.modRecord r fun rec => { rec with overrun := true }).store ∧
    (s.takeOverrun k r c).sup.account = (s.sup.posted (.overrunHighway c.tag c.cls)).account := by
  unfold State.takeOverrun
  have hmark : (s.modRecord r fun rec => { rec with overrun := true }).takeCtx k = some c := hc
  obtain ⟨hsup, haccount, -⟩ := State.post_of_served ((s.modRecord r fun rec =>
    { rec with overrun := true }).modTake k fun t => { t with overrun := true }) (.overrunHighway c.tag c.cls) hd
  refine ⟨?_, ?_, haccount⟩
  · rw [State.takeCtx, hsup]
    exact State.modTake_takeCtx_same hmark _
  · rw [hsup]; rfl

end

/-- Settles O45: the block is granted and filled, or refused, or the overrun mark drops the text. -/
theorem textInSequenceIsStored : Obligations.TextInSequenceIsStored := by
  unfold Obligations.TextInSequenceIsStored
  rintro s bytes k tag c r seq chars htakes hslot hrecv hparse rfl hlast hpool hcount tally room
  have hexec := exec_textReceived_held htakes hslot hrecv.1 hparse
  rw [hrecv.takeText_in_sequence ((c.accepts_iff _).mpr ⟨rfl, hlast⟩)] at hexec
  obtain ⟨⟨hc, htag, -⟩, -, -, -, hstate⟩ := hrecv
  have hroom : room ↔ s.store.admits (s.record r).cls 1 = true := (s.store.admits_iff _ _).symm
  refine ⟨fun b rest ho hf hadmit => ?_, fun ho hk hfull hd => ?_, fun ho => ?_⟩
  · have hr : (s.record r).state ≠ .free := by rw [hstate]; decide
    rw [State.storeBlock_granted ho hr hf (hadmit.imp_right hroom.mp)] at hexec
    have h := State.appendBlock_stored k b rest (length_le_of_parse hparse) hpool hcount
    generalize (s.granted k r b rest).appendBlock r chars = v at hexec h
    have hctx : ∀ j, v.takeCtx j = s.takeCtx j := fun j => by rw [State.takeCtx, h.take]; rfl
    exact ⟨_, hexec, State.modTake_takeCtx_same ((hctx k).trans hc) _,
      fun j hj => (State.modTake_takeCtx_ne _ k _ hj).trans (hctx j), h.count, h.chain, h.freeList, h.reserved, h.inside,
      h.outside⟩
  · have hrefused : s.store.admits (s.record r).cls 1 = false := Bool.eq_false_iff.mpr (hfull ∘ hroom.mpr)
    rw [State.storeBlock_refused ho hk hrefused] at hexec
    obtain ⟨hctx, hstore, haccount⟩ := State.takeOverrun_spec (r := r) hc hd
    generalize s.takeOverrun k r c = v at hexec hctx hstore haccount
    refine ⟨_, hexec, State.modTake_takeCtx_same hctx _, ?_, ?_, ?_, by rw [← htag]; exact haccount⟩
    · show v.record r = _
      rw [State.record, hstore]
      exact s.modRecord_record_same r _
    · show v.store.freeList = _
      rw [hstore]; rfl
    · show v.store.pool = _
      rw [hstore]; rfl
  · rw [State.storeBlock_overrun ho] at hexec
    exact ⟨_, hexec, rfl, State.modTake_takeCtx_same hc _, fun j hj => s.modTake_takeCtx_ne k _ hj⟩

end Sys2Proof.Machine
end

section
namespace Sys2Proof.Machine

/-! ### A record ends (R61, R117, R140, R163) -/

theorem State.discardHead_printsOnly (s : State) : PrintsOnly s s.discardHead := by
  have hmark : PrintsOnly s (s.modSup fun u => { u with discarded := true }) := s.modSup_printsOnly _ rfl rfl rfl
  have htail := hmark.trans (State.supGoTail_printsOnly _ true)
  unfold State.discardHead
  split
  · exact hmark
  · exact hmark
  · exact hmark
  · simp only
    split
    · exact htail.trans (State.supLoadComposed_printsOnly _)
    · exact htail

/-- The head item is discarded where it is a dead copy of the record and was not discarded before (R163). -/
def State.headDiscarded (s : State) (r : RecIx) (g : Gen) : State :=
  match s.sup.queue with
  | head :: _ => if head.isOf r g && !s.sup.discarded then s.discardHead else s
  | [] => s

/-- The dead copies of the record behind the head item leave the supervisor queue (R163). -/
def Supervisor.dropDead (u : Supervisor) (r : RecIx) (g : Gen) : Supervisor :=
  match u.queue with
  | head :: rest => { u with queue := head :: rest.filter fun i => !i.isOf r g }
  | [] => u

theorem State.discardDead_eq (s : State) (r : RecIx) (g : Gen) : s.discardDead r g =
    ((s.modRouter fun q => { q with deadList := q.deadList.filter fun c => c.record ≠ r }).headDiscarded r g).modSup
      fun u => u.dropDead r g := rfl

theorem State.headDiscarded_printsOnly (s : State) (r : RecIx) (g : Gen) : PrintsOnly s (s.headDiscarded r g) := by
  unfold State.headDiscarded
  split
  · split
    · exact s.discardHead_printsOnly
    · exact .refl s
  · exact .refl s

theorem Supervisor.dropDead_length (u : Supervisor) (r : RecIx) (g : Gen) :
    (u.dropDead r g).queue.length ≤ u.queue.length := by
  unfold Supervisor.dropDead
  split
  · rename_i head rest hq
    rw [hq]
    exact Nat.succ_le_succ (List.length_filter_le _ rest)
  · exact le_rfl

/-- The discard of a record's dead copies: they leave the dead wait list and the supervisor queue, and nothing but
the supervisor unit and that list moves (R163). -/
theorem State.discardDead_spec (s : State) (r : RecIx) (g : Gen) : ∃ u,
    s.discardDead r g = { s with
      router := { s.router with deadList := s.router.deadList.filter fun c => c.record ≠ r }, sup := u } ∧
    u.queue.length ≤ s.sup.queue.length := by
  have hprint := State.headDiscarded_printsOnly
    (s.modRouter fun q => { q with deadList := q.deadList.filter fun c => c.record ≠ r }) r g
  rw [State.discardDead_eq]
  generalize State.headDiscarded _ r g = x at hprint ⊢
  have hqueue : x.sup.queue = s.sup.queue := congrArg Prod.fst hprint.account
  exact ⟨_, by rw [State.modSup, hprint.card]; rfl, hqueue ▸ x.sup.dropDead_length r g⟩

theorem State.discardDead_serves (s : State) (r : RecIx) (g : Gen) : Serves s (s.discardDead r g) := by
  obtain ⟨u, h, -⟩ := s.discardDead_spec r g
  rw [h]
  exact .of_store rfl rfl rfl

theorem State.withdrawCopy_cases (s : State) (ref : CopyRef) :
    s.withdrawCopy ref = s ∨ ∃ n, (s.copy ref).line = some n ∧ (s.copy ref).state = .queued ∧
      s.withdrawCopy ref = s.withdraw n ref := by
  unfold State.withdrawCopy
  split
  · rename_i n hn
    split
    · rename_i hq
      exact .inr ⟨n, hn, hq, rfl⟩
    · exact .inl rfl
  · exact .inl rfl

/-- Record `r`'s copy is taken off where it stands, before the record is freed (R61). -/
def State.copyTakenOff (s : State) (r : RecIx) : State :=
  (((s.withdrawCopy ⟨r, 0⟩).forgetCopy ⟨r, 0⟩).dropSendOf ⟨r, 0⟩).discardDead r (s.record r).gen

theorem State.discardRecord_eq (s : State) (r : RecIx) : s.discardRecord r =
    if (s.sendOf ⟨r, 0⟩).isSome then ((s.copyTakenOff r).freeRecord r).serveWaitList
    else (s.copyTakenOff r).freeRecord r := rfl

theorem State.copyTakenOff_store (s : State) (r : RecIx) : (s.copyTakenOff r).store = s.store := by
  have hdrop : ∀ u : State, (u.dropSendOf ⟨r, 0⟩).store = u.store := fun u => by
    unfold State.dropSendOf State.freeSend State.closeWindow State.endTenure State.refreshTenure
    repeat' split
    all_goals rfl
  obtain ⟨u, h, -⟩ := State.discardDead_spec (((s.withdrawCopy ⟨r, 0⟩).forgetCopy ⟨r, 0⟩).dropSendOf ⟨r, 0⟩) r
    (s.record r).gen
  rw [State.copyTakenOff, h]
  refine (hdrop _).trans ?_
  rcases s.withdrawCopy_cases ⟨r, 0⟩ with e | ⟨n, -, -, e⟩
  · rw [e]; rfl
  · rw [e]; exact (s.withdraw_onlyLine n ⟨r, 0⟩).store

theorem State.copyTakenOff_serves (s : State) (r : RecIx) : Serves s (s.copyTakenOff r) := by
  have hwithdraw : Serves s (s.withdrawCopy ⟨r, 0⟩) := by
    rcases s.withdrawCopy_cases ⟨r, 0⟩ with e | ⟨n, -, -, e⟩
    · rw [e]; exact .refl s
    · rw [e]; exact (s.withdraw_onlyLine n ⟨r, 0⟩).serves
  have hdrop : ∀ u : State, Serves u (u.dropSendOf ⟨r, 0⟩) := fun u => by
    unfold State.dropSendOf
    split
    · exact u.freeSend_serves _
    · exact .refl u
  exact hwithdraw.trans <| (State.modRouter_serves _ _).trans <| (hdrop _).trans (State.discardDead_serves _ r _)

theorem State.freeRecord_record (s : State) (r : RecIx) :
    (s.freeRecord r).record r = Record.cleared ((s.record r).gen + 1) := by
  rw [State.freeRecord, State.modRecord_record_same]; rfl

theorem State.freeRecord_takesKept (s : State) (r : RecIx) : TakesKept s (s.freeRecord r) :=
  ⟨rfl, rfl, rfl, rfl, rfl, rfl, rfl⟩

/-- A record that has ended stays so whatever readers and router do next. -/
theorem RecordEnded.trans {s t u : State} {r : RecIx} (h : RecordEnded s t r) (hu : Serves t u) : RecordEnded s u r := by
  obtain ⟨hfree, hcut⟩ := h
  obtain ⟨cs, e⟩ := hu.record r
  refine ⟨fun hc => ?_, fun hc => ?_⟩
  · obtain ⟨hstate, hgen, hchain, hcopies, hcount, hlist⟩ := hfree hc
    have hlen := hu.length r
    rw [hcopies] at hlen
    rw [hu.freeList]
    exact ⟨by rw [e]; exact hstate, by rw [e]; exact hgen, by rw [e]; exact hchain, List.length_eq_zero_iff.mp hlen,
      by rw [e]; exact hcount, hlist⟩
  · rw [hu.freeList, e]
    exact hcut hc

/-- A record that is cut short (R61). -/
def Record.cut (rec : Record) : Record := { rec with truncated := true, complete := true, state := .stored }

theorem State.cutShort_eq (s : State) (r : RecIx) :
    s.cutShort r = (s.modRecord r Record.cut).textChanged r (s.record r).count false := rfl

theorem State.modRecord_takesKept (s : State) (r : RecIx) (f : Record → Record) : TakesKept s (s.modRecord r f) :=
  ⟨rfl, rfl, rfl, rfl, rfl, rfl, rfl⟩

/-- The end of a record leaves the taking side of the card and frees the record or cuts it short (R61). -/
theorem State.endRecord_spec (s : State) (r : RecIx) : TakesKept s (s.endRecord r) ∧ RecordEnded s (s.endRecord r) r := by
  unfold State.endRecord
  split
  · rename_i hstarted
    have hserves := (s.modRecord r Record.cut).textChanged_serves r (s.record r).count false
    rw [State.cutShort_eq]
    refine ⟨(s.modRecord_takesKept r _).trans hserves.toTakesKept, RecordEnded.trans (t := s.modRecord r Record.cut)
      ⟨fun hc => ?_, fun _ => ?_⟩ hserves⟩
    · rw [hc] at hstarted
      cases hstarted
    · rw [State.modRecord_record_same]
      exact ⟨rfl, rfl, rfl, rfl, rfl, rfl⟩
  · rename_i hfresh
    have htaken := s.copyTakenOff_serves r
    have hstore := s.copyTakenOff_store r
    have hfreed : TakesKept s ((s.copyTakenOff r).freeRecord r) ∧ RecordEnded s ((s.copyTakenOff r).freeRecord r) r := by
      refine ⟨htaken.toTakesKept.trans (State.freeRecord_takesKept _ r), fun _ => ?_, fun hc => ?_⟩
      · have hrec : (s.copyTakenOff r).record r = s.record r := by rw [State.record, hstore]; rfl
        have hlist : ((s.copyTakenOff r).freeRecord r).store.freeList = s.store.freeList ++ (s.record r).chain := by
          show (s.copyTakenOff r).store.freeList ++ ((s.copyTakenOff r).record r).chain = _
          rw [hstore, hrec]
        rw [State.freeRecord_record, hrec]
        exact ⟨rfl, rfl, rfl, rfl, rfl, hlist⟩
      · exact absurd (Option.ne_none_iff_isSome.mp hc) hfresh
    rw [State.discardRecord_eq]
    split
    · have hwait : Serves _ ((s.copyTakenOff r).freeRecord r).serveWaitList := State.serveWaitMany_serves _ _
      exact ⟨hfreed.1.trans hwait.toTakesKept, hfreed.2.trans hwait⟩
    · exact hfreed

/-! ### A transfer ends (R106, R120, R122) -/

/-- Take context `k` stops receiving and owes a frame (R120, R122). -/
def State.answersWith (s : State) (k : CtxIx) (kind : TakeKind) : State :=
  (s.modTake k fun t => { t with stall := none, step := .answering }).askTake k kind

theorem State.abandonTake_eq (s : State) (k : CtxIx) (t : Take) (reason : Reason) : s.abandonTake k t reason =
    ((s.answersWith k (.abandon reason)).endTakeRecord k t).tellPlaces s := rfl

theorem State.spoilClose_eq (s : State) (k : CtxIx) (t : Take) : s.spoilClose k t =
    ((s.answersWith k .spoiled).endTakeRecord k t).tellPlaces s := rfl

theorem State.answersWith_store (s : State) (k : CtxIx) (kind : TakeKind) : (s.answersWith k kind).store = s.store := by
  unfold State.answersWith State.askTake State.refreshTenure
  split <;> rfl

theorem State.answersWith_takeCtx {s : State} {k : CtxIx} {c : Take} (h : s.takeCtx k = some c) (kind : TakeKind) :
    (s.answersWith k kind).takeCtx k = some
      { c with stall := none, step := .answering, pending := some ⟨kind, s.port.stamp⟩ } ∧
    ∀ j, j ≠ k → (s.answersWith k kind).takeCtx j = s.takeCtx j := by
  have hstop := State.modTake_takeCtx_same h fun t => { t with stall := none, step := .answering }
  have hrest := fun j hj => s.modTake_takeCtx_ne k (fun t => { t with stall := none, step := .answering }) (j := j) hj
  unfold State.answersWith State.askTake
  refine ⟨?_, fun j hj => ?_⟩
  · rw [(State.refreshTenure_serves _).takeCtx]
    exact State.modTake_takeCtx_same (s := (s.modTake k _).deaden (.take k)) hstop _
  · rw [(State.refreshTenure_serves _).takeCtx]
    exact (State.modTake_takeCtx_ne ((s.modTake k _).deaden (.take k)) k _ hj).trans (hrest j hj)

section
variable {s u : State} {k : CtxIx} {tag : Tag} {c : Take} {r : RecIx}

/-- The end of a received transfer, from a card that has only moved its port since `s`: the record ends, the
reservation is released, and nothing else of the taking side moves (R61, R47). -/
theorem Receives.endTakeRecord (h : Receives s k tag c r) (hu : u.store = s.store) :
    RecordEnded s (u.endTakeRecord k c) r ∧ TakesKept (u.releaseReservation k) (u.endTakeRecord k c) := by
  obtain ⟨-, -, hstep, hrec, hstate⟩ := h
  have heq : u.endTakeRecord k c = (u.releaseReservation k).endRecord r := by
    have hstate' : (u.record r).state = .taking := by rw [State.record, hu]; exact hstate
    simp [State.endTakeRecord, hrec, hstep, hstate']
  obtain ⟨hkept, hended⟩ := (u.releaseReservation k).endRecord_spec r
  have hrecord : (u.releaseReservation k).record r = s.record r := by
    show u.store.records[r] = _
    rw [hu]; rfl
  have hlist : (u.releaseReservation k).store.freeList = s.store.freeList := by
    show u.store.freeList = _
    rw [hu]
  rw [heq]
  refine ⟨?_, hkept⟩
  simpa only [RecordEnded, State.copy, hrecord, hlist] using hended

/-- The same with the places that fall free in the command told (R160, R163). -/
theorem Receives.transferEnds (h : Receives s k tag c r) (kind : TakeKind) :
    let t := ((s.answersWith k kind).endTakeRecord k c).tellPlaces s
    RecordEnded s t r ∧ t.store.reserved = s.store.reserved.set k 0 ∧
    t.takeCtx k = some { c with stall := none, step := .answering, pending := some ⟨kind, s.port.stamp⟩ } ∧
    (∀ j, j ≠ k → t.takeCtx j = s.takeCtx j) ∧ t.store.pool = s.store.pool := by
  have hstore := s.answersWith_store k kind
  obtain ⟨hctx, hothers⟩ := State.answersWith_takeCtx h.1.1 kind
  obtain ⟨hended, hkept⟩ := h.endTakeRecord hstore
  have hplaces := ((s.answersWith k kind).endTakeRecord k c).tellPlaces_serves s
  have htold := hkept.trans hplaces.toTakesKept
  refine ⟨hended.trans hplaces, htold.reserved.trans ?_, (htold.takeCtx k).trans hctx,
    fun j hj => (htold.takeCtx j).trans (hothers j hj), htold.pool.trans ?_⟩
  · show (s.answersWith k kind).store.reserved.set k 0 = _
    rw [hstore]
  · show (s.answersWith k kind).store.pool = _
    rw [hstore]

end

theorem Receives.takeClose_spoiled {s : State} {k : CtxIx} {tag : Tag} {c : Take} {r : RecIx} (h : Receives s k tag c r)
    {total check : Nat} (hne : total ≠ c.received ∨ check ≠ c.check) (o t : Bool) (m : Nat) :
    s.takeClose k c total check o t m = s.spoilClose k c := by
  obtain ⟨-, hphase, hstep, hrec, -⟩ := h
  have hno : ¬(total = c.received ∧ check = c.check) := by tauto
  simp only [State.takeClose, hphase, hstep, hrec, if_neg hno]

/-! ### Ended takes and answers (R88, R89) -/

theorem State.addEnded_spec (s : State) (tag : Tag) (cls : Precedence) : EndedAdded s (s.addEnded tag cls) tag cls := by
  unfold State.addEnded
  refine ⟨fun ⟨e, he, ht⟩ => ?_, fun hno => ?_⟩
  · rw [if_pos (List.any_eq_true.mpr ⟨e, he, decide_eq_true ht⟩)]
  · rw [if_neg fun h => ?_]
    · rfl
    · obtain ⟨e, he, ht⟩ := List.any_eq_true.mp h
      exact hno e he (of_decide_eq_true ht)

theorem State.addEnded_rest (s : State) (tag : Tag) (cls : Precedence) :
    ∃ l, s.addEnded tag cls = { s with port := { s.port with ended := l } } := by
  unfold State.addEnded
  split
  · exact ⟨_, rfl⟩
  · exact ⟨_, rfl⟩

theorem State.addAnswer_spec (s : State) (tag : Tag) (reason : Reason) (cls : Precedence) :
    AnswerAdded s (s.addAnswer tag reason cls) tag reason cls := by
  have htest : ((s.port.answers.any fun a => a.tag = tag ∧ a.reason = reason)
      || Config.portListMax ≤ s.port.answers.length) = true ↔
      (∃ a ∈ s.port.answers, a.tag = tag ∧ a.reason = reason) ∨ 8 ≤ s.port.answers.length := by
    simp only [Bool.or_eq_true, List.any_eq_true, decide_eq_true_iff]
    rfl
  unfold State.addAnswer
  refine ⟨fun h => if_pos (htest.mpr h), fun h => ?_⟩
  rw [if_neg (h ∘ htest.mp)]
  unfold State.refreshTenure
  split
  · exact ⟨rfl, rfl, rfl, rfl, rfl, rfl, rfl, rfl, rfl⟩
  · exact ⟨rfl, rfl, rfl, rfl, rfl, rfl, rfl, rfl, rfl⟩

/-- The first entry of a tag on the ended-take list (R88). -/
theorem State.textEnded_of_entry {s : State} {tag : Tag} {before after : List Ended} {e : Ended}
    (h : s.port.ended = before ++ e :: after) (he : e.tag = tag) (hb : ∀ e' ∈ before, e'.tag ≠ tag) :
    s.textEnded tag = s.addAnswer tag .noTransfer e.cls := by
  have hfind : s.port.ended.find? (fun e => e.tag = tag) = some e :=
    List.find?_eq_some_iff_append.mpr ⟨decide_eq_true he, before, after, h, fun a ha => by simpa using hb a ha⟩
  rw [State.textEnded, hfind]

theorem State.textEnded_of_none {s : State} {tag : Tag} (h : ∀ e ∈ s.port.ended, e.tag ≠ tag) : s.textEnded tag = s := by
  have hfind : s.port.ended.find? (fun e => e.tag = tag) = none := List.find?_eq_none.mpr fun e he => by simpa using h e he
  rw [State.textEnded, hfind]

theorem State.freeTake_takeCtx (s : State) (k : CtxIx) :
    (s.freeTake k).takeCtx k = none ∧ ∀ j, j ≠ k → (s.freeTake k).takeCtx j = s.takeCtx j := by
  unfold State.freeTake
  refine ⟨?_, fun j hj => ?_⟩
  · rw [(State.refreshTenure_serves _).takeCtx]
    exact State.setTake_takeCtx_same _ k none
  · rw [(State.refreshTenure_serves _).takeCtx]
    exact State.setTake_takeCtx_ne _ k j none hj

theorem State.freeTake_store (s : State) (k : CtxIx) : (s.freeTake k).store = s.store := by
  unfold State.freeTake State.refreshTenure
  split <;> rfl

theorem State.freeTake_ended (s : State) (k : CtxIx) : (s.freeTake k).port.ended = s.port.ended := by
  unfold State.freeTake
  rw [(State.refreshTenure_serves _).ended]
  rfl

/-- The copy is given up: the record ends and the context is FREE, its tag on the ended-take list (R106, R88). -/
theorem Receives.givesUp {s : State} {k : CtxIx} {tag : Tag} {c : Take} {r : RecIx} (h : Receives s k tag c r) :
    let t := s.giveUpTake k c
    RecordEnded s t r ∧ t.store.reserved = s.store.reserved.set k 0 ∧ t.takeCtx k = none ∧
    (∀ j, j ≠ k → t.takeCtx j = s.takeCtx j) ∧ EndedAdded s t c.tag c.cls ∧ t.store.pool = s.store.pool := by
  obtain ⟨hended, hkept⟩ := h.endTakeRecord (u := s) rfl
  unfold State.giveUpTake
  generalize s.endTakeRecord k c = v at hended hkept ⊢
  obtain ⟨hfree, hothers⟩ := v.freeTake_takeCtx k
  have hstore := v.freeTake_store k
  have hlist := (v.freeTake_ended k).trans hkept.ended
  generalize v.freeTake k = w at hfree hothers hstore hlist ⊢
  have hadd := w.addEnded_spec c.tag c.cls
  obtain ⟨l, hl⟩ := w.addEnded_rest c.tag c.cls
  have hplaces := (w.addEnded c.tag c.cls).tellPlaces_serves s
  have hstore' : (w.addEnded c.tag c.cls).store = v.store := by rw [hl]; exact hstore
  have hctx : ∀ j, (w.addEnded c.tag c.cls).takeCtx j = w.takeCtx j := fun j => by rw [hl]; rfl
  have hended' : RecordEnded s (w.addEnded c.tag c.cls) r := by
    simpa only [RecordEnded, State.record, hstore'] using hended
  refine ⟨hended'.trans hplaces, ?_, ?_, fun j hj => ?_, ?_, ?_⟩
  · exact hplaces.reserved.trans ((congrArg Store.reserved hstore').trans hkept.reserved)
  · exact (hplaces.takeCtx k).trans ((hctx k).trans hfree)
  · exact (hplaces.takeCtx j).trans ((hctx j).trans ((hothers j hj).trans (hkept.takeCtx j)))
  · have hw : w.port.ended = s.port.ended := hlist
    rw [EndedAdded, hw] at hadd
    simpa only [EndedAdded, hplaces.ended] using hadd
  · exact hplaces.pool.trans ((congrArg Store.pool hstore').trans hkept.pool)

/-- A stall timer that runs out (R120). -/
theorem exec_stallTimerExpiry {s : State} {k : CtxIx} {c : Take} (hr : s.running = true) (hc : s.takeCtx k = some c)
    (hs : c.stall ≠ none) : exec (.stallTimerExpiry k) s = .next (s.abandonTake k c .stall) := by
  show execStallTimerExpiry k s = _
  simp [execStallTimerExpiry, hc, hr, Option.isSome_iff_ne_none.mpr hs]

/-- Settles O46: each end without acceptance ends the record; an unheld tag is answered by its ended-take entry. -/
theorem unacceptedTransferEndsItsRecord : Obligations.UnacceptedTransferEndsItsRecord := by
  unfold Obligations.UnacceptedTransferEndsItsRecord
  refine ⟨fun s bytes k tag c r htakes hslot hrecv => ⟨fun i kind hi => ?_, fun reason ho hp => ?_⟩,
    fun s bytes tag htakes hslot => ⟨fun seq chars hp hno => ⟨fun before e after hlist he hb => ?_, fun hnone => ?_⟩,
      fun k c hk hphase hstep => ⟨fun seq chars hp => ?_, fun total check o t m hp => ?_⟩⟩⟩
  · rcases hi with ⟨seq, chars, rfl, hp, hout, rfl⟩ | ⟨rfl, hs, rfl⟩ | ⟨total, check, o, t, m, rfl, hp, hne, rfl⟩
    · have hrefuse : c.accepts seq = false := Bool.eq_false_iff.mpr fun h => by
        have := (c.accepts_iff seq).mp h
        tauto
      refine ⟨_, ?_, hrecv.transferEnds (.abandon .order)⟩
      rw [exec_textReceived_held htakes hslot hrecv.1 hp, hrecv.takeText_out_of_sequence hrefuse, State.abandonTake_eq]
    · refine ⟨_, ?_, hrecv.transferEnds (.abandon .stall)⟩
      rw [exec_stallTimerExpiry htakes.1 hrecv.1.1 hs, State.abandonTake_eq]
    · refine ⟨_, ?_, hrecv.transferEnds .spoiled⟩
      rw [exec_closeReceived_held htakes hslot hrecv.1 hp, hrecv.takeClose_spoiled hne, State.spoilClose_eq]
  · have hgives := hrecv.givesUp
    rw [hrecv.1.2.1] at hgives
    exact ⟨_, exec_abandonOriginReceived_held htakes hslot hrecv.1 hrecv.2.1 ho hp, hgives⟩
  · refine ⟨_, exec_textReceived htakes hslot hp, ?_⟩
    rw [State.hearText, State.takeOf_of_none hno]
    simp only [State.textEnded_of_entry hlist he hb]
    exact s.addAnswer_spec tag .noTransfer e.cls
  · rw [exec_textReceived htakes hslot hp, State.hearText, State.takeOf_of_none hno]
    simp only [State.textEnded_of_none hnone]
  · rw [exec_textReceived_held htakes hslot hk hp]
    simp [State.takeText, hphase, hstep]
  · rw [exec_closeReceived_held htakes hslot hk hp]
    simp [State.takeClose, hphase, hstep]

end Sys2Proof.Machine
end

section
namespace Sys2Proof.Machine

/-! ### What a line holds, and how a copy starts there (R126, R128 to R131) -/

/-- The queue, the stack, the current copy and the channel counter of a scheduler. -/
def Sched.holds (sc : Sched) : List QEntry × List QEntry × Option QEntry × Nat :=
  (sc.queue, sc.stack, sc.current, sc.counter)

theorem State.loadNextComposed_holds (s : State) (n : Line) :
    ((s.loadNextComposed n).line n).sched.holds = (s.line n).sched.holds := by
  unfold State.loadNextComposed
  split
  · simp [Sched.holds, State.loadChar]
  · rfl

theorem State.serveHead_holds (s : State) (n : Line) : ((s.serveHead n).line n).sched.holds = (s.line n).sched.holds := by
  have h := s.loadNextComposed_holds n
  unfold State.serveHead
  simp only
  split
  · rw [State.modSched_line_same]; exact h
  · exact h

theorem State.serveText_holds (s : State) (n : Line) (ref : CopyRef) :
    ((s.serveText n ref).line n).sched.holds = (s.line n).sched.holds := by
  unfold State.serveText
  simp only
  split
  · simp [Sched.holds, State.loadChar]
  · split
    · rw [State.loadNextComposed_holds, State.enterTail, State.modSched_line_same]; rfl
    · rw [State.modSched_line_same]; rfl

theorem State.serveLine_holds (s : State) (n : Line) : ((s.serveLine n).line n).sched.holds = (s.line n).sched.holds := by
  unfold State.serveLine
  split
  · rfl
  · split
    · rfl
    · split
      · exact s.serveHead_holds n
      · exact s.serveText_holds n _
      · exact s.loadNextComposed_holds n
      · exact s.loadNextComposed_holds n

theorem State.beginInterruption_holds (s : State) (n : Line) :
    ((s.beginInterruption n).line n).sched.holds = (s.line n).sched.holds := by
  rw [State.beginInterruption, State.serveLine_holds]
  simp [Sched.holds]

theorem State.preemptTest_holds (s : State) (n : Line) :
    ((s.preemptTest n).line n).sched.holds = (s.line n).sched.holds := by
  unfold State.preemptTest
  simp only
  split
  · rfl
  · split
    · split
      · exact s.beginInterruption_holds n
      · split
        · rw [State.modSched_line_same]; rfl
        · rfl
    · rfl

theorem State.preemptTest_loadsOnly (s : State) (n : Line) : LoadsOnly n s (s.preemptTest n) := by
  unfold State.preemptTest
  simp only
  split
  · exact .refl n s
  · split
    · split
      · exact (s.modSched_loadsOnly n _).trans <| (State.modTx_loadsOnly _ n none).trans (State.serveLine_loadsOnly _ n)
      · split
        · exact s.modSched_loadsOnly n _
        · exact .refl n s
    · exact .refl n s

/-- A copy after a change of it: one that is not there does not appear. -/
theorem State.modCopy_copy_same (s : State) (ref : CopyRef) (f : Copy → Copy) :
    (s.modCopy ref f).copy ref = s.copy ref ∧ (∀ c, ¬CopyIs s ref c) ∨
    (s.modCopy ref f).copy ref = f (s.copy ref) := by
  cases h : (s.record ref.record).copies[ref.ix.val]? with
  | none =>
    refine .inl ⟨?_, fun c hc => by rw [CopyIs, h] at hc; cases hc⟩
    simp [State.copy, Record.copy, State.modCopy_record, h]
  | some c =>
    have hc : CopyIs s ref c := h
    exact .inr (by rw [State.copyIs_copy (hc.modCopy f), State.copyIs_copy hc])

/-- Entry `e` has started on line `n`, FRESH or RESUME: it is the current copy, and its copy alone has moved: SENDING,
with a channel number (R130, R131). -/
structure Started (n : Line) (e : QEntry) (s t : State) : Prop where
  sends : SendsOnly n s t
  kept : CopiesKept s t
  current : (t.line n).sched.current = some e
  queue : (t.line n).sched.queue = (s.line n).sched.queue
  stack : (t.line n).sched.stack = (s.line n).sched.stack
  others : ∀ ref, ref ≠ e.copy → t.copy ref = s.copy ref
  copy : ∀ x, CopyIs s e.copy x → ∃ resume, (resume = none ∨ resume = x.resume) ∧ CopyIs t e.copy
    { x with state := if x.state = .settled then .settled else .sending, resume := resume,
             channel := some (x.channel.getD (s.line n).sched.counter) }

theorem CopyIs.of_length {s : State} {ref : CopyRef} : (∃ x, CopyIs s ref x) ↔
    ref.ix.val < (s.record ref.record).copies.length := by
  simp [CopyIs, List.getElem?_eq_some_iff]

theorem CopyIs.of_kept {s t : State} (h : CopiesKept s t) {ref : CopyRef} :
    (∃ x, CopyIs t ref x) ↔ ∃ x, CopyIs s ref x := by
  obtain ⟨cs, e, hm, -⟩ := h ref.record
  rw [CopyIs.of_length, CopyIs.of_length, e]
  simpa using congrArg (fun l => ref.ix.val < List.length l) hm

theorem State.setCopyState_copyIs {s : State} {ref : CopyRef} {c : Copy} (h : CopyIs s ref c) (st : CopyState) :
    CopyIs (s.setCopyState ref st) ref { c with state := if c.state = .settled then .settled else st } :=
  h.modCopy _

theorem State.numberCopy_copy_ne (s : State) (n : Line) (ref other : CopyRef) (h : other ≠ ref) :
    (s.numberCopy n ref).copy other = s.copy other := by
  unfold State.numberCopy
  split
  · rfl
  · exact s.modCopy_copy_ne ref other _ h

theorem State.numberCopy_sched (s : State) (n : Line) (ref : CopyRef) :
    ∃ k, ((s.numberCopy n ref).line n).sched = { (s.line n).sched with counter := k } := by
  unfold State.numberCopy
  split
  · exact ⟨_, rfl⟩
  · exact ⟨_, by rw [State.modSched_line_same]; rfl⟩

/-- The end of a start: the scheduler's items are set and the transmitter asks for its first character (R130). -/
theorem State.started_serveLine (s : State) (n : Line) (e : QEntry) (kind : StartKind) (at_ : TextPoint)
    (head : List Composed) (k : Option Case) {t : State}
    (ht : t = ((s.modSched n fun sc => sc.started e kind at_ head).modTx n fun t => { t with textCase := k }).serveLine n) :
    (∀ r, t.record r = s.record r) ∧ (t.line n).sched.current = some e ∧
      (t.line n).sched.queue = (s.line n).sched.queue ∧ (t.line n).sched.stack = (s.line n).sched.stack := by
  subst ht
  generalize hv : (s.modSched n fun sc => sc.started e kind at_ head).modTx n (fun t => { t with textCase := k }) = v
  have hsched : (v.line n).sched = (s.line n).sched.started e kind at_ head := by rw [← hv]; simp
  have hholds := v.serveLine_holds n
  rw [hsched] at hholds
  simp only [Sched.holds, Sched.started, Prod.mk.injEq] at hholds
  obtain ⟨hq, hs, hc, -⟩ := hholds
  exact ⟨fun r => ((v.serveLine_loadsOnly n).onlyLine.record r).trans (by rw [← hv]; rfl), hc, hq, hs⟩

/-- A copy numbered and SENDING, and the rest of the start (R130, R131): what FRESH and RESUME have in common. -/
theorem Started.of_numbered {s t v : State} {n : Line} {e : QEntry} (sends : SendsOnly n s t)
    (kept : CopiesKept s t)
    (hv : v = (s.numberCopy n e.copy).setCopyState e.copy .sending)
    (hlines : (t.line n).sched.current = some e ∧ (t.line n).sched.queue = (v.line n).sched.queue ∧
      (t.line n).sched.stack = (v.line n).sched.stack)
    (hothers : ∀ ref, ref ≠ e.copy → t.copy ref = v.copy ref)
    (hcopy : ∀ x, CopyIs v e.copy x → ∃ resume, (resume = none ∨ resume = x.resume) ∧
      CopyIs t e.copy { x with resume := resume }) : Started n e s t := by
  obtain ⟨hc, hq, hs⟩ := hlines
  obtain ⟨k, hk⟩ := s.numberCopy_sched n e.copy
  have hsched : (v.line n).sched = { (s.line n).sched with counter := k } := by rw [hv]; exact hk
  refine ⟨sends, kept, hc, by rw [hq, hsched], by rw [hs, hsched], fun ref hne => ?_, fun x hx => ?_⟩
  · rw [hothers ref hne, hv, State.setCopyState, State.modCopy_copy_ne _ _ _ _ hne, s.numberCopy_copy_ne n _ _ hne]
  · obtain ⟨resume, hr, ht⟩ := hcopy _ (hv ▸ State.setCopyState_copyIs (State.numberCopy_spec (n := n) hx).1 .sending)
    exact ⟨resume, hr, ht⟩

theorem State.startFresh_started (s : State) (n : Line) (e : QEntry) : Started n e s (s.startFresh n e) := by
  generalize hv : (s.numberCopy n e.copy).setCopyState e.copy .sending = v
  obtain ⟨hrec, hline⟩ := v.started_serveLine n e .fresh ⟨0, .letters⟩
    (v.freshHead n ((v.copy e.copy).channel.getD 0)) (some .letters) (t := s.startFresh n e) (by rw [State.startFresh, hv])
  refine .of_numbered (s.startFresh_sendsOnly n e) (s.startFresh_copiesKept n e) hv.symm hline
    (fun ref _ => ?_) fun x hx => ⟨x.resume, .inr rfl, ?_⟩
  · rw [State.copy, hrec, State.copy]
  · rw [CopyIs, hrec]; exact hx

theorem State.startResume_started (s : State) (n : Line) (e : QEntry) : Started n e s (s.startResume n e) := by
  generalize hv : (s.numberCopy n e.copy).setCopyState e.copy .sending = v
  generalize hw : v.modCopy e.copy (fun c => { c with resume := none }) = w
  obtain ⟨hrec, hline⟩ := w.started_serveLine n e .resume ((v.copy e.copy).resume.getD ⟨0, .letters⟩)
    (w.resumeHead n ((w.copy e.copy).channel.getD 0) ((v.copy e.copy).resume.getD ⟨0, .letters⟩).case)
    (some ((v.copy e.copy).resume.getD ⟨0, .letters⟩).case)
    (t := s.startResume n e) (by simp only [State.startResume, hv, hw])
  have hsched : (w.line n).sched = (v.line n).sched := by rw [← hw]; rfl
  rw [hsched] at hline
  refine .of_numbered (s.startResume_sendsOnly n e) (s.startResume_copiesKept n e) hv.symm hline
    (fun ref hne => ?_) fun x hx => ⟨none, .inl rfl, ?_⟩
  · rw [State.copy, hrec, ← hw]; exact v.modCopy_copy_ne e.copy ref _ hne
  · rw [CopyIs, hrec, ← hw]; exact hx.modCopy _

theorem Started.copyIs_ne {n : Line} {e : QEntry} {s t : State} (h : Started n e s t) {ref : CopyRef} {x : Copy}
    (hne : ref ≠ e.copy) (hx : CopyIs s ref x) : CopyIs t ref x := by
  obtain ⟨y, hy⟩ := (CopyIs.of_kept h.kept).mpr ⟨x, hx⟩
  rwa [← State.copyIs_copy hx, ← h.others ref hne, State.copyIs_copy hy]

/-- The choice of R129 starts nothing, or the queue's entry it finds FRESH, or the top of the stack RESUME. -/
theorem State.choose_cases (s : State) (n : Line) :
    s.choose n = s ∨
    (∃ e ∈ (s.line n).sched.queue,
      Started n e (s.modSched n fun sc => { sc with queue := sc.queue.erase e }) (s.choose n)) ∨
    ∃ e rest, (s.line n).sched.stack = e :: rest ∧
      Started n e (s.modSched n fun sc => { sc with stack := rest }) (s.choose n) := by
  unfold State.choose
  split
  · simp only
    split
    · exact .inl rfl
    · next e hfind _ => exact .inr (.inl ⟨e, List.mem_of_find?_eq_some hfind, State.startFresh_started _ n e⟩)
    · next top rest _ hst => exact .inr (.inr ⟨top, rest, hst, State.startResume_started _ n top⟩)
    · next e top rest hfind hst =>
      split
      · exact .inr (.inl ⟨e, List.mem_of_find?_eq_some hfind, State.startFresh_started _ n e⟩)
      · exact .inr (.inr ⟨top, rest, hst, State.startResume_started _ n top⟩)
  · exact .inl rfl

end Sys2Proof.Machine
end

section
namespace Sys2Proof.Machine

/-! ### A copy on a line's queue (R126, R128, R129) -/

theorem State.insertEntry_perm (s : State) (e : QEntry) (q : List QEntry) : (s.insertEntry e q).Perm (e :: q) := by
  induction q with
  | nil => exact .refl _
  | cons x xs ih =>
    unfold State.insertEntry
    split
    · exact (ih.cons x).trans (.swap e x xs)
    · exact .refl _

/-- The enqueue, as the choice of R129 made on a state in which the entry stands on the queue, QUEUED. -/
theorem State.enqueue_eq_choose (s : State) (n : Line) (ref : CopyRef) : ∃ v : State, s.enqueue n ref = v.choose n ∧
    (∀ r, v.record r = (s.setCopyState ref .queued).record r) ∧
    (v.line n).sched.holds =
      (s.insertEntry ⟨ref, s.lead n ref⟩ (s.line n).sched.queue, (s.line n).sched.stack, (s.line n).sched.current,
        (s.line n).sched.counter) := by
  generalize hv : ((s.modSched n fun sc => { sc with queue := s.insertEntry ⟨ref, s.lead n ref⟩ sc.queue }).setCopyState ref
    .queued).motorEnqueue n = v
  have henq : s.enqueue n ref = if v.ready ⟨ref, s.lead n ref⟩ then (v.preemptTest n).choose n else v.choose n := by
    rw [← hv]; rfl
  have hrec : ∀ r, v.record r = (s.setCopyState ref .queued).record r := fun r => by rw [← hv]; rfl
  have hholds : (v.line n).sched.holds = (s.insertEntry ⟨ref, s.lead n ref⟩ (s.line n).sched.queue,
      (s.line n).sched.stack, (s.line n).sched.current, (s.line n).sched.counter) := by
    rw [← hv]
    simp [State.motorEnqueue, Sched.holds]
  rw [henq]
  split
  · exact ⟨_, rfl, fun r => ((v.preemptTest_loadsOnly n).onlyLine.record r).trans (hrec r),
      (v.preemptTest_holds n).trans hholds⟩
  · exact ⟨v, rfl, hrec, hholds⟩

/-- What the choice of R129 means for a copy that waits on the line's queue: it goes on waiting, or it has started. -/
theorem State.choose_of_queued {v : State} {n : Line} {ref : CopyRef} {x : Copy} {lead : Nat} (hx : CopyIs v ref x)
    (hq : x.state = .queued) (hmem : ⟨ref, lead⟩ ∈ (v.line n).sched.queue) :
    StandsOn (v.choose n) n ref ∧ (CopyIs (v.choose n) ref x ∨ ∃ resume, (resume = none ∨ resume = x.resume) ∧
      CopyIs (v.choose n) ref
        { x with state := .sending, resume := resume, channel := some (x.channel.getD (v.line n).sched.counter) }) := by
  have waits : ∀ {t : State}, CopyIs t ref x → ⟨ref, lead⟩ ∈ (t.line n).sched.queue → StandsOn t n ref :=
    fun ht hm => .inl ⟨by rw [State.copyIs_copy ht, hq], _, hm, rfl⟩
  have started : ∀ {e : QEntry} {f : Sched → Sched} {t : State}, Started n e (v.modSched n f) t →
      (f (v.line n).sched).counter = (v.line n).sched.counter →
      (ref ≠ e.copy → ⟨ref, lead⟩ ∈ (f (v.line n).sched).queue) → StandsOn t n ref ∧ (CopyIs t ref x ∨
        ∃ resume, (resume = none ∨ resume = x.resume) ∧ CopyIs t ref
          { x with state := .sending, resume := resume, channel := some (x.channel.getD (v.line n).sched.counter) }) := by
    intro e f t hst hcounter hqueue
    by_cases hne : ref = e.copy
    · subst hne
      obtain ⟨resume, hr, hcopy⟩ := hst.copy x hx
      rw [if_neg (by rw [hq]; decide), State.modSched_line_same, hcounter] at hcopy
      exact ⟨.inr ⟨by rw [State.copyIs_copy hcopy], e, hst.current, rfl⟩, .inr ⟨resume, hr, hcopy⟩⟩
    · have hc := hst.copyIs_ne hne hx
      refine ⟨waits hc ?_, .inl hc⟩
      rw [hst.queue, State.modSched_line_same]
      exact hqueue hne
  rcases v.choose_cases n with he | ⟨e, -, hst⟩ | ⟨e, rest, -, hst⟩
  · rw [he]
    exact ⟨waits hx hmem, .inl hx⟩
  · exact started hst rfl fun hne => (List.mem_erase_of_ne fun h => hne (congrArg QEntry.copy h)).mpr hmem
  · exact started hst rfl fun _ => hmem

/-- A copy that has just joined a line's queue is QUEUED there, or has started: then it is the current copy, SENDING,
with a channel number (R126, R130, R131). -/
theorem State.enqueue_stands {s : State} {n : Line} {ref : CopyRef} {x : Copy} (hx : CopyIs s ref x)
    (hs : x.state ≠ .settled) :
    StandsOn (s.enqueue n ref) n ref ∧
    (CopyIs (s.enqueue n ref) ref { x with state := .queued } ∨
      ∃ resume, (resume = none ∨ resume = x.resume) ∧ CopyIs (s.enqueue n ref) ref
        { x with state := .sending, resume := resume, channel := some (x.channel.getD (s.line n).sched.counter) }) := by
  obtain ⟨v, henq, hrec, hholds⟩ := s.enqueue_eq_choose n ref
  simp only [Sched.holds, Prod.mk.injEq] at hholds
  obtain ⟨hqueue, -, -, hcounter⟩ := hholds
  have hq : CopyIs v ref { x with state := .queued } := by rw [CopyIs, hrec]; exact hx.setCopyState hs .queued
  rw [henq, ← hcounter]
  exact State.choose_of_queued hq rfl (lead := s.lead n ref)
    (by rw [hqueue, (s.insertEntry_perm _ _).mem_iff]; exact List.mem_cons_self ..)

/-! ### A copy offered on the highway (R69, R71) -/

/-- A request for an OFFER, which no window lets go at once (R83, R87). -/
theorem State.askSend_offer (s : State) (k : CtxIx) : s.askSend k .offer =
    (((s.deaden (.send k)).modSend k fun c => { c with pending := some ⟨.offer, s.port.stamp⟩ }).nextStamp).refreshTenure := by
  simp only [State.askSend, State.windowAllows, Bool.and_false, Bool.false_eq_true, if_false]

theorem State.refreshTenure_keeps (s : State) : ∃ x, s.refreshTenure = { s with port := { s.port with tenure := x } } := by
  unfold State.refreshTenure
  split <;> exact ⟨_, rfl⟩

/-- The port with the OFFER of a copy pending in send context `k`, before its tenure is told (R69, R83). -/
def Port.asksOffer (p : Port) (k : CtxIx) (ref : CopyRef) : Port :=
  { p with
    send := p.send.set k (some { Send.begun ref with pending := some ⟨.offer, p.stamp⟩ })
    stamp := p.stamp + 1
    driven := p.driven.map fun d => if d.source = .send k then { d with live := false } else d }

/-- A send context is given to a copy (R69, R83, R96). -/
theorem State.giveSend_asks (s : State) (k : CtxIx) (ref : CopyRef) : s.giveSend k ref =
    State.refreshTenure { s.setCopyState ref .backoff with port := s.port.asksOffer k ref } := by
  rw [State.giveSend, State.askOffer, State.setSend_sendCtx_same]
  simp only [State.askSend_offer]
  refine congrArg State.refreshTenure ?_
  simp [State.modSend, State.setSend, State.setCopyState, State.modCopy, State.modRecord, State.modStore, State.deaden,
    State.nextStamp, State.modPort, State.sendCtx, Send.begun, Port.asksOffer]

/-- A request for an OFFER touches the frame that is being driven only where it is of this context (R79). -/
theorem State.giveSend_driven (s : State) (k : CtxIx) (ref : CopyRef) :
    (s.giveSend k ref).port.driven = (s.deaden (.send k)).port.driven := by
  rw [State.giveSend_asks, State.refreshTenure]
  split <;> rfl

/-- A copy placed on the highway: its OFFER is pending in a send context, or it waits for one (R69, R71). -/
structure Placed (ref : CopyRef) (x : Copy) (s t : State) : Prop where
  copy : ∃ a, (a = 1 ∨ a = x.attempt) ∧ CopyIs t ref { x with state := .backoff, attempt := a }
  place : (∃ j, OffersCopy t j ref) ∨ ref ∈ t.router.waitList
  lines : t.lines = s.lines
  driven : s.port.driven = none → t.port.driven = none

theorem State.waitForContext_placed {s : State} {ref : CopyRef} {x : Copy} (hx : CopyIs s ref x)
    (hs : x.state ≠ .settled) : Placed ref x s (s.waitForContext ref) := by
  refine ⟨⟨x.attempt, .inr rfl, hx.setCopyState hs .backoff⟩, .inr ?_, rfl, id⟩
  show ref ∈ if s.router.waitList.contains ref then s.router.waitList else s.router.waitList ++ [ref]
  split
  · next h => simpa using h
  · simp

theorem State.startSeries_placed {s : State} {ref : CopyRef} {x : Copy} (hx : CopyIs s ref x) (hs : x.state ≠ .settled)
    (hi : x.station ≠ interceptCode) (k : CtxIx) : Placed ref x s (s.startSeries k ref) := by
  have hfirst : s.firstAttempt ref = 1 := by simp [State.firstAttempt, State.isIntercept, State.copyIs_copy hx, hi]
  obtain ⟨p, stamp, hgive, -, hsend⟩ := (s.modCopy ref fun c => { c with attempt := 1 }).giveSend_eq k ref
  have hdriven := (s.modCopy ref fun c => { c with attempt := 1 }).giveSend_driven k ref
  rw [State.startSeries, hfirst]
  refine ⟨⟨1, .inl rfl, ?_⟩, .inl ⟨k, stamp, ?_⟩, by rw [hgive]; rfl, fun hd => hdriven.trans ?_⟩
  · rw [hgive]
    exact (hx.modCopy _).setCopyState hs .backoff
  · rw [hgive, State.sendCtx, hsend]
    simp [Send.begun]
  · show s.port.driven.map _ = none
    rw [hd]
    rfl

theorem State.offerCopy_placed {s : State} {ref : CopyRef} {x : Copy} (hx : CopyIs s ref x) (hs : x.state ≠ .settled)
    (hi : x.station ≠ interceptCode) : Placed ref x s (s.offerCopy ref) := by
  unfold State.offerCopy
  split
  · split
    · exact State.startSeries_placed hx hs hi _
    · exact State.waitForContext_placed hx hs
  · exact State.waitForContext_placed hx hs

end Sys2Proof.Machine
end

section
namespace Sys2Proof.Machine

/-! ### A CLAIM driven to its end (R102, R118) -/

theorem exec_claimSent {s : State} {d : Driven} {k : CtxIx} (hd : Drives s d) (hf : d.frame.isClaim = true)
    (hs : d.source = .take k) (hl : d.live = true) :
    exec .claimSent s = .next ((s.undrive.claimReported k).endTenure) := by
  obtain ⟨hrun, hdriven⟩ := hd
  have hdriving : s.driving Frame.isClaim = some d := by simp [State.driving, hdriven, hrun, hf]
  show execClaimSent s = _
  simp only [execClaimSent, hdriving, hs, hl]

/-- The highway is let go as a tenure ends with nothing driven (R86). -/
theorem State.endTenure_letsGo {s : State} (h : s.port.driven = none) : LetsGo s.endTenure := by
  have hrefresh : s.endTenure = s.modPort fun p =>
      { p with tenure := if s.waiting.isEmpty then .out else .contending, burst := 0 } := by
    simp only [State.endTenure, State.refreshTenure, State.modPort, true_or, if_true]
    rfl
  rw [hrefresh]
  refine ⟨h, rfl, ?_⟩
  show (if s.waiting.isEmpty = true then _ else _) = if s.waiting = [] then _ else _
  simp only [List.isEmpty_iff]

theorem State.endTenure_keeps (s : State) : ∃ x, s.endTenure = { s with port := { s.port with tenure := x, burst := 0 } } := by
  unfold State.endTenure State.refreshTenure
  split <;> exact ⟨_, rfl⟩

/-- The card with the claim's record and context, before the copy goes on (R102, R118). -/
def State.claimTaken (s : State) (k : CtxIx) (c : Take) (r : RecIx) : State :=
  ((s.modRecord r fun rec => Record.relayed rec.gen c).unpledge).setTake k (some (c.begun r))

theorem State.claimReported_of {s : State} {k : CtxIx} {c : Take} {r : RecIx} (hc : s.takeCtx k = some c)
    (hr : LowestFree s r) : s.claimReported k =
      if c.length.isNone then (s.claimTaken k c r).enqueueOrRefuse c.line ⟨r, 0⟩ else s.claimTaken k c r := by
  simp only [State.claimReported, hc, State.lowestFree_eq_some hr.1 hr.2]
  rfl

section
variable (s : State) (k : CtxIx) (c : Take) (r : RecIx)

theorem State.claimTaken_record (q : RecIx) :
    (s.claimTaken k c r).record q = if q = r then Record.relayed (s.record q).gen c else s.record q :=
  State.modRecord_record s r q fun rec => Record.relayed rec.gen c

theorem State.claimTaken_copyIs :
    CopyIs (s.claimTaken k c r) ⟨r, 0⟩ { newCopy c.station with line := some c.line } := by
  rw [CopyIs, State.claimTaken_record, if_pos rfl]
  rfl

theorem State.claimTaken_takeCtx_same : (s.claimTaken k c r).takeCtx k = some (c.begun r) := by
  simp [State.claimTaken]

theorem State.claimTaken_takeCtx_ne {j : CtxIx} (h : j ≠ k) : (s.claimTaken k c r).takeCtx j = s.takeCtx j := by
  rw [State.claimTaken, State.setTake_takeCtx_ne _ _ _ _ h]
  rfl

theorem State.claimTaken_canSend (n : Line) : (s.claimTaken k c r).canSend n = s.canSend n :=
  State.canSend_congr rfl rfl rfl
end

/-- What a CLAIM driven to its end does, wherever its copy goes (R86, R102, R118). -/
theorem State.claimTaken_common {s u : State} {k : CtxIx} {c : Take} {r : RecIx}
    (hu : Serves (s.undrive.claimTaken k c r) u) (hd : u.port.driven = none) :
    let t := u.endTenure
    LetsGo t ∧ t.takeCtx k = some (c.begun r) ∧ (∀ j, j ≠ k → t.takeCtx j = s.takeCtx j) ∧
    t.store.pledges = s.store.pledges - 1 ∧ t.store.reserved = s.store.reserved ∧
    t.store.freeList = s.store.freeList ∧ t.store.pool = s.store.pool ∧
    t.record r = { Record.relayed (s.record r).gen c with copies := (t.record r).copies } ∧
    (t.record r).copies.length = 1 := by
  have h := hu.trans u.endTenure_serves
  have hrec := State.claimTaken_record s.undrive k c r r
  rw [if_pos rfl] at hrec
  refine ⟨State.endTenure_letsGo hd, (h.takeCtx k).trans (State.claimTaken_takeCtx_same ..),
    fun j hj => (h.takeCtx j).trans (State.claimTaken_takeCtx_ne _ _ _ _ hj), h.pledges, h.reserved, h.freeList, h.pool,
    ?_, ?_⟩
  · obtain ⟨cs, e⟩ := h.record r
    rw [e, hrec]
    rfl
  · rw [h.length r, hrec]
    rfl

/-- The copy of a claim whose line cannot send is unbound (R153). -/
def State.unbound (s : State) (ref : CopyRef) : State :=
  (s.modCopy ref fun c => { c with line := none }).setCopyState ref .unrouted

theorem State.unbound_serves (s : State) (ref : CopyRef) : Serves s (s.unbound ref) :=
  (s.modCopy_serves ref (by exact fun _ => ⟨rfl, id⟩)).trans (State.setCopyState_serves _ ref (by decide))

theorem newCopy_unsettled (station : StationCode) : (newCopy station).state ≠ .settled := nofun

/-- The router offers an unbound copy on where no line here serves it (R66, R153). -/
theorem State.unbound_dispatch_placed {s : State} {r : RecIx} {station : StationCode} {n : Line}
    (hx : CopyIs s ⟨r, 0⟩ { newCopy station with line := some n }) (hlocal : s.localLine station = none)
    (hst : station ≠ interceptCode) :
    Placed ⟨r, 0⟩ (newCopy station) s ((s.unbound ⟨r, 0⟩).dispatchCopy ⟨r, 0⟩) := by
  have hunbound : CopyIs (s.unbound ⟨r, 0⟩) ⟨r, 0⟩ (newCopy station) :=
    (hx.modCopy _).setCopyState (newCopy_unsettled station) .unrouted
  have hcounts : CopyIs ((s.unbound ⟨r, 0⟩).startCounts ⟨r, 0⟩) ⟨r, 0⟩ (newCopy station) := hunbound.modCopy _
  have hline : ((s.unbound ⟨r, 0⟩).startCounts ⟨r, 0⟩).dispatchLine ⟨r, 0⟩ = none := by
    rw [State.dispatchLine_of_copyIs hcounts]
    exact (if_neg hst).trans hlocal
  have hdispatch : (s.unbound ⟨r, 0⟩).dispatchCopy ⟨r, 0⟩ =
      ((s.unbound ⟨r, 0⟩).startCounts ⟨r, 0⟩).offerCopy ⟨r, 0⟩ := by
    simp only [State.dispatchCopy, hline]
  rw [hdispatch]
  obtain ⟨hcopy, hplace, hlines, hdriven⟩ := State.offerCopy_placed hcounts (newCopy_unsettled station) hst
  exact ⟨hcopy, hplace, hlines, hdriven⟩

/-- Settles O38: the record and the context are set alike in every case; then the copy of a stated length waits, that of
an OPEN offer is enqueued, or is unbound and offered on. -/
theorem claimSentTakesARecord : Obligations.ClaimSentTakesARecord := by
  intro s d k c r hd hf hs hl hc hr
  simp only
  intro hcan
  have hexec := exec_claimSent hd hf hs hl
  rw [State.claimReported_of (s := s.undrive) hc hr] at hexec
  have hx := State.claimTaken_copyIs s.undrive k c r
  have hsend : ∀ n, (s.undrive.claimTaken k c r).canSend n = s.canSend n := State.claimTaken_canSend s.undrive k c r
  by_cases hlen : c.length = none
  · rw [hlen, Option.isNone_none, if_pos rfl, State.enqueueOrRefuse, hsend] at hexec
    by_cases hline : s.canSend c.line = true
    · rw [if_pos hline] at hexec
      have hsched := (s.undrive.claimTaken k c r).enqueue_schedules c.line ⟨r, 0⟩
      have hserves := (s.undrive.claimTaken k c r).enqueue_serves c.line ⟨r, 0⟩
      obtain ⟨hstands, hcopy⟩ := State.enqueue_stands (n := c.line) hx (newCopy_unsettled c.station)
      generalize (s.undrive.claimTaken k c r).enqueue c.line ⟨r, 0⟩ = u at hexec hsched hserves hstands hcopy
      obtain ⟨p, e⟩ := u.endTenure_keeps
      obtain ⟨hgo, htake, hothers, hpl, hres, hfree, hpool, hrec, hcopies⟩ :=
        State.claimTaken_common hserves (by rw [hsched.port]; rfl)
      refine ⟨_, hexec, hgo, htake, hothers, hpl, hres, hfree, hpool, hrec, hcopies, fun h => absurd hlen h,
        fun _ _ => ?_, fun _ h => by rw [hline] at h; cases h⟩
      rw [e]
      have hport : u.port.send = s.port.send := by rw [hsched.port]; rfl
      refine ⟨hport, hstands, ?_⟩
      rcases hcopy with hq | ⟨resume, hresume, hsending⟩
      · exact ⟨.queued, none, hq, fun _ => rfl, nofun⟩
      · obtain rfl : resume = none := hresume.elim id id
        exact ⟨.sending, _, hsending, nofun, fun _ => rfl⟩
    · obtain ⟨hlocal, hst⟩ := (hcan hlen).resolve_left hline
      rw [if_neg hline] at hexec
      have hserves := ((s.undrive.claimTaken k c r).unbound_serves ⟨r, 0⟩).trans (State.dispatchCopy_serves _ ⟨r, 0⟩)
      have hplaced := State.unbound_dispatch_placed hx
        (by rw [← hlocal]; simp only [State.localLine, hsend]; rfl) hst
      rw [← State.unbound] at hexec
      generalize ((s.undrive.claimTaken k c r).unbound ⟨r, 0⟩).dispatchCopy ⟨r, 0⟩ = u at hexec hserves hplaced
      obtain ⟨p, e⟩ := u.endTenure_keeps
      obtain ⟨⟨a, ha, hcopy⟩, hplace, hlines, hdriven⟩ := hplaced
      obtain ⟨hgo, htake, hothers, hpl, hres, hfree, hpool, hrec, hcopies⟩ := State.claimTaken_common hserves (hdriven rfl)
      refine ⟨_, hexec, hgo, htake, hothers, hpl, hres, hfree, hpool, hrec, hcopies, fun h => absurd hlen h,
        fun _ h => absurd h hline, fun _ _ => ?_⟩
      rw [e]
      have hattempt : (u.copy ⟨r, 0⟩).attempt = a := by rw [State.copyIs_copy hcopy]
      refine ⟨hlines, ?_, ?_, hplace⟩
      · show CopyIs u ⟨r, 0⟩ { newCopy c.station with state := .backoff, attempt := (u.copy ⟨r, 0⟩).attempt }
        rw [hattempt]
        exact hcopy
      · show (u.copy ⟨r, 0⟩).attempt ≤ 1
        rw [hattempt]
        rcases ha with rfl | rfl
        · exact le_rfl
        · exact Nat.zero_le 1
  · rw [if_neg (by simpa using hlen)] at hexec
    obtain ⟨p, e⟩ := State.endTenure_keeps (s.undrive.claimTaken k c r)
    obtain ⟨hgo, htake, hothers, hpl, hres, hfree, hpool, hrec, hcopies⟩ :=
      State.claimTaken_common (.refl (s.undrive.claimTaken k c r)) rfl
    refine ⟨_, hexec, hgo, htake, hothers, hpl, hres, hfree, hpool, hrec, hcopies, fun _ => ?_,
      fun h => absurd h hlen, fun h => absurd h hlen⟩
    rw [e]
    exact ⟨hx, rfl, rfl, fun q hq => (State.claimTaken_record s.undrive k c r q).trans (if_neg hq)⟩

end Sys2Proof.Machine
end

section
namespace Sys2Proof.Machine

/-! ### What stands on a line or a dead wait list, and how it moves (R55, R63) -/

/-- A copy has an entry on a scheduler. -/
def Sched.Has (sc : Sched) (ref : CopyRef) : Prop :=
  ∃ e, (e ∈ sc.queue ++ sc.stack ∨ sc.current = some e) ∧ e.copy = ref

/-- A copy is dead and waits, or has an entry on a line: no place of the highway (R55). -/
def Elsewhere (s : State) (ref : CopyRef) : Prop := ref ∈ s.router.deadList ∨ ∃ m, (s.line m).sched.Has ref

theorem highwayStates_contains (st : CopyState) :
    [CopyState.offered, .streaming, .awaitReceipt, .backoff].contains st = inHighwayState st := by cases st <;> rfl

theorem HighwayCopiesApart.not_elsewhere {s : State} (h : HighwayCopiesApart s) {ref : CopyRef}
    (hc : inHighwayState (s.copy ref).state = true ∨ ref ∈ s.router.restartList) : ¬Elsewhere s ref := by
  obtain ⟨hdead, hline⟩ := h ref (by rwa [highwayStates_contains])
  rintro (hd | ⟨m, e, he, hr⟩)
  · exact hdead hd
  · exact hline m e he hr

/-- A copy is as it was; or it stood elsewhere, and has come to no state of the highway and lost no channel number. -/
def CopyMoved (s u : State) (ref : CopyRef) : Prop :=
  u.copy ref = s.copy ref ∨ Elsewhere s ref ∧ inHighwayState (u.copy ref).state = false ∧
    ((s.copy ref).channel.isSome = true → (u.copy ref).channel.isSome = true)

/-- What lines, the supervisor unit and the hand-over of dead copies do among themselves: only copies that stand
elsewhere move, and none comes to stand there; the highway's lists and the port stay. -/
structure Moves (s u : State) : Prop where
  elsewhere : ∀ ref, Elsewhere u ref → Elsewhere s ref
  copy : ∀ ref, CopyMoved s u ref
  kept : CopiesKept s u
  restartList : u.router.restartList = s.router.restartList
  waitList : u.router.waitList = s.router.waitList
  port : u.port = s.port

theorem CopyMoved.trans {s t u : State} {ref : CopyRef} (h₁ : CopyMoved s t ref) (h₂ : CopyMoved t u ref)
    (he : Elsewhere t ref → Elsewhere s ref) : CopyMoved s u ref := by
  rcases h₂ with h₂ | ⟨hplace, hstate, hchannel⟩
  · rw [CopyMoved, h₂]
    exact h₁
  · refine .inr ⟨he hplace, hstate, fun hc => hchannel ?_⟩
    rcases h₁ with h₁ | ⟨-, -, h₁⟩
    · rwa [h₁]
    · exact h₁ hc

theorem Moves.refl (s : State) : Moves s s := ⟨fun _ => id, fun _ => .inl rfl, .refl s, rfl, rfl, rfl⟩

theorem Moves.trans {s t u : State} (h₁ : Moves s t) (h₂ : Moves t u) : Moves s u where
  elsewhere ref h := h₁.elsewhere ref (h₂.elsewhere ref h)
  copy ref := (h₁.copy ref).trans (h₂.copy ref) (h₁.elsewhere ref)
  kept := h₁.kept.trans h₂.kept
  restartList := h₂.restartList.trans h₁.restartList
  waitList := h₂.waitList.trans h₁.waitList
  port := h₂.port.trans h₁.port

theorem Moves.state {s u : State} (h : Moves s u) (r : RecIx) : (u.record r).state = (s.record r).state := by
  obtain ⟨cs, e, -⟩ := h.kept r
  rw [e]

theorem Moves.length {s u : State} (h : Moves s u) (r : RecIx) :
    (u.record r).copies.length = (s.record r).copies.length := by
  obtain ⟨cs, e, htable, -⟩ := h.kept r
  rw [e]
  simpa using congrArg List.length htable

theorem Sched.has_congr {a b : Sched} (h : a.holds = b.holds) (ref : CopyRef) : a.Has ref ↔ b.Has ref := by
  simp only [Sched.holds, Prod.mk.injEq] at h
  obtain ⟨hq, hs, hc, -⟩ := h
  simp only [Sched.Has, hq, hs, hc]

/-- Where the copies and all but one line's entries stay, and those lose some at most. -/
theorem Moves.of_lines {n : Line} {s u : State} (hrec : ∀ r, u.record r = s.record r) (hrouter : u.router = s.router)
    (hport : u.port = s.port) (hothers : ∀ m, m ≠ n → u.line m = s.line m)
    (hline : ∀ ref, (u.line n).sched.Has ref → (s.line n).sched.Has ref) : Moves s u where
  elsewhere ref := by
    rintro (hd | ⟨m, hm⟩)
    · exact .inl (hrouter ▸ hd)
    · by_cases hn : m = n
      · subst hn
        exact .inr ⟨m, hline ref hm⟩
      · exact .inr ⟨m, hothers m hn ▸ hm⟩
  copy ref := .inl (by rw [State.copy, hrec]; rfl)
  kept := .of_records hrec
  restartList := by rw [hrouter]
  waitList := by rw [hrouter]
  port := hport

theorem OnlyLine.moves {n : Line} {s u : State} (h : OnlyLine n s u)
    (hline : ∀ ref, (u.line n).sched.Has ref → (s.line n).sched.Has ref) : Moves s u :=
  .of_lines h.record h.router h.port h.2 hline

theorem LoadsOnly.moves {n : Line} {s u : State} (h : LoadsOnly n s u)
    (hholds : (u.line n).sched.holds = (s.line n).sched.holds) : Moves s u :=
  h.onlyLine.moves fun ref => (Sched.has_congr hholds ref).mp

theorem OnlySup.moves {s u : State} (h : OnlySup s u) : Moves s u := by
  rw [OnlySup] at h
  have hlines : u.lines = s.lines := by rw [h]
  exact .of_lines (n := 0) (fun r => by rw [h]; rfl) (by rw [h]) (by rw [h]) (fun m _ => State.line_of_lines hlines m)
    fun ref => by rw [State.line_of_lines hlines]; exact id

/-! ### Lines -/

theorem State.copy_of_missing {s : State} {ref : CopyRef} (h : ¬∃ x, CopyIs s ref x) : s.copy ref = Copy.blank := by
  rw [CopyIs.of_length, not_lt] at h
  simp [State.copy, Record.copy, List.getElem?_eq_none h]

/-- An entry taken from its line's queue or stack that starts moves its own copy alone (R130). -/
theorem Started.moves {n : Line} {e : QEntry} {s w t : State} (h : Started n e w t) (hw : OnlyLine n s w)
    (hsub : ∀ ref, (w.line n).sched.Has ref → (s.line n).sched.Has ref) (he : (s.line n).sched.Has e.copy) : Moves s t where
  elsewhere ref := by
    rintro (hd | ⟨m, hm⟩)
    · exact .inl (hw.router ▸ h.sends.router ▸ hd)
    · by_cases hn : m = n
      · subst hn
        obtain ⟨x, hx, rfl⟩ := hm
        rw [h.queue, h.stack, h.current] at hx
        rcases hx with hx | hx
        · exact .inr ⟨m, hsub _ ⟨x, .inl hx, rfl⟩⟩
        · cases hx
          exact .inr ⟨m, he⟩
      · exact .inr ⟨m, hw.2 m hn ▸ h.sends.others m hn ▸ hm⟩
  copy ref := by
    have hkept : w.copy ref = s.copy ref := hw.copy ref
    rw [CopyMoved, ← hkept]
    by_cases hne : ref = e.copy
    · subst hne
      by_cases hx : ∃ x, CopyIs w e.copy x
      · obtain ⟨x, hx⟩ := hx
        obtain ⟨resume, -, ht⟩ := h.copy x hx
        refine .inr ⟨.inr ⟨n, he⟩, ?_, fun _ => by rw [State.copyIs_copy ht]; rfl⟩
        rw [State.copyIs_copy ht]
        simp only
        split <;> rfl
      · have hgone : ¬∃ x, CopyIs t e.copy x := fun ht => hx ((CopyIs.of_kept h.kept).mp ht)
        exact .inl ((State.copy_of_missing hgone).trans (State.copy_of_missing hx).symm)
    · exact .inl (h.others ref hne)
  kept := (CopiesKept.of_records hw.record).trans h.kept
  restartList := by rw [h.sends.router, hw.router]
  waitList := by rw [h.sends.router, hw.router]
  port := by rw [h.sends.port, hw.port]

theorem State.choose_moves (s : State) (n : Line) : Moves s (s.choose n) := by
  rcases s.choose_cases n with he | ⟨e, hmem, hst⟩ | ⟨e, rest, hstack, hst⟩
  · rw [he]
    exact .refl s
  · refine hst.moves (s.modSched_onlyLine n _) (fun ref => ?_) ⟨e, .inl (List.mem_append_left _ hmem), rfl⟩
    rw [State.modSched_line_same]
    rintro ⟨x, hx | hx, rfl⟩
    · refine ⟨x, .inl ?_, rfl⟩
      rw [List.mem_append] at hx ⊢
      exact hx.imp_left List.mem_of_mem_erase
    · exact ⟨x, .inr hx, rfl⟩
  · refine hst.moves (s.modSched_onlyLine n _) (fun ref => ?_)
      ⟨e, .inl (List.mem_append_right _ (hstack ▸ List.mem_cons_self ..)), rfl⟩
    rw [State.modSched_line_same]
    rintro ⟨x, hx | hx, rfl⟩
    · refine ⟨x, .inl ?_, rfl⟩
      rw [List.mem_append] at hx ⊢
      exact hx.imp_right fun hr => hstack ▸ List.mem_cons_of_mem e hr
    · exact ⟨x, .inr hx, rfl⟩

theorem State.lookAgain_moves (s : State) (n : Line) : Moves s (s.lookAgain n) :=
  ((s.preemptTest_loadsOnly n).moves (s.preemptTest_holds n)).trans (State.choose_moves _ n)

theorem State.answerText_holds (s : State) (n : Line) (r : RecIx) :
    ((s.answerText n r).line n).sched.holds = (s.line n).sched.holds := by
  unfold State.answerText
  split
  · split
    · exact s.serveLine_holds n
    · rfl
  · rfl

theorem State.lineTextChanged_moves (s : State) (n : Line) (r : RecIx) (oldCount : Nat) (oldComplete : Bool) :
    Moves s (s.lineTextChanged n r oldCount oldComplete) := by
  have hanswer := (s.answerText_loadsOnly n r).moves (s.answerText_holds n r)
  rw [State.lineTextChanged_eq]
  split
  · exact hanswer.trans (State.lookAgain_moves _ n)
  · exact hanswer

theorem State.linesLook_moves (s : State) (r : RecIx) (oldCount : Nat) (oldComplete : Bool) (ns : List Line) :
    Moves s (s.linesLook r oldCount oldComplete ns) := by
  induction ns generalizing s with
  | nil => exact .refl s
  | cons n ns ih => exact (s.lineTextChanged_moves n r oldCount oldComplete).trans (ih _)

/-- A copy withdrawn from a queue (R140). -/
theorem State.withdraw_moves (s : State) (n : Line) (ref : CopyRef) : Moves s (s.withdraw n ref) := by
  have hmark : ∀ u : State, Moves u (u.reconsiderMark n) := fun u => by
    unfold State.reconsiderMark
    split
    · split
      · exact .refl u
      · exact (u.modSched_loadsOnly n _).moves (by rw [State.modSched_line_same]; rfl)
    · exact .refl u
  have hmotor : ∀ u : State, Moves u (u.motorEmpty n) := fun u => by
    refine (u.motorEmpty_onlyLine n).moves fun ref => ?_
    unfold State.motorEmpty
    split
    · rw [State.modMotor_line_same]
      exact id
    · exact id
  have hqueue : Moves s (s.modSched n fun sc => { sc with queue := sc.queue.filter fun e => e.copy ≠ ref }) := by
    refine (s.modSched_onlyLine n _).moves fun ref' => ?_
    rw [State.modSched_line_same]
    rintro ⟨x, hx | hx, rfl⟩
    · refine ⟨x, .inl ?_, rfl⟩
      rw [List.mem_append] at hx ⊢
      exact hx.imp_left List.mem_of_mem_filter
    · exact ⟨x, .inr hx, rfl⟩
  exact hqueue.trans ((hmark _).trans (hmotor _))

theorem State.withdrawCopy_moves (s : State) (ref : CopyRef) : Moves s (s.withdrawCopy ref) := by
  rcases s.withdrawCopy_cases ref with e | ⟨n, -, -, e⟩
  · rw [e]; exact .refl s
  · rw [e]; exact s.withdraw_moves n ref

/-! ### The hand-over of dead copies (R75, R160) -/

/-- The copy at the head of the dead wait list is handed over (R75). -/
theorem State.handOverOne_moves {s : State} {ref : CopyRef} {rest : List CopyRef} (hdead : s.router.deadList = ref :: rest)
    (f : Supervisor → Supervisor) :
    Moves s (((s.modRouter fun r => { r with deadList := rest }).setCopyState ref .deadQueued).modSup f) where
  elsewhere x := .imp_left fun (hx : x ∈ rest) => hdead ▸ List.mem_cons_of_mem ref hx
  copy x := by
    by_cases hx : x = ref
    · subst hx
      rcases State.modCopy_copy_same (s.modRouter fun r => { r with deadList := rest }) x
        fun c => { c with state := if c.state = .settled then .settled else .deadQueued } with ⟨h, -⟩ | h
      · exact .inl h
      · refine .inr ⟨.inl (hdead ▸ List.mem_cons_self ..), ?_, fun hc => ?_⟩
        · show inHighwayState (State.copy (State.modCopy _ x _) x).state = false
          rw [h]
          simp only
          split <;> rfl
        · show (State.copy (State.modCopy _ x _) x).channel.isSome = true
          rw [h]
          exact hc
    · exact .inl (State.modCopy_copy_ne (s.modRouter fun r => { r with deadList := rest }) ref x _ hx)
  kept := (s.modRouter_serves _).copies.trans
    ((State.setCopyState_serves _ ref (st := .deadQueued) (by decide)).copies.trans (State.modSup_serves _ f).copies)
  restartList := rfl
  waitList := rfl
  port := rfl

theorem State.handOverMany_moves (s : State) (fuel : Nat) : Moves s (s.handOverMany fuel) := by
  induction fuel generalizing s with
  | zero => exact .refl s
  | succ fuel ih =>
    unfold State.handOverMany
    split
    · exact .refl s
    · next ref rest hdead =>
      split
      · exact .refl s
      · exact (State.handOverOne_moves hdead _).trans <| (State.beginPrint_printsOnly _).card.moves.trans (ih _)

theorem State.chosen_moves (s : State) : Moves s s.chosen :=
  ⟨fun _ => id, fun _ => .inl rfl, .of_records fun _ => rfl, rfl, rfl, rfl⟩

theorem State.handOverSought_moves (s : State) (fuel : Nat) : Moves s (s.handOverSought fuel) := by
  induction fuel generalizing s with
  | zero => exact .refl s
  | succ fuel ih =>
    rcases s.handOverSought_cases fuel with ⟨-, h⟩ | ⟨-, -, h⟩ | ⟨-, -, h⟩
    · rw [h]; exact .refl s
    · rw [h]; exact s.chosen_moves
    · rw [h]; exact s.chosen_moves.trans <| (State.handOverMany_moves _ 1).trans (ih _)

theorem State.placeFreed_moves (s before : State) (sought : Bool) : Moves s (s.placeFreed before sought) := by
  rcases s.placeFreed_cases before sought with ⟨-, h⟩ | ⟨-, ⟨-, h⟩ | ⟨-, h⟩⟩
  · rw [h]; exact .refl s
  · rw [h]; exact s.handOverSought_moves _
  · rw [h]; exact s.handOverMany_moves _

theorem State.post_moves (s : State) (n : Notice) : Moves s (s.post n) :=
  (OnlySup.moves (s := s) (u := s.modSup fun u => u.posted n) rfl).trans <|
    (State.beginPrint_printsOnly _).card.moves.trans (State.handOverMany_moves _ _)

end Sys2Proof.Machine
end

section
namespace Sys2Proof.Machine

/-! ### TAKING records end with no send context in use (R61, R63, R93) -/

section
variable {s : State}

theorem State.sendOf_of_idle (h : ∀ k, s.sendCtx k = none) (ref : CopyRef) : s.sendOf ref = none :=
  List.find?_eq_none.mpr fun k _ => by simp [h k]

theorem State.sendsLook_of_idle (h : ∀ k, s.sendCtx k = none) (r : RecIx) (ks : List CtxIx) : s.sendsLook r ks = s := by
  induction ks with
  | nil => rfl
  | cons k ks ih => simpa [State.sendsLook, h k] using ih

/-- With no send context in use a record that is cut short is looked at by lines and the supervisor unit alone. -/
theorem State.cutShort_of_idle (h : ∀ k, s.sendCtx k = none) (r : RecIx) : s.cutShort r =
    ((s.modRecord r Record.cut).linesLook r (s.record r).count false (List.finRange 4)).supTextChanged r := by
  have hlines := (s.modRecord r Record.cut).linesLook_moves r (s.record r).count false (List.finRange 4)
  rw [State.cutShort_eq, State.textChanged, State.sendsLook_of_idle fun k => by
    rw [State.sendCtx, hlines.port]
    exact h k]

theorem State.cutShort_moves (h : ∀ k, s.sendCtx k = none) (r : RecIx) : Moves (s.modRecord r Record.cut) (s.cutShort r) := by
  rw [State.cutShort_of_idle h]
  exact (State.linesLook_moves _ r _ false _).trans (State.supTextChanged_printsOnly _ r).card.moves

theorem State.dropSendOf_of_idle (h : ∀ k, s.sendCtx k = none) (ref : CopyRef) : s.dropSendOf ref = s := by
  rw [State.dropSendOf, State.sendOf_of_idle h]

/-- With no send context in use a record whose copy has not started is taken off and freed. -/
theorem State.discardRecord_of_idle (h : ∀ k, s.sendCtx k = none) (r : RecIx) :
    s.discardRecord r = (s.copyTakenOff r).freeRecord r := by
  rw [State.discardRecord_eq, State.sendOf_of_idle h]
  rfl

/-- With no send context in use the copy leaves its line's queue, the wait list and the restart list, and the dead wait
list, and items may leave the supervisor queue (R61, R163). -/
theorem State.copyTakenOff_of_idle (h : ∀ k, s.sendCtx k = none) (r : RecIx) : ∃ u : Supervisor,
    u.queue.length ≤ (s.withdrawCopy ⟨r, 0⟩).sup.queue.length ∧
    s.copyTakenOff r = { s.withdrawCopy ⟨r, 0⟩ with
      router := { s.router with
        waitList := s.router.waitList.filter fun c => c ≠ ⟨r, 0⟩
        restartList := s.router.restartList.filter fun c => c ≠ ⟨r, 0⟩
        deadList := s.router.deadList.filter fun c => c.record ≠ r }
      sup := u } := by
  have hrouter : (s.withdrawCopy ⟨r, 0⟩).router = s.router := by
    rcases s.withdrawCopy_cases ⟨r, 0⟩ with e | ⟨n, -, -, e⟩
    · rw [e]
    · rw [e]; exact (s.withdraw_onlyLine n ⟨r, 0⟩).router
  have hidle : ∀ k, ((s.withdrawCopy ⟨r, 0⟩).forgetCopy ⟨r, 0⟩).sendCtx k = none := fun k => by
    show (s.withdrawCopy ⟨r, 0⟩).port.send[k] = none
    rw [(s.withdrawCopy_moves ⟨r, 0⟩).port]
    exact h k
  obtain ⟨u, e, hlen⟩ := ((s.withdrawCopy ⟨r, 0⟩).forgetCopy ⟨r, 0⟩).discardDead_spec r (s.record r).gen
  refine ⟨u, hlen, ?_⟩
  rw [State.copyTakenOff, State.dropSendOf_of_idle hidle, e, ← hrouter]
  rfl

theorem State.copyTakenOff_places (h : ∀ k, s.sendCtx k = none) (r : RecIx) :
    (∀ ref, Elsewhere (s.copyTakenOff r) ref → Elsewhere s ref) ∧
    (s.copyTakenOff r).router.restartList = s.router.restartList.filter (· ≠ ⟨r, 0⟩) ∧
    (s.copyTakenOff r).port = s.port := by
  have hmoves := s.withdrawCopy_moves ⟨r, 0⟩
  obtain ⟨u, -, e⟩ := State.copyTakenOff_of_idle h r
  rw [e]
  refine ⟨fun ref he => ?_, rfl, hmoves.port⟩
  rcases he with hd | hline
  · exact .inl (List.mem_of_mem_filter hd)
  · exact hmoves.elsewhere ref (.inr hline)

end

/-- What the end of the TAKING records may make of a record: it stays; it was TAKING and is cut short, its copy started
or on its way elsewhere; or it was TAKING, its copy not started, and is freed. -/
inductive RecordFate (s u : State) (r : RecIx) : Prop
  | kept (length : (u.record r).copies.length = (s.record r).copies.length) (copies : ∀ i, CopyMoved s u ⟨r, i⟩)
      (state : (u.record r).state = (s.record r).state)
  | cut (length : (u.record r).copies.length = (s.record r).copies.length) (copies : ∀ i, CopyMoved s u ⟨r, i⟩)
      (taking : (s.record r).state = .taking) (state : (u.record r).state = .stored)
      (started : keptThrough s r = true ∨ Elsewhere s ⟨r, 0⟩)
  | freed (taking : (s.record r).state = .taking) (fresh : keptThrough s r = false)
      (state : (u.record r).state = .free) (copies : (u.record r).copies = [])

/-- The record was TAKING and has been freed. -/
def wasFreed (s u : State) (r : RecIx) : Bool := (s.record r).state = .taking && (u.record r).state = .free

/-- The card on the way through the end of the TAKING records of `s` (R63). -/
structure Ends (s u : State) : Prop where
  elsewhere : ∀ ref, Elsewhere u ref → Elsewhere s ref
  fate : ∀ r, RecordFate s u r
  restartList : u.router.restartList = s.router.restartList.filter fun ref => !(ref.ix = 0 && wasFreed s u ref.record)
  port : u.port = s.port

theorem keptThrough_eq_false {s : State} {r : RecIx} :
    keptThrough s r = false ↔ (s.record r).state = .taking ∧ (s.copy ⟨r, 0⟩).channel = none := by
  simp [keptThrough]

section
variable {s u v : State} {r : RecIx}

theorem Ends.refl (s : State) : Ends s s where
  elsewhere _ := id
  fate _ := .kept rfl (fun _ => .inl rfl) rfl
  restartList := by
    refine (List.filter_eq_self.mpr fun ref _ => ?_).symm
    cases h : (s.record ref.record).state <;> simp [wasFreed, h]
  port := rfl

theorem RecordFate.trans_moves (h : RecordFate s u r) (hm : Moves u v) (he : ∀ ref, Elsewhere u ref → Elsewhere s ref) :
    RecordFate s v r := by
  have hstate := hm.state r
  have hlength := hm.length r
  have hcopy : (∀ i, CopyMoved s u ⟨r, i⟩) → ∀ i, CopyMoved s v ⟨r, i⟩ :=
    fun h i => (h i).trans (hm.copy _) (he _)
  cases h with
  | kept length copies state => exact .kept (hlength.trans length) (hcopy copies) (hstate.trans state)
  | cut length copies taking state started =>
    exact .cut (hlength.trans length) (hcopy copies) taking (hstate.trans state) started
  | freed taking fresh state copies =>
    refine .freed taking fresh (hstate.trans state) (List.length_eq_zero_iff.mp ?_)
    rw [hlength, copies]
    rfl

theorem Ends.trans_moves (h : Ends s u) (hm : Moves u v) : Ends s v where
  elsewhere ref he := h.elsewhere ref (hm.elsewhere ref he)
  fate r := (h.fate r).trans_moves hm h.elsewhere
  restartList := by
    simp only [hm.restartList, h.restartList, wasFreed, hm.state]
  port := hm.port.trans h.port

/-- A record whose fate is told by its own items and copies has it in every state that agrees on them. -/
theorem RecordFate.congr (h : RecordFate s u r) (hr : v.record r = u.record r) : RecordFate s v r := by
  have hcopy : (∀ i, CopyMoved s u ⟨r, i⟩) → ∀ i, CopyMoved s v ⟨r, i⟩ := fun h i => by
    have := h i
    rwa [CopyMoved, State.copy, ← hr] at this
  cases h with
  | kept length copies state => exact .kept (hr ▸ length) (hcopy copies) (hr ▸ state)
  | cut length copies taking state started => exact .cut (hr ▸ length) (hcopy copies) taking (hr ▸ state) started
  | freed taking fresh state copies => exact .freed taking fresh (hr ▸ state) (hr ▸ copies)

/-- A record that is still TAKING was TAKING, and its copies have only moved. -/
theorem RecordFate.of_taking (h : RecordFate s u r) (ht : (u.record r).state = .taking) :
    (u.record r).copies.length = (s.record r).copies.length ∧ (∀ i, CopyMoved s u ⟨r, i⟩) ∧
      (s.record r).state = .taking := by
  cases h with
  | kept length copies state => exact ⟨length, copies, state ▸ ht⟩
  | cut length copies taking state started => rw [ht] at state; cases state
  | freed taking fresh state copies => rw [ht] at state; cases state

theorem wasFreed_of_taking (ht : (u.record r).state = .taking) : wasFreed s u r = false := by simp [wasFreed, ht]

/-- A TAKING record whose copy has started is cut short (R61). -/
theorem Ends.cut (h : Ends s u) (ht : (u.record r).state = .taking) (hc : (u.copy ⟨r, 0⟩).channel.isSome = true) :
    Ends s (u.modRecord r Record.cut) where
  elsewhere := h.elsewhere
  fate q := by
    by_cases hq : q = r
    · subst hq
      obtain ⟨hlength, hcopies, htaking⟩ := (h.fate q).of_taking ht
      have hrec : (u.modRecord q Record.cut).record q = (u.record q).cut := u.modRecord_record_same q _
      refine .cut (by rw [hrec]; exact hlength) (fun i => ?_) htaking (by rw [hrec]; rfl) ?_
      · have hcopy : (u.modRecord q Record.cut).copy ⟨q, i⟩ = u.copy ⟨q, i⟩ := by rw [State.copy, hrec]; rfl
        rw [CopyMoved, hcopy]
        exact hcopies i
      · rcases hcopies 0 with heq | ⟨hplace, -⟩
        · rw [heq] at hc
          exact .inl (by simp [keptThrough, hc])
        · exact .inr hplace
    · exact (h.fate q).congr ((u.modRecord_record r q _).trans (if_neg hq))
  restartList := by
    rw [show (u.modRecord r Record.cut).router = u.router from rfl, h.restartList]
    refine List.filter_congr fun ref _ => ?_
    by_cases hq : ref.record = r
    · rw [hq, wasFreed_of_taking ht]
      simp [wasFreed, State.modRecord_record_same, Record.cut]
    · simp [wasFreed, State.modRecord_record, hq]
  port := h.port

/-- A TAKING record whose copy has not started is freed (R61). -/
theorem Ends.freed (h : Ends s u) (hidle : ∀ k, u.sendCtx k = none) (ht : (u.record r).state = .taking)
    (hc : (u.copy ⟨r, 0⟩).channel = none) : Ends s ((u.copyTakenOff r).freeRecord r) := by
  obtain ⟨helse, hlist, hport⟩ := State.copyTakenOff_places hidle r
  have hstore := u.copyTakenOff_store r
  obtain ⟨-, hcopies, htaking⟩ := (h.fate r).of_taking ht
  have hsame : ((u.copyTakenOff r).freeRecord r).record r = Record.cleared ((u.record r).gen + 1) := by
    rw [State.freeRecord_record, State.record, hstore]
    rfl
  have hother : ∀ q, q ≠ r → ((u.copyTakenOff r).freeRecord r).record q = u.record q := fun q hq => by
    rw [State.freeRecord, State.modRecord_record, if_neg hq]
    show (u.copyTakenOff r).store.records[q] = _
    rw [hstore]
    rfl
  have hfresh : keptThrough s r = false := by
    refine keptThrough_eq_false.mpr ⟨htaking, ?_⟩
    rcases hcopies 0 with heq | ⟨-, -, hmono⟩
    · rw [← heq, hc]
    · rw [← Option.not_isSome_iff_eq_none]
      intro hsome
      have := hmono hsome
      rw [hc] at this
      cases this
  refine ⟨fun ref he => h.elsewhere ref (helse ref he), fun q => ?_, ?_, hport.trans h.port⟩
  · by_cases hq : q = r
    · subst hq
      exact .freed htaking hfresh (by rw [hsame]; rfl) (by rw [hsame]; rfl)
    · exact (h.fate q).congr (hother q hq)
  · show (u.copyTakenOff r).router.restartList = _
    rw [hlist, h.restartList, List.filter_filter]
    refine List.filter_congr fun ref _ => ?_
    by_cases hq : ref.record = r
    · obtain ⟨q, i⟩ := ref
      subst hq
      simp [wasFreed, ht, hsame, htaking, Record.cleared]
    · have hne : ref ≠ ⟨r, 0⟩ := fun e => hq (by rw [e])
      simp [wasFreed, hother _ hq, hne]

theorem Ends.endRecord (h : Ends s u) (hidle : ∀ k, u.sendCtx k = none) (ht : (u.record r).state = .taking) :
    Ends s (u.endRecord r) := by
  unfold State.endRecord
  split
  · next hc => exact (h.cut ht hc).trans_moves (State.cutShort_moves hidle r)
  · next hc =>
    rw [State.discardRecord_of_idle hidle]
    exact h.freed hidle ht (Option.not_isSome_iff_eq_none.mp hc)

end

/-- The TAKING records of a list end in its order (R63). -/
theorem Ends.endTaking {s u : State} (h : Ends s u) (hidle : ∀ k, s.sendCtx k = none) (rs : List RecIx) :
    Ends s (u.endTaking rs) := by
  induction rs generalizing u with
  | nil => exact h
  | cons r rs ih =>
    unfold State.endTaking
    split
    · next ht =>
      refine ih (h.endRecord (fun k => ?_) ht)
      rw [State.sendCtx, h.port]
      exact hidle k
    · exact ih h

/-- No record comes to be TAKING. -/
theorem Ends.not_taking {s u : State} (h : Ends s u) {r : RecIx} (hr : (s.record r).state ≠ .taking) :
    (u.record r).state ≠ .taking := by
  cases h.fate r with
  | kept length copies state => rwa [state]
  | cut length copies taking state started => exact absurd taking hr
  | freed taking fresh state copies => exact absurd taking hr

/-- No record of the list is TAKING any more. -/
theorem State.endTaking_not_taking {s : State} (hidle : ∀ k, s.sendCtx k = none) {rs : List RecIx} {r : RecIx}
    (hr : r ∈ rs) : ((s.endTaking rs).record r).state ≠ .taking := by
  induction rs generalizing s with
  | nil => cases hr
  | cons q rs ih =>
    have hended : ((if (s.record q).state = .taking then s.endRecord q else s).record q).state ≠ .taking := by
      split
      · obtain ⟨-, hfree, hcut⟩ := s.endRecord_spec q
        by_cases hc : (s.copy ⟨q, 0⟩).channel = none
        · rw [(hfree hc).1]; decide
        · rw [(hcut hc).1]; decide
      · assumption
    have hends : Ends s (if (s.record q).state = .taking then s.endRecord q else s) := by
      split
      · exact (Ends.refl s).endRecord hidle (by assumption)
      · exact .refl s
    unfold State.endTaking
    generalize (if (s.record q).state = .taking then s.endRecord q else s) = v at hended hends
    have hidle' : ∀ k, v.sendCtx k = none := fun k => by
      rw [State.sendCtx, hends.port]
      exact hidle k
    rcases List.mem_cons.mp hr with rfl | hr
    · exact ((Ends.refl v).endTaking hidle' rs).not_taking hended
    · exact ih hidle' hr

/-! ### What the highway held goes back to the router (R63, R77) -/

section
variable {s u : State} (h : Ends s u) (hdone : ∀ r, (u.record r).state ≠ .taking) (hapart : HighwayCopiesApart s)
include h hdone hapart

/-- The restart list loses the copies whose records the restart frees, and no other (R61, R63). -/
theorem Ends.restartList_eq : u.router.restartList =
    s.router.restartList.filter fun ref => keptThrough s ref.record || ref.ix ≠ 0 := by
  rw [h.restartList]
  refine List.filter_congr fun ref hmem => ?_
  by_cases hix : ref.ix = 0
  · have href : ref = ⟨ref.record, 0⟩ := by rw [← hix]
    have hplace : ¬Elsewhere s ⟨ref.record, 0⟩ := href ▸ hapart.not_elsewhere (.inr hmem)
    cases h.fate ref.record with
    | kept length copies state =>
      have hs : (s.record ref.record).state ≠ .taking := state ▸ hdone ref.record
      simp [wasFreed, keptThrough, hs]
    | cut length copies taking state started => simp [wasFreed, state, started.resolve_right hplace]
    | freed taking fresh state copies => simp [wasFreed, taking, state, fresh, hix]
  · simp [hix]

/-- The copies in highway states after the TAKING records have ended are those the statement names (R63). -/
theorem Ends.returned_iff (hone : ∀ r, (s.record r).state = .taking → (s.record r).copies.length = 1) (r : RecIx)
    (i : CopyIx) : i.val < (u.record r).copies.length ∧ inHighwayState (u.copy ⟨r, i⟩).state = true ↔
      i.val < (s.record r).copies.length ∧ keptThrough s r = true ∧ inHighwayState (s.copy ⟨r, i⟩).state = true := by
  have hstate : ∀ i, CopyMoved s u ⟨r, i⟩ →
      inHighwayState (u.copy ⟨r, i⟩).state = inHighwayState (s.copy ⟨r, i⟩).state := fun i hmoved => by
    rcases hmoved with heq | ⟨hplace, hu, -⟩
    · rw [heq]
    · rw [hu]
      exact (Bool.eq_false_iff.mpr fun hs => hapart.not_elsewhere (.inl hs) hplace).symm
  cases h.fate r with
  | kept length copies state =>
    have hkept : keptThrough s r = true := by
      have hs : (s.record r).state ≠ .taking := state ▸ hdone r
      simp [keptThrough, hs]
    rw [length, hstate i (copies i), hkept]
    simp
  | cut length copies taking state started =>
    rw [length, hstate i (copies i)]
    rcases started with hkept | hplace
    · simp [hkept]
    · refine and_congr_right fun hi => ⟨fun hs => ?_, fun hs => hs.2⟩
      rw [hone r taking] at hi
      obtain rfl : i = 0 := Fin.ext (by omega)
      exact absurd hplace (hapart.not_elsewhere (.inl hs))
  | freed taking fresh state copies => simp [copies, fresh]

theorem Ends.returnedCopies_eq (hone : ∀ r, (s.record r).state = .taking → (s.record r).copies.length = 1) :
    u.returnedCopies = returnedBy s := by
  unfold State.returnedCopies returnedBy
  refine congrArg (fun f => (List.finRange 32).flatMap f) (funext fun r => ?_)
  rw [State.copiesOf, List.filter_map, List.filter_filter, List.filter_map]
  refine congrArg _ (List.filter_congr fun i _ => ?_)
  have hiff := h.returned_iff hdone hapart hone r i
  rw [Bool.eq_iff_iff]
  simp only [Function.comp_apply, Bool.and_eq_true, decide_eq_true_eq, highwayStates_contains]
  tauto

end

/-- The copies as R63, item 3, leaves them, and the lists with it. -/
theorem State.returnCopies_record (s : State) (r : RecIx) :
    s.returnCopies.record r = { s.record r with copies := (s.record r).copies.map Copy.returned } := by
  simp [State.returnCopies, State.modRouter, State.modStore, State.record]

theorem Copy.returned_state (c : Copy) : inHighwayState c.returned.state = false := by
  unfold Copy.returned
  split
  · rfl
  · next h => exact Bool.eq_false_iff.mpr h

end Sys2Proof.Machine
end

section
namespace Sys2Proof.Machine

/-! ### The stages of a warm restart (R63, R77, R93, R94) -/

/-- The port and the reservations as R93, items 1 to 4, and R47 leave them. -/
def State.highwayDropped (s : State) (received : Bool) : State :=
  ((s.modPort fun p => p.restarted received).refreshTenure).modStore fun st =>
    { st with reserved := Vector.replicate 4 0, pledges := 0 }

/-- Then the TAKING records have ended, and the places that fell free are told (R61, R160). -/
def State.takingEnded (s : State) (received : Bool) : State :=
  ((s.highwayDropped received).endTaking (List.finRange 32)).placeFreed (s.highwayDropped received) true

/-- Then the copies are back at the router and RESTART HEARD is posted (R63, R125). -/
def State.restartPosted (s : State) (sender : Slot) (received : Bool) : State :=
  (s.takingEnded received).returnCopies.post (.restartHeard sender)

theorem State.warmRestart_eq (s : State) (sender : Slot) (received : Bool) :
    s.warmRestart sender received = (s.restartPosted sender received).startHoldOff := rfl

/-! ### The port (R93) -/

/-- Whether a frame is pending is told by the port alone, and not by its hold-off. -/
theorem State.waiting_eq_nil_congr {s t : State} {h : Option Nat} (hp : t.port = { s.port with holdOff := h }) :
    t.waiting = [] ↔ s.waiting = [] := by
  have hsend : ∀ k, t.sendWaiting k = [] ↔ s.sendWaiting k = [] := fun k => by
    have : t.sendCtx k = s.sendCtx k := by rw [State.sendCtx, hp]; rfl
    unfold State.sendWaiting
    rw [this]
    split <;> simp
  have htake : ∀ k, t.takeWaiting k = s.takeWaiting k := fun k => by
    have : t.takeCtx k = s.takeCtx k := by rw [State.takeCtx, hp]; rfl
    unfold State.takeWaiting
    rw [this]
  simp only [State.waiting, List.append_eq_nil_iff, List.flatMap_eq_nil_iff, hsend, htake, hp]

/-- A card without the highway, and waiting for nothing else of it, is OUT or CONTENDING by its pending frames (R86). -/
def Told (s : State) : Prop := s.port.tenure = if s.waiting = [] then .out else .contending

theorem Told.of_holdOff {s t : State} {h : Option Nat} (hp : t.port = { s.port with holdOff := h }) : Told t ↔ Told s := by
  simp only [Told, hp, State.waiting_eq_nil_congr hp]

theorem Told.congr {s t : State} (h : t.port = s.port) : Told t ↔ Told s := Told.of_holdOff (h := s.port.holdOff) h

theorem Told.outOrContending {s : State} (h : Told s) : s.port.tenure = .out ∨ s.port.tenure = .contending := by
  rw [h]
  split
  · exact .inl rfl
  · exact .inr rfl

theorem State.refreshTenure_told {s : State} (h : s.port.tenure = .out ∨ s.port.tenure = .contending) :
    Told s.refreshTenure := by
  rw [State.refreshTenure, if_pos h]
  show (if s.waiting.isEmpty = true then _ else _) = if s.waiting = [] then _ else _
  simp only [List.isEmpty_iff]

theorem State.refreshTenure_of_sending {s : State} (h : s.port.tenure = .sending) : s.refreshTenure = s := by
  simp [State.refreshTenure, h]

section
variable (s : State) (received : Bool)

theorem State.highwayDropped_eq : ∃ x, s.highwayDropped received = { s with
    port := { s.port.restarted received with tenure := x }
    store := { s.store with reserved := Vector.replicate 4 0, pledges := 0 } } := by
  obtain ⟨x, e⟩ := (s.modPort fun p => p.restarted received).refreshTenure_keeps
  exact ⟨x, by rw [State.highwayDropped, e]; rfl⟩

/-- With nothing driven the tenure is told; a frame that is being driven goes on (R92). -/
theorem State.highwayDropped_tenure :
    (s.port.driven = none → Told (s.highwayDropped received)) ∧
    (s.port.driven ≠ none → s.port.tenure = .sending → (s.highwayDropped received).port.tenure = .sending) := by
  have hport : (s.highwayDropped received).port = ((s.modPort fun p => p.restarted received).refreshTenure).port := rfl
  refine ⟨fun hd => (Told.congr hport).mpr (State.refreshTenure_told (.inl ?_)), fun hd hs => ?_⟩
  · show (if s.port.driven.isSome = true then _ else _) = _
    rw [hd]
    rfl
  · have htenure : (s.modPort fun p => p.restarted received).port.tenure = .sending := by
      show (if s.port.driven.isSome = true then _ else _) = _
      rw [if_pos (Option.isSome_iff_ne_none.mpr hd), hs]
    rw [hport, State.refreshTenure_of_sending htenure, htenure]

theorem State.highwayDropped_sendCtx (k : CtxIx) : (s.highwayDropped received).sendCtx k = none := by
  obtain ⟨x, e⟩ := s.highwayDropped_eq received
  rw [e]
  simp [State.sendCtx, Port.restarted]

/-! ### The records (R61, R63) -/

theorem State.takingEnded_ends : Ends (s.highwayDropped received) (s.takingEnded received) :=
  ((Ends.refl _).endTaking (s.highwayDropped_sendCtx received) _).trans_moves (State.placeFreed_moves _ _ true)

theorem State.takingEnded_not_taking (r : RecIx) : ((s.takingEnded received).record r).state ≠ .taking := by
  rw [State.takingEnded, (State.placeFreed_moves _ _ true).state]
  exact State.endTaking_not_taking (s.highwayDropped_sendCtx received) (List.mem_finRange r)

theorem State.endTaking_takesKept (s : State) (rs : List RecIx) : TakesKept s (s.endTaking rs) := by
  induction rs generalizing s with
  | nil => exact .refl s
  | cons r rs ih =>
    unfold State.endTaking
    split
    · exact (s.endRecord_spec r).1.trans (ih _)
    · exact ih s

theorem State.takingEnded_takesKept : TakesKept (s.highwayDropped received) (s.takingEnded received) :=
  (State.endTaking_takesKept _ _).trans (State.placeFreed_serves _ _ true).toTakesKept

/-! ### The copies (R63) -/

theorem State.returnCopies_copyIs {s : State} {ref : CopyRef} {x : Copy} (h : CopyIs s ref x) :
    CopyIs s.returnCopies ref x.returned := by
  simp only [CopyIs] at h ⊢
  rw [State.returnCopies_record]
  simp [h]

/-- No copy is in a state of the highway. -/
def NoHighwayCopies (s : State) : Prop := ∀ r, ∀ c ∈ (s.record r).copies, inHighwayState c.state = false

theorem State.returnCopies_noHighwayCopies (s : State) : NoHighwayCopies s.returnCopies := fun r c hc => by
  rw [State.returnCopies_record] at hc
  obtain ⟨d, -, rfl⟩ := List.mem_map.mp hc
  exact d.returned_state

theorem NoHighwayCopies.of_records {s t : State} (h : NoHighwayCopies s) (hr : ∀ r, t.record r = s.record r) :
    NoHighwayCopies t := fun r c hc => h r c (hr r ▸ hc)

theorem NoHighwayCopies.setCopyState {s : State} (h : NoHighwayCopies s) (ref : CopyRef) {st : CopyState}
    (hst : inHighwayState st = false) : NoHighwayCopies (s.setCopyState ref st) := fun r c hc => by
  rw [State.setCopyState, State.modCopy_record] at hc
  split at hc
  · obtain ⟨i, hi⟩ := List.mem_iff_getElem?.mp hc
    rw [List.getElem?_modify, Option.map_eq_map, Option.map_eq_some_iff] at hi
    obtain ⟨d, hd, rfl⟩ := hi
    have hdold := h r d (List.mem_of_getElem? hd)
    split
    · split
      · rfl
      · exact hst
    · exact hdold
  · exact h r c hc

theorem NoHighwayCopies.handOverMany {s : State} (h : NoHighwayCopies s) (fuel : Nat) :
    NoHighwayCopies (s.handOverMany fuel) := by
  induction fuel generalizing s with
  | zero => exact h
  | succ fuel ih =>
    unfold State.handOverMany
    split
    · exact h
    · split
      · exact h
      · next ref rest _ _ =>
        have hlist : NoHighwayCopies (s.modRouter fun r => { r with deadList := rest }) := h.of_records fun _ => rfl
        refine ih ((hlist.setCopyState ref (st := .deadQueued) rfl).of_records fun r => ?_)
        exact (State.beginPrint_printsOnly _).card.record r

theorem NoHighwayCopies.post {s : State} (h : NoHighwayCopies s) (n : Notice) : NoHighwayCopies (s.post n) :=
  have hprint := (State.beginPrint_printsOnly (s.modSup fun u => u.posted n)).card
  NoHighwayCopies.handOverMany (h.of_records fun r => hprint.record r) _

end

end Sys2Proof.Machine
end

section
namespace Sys2Proof.Machine

/-! ### What the router has after a warm restart (R63, R77) -/

theorem keptThrough_congr {s t : State} (h : ∀ r, t.record r = s.record r) (r : RecIx) :
    keptThrough t r = keptThrough s r := by
  simp only [keptThrough, State.copy, h]

theorem returnedBy_congr {s t : State} (h : ∀ r, t.record r = s.record r) : returnedBy t = returnedBy s := by
  simp only [returnedBy, keptThrough_congr h, State.copy, h]

section
variable (s : State) (received : Bool)

theorem State.highwayDropped_record (r : RecIx) : (s.highwayDropped received).record r = s.record r := by
  obtain ⟨x, e⟩ := s.highwayDropped_eq received
  rw [e]
  rfl

theorem State.highwayDropped_router : (s.highwayDropped received).router = s.router := by
  obtain ⟨x, e⟩ := s.highwayDropped_eq received
  rw [e]

theorem HighwayCopiesApart.highwayDropped {s : State} (h : HighwayCopiesApart s) (received : Bool) :
    HighwayCopiesApart (s.highwayDropped received) := by
  obtain ⟨x, e⟩ := s.highwayDropped_eq received
  rw [e]
  exact h

end

theorem State.returnCopies_restartList (s : State) :
    s.returnCopies.router.restartList = s.router.restartList ++ s.returnedCopies := rfl

theorem State.returnCopies_elsewhere (s : State) (ref : CopyRef) : Elsewhere s.returnCopies ref ↔ Elsewhere s ref := .rfl

/-- A copy that stood nowhere else is as it was. -/
theorem CopyMoved.copyIs {s u : State} {ref : CopyRef} {x : Copy} (h : CopyMoved s u ref) (hplace : ¬Elsewhere s ref)
    (hx : CopyIs s ref x) (hthere : ∃ y, CopyIs u ref y) : CopyIs u ref x := by
  obtain ⟨y, hy⟩ := hthere
  rcases h with heq | ⟨hno, -⟩
  · rwa [← State.copyIs_copy hx, ← heq, State.copyIs_copy hy]
  · exact absurd hno hplace

theorem Moves.copyIs {s u : State} {ref : CopyRef} {x : Copy} (h : Moves s u) (hplace : ¬Elsewhere s ref)
    (hx : CopyIs s ref x) : CopyIs u ref x :=
  (h.copy ref).copyIs hplace hx ((CopyIs.of_kept h.kept).mpr ⟨x, hx⟩)

theorem Ends.copyIs {s u : State} {r : RecIx} {i : CopyIx} {x : Copy} (h : Ends s u) (hplace : ¬Elsewhere s ⟨r, i⟩)
    (hx : CopyIs s ⟨r, i⟩ x) (hlt : i.val < (u.record r).copies.length) : CopyIs u ⟨r, i⟩ x := by
  have hthere : ∃ y, CopyIs u ⟨r, i⟩ y := CopyIs.of_length.mpr hlt
  cases h.fate r with
  | kept length copies state => exact (copies i).copyIs hplace hx hthere
  | cut length copies taking state started => exact (copies i).copyIs hplace hx hthere
  | freed taking fresh state copies => simp [copies] at hlt

theorem Copy.returned_of_highway {c : Copy} (h : inHighwayState c.state = true) :
    c.returned = { c with state := .unrouted, attempt := 0, spoil := 0 } := if_pos h

/-- The copies a warm restart returns stand in a copy table, in a state of the highway (R63). -/
theorem mem_returnedBy {s : State} {r : RecIx} {i : CopyIx} (h : ⟨r, i⟩ ∈ returnedBy s) :
    i.val < (s.record r).copies.length ∧ keptThrough s r = true ∧ inHighwayState (s.copy ⟨r, i⟩).state = true := by
  obtain ⟨q, -, hq⟩ := List.mem_flatMap.mp h
  obtain ⟨hq, htest⟩ := List.mem_filter.mp hq
  obtain ⟨j, -, hj⟩ := List.mem_map.mp hq
  cases hj
  simpa only [Bool.and_eq_true, decide_eq_true_eq, highwayStates_contains, and_assoc] using htest

section
variable {s : State} (sender : Slot) (received : Bool) (hapart : HighwayCopiesApart s)
  (hone : ∀ r, (s.record r).state = .taking → (s.record r).copies.length = 1)
include hapart hone

/-- The restart list has lost the copies of freed records and gained the highway's (R77). -/
theorem State.restartPosted_restartList : (s.restartPosted sender received).router.restartList =
    (s.router.restartList.filter fun ref => keptThrough s ref.record || ref.ix ≠ 0) ++ returnedBy s := by
  have hends := s.takingEnded_ends received
  have hdone := s.takingEnded_not_taking received
  have hrec := s.highwayDropped_record received
  have hlist := hends.restartList_eq hdone (hapart.highwayDropped received)
  have hback := hends.returnedCopies_eq hdone (hapart.highwayDropped received) (by simpa only [hrec] using hone)
  simp only [keptThrough_congr hrec, s.highwayDropped_router received] at hlist
  rw [returnedBy_congr hrec] at hback
  rw [State.restartPosted, (State.post_moves _ _).restartList, State.returnCopies_restartList, hlist, hback]

/-- A copy the highway held is UNROUTED with both counts 0 (R63). -/
theorem State.restartPosted_copyIs {ref : CopyRef} {x : Copy} (hback : ref ∈ returnedBy s) (hx : CopyIs s ref x) :
    CopyIs (s.restartPosted sender received) ref { x with state := .unrouted, attempt := 0, spoil := 0 } := by
  have hends := s.takingEnded_ends received
  have hdone := s.takingEnded_not_taking received
  have hrec := s.highwayDropped_record received
  obtain ⟨r, i⟩ := ref
  have hheld := mem_returnedBy hback
  have hapart' := hapart.highwayDropped received
  have hplace : ¬Elsewhere (s.highwayDropped received) ⟨r, i⟩ :=
    hapart'.not_elsewhere (.inl (by rw [State.copy, hrec]; exact hheld.2.2))
  obtain ⟨hlt, -⟩ := (hends.returned_iff hdone hapart' (by simpa only [hrec] using hone) r i).mpr
    (by simpa only [keptThrough_congr hrec, State.copy, hrec] using hheld)
  have hended : CopyIs (s.takingEnded received) ⟨r, i⟩ x :=
    hends.copyIs hplace (by rw [CopyIs, hrec]; exact hx) hlt
  have hreturned := State.returnCopies_copyIs hended
  rw [Copy.returned_of_highway (by rw [← State.copyIs_copy hx]; exact hheld.2.2)] at hreturned
  exact (State.post_moves _ _).copyIs (fun he => hplace (hends.elsewhere _ ((State.returnCopies_elsewhere _ _).mp he))) hreturned

end

end Sys2Proof.Machine
end

section
namespace Sys2Proof.Machine

/-! ### The two commands of a warm restart (R92, R93) -/

/-- A frame as encoded passes its check, and its body is parsed (R80, R81). -/
theorem parseFrame_encode (f : Frame) : parseFrame f.encode = parseBody f.body := by
  have hlen : (f.body ++ checkBytes (crc16 f.body)).length - 2 = f.body.length := by
    rw [List.length_append]
    rfl
  rw [parseFrame, Frame.encode, hlen, List.drop_left, List.take_left]
  exact if_pos rfl

theorem parseFrame_restart (sender : Slot) : parseFrame (Frame.restart sender).encode = some (.restart sender) := by
  rw [parseFrame_encode]
  revert sender
  decide

theorem exec_restartReceived {s : State} (h : TakesFrames s) (sender : Slot) :
    exec (.restartReceived (Frame.restart sender).encode) s = .next (s.warmRestart sender true) := by
  have hp := parseFrame_restart sender
  have hw : Instr.wellFormed (.restartReceived (Frame.restart sender).encode) = true := kindFits_of_parse hp
  show execRestartReceived _ s = _
  simp only [execRestartReceived, hw, State.heard_of_takes h, hp]
  rfl

/-- The card with its armed key used up. -/
def State.keyUsed (s : State) : State := { s with boot := { s.boot with keyArmed := false } }

theorem exec_restartKeyPress {s : State} (hrun : s.running = true) (harmed : s.boot.keyArmed = true) :
    exec .restartKeyPress s = .next s.keyUsed.ownRestart := by
  show execRestartKeyPress s = _
  simp only [execRestartKeyPress, harmed, hrun, Bool.and_self, if_true, State.keyUsed]

/-- A RUNNING card's own RESTART frame is pending, and its tenure told (R92). -/
def State.restartWaits (s : State) : State := (s.modPort fun p => { p with restartPending := true }).refreshTenure

theorem State.ownRestart_eq (s : State) : s.ownRestart = (s.warmRestart s.boot.slot false).restartWaits := rfl

theorem State.restartWaits_eq (s : State) :
    ∃ x, s.restartWaits = { s with port := { s.port with restartPending := true, tenure := x } } := by
  obtain ⟨x, e⟩ := (s.modPort fun p => { p with restartPending := true }).refreshTenure_keeps
  exact ⟨x, e⟩

/-! ### The hold-off (R77, R94) -/

theorem State.post_boot (s : State) (n : Notice) : (s.post n).boot = s.boot := congrArg Prod.fst (s.post_frame n)
theorem State.returnCopies_port (s : State) : s.returnCopies.port = s.port := rfl
theorem State.returnCopies_boot (s : State) : s.returnCopies.boot = s.boot := rfl
theorem State.returnCopies_waitList (s : State) : s.returnCopies.router.waitList = [] := rfl

section
variable (s : State) (sender : Slot) (received : Bool)

theorem State.restartPosted_port : (s.restartPosted sender received).port = (s.highwayDropped received).port := by
  rw [State.restartPosted, (State.post_moves _ _).port, State.returnCopies_port, (s.takingEnded_ends received).port]

theorem State.restartPosted_waitList : (s.restartPosted sender received).router.waitList = [] := by
  rw [State.restartPosted, (State.post_moves _ _).waitList, State.returnCopies_waitList]

theorem State.restartPosted_sendCtx (k : CtxIx) : (s.restartPosted sender received).sendCtx k = none := by
  rw [State.sendCtx, s.restartPosted_port sender received]
  exact s.highwayDropped_sendCtx received k

theorem State.restartPosted_boot : (s.restartPosted sender received).boot = s.boot := by
  obtain ⟨x, e⟩ := s.highwayDropped_eq received
  rw [State.restartPosted, State.post_boot, State.returnCopies_boot, (s.takingEnded_takesKept received).boot, e]

end

theorem State.startHoldOff_of_slot {s : State} (h : s.boot.slot.val ≠ 0) :
    s.startHoldOff = s.modPort fun p => { p with holdOff := some (50 * s.boot.slot.val) } := if_neg h

theorem State.startHoldOff_of_zero {s : State} (h : s.boot.slot.val = 0) : s.startHoldOff = s.holdOffEnds := if_pos h

/-- The restart list is taken up as the hold-off ends (R77). -/
def State.restartListTaken (s : State) : State :=
  (s.modPort fun p => { p with holdOff := none }).modRouter fun r => { r with restartList := [] }

theorem State.holdOffEnds_eq (s : State) : s.holdOffEnds =
    ((s.restartListTaken.dispatchRestart s.router.restartList).1.modRouter fun r =>
      { r with waitList := (s.restartListTaken.dispatchRestart s.router.restartList).2 ++ r.waitList }).serveWaitList := rfl

/-- The hold-off ends with nothing on the restart list and nothing waiting: nothing starts (R77). -/
theorem State.holdOffEnds_of_empty {s : State} (hr : s.router.restartList = []) (hw : s.router.waitList = []) :
    s.holdOffEnds.port.send = s.port.send ∧ s.holdOffEnds.router.waitList = [] := by
  have hnone : ∀ u : State, u.router.waitList = [] → u.serveWaitList = u := fun u hu => by
    rw [State.serveWaitList, hu]
    rfl
  rw [State.holdOffEnds_eq, hr, hnone _ (by exact hw)]
  exact ⟨rfl, hw⟩

/-! ### The copies (R63, R77) -/

/-- What a warm restart leaves of the copies and the lists (R63, R77). -/
theorem State.warmRestart_copies {s : State} (sender : Slot) (received : Bool) (hapart : HighwayCopiesApart s)
    (hone : ∀ r, (s.record r).state = .taking → (s.record r).copies.length = 1) :
    let t := s.warmRestart sender received
    (s.boot.slot.val ≠ 0 →
      t.router.restartList = (s.router.restartList.filter fun ref => keptThrough s ref.record || ref.ix ≠ 0) ++
        returnedBy s ∧
      ∀ ref x, ref ∈ returnedBy s → CopyIs s ref x →
        CopyIs t ref { x with state := .unrouted, attempt := 0, spoil := 0 }) ∧
    (s.boot.slot.val = 0 → s.router.restartList = [] → returnedBy s = [] →
      (∀ k, t.sendCtx k = none) ∧ t.router.waitList = []) := by
  have hlist := State.restartPosted_restartList sender received hapart hone
  have hcopy := fun ref x => State.restartPosted_copyIs (ref := ref) (x := x) sender received hapart hone
  have hwait := s.restartPosted_waitList sender received
  have hsend := s.restartPosted_sendCtx sender received
  have hboot := s.restartPosted_boot sender received
  simp only [State.warmRestart_eq]
  generalize s.restartPosted sender received = v at *
  refine ⟨fun hslot => ?_, fun hslot hr hback => ?_⟩
  · rw [State.startHoldOff_of_slot (by rw [hboot]; exact hslot)]
    exact ⟨hlist, hcopy⟩
  · rw [hr, hback] at hlist
    obtain ⟨hs, hw⟩ := State.holdOffEnds_of_empty (s := v) hlist hwait
    rw [State.startHoldOff_of_zero (by rw [hboot]; exact hslot)]
    refine ⟨fun k => ?_, hw⟩
    rw [State.sendCtx, hs]
    exact hsend k

/-- Settles O9: the end of the TAKING records moves no copy that the highway or the restart list holds, but frees the
records whose copies have not started. -/
theorem warmRestartReturnsTheCopies : Obligations.WarmRestartReturnsTheCopies := by
  rintro s c sender hrun (⟨rfl, harmed, rfl⟩ | ⟨rfl, hidle⟩) hapart hone
  · obtain ⟨hslot, hzero⟩ := State.warmRestart_copies (s := s.keyUsed) s.boot.slot false hapart hone
    have hexec := exec_restartKeyPress hrun harmed
    have hrec : ∀ r, s.keyUsed.record r = s.record r := fun _ => rfl
    rw [State.ownRestart_eq, show s.keyUsed.boot.slot = s.boot.slot from rfl] at hexec
    simp only [returnedBy_congr hrec, keptThrough_congr hrec] at hslot hzero
    generalize s.keyUsed.warmRestart s.boot.slot false = w at hexec hslot hzero
    obtain ⟨x, e⟩ := w.restartWaits_eq
    rw [e] at hexec
    exact ⟨_, hexec, hslot, hzero⟩
  · exact ⟨_, exec_restartReceived ⟨hrun, hidle⟩ sender, State.warmRestart_copies sender true hapart hone⟩

end Sys2Proof.Machine
end

section
namespace Sys2Proof.Machine

/-! ### Copies that go out again as a hold-off ends (R77, R94) -/

/-- Every send context in use has its OFFER pending and nothing else begun. -/
def OffersOnlyPending (s : State) : Prop := ∀ k c, s.sendCtx k = some c → OffersCopy s k c.copy

/-- What the end of the hold-off may change of the port and the router: copies take send contexts with their OFFERs
pending, or wait; a frame that is being driven may lose its source. -/
structure Reopens (s t : State) : Prop where
  serves : Serves s t
  sup : t.sup = s.sup
  restartList : t.router.restartList = s.router.restartList
  burst : t.port.burst = s.port.burst
  restartPending : t.port.restartPending = s.port.restartPending
  holdOff : t.port.holdOff = s.port.holdOff
  driven : ∃ b, t.port.driven = s.port.driven.map fun d => { d with live := d.live && b }
  told : Told s → Told t
  sending : s.port.tenure = .sending → t.port.tenure = .sending
  offers : OffersOnlyPending s → OffersOnlyPending t

theorem OffersOnlyPending.congr {s t : State} (h : t.port.send = s.port.send) :
    OffersOnlyPending t ↔ OffersOnlyPending s := by
  simp only [OffersOnlyPending, OffersCopy, State.sendCtx, h]

theorem Reopens.of_port {s t : State} (hserves : Serves s t) (hsup : t.sup = s.sup)
    (hlist : t.router.restartList = s.router.restartList) (h : t.port = s.port) : Reopens s t where
  serves := hserves
  sup := hsup
  restartList := hlist
  burst := by rw [h]
  restartPending := by rw [h]
  holdOff := by rw [h]
  driven := ⟨true, by simp [h]⟩
  told := (Told.congr h).mpr
  sending := fun hs => by rw [h]; exact hs
  offers := (OffersOnlyPending.congr (by rw [h])).mpr

theorem Reopens.trans {s t u : State} (h₁ : Reopens s t) (h₂ : Reopens t u) : Reopens s u where
  serves := h₁.serves.trans h₂.serves
  sup := h₂.sup.trans h₁.sup
  restartList := h₂.restartList.trans h₁.restartList
  burst := h₂.burst.trans h₁.burst
  restartPending := h₂.restartPending.trans h₁.restartPending
  holdOff := h₂.holdOff.trans h₁.holdOff
  driven := by
    obtain ⟨b, hb⟩ := h₁.driven
    obtain ⟨c, hc⟩ := h₂.driven
    exact ⟨b && c, by rw [hc, hb, Option.map_map]; simp [Function.comp_def, Bool.and_assoc]⟩
  told := h₂.told ∘ h₁.told
  sending := h₂.sending ∘ h₁.sending
  offers := h₂.offers ∘ h₁.offers

theorem Reopens.refl (s : State) : Reopens s s := .of_port (.refl s) rfl rfl rfl

theorem State.bindLocal_reopens (s : State) (n : Line) (ref : CopyRef) : Reopens s (s.bindLocal n ref) := by
  have hserves := s.bindLocal_serves n ref
  unfold State.bindLocal at *
  split at *
  · exact .of_port hserves rfl rfl rfl
  · have hsched := (s.modCopy ref fun c => { c with line := some n }).enqueue_schedules n ref
    exact .of_port hserves hsched.sup (by rw [hsched.router]; rfl) hsched.port

theorem Port.asksOffer_driven (p : Port) (k : CtxIx) (ref : CopyRef) :
    ∃ b, (p.asksOffer k ref).driven = p.driven.map fun d => { d with live := d.live && b } := by
  cases hd : p.driven with
  | none => exact ⟨true, by simp [Port.asksOffer, hd]⟩
  | some d =>
    by_cases hs : d.source = .send k
    · exact ⟨false, by simp [Port.asksOffer, hd, hs]⟩
    · exact ⟨true, by simp [Port.asksOffer, hd, hs]⟩

theorem OffersOnlyPending.asksOffer {s v : State} (h : OffersOnlyPending s) {k : CtxIx} {ref : CopyRef}
    (hv : v.port.send = (s.port.asksOffer k ref).send) : OffersOnlyPending v := fun j c hc => by
  have hsend : v.sendCtx j = if j = k then some { Send.begun ref with pending := some ⟨.offer, s.port.stamp⟩ }
      else s.sendCtx j := by
    rw [State.sendCtx, hv]
    by_cases hj : j = k
    · subst hj
      simp [Port.asksOffer]
    · rw [if_neg hj]
      exact Vector.getElem_set_ne k.isLt j.isLt fun e => hj (Fin.ext e.symm)
  rw [OffersCopy]
  rw [hsend] at hc ⊢
  split at hc
  · next hj =>
    cases hc
    rw [if_pos hj]
    exact ⟨_, rfl⟩
  · next hj =>
    rw [if_neg hj]
    exact h j c hc

/-- A series starts: one context takes the copy with its OFFER pending (R69, R71). -/
theorem State.startSeries_reopens (s : State) (k : CtxIx) (ref : CopyRef) : Reopens s (s.startSeries k ref) := by
  have hserves := s.startSeries_serves k ref
  have hasks : s.startSeries k ref = _ := State.giveSend_asks _ k ref
  rw [hasks] at hserves ⊢
  generalize hv : ({ (s.modCopy ref fun c => { c with attempt := s.firstAttempt ref }).setCopyState ref .backoff with
    port := _ } : State) = v at *
  have hport : v.port = s.port.asksOffer k ref := by rw [← hv]; rfl
  obtain ⟨x, e⟩ := v.refreshTenure_keeps
  refine ⟨hserves, by rw [e, ← hv]; rfl, by rw [e, ← hv]; rfl, by rw [e, hport]; rfl, by rw [e, hport]; rfl,
    by rw [e, hport]; rfl, ?_, fun h => State.refreshTenure_told (by rw [hport]; exact h.outOrContending), fun h => ?_,
    fun h => h.asksOffer (k := k) (ref := ref) (by rw [e, hport])⟩
  · rw [e, hport]
    exact s.port.asksOffer_driven k ref
  · have htenure : v.port.tenure = .sending := by rw [hport]; exact h
    rw [State.refreshTenure_of_sending htenure, htenure]

theorem State.serveWaitMany_reopens (s : State) (fuel : Nat) : Reopens s (s.serveWaitMany fuel) := by
  induction fuel generalizing s with
  | zero => exact .refl s
  | succ fuel ih =>
    have hlist : ∀ rest, Reopens s (s.modRouter fun r => { r with waitList := rest }) := fun rest =>
      .of_port (s.modRouter_serves _) rfl rfl rfl
    unfold State.serveWaitMany
    split
    · split
      · simp only
        split
        · exact (hlist _).trans <| (State.bindLocal_reopens _ _ _).trans (ih _)
        · exact (hlist _).trans <| (State.startSeries_reopens _ _ _).trans (ih _)
      · exact .refl s
    · exact .refl s

theorem State.dispatchRestart_reopens (s : State) (refs : List CopyRef) : Reopens s (s.dispatchRestart refs).1 := by
  induction refs generalizing s with
  | nil => exact .refl s
  | cons ref refs ih =>
    have hcounts : Reopens s (s.startCounts ref) :=
      .of_port (s.modCopy_serves ref (by exact fun _ => ⟨rfl, id⟩)) rfl rfl rfl
    unfold State.dispatchRestart
    simp only
    split
    · exact hcounts.trans <| (State.bindLocal_reopens _ _ _).trans (ih _)
    · exact hcounts.trans <|
        (Reopens.of_port (State.setCopyState_serves _ ref (st := .backoff) (by decide)) rfl rfl rfl).trans (ih _)

theorem State.holdOffEnds_reopens (s : State) : Reopens s.restartListTaken s.holdOffEnds := by
  rw [State.holdOffEnds_eq]
  exact (State.dispatchRestart_reopens _ _).trans <|
    (Reopens.of_port (State.modRouter_serves _ _) rfl rfl rfl).trans (State.serveWaitMany_reopens _ _)

end Sys2Proof.Machine
end

section
namespace Sys2Proof.Machine

/-! ### No item is added in a warm restart but its own notice (R125, R158, R163) -/

/-- With no dead copy waiting none comes to wait, and the supervisor queue does not grow. -/
def QueueRests (s t : State) : Prop :=
  s.router.deadList = [] → t.router.deadList = [] ∧ t.sup.queue.length ≤ s.sup.queue.length

theorem QueueRests.refl (s : State) : QueueRests s s := fun h => ⟨h, le_rfl⟩

theorem QueueRests.trans {s t u : State} (h₁ : QueueRests s t) (h₂ : QueueRests t u) : QueueRests s u := fun h =>
  ⟨(h₂ (h₁ h).1).1, (h₂ (h₁ h).1).2.trans (h₁ h).2⟩

theorem QueueRests.of_same {s t : State} (hr : t.router.deadList = s.router.deadList) (hq : t.sup.queue = s.sup.queue) :
    QueueRests s t := fun h => ⟨hr.trans h, hq ▸ le_rfl⟩

theorem PrintsOnly.queueRests {s t : State} (h : PrintsOnly s t) : QueueRests s t := by
  have hcard := h.card
  rw [OnlySup] at hcard
  exact .of_same (by rw [hcard]) (congrArg Prod.fst h.account)

theorem OnlyLine.queueRests {n : Line} {s t : State} (h : OnlyLine n s t) : QueueRests s t :=
  .of_same (by rw [h.router]) (by rw [h.sup])

theorem State.linesLook_queueRests (s : State) (r : RecIx) (oldCount : Nat) (oldComplete : Bool) (ns : List Line) :
    QueueRests s (s.linesLook r oldCount oldComplete ns) := by
  induction ns generalizing s with
  | nil => exact .refl s
  | cons n ns ih =>
    have hline := (s.lineTextChanged_sendsOnly n r oldCount oldComplete).toSchedules
    exact (QueueRests.of_same (by rw [hline.router]) (by rw [hline.sup])).trans (ih _)

theorem State.endRecord_queueRests {s : State} (h : ∀ k, s.sendCtx k = none) (r : RecIx) : QueueRests s (s.endRecord r) := by
  unfold State.endRecord
  split
  · rw [State.cutShort_of_idle h]
    exact (QueueRests.of_same (t := s.modRecord r Record.cut) rfl rfl).trans <|
      (State.linesLook_queueRests _ r _ false _).trans (State.supTextChanged_printsOnly _ r).queueRests
  · obtain ⟨u, hu, e⟩ := State.copyTakenOff_of_idle h r
    rw [State.discardRecord_of_idle h]
    refine QueueRests.trans (t := s.copyTakenOff r) (fun hd => ?_) (.of_same rfl rfl)
    rw [e]
    refine ⟨?_, hu.trans ?_⟩
    · show s.router.deadList.filter _ = []
      rw [hd]
      rfl
    · rcases s.withdrawCopy_cases ⟨r, 0⟩ with e | ⟨n, -, -, e⟩
      · rw [e]
      · rw [e, (s.withdraw_onlyLine n ⟨r, 0⟩).sup]

theorem State.endTaking_queueRests {s : State} (h : ∀ k, s.sendCtx k = none) (rs : List RecIx) :
    QueueRests s (s.endTaking rs) := by
  induction rs generalizing s with
  | nil => exact .refl s
  | cons r rs ih =>
    unfold State.endTaking
    split
    · next ht =>
      refine (State.endRecord_queueRests h r).trans (ih fun k => ?_)
      rw [State.sendCtx, ((Ends.refl s).endRecord h ht).port]
      exact h k
    · exact ih h

theorem State.placeFreed_queueRests (s before : State) : QueueRests s (s.placeFreed before true) := fun hd => by
  have hsought : s.handOverSought Config.supervisorPlaces = s := by
    rcases s.handOverSought_cases 15 with ⟨-, h⟩ | ⟨hn, -⟩ | ⟨hn, -⟩
    · exact h
    · exact absurd (.inl hd) hn
    · exact absurd (.inl hd) hn
  rcases s.placeFreed_cases before true with ⟨-, h⟩ | ⟨-, ⟨-, h⟩ | ⟨h, -⟩⟩
  · rw [h]; exact ⟨hd, le_rfl⟩
  · rw [h, hsought]; exact ⟨hd, le_rfl⟩
  · cases h

theorem State.takingEnded_queueRests (s : State) (received : Bool) : QueueRests s (s.takingEnded received) := by
  have hdrop : QueueRests s (s.highwayDropped received) := by
    obtain ⟨x, e⟩ := s.highwayDropped_eq received
    rw [e]
    exact .of_same rfl rfl
  exact hdrop.trans <| (State.endTaking_queueRests (s.highwayDropped_sendCtx received) _).trans
    (State.placeFreed_queueRests _ _)

/-- With two places free a posted notice enters the queue, behind NOTICES LOST where some were (R158). -/
theorem Supervisor.mem_posted {u : Supervisor} (h : u.queue.length ≤ 14) (n : Notice) :
    Item.notice n ∈ (u.posted n).queue := by
  have hplaces : u.places ≠ 0 ∧ u.places ≠ 1 := by
    simp only [Supervisor.places, Config.supervisorPlaces]
    omega
  unfold Supervisor.posted
  rw [if_neg hplaces.1, if_neg hplaces.2]
  split <;> simp

theorem State.returnCopies_sup (s : State) : s.returnCopies.sup = s.sup := rfl
theorem State.returnCopies_state (s : State) (r : RecIx) : (s.returnCopies.record r).state = (s.record r).state := by
  rw [State.returnCopies_record]
theorem State.returnCopies_deadList (s : State) : s.returnCopies.router.deadList = s.router.deadList := rfl

/-- RESTART HEARD stands on the queue (R125). -/
theorem State.restartPosted_notice {s : State} (sender : Slot) (received : Bool) (hd : s.router.deadList = [])
    (hq : s.sup.queue.length ≤ 14) : Item.notice (.restartHeard sender) ∈ (s.restartPosted sender received).sup.queue := by
  obtain ⟨hdead, hlen⟩ := s.takingEnded_queueRests received hd
  obtain ⟨-, haccount, -⟩ := State.post_of_served (s.takingEnded received).returnCopies (.restartHeard sender)
    (.inl (by rw [State.returnCopies_deadList, hdead]))
  rw [State.returnCopies_sup] at haccount
  have hqueue := congrArg Prod.fst haccount
  simp only [Supervisor.account] at hqueue
  rw [State.restartPosted, hqueue]
  exact Supervisor.mem_posted (hlen.trans hq) _

/-! ### What is left after the posting (R63, R93) -/

section
variable (s : State) (sender : Slot) (received : Bool)

theorem State.post_serves (s : State) (n : Notice) : Serves s (s.post n) :=
  (s.modSup_serves fun u => u.posted n).trans <| (State.beginPrint_printsOnly _).card.serves.trans
    (State.handOverMany_serves _ _)

theorem State.returnCopies_takesKept (s : State) : TakesKept s s.returnCopies := ⟨rfl, rfl, rfl, rfl, rfl, rfl, rfl⟩

theorem State.restartPosted_takesKept : TakesKept (s.highwayDropped received) (s.restartPosted sender received) :=
  (s.takingEnded_takesKept received).trans <| (State.returnCopies_takesKept _).trans (State.post_serves _ _).toTakesKept

theorem State.restartPosted_not_taking (r : RecIx) : ((s.restartPosted sender received).record r).state ≠ .taking := by
  rw [State.restartPosted, (State.post_moves _ _).state, State.returnCopies_state]
  exact s.takingEnded_not_taking received r

theorem State.restartPosted_noHighwayCopies : NoHighwayCopies (s.restartPosted sender received) :=
  (State.returnCopies_noHighwayCopies _).post _

/-! ### The start of the hold-off (R77, R94) -/

/-- The hold-off as it starts, and in slot 0 what its end sends out again: a card that differs from `s` in the hold-off
and the restart list, and then reopens. -/
theorem State.startHoldOff_reopens : ∃ b : State, Reopens b s.startHoldOff ∧ b.store = s.store ∧ b.sup = s.sup ∧
    b.boot = s.boot ∧ ∃ h, b.port = { s.port with holdOff := h } := by
  by_cases hslot : s.boot.slot.val = 0
  · rw [State.startHoldOff_of_zero hslot]
    exact ⟨_, s.holdOffEnds_reopens, rfl, rfl, rfl, none, rfl⟩
  · rw [State.startHoldOff_of_slot hslot]
    exact ⟨_, .refl _, rfl, rfl, rfl, _, rfl⟩

end

/-! ### A warm restart as a whole (R63, R77, R93) -/

section
variable (s : State) (sender : Slot) (received : Bool)

theorem State.highwayDropped_takes : (∀ k, (s.highwayDropped received).takeCtx k = none) ∧
    (s.highwayDropped received).port.answers = [] ∧ (s.highwayDropped received).port.ended = [] ∧
    (s.highwayDropped received).port.burst = 0 ∧
    (∀ k : CtxIx, (s.highwayDropped received).store.reserved[k] = 0) ∧ (s.highwayDropped received).store.pledges = 0 := by
  obtain ⟨x, e⟩ := s.highwayDropped_eq received
  rw [e]
  refine ⟨fun k => ?_, rfl, rfl, rfl, fun k => ?_, rfl⟩
  · simp [State.takeCtx, Port.restarted]
  · simp

theorem State.highwayDropped_driven : (s.highwayDropped received).port.driven = s.port.driven.map fun d =>
    { d with live := d.live && d.source = .restart && !received } := by
  obtain ⟨x, e⟩ := s.highwayDropped_eq received
  rw [e]
  rfl

theorem State.warmRestart_ended : HighwayEnded s (s.warmRestart sender received) := by
  obtain ⟨htake, hanswers, hended, hburst, hreserved, hpledges⟩ := s.highwayDropped_takes received
  have hkept := s.restartPosted_takesKept sender received
  have hport := s.restartPosted_port sender received
  have htaking := s.restartPosted_not_taking sender received
  have hinputs := s.warmRestart_inputs sender received
  have hpool := s.warmRestart_pool sender received
  rw [State.warmRestart_eq] at *
  generalize s.restartPosted sender received = v at *
  obtain ⟨b, hreopens, hstore, -, -, h, hb⟩ := v.startHoldOff_reopens
  generalize v.startHoldOff = w at *
  have hserves := hreopens.serves
  refine ⟨fun k => ?_, ?_, ?_, ?_, fun k => ?_, ?_, fun r => ?_, hinputs, fun a => by rw [hpool]⟩
  · rw [hserves.takeCtx, State.takeCtx, hb]
    exact (hkept.takeCtx k).trans (htake k)
  · rw [hserves.answers, hb]
    exact hkept.answers.trans hanswers
  · rw [hserves.ended, hb]
    exact hkept.ended.trans hended
  · rw [hreopens.burst, hb]
    show v.port.burst = 0
    rw [hport, hburst]
  · rw [hserves.reserved, hstore, hkept.reserved]
    exact hreserved k
  · rw [hserves.pledges, hstore, hkept.pledges, hpledges]
  · obtain ⟨cs, e⟩ := hserves.record r
    rw [e, State.record, hstore]
    exact htaking r

theorem State.warmRestart_cleared (h : s.boot.slot.val ≠ 0) : HighwayCleared s (s.warmRestart sender received) := by
  have hended := s.warmRestart_ended sender received
  have hsend := s.restartPosted_sendCtx sender received
  have hwait := s.restartPosted_waitList sender received
  have hcopies := s.restartPosted_noHighwayCopies sender received
  have hboot := s.restartPosted_boot sender received
  rw [State.warmRestart_eq] at *
  generalize s.restartPosted sender received = v at *
  rw [State.startHoldOff_of_slot (by rw [hboot]; exact h), hboot] at *
  refine ⟨hended, hsend, rfl, hwait, fun r c hc => ?_⟩
  have hstate := hcopies r c hc
  refine ⟨?_, ?_, ?_, ?_⟩ <;> (intro hs; rw [hs] at hstate; cases hstate)

theorem State.warmRestart_reopened (h : s.boot.slot.val = 0) : HighwayReopened s (s.warmRestart sender received) := by
  have hended := s.warmRestart_ended sender received
  have hsend := s.restartPosted_sendCtx sender received
  have hboot := s.restartPosted_boot sender received
  rw [State.warmRestart_eq] at *
  generalize s.restartPosted sender received = v at *
  have hreopens := v.holdOffEnds_reopens
  rw [State.startHoldOff_of_zero (by rw [hboot]; exact h)] at *
  refine ⟨hended, hreopens.holdOff, hreopens.restartList, hreopens.offers fun k c hc => ?_⟩
  have hnone : v.restartListTaken.sendCtx k = none := hsend k
  rw [hnone] at hc
  cases hc

/-- What a warm restart leaves of the tenure, of the frame that is being driven and of the card's own RESTART (R92, R93). -/
structure TenureAfter (s t : State) (received : Bool) : Prop where
  boot : t.boot = s.boot
  restartPending : t.port.restartPending = (s.port.restartPending && !received)
  told : s.port.driven = none → Told t
  sending : s.port.driven ≠ none → s.port.tenure = .sending → t.port.tenure = .sending
  driven : ∃ b, t.port.driven = s.port.driven.map fun d =>
    { d with live := d.live && d.source = .restart && !received && b }

theorem State.warmRestart_tenure : TenureAfter s (s.warmRestart sender received) received := by
  obtain ⟨x, e⟩ := s.highwayDropped_eq received
  obtain ⟨htold, hsending⟩ := s.highwayDropped_tenure received
  have hdriven := s.highwayDropped_driven received
  have hport := s.restartPosted_port sender received
  have hboot := s.restartPosted_boot sender received
  have hpending : (s.highwayDropped received).port.restartPending = (s.port.restartPending && !received) := by
    rw [e]
    rfl
  clear e
  rw [State.warmRestart_eq]
  generalize s.restartPosted sender received = v at *
  generalize s.highwayDropped received = u at *
  obtain ⟨b, hreopens, -, -, hbboot, h, hb⟩ := v.startHoldOff_reopens
  generalize v.startHoldOff = w at *
  refine ⟨by rw [hreopens.serves.boot, hbboot, hboot], ?_, fun hd => ?_, fun hd hs => ?_, ?_⟩
  · rw [hreopens.restartPending, hb]
    exact (congrArg Port.restartPending hport).trans hpending
  · exact hreopens.told ((Told.of_holdOff hb).mpr ((Told.congr hport).mpr (htold hd)))
  · refine hreopens.sending ?_
    rw [hb]
    exact (congrArg Port.tenure hport).trans (hsending hd hs)
  · obtain ⟨c, hc⟩ := hreopens.driven
    refine ⟨c, ?_⟩
    rw [hc, hb]
    show v.port.driven.map _ = _
    rw [hport, hdriven, Option.map_map]
    rfl

theorem State.warmRestart_notice (hd : s.router.deadList = []) (hq : s.sup.queue.length ≤ 14) :
    Item.notice (.restartHeard sender) ∈ (s.warmRestart sender received).sup.queue := by
  have hnotice := State.restartPosted_notice sender received hd hq
  rw [State.warmRestart_eq]
  generalize s.restartPosted sender received = v at *
  obtain ⟨b, hreopens, -, hsup, -⟩ := v.startHoldOff_reopens
  rwa [hreopens.sup, hsup]

end

end Sys2Proof.Machine
end

section
namespace Sys2Proof.Machine

/-! ### The statement on the highway after a warm restart (R92, R93) -/

/-- What is left of the frame that is being driven, as the statement says it, of a card whose own RESTART may wait. -/
theorem TenureAfter.driven_live {s t : State} {received : Bool} (h : TenureAfter s t received) {d : Driven}
    (hd : s.port.driven = some d) : ∃ live, t.port.driven = some { d with live := live } ∧
      (d.source ≠ .restart ∨ received = true → live = false) := by
  obtain ⟨b, hb⟩ := h.driven
  rw [hd] at hb
  refine ⟨_, hb, fun hno => ?_⟩
  rcases hno with hs | rfl
  · simp [hs]
  · simp

theorem TenureAfter.tenure_of_none {s t : State} {received : Bool} (h : TenureAfter s t received)
    (hd : s.port.driven = none) : t.port.driven = none ∧ Told t := by
  obtain ⟨b, hb⟩ := h.driven
  exact ⟨by rw [hb, hd]; rfl, h.told hd⟩

/-- The card's own RESTART frame moves nothing of this but its own mark and the tenure (R92). -/
theorem HighwayEnded.restartWaits {s w : State} (h : HighwayEnded s w) : HighwayEnded s w.restartWaits := by
  obtain ⟨x, e⟩ := w.restartWaits_eq
  rw [e]
  exact h

theorem HighwayCleared.restartWaits {s w : State} (h : HighwayCleared s w) : HighwayCleared s w.restartWaits := by
  obtain ⟨hended, hrest⟩ := h
  refine ⟨hended.restartWaits, ?_⟩
  obtain ⟨x, e⟩ := w.restartWaits_eq
  rw [e]
  exact hrest

theorem HighwayReopened.restartWaits {s w : State} (h : HighwayReopened s w) : HighwayReopened s w.restartWaits := by
  obtain ⟨hended, hrest⟩ := h
  refine ⟨hended.restartWaits, ?_⟩
  obtain ⟨x, e⟩ := w.restartWaits_eq
  rw [e]
  exact hrest

theorem State.restartWaits_told {w : State} (h : Told w) : Told w.restartWaits := State.refreshTenure_told h.outOrContending

theorem State.restartWaits_sending {w : State} (h : w.port.tenure = .sending) : w.restartWaits.port.tenure = .sending := by
  have htenure : (w.modPort fun p => { p with restartPending := true }).port.tenure = .sending := h
  rw [State.restartWaits, State.refreshTenure_of_sending htenure, htenure]

/-- Settles O8: the port is cleared first and stays clear while the TAKING records end; the copies go back, and in slot 0
some go out again with their OFFERs pending. -/
theorem warmRestartClearsTheHighway : Obligations.WarmRestartClearsTheHighway := by
  rintro s c sender hrun (⟨rfl, harmed, rfl⟩ | ⟨rfl, hidle⟩)
  · have hexec := exec_restartKeyPress hrun harmed
    have hframe := s.keyUsed.warmRestart_frame s.boot.slot false
    have hcleared := s.keyUsed.warmRestart_cleared s.boot.slot false
    have hreopened := s.keyUsed.warmRestart_reopened s.boot.slot false
    have htenure := s.keyUsed.warmRestart_tenure s.boot.slot false
    have hnotice := s.keyUsed.warmRestart_notice s.boot.slot false
    rw [State.ownRestart_eq, show s.keyUsed.boot.slot = s.boot.slot from rfl] at hexec
    generalize s.keyUsed.warmRestart s.boot.slot false = w at *
    obtain ⟨x, e⟩ := w.restartWaits_eq
    refine ⟨_, hexec, ?_, fun h => HighwayCleared.restartWaits (hcleared h),
      fun h => HighwayReopened.restartWaits (hreopened h), fun _ => ?_, fun h => absurd rfl h, fun hd => ?_, fun d hd => ?_,
      fun hdead hq => ?_⟩
    · rw [e]
      exact congrArg Prod.snd hframe
    · rw [e]
      exact ⟨rfl, htenure.boot⟩
    · obtain ⟨hnone, htold⟩ := htenure.tenure_of_none hd
      exact ⟨by rw [e]; exact hnone, State.restartWaits_told htold⟩
    · have hdriven : s.keyUsed.port.driven ≠ none := by
        rw [show s.keyUsed.port = s.port from rfl, hd]
        nofun
      obtain ⟨live, hlive, hdead⟩ := htenure.driven_live hd
      refine ⟨fun hs => State.restartWaits_sending (htenure.sending hdriven hs), live, by rw [e]; exact hlive, fun h => hdead (h.imp_right fun h => absurd rfl h)⟩
    · rw [e]
      exact hnotice hdead hq
  · have hexec := exec_restartReceived ⟨hrun, hidle⟩ sender
    have hframe := s.warmRestart_frame sender true
    have hcleared := s.warmRestart_cleared sender true
    have hreopened := s.warmRestart_reopened sender true
    have htenure := s.warmRestart_tenure sender true
    have hnotice := s.warmRestart_notice sender true
    generalize s.warmRestart sender true = w at *
    refine ⟨w, hexec, congrArg Prod.snd hframe, hcleared, hreopened, nofun, fun _ => ⟨?_, htenure.boot⟩,
      htenure.tenure_of_none, fun d hd => ?_, hnotice⟩
    · rw [htenure.restartPending, Bool.not_true, Bool.and_false]
    · obtain ⟨live, hlive, hdead⟩ := htenure.driven_live hd
      exact ⟨fun hs => htenure.sending (by rw [hd]; nofun) hs, live, hlive, fun _ => hdead (.inr rfl)⟩

end Sys2Proof.Machine
end

section
namespace Sys2Proof.Machine

/-! ### The line for an offered copy (R1, R64, R65, R100) -/

/-- A line that may serve a copy: it has a send condition, and that is not FAILED (R1, R64). -/
theorem State.canSend_iff (s : State) (n : Line) :
    s.canSend n = true ↔ s.sendCond n ≠ none ∧ s.sendCond n ≠ some .failed := by
  rw [State.canSend]
  rcases s.sendCond n with _ | (_ | _ | _) <;> simp

section
variable {s : State} {code : StationCode} {attempt : Nat} {n : Line}

theorem State.localLine_eq_some : s.localLine code = some n ↔
    ∃ e, s.boot.cfg.stations.find? (fun e => e.code = code) = some e ∧ e.line = n ∧ s.canSend n = true := by
  unfold State.localLine
  split
  · next e he =>
    rw [he, Option.ite_none_right_eq_some]
    constructor
    · rintro ⟨hc, ⟨⟩⟩
      exact ⟨e, rfl, rfl, hc⟩
    · rintro ⟨_, ⟨⟩, rfl, hc⟩
      exact ⟨hc, rfl⟩
  · next he => simp [he]

theorem State.stationLine_eq_some : s.stationLine code attempt = some n ↔
    ∃ e, s.boot.cfg.stations.find? (fun e => e.code = code) = some e ∧ e.line = n ∧ s.canSend n = true ∧
      (e.preference = .primary ∨ 2 ≤ attempt) := by
  unfold State.stationLine
  split
  · next e he =>
    rw [he, Option.ite_none_right_eq_some]
    simp only [Bool.and_eq_true, Bool.or_eq_true, decide_eq_true_eq]
    constructor
    · rintro ⟨⟨hc, hp⟩, ⟨⟩⟩
      exact ⟨e, rfl, rfl, hc, hp⟩
    · rintro ⟨_, ⟨⟩, rfl, hc, hp⟩
      exact ⟨⟨hc, hp⟩, rfl⟩
  · next he => simp [he]

theorem State.interceptLine_eq_some : s.interceptLine = some n ↔
    s.boot.cfg.intercept = some n ∧ s.canSend n = true := by
  unfold State.interceptLine
  split
  · next m hm =>
    rw [hm, Option.ite_none_right_eq_some]
    constructor
    · rintro ⟨hc, ⟨⟩⟩
      exact ⟨rfl, hc⟩
    · rintro ⟨⟨⟩, hc⟩
      exact ⟨hc, rfl⟩
  · next hm => simp [hm]

theorem State.interceptAt_eq_some : s.interceptAt attempt = some n ↔
    s.boot.cfg.intercept = some n ∧ s.boot.cfg.threshold ≤ attempt ∧ s.canSend n = true := by
  rw [State.interceptAt, Option.ite_none_right_eq_some, State.interceptLine_eq_some]
  exact and_left_comm

/-- The intercept test is made where the station test gives no line (R100). -/
theorem State.claimLine_eq_some : s.claimLine code attempt = some n ↔
    s.stationLine code attempt = some n ∨
      (∀ m, s.stationLine code attempt ≠ some m) ∧ s.interceptAt attempt = some n := by
  unfold State.claimLine
  split
  · next m hm => simp [hm]
  · next hm => simp [hm]

end

/-! ### An OFFER is weighed (R46, R52, R88, R99, R101) -/

/-- With the supervisor unit as it was before the command no place has fallen free (R160). -/
theorem State.tellPlaces_of_sup {s before : State} (h : s.sup = before.sup) : s.tellPlaces before = s :=
  if_pos (by rw [h])

/-- A search over all indices finds the lowest that meets the test. -/
theorem finRange_find?_eq_some {n : Nat} {p : Fin n → Bool} {i : Fin n} :
    (List.finRange n).find? p = some i ↔ p i = true ∧ ∀ j, j < i → p j = false := by
  rw [← Fin.find?_eq_find?_finRange]
  exact Fin.find?_eq_some_iff

theorem State.freeTakeCtx_of_lowest {s : State} {k : CtxIx} (hk : s.takeCtx k = none)
    (hlow : ∀ j, j < k → s.takeCtx j ≠ none) : s.freeTakeCtx = some k :=
  finRange_find?_eq_some.mpr ⟨by rw [hk]; rfl, fun j hj =>
    Bool.eq_false_iff.mpr fun h => hlow j hj (Option.isNone_iff_eq_none.mp h)⟩

theorem State.freeTakeCtx_of_full {s : State} (h : ∀ k, s.takeCtx k ≠ none) : s.freeTakeCtx = none :=
  List.find?_eq_none.mpr fun k _ => by simpa using h k

/-- A take context with a frame pending keeps the card from being OUT (R84). -/
theorem State.waiting_ne_nil_of_take {s : State} {k : CtxIx} {t : Take} (hk : s.takeCtx k = some t)
    (hp : t.pending ≠ none) : s.waiting ≠ [] := by
  obtain ⟨p, hp⟩ := Option.ne_none_iff_exists'.mp hp
  have htake : s.takeWaiting k = [⟨.take k, t.cls, p.kind.rank, p.stamp⟩] := by
    unfold State.takeWaiting
    rw [hk]
    cases t
    cases hp
    rfl
  intro h
  simp only [State.waiting, List.append_eq_nil_iff, List.flatMap_eq_nil_iff] at h
  obtain ⟨⟨⟨-, hnone⟩, -⟩, -⟩ := h
  exact List.cons_ne_nil _ _ (htake.symm.trans (hnone k (List.mem_finRange k)))

/-- The port with the CLAIM of a take context pending, before its tenure is told (R83, R101). -/
def Port.asksClaim (p : Port) (k : CtxIx) (t : Take) : Port :=
  { p with
    take := p.take.set k (some { t with pending := some ⟨.claim, p.stamp⟩ })
    stamp := p.stamp + 1
    driven := p.driven.map fun d => if d.source = .take k then { d with live := false } else d }

/-- A claim is made: reservation, pledge and a pending CLAIM (R46, R52, R101). -/
theorem State.claim_asks (s : State) (k : CtxIx) (t : Take) : s.claim k t = State.refreshTenure { s with
    port := s.port.asksClaim k t
    store := { s.store with
      reserved := s.store.reserved.set k (s.neededBlocks t.length), pledges := s.store.pledges + 1 } } := by
  rw [State.claim, State.askTake]
  refine congrArg State.refreshTenure ?_
  simp [State.modTake, State.setTake, State.setReserved, State.pledge, State.modStore, State.deaden, State.nextStamp,
    State.modPort, State.takeCtx, Port.asksClaim]

/-- Nothing else but the tenure moves with a claim, and a card that was OUT contends with its CLAIM (R84, R101). -/
theorem State.claim_eq (s : State) (k : CtxIx) (t : Take) : ∃ x, s.claim k t = { s with
      port := { s.port.asksClaim k t with tenure := x }
      store := { s.store with
        reserved := s.store.reserved.set k (s.neededBlocks t.length), pledges := s.store.pledges + 1 } } ∧
    (s.port.tenure = .out → x = .contending) := by
  rw [State.claim_asks]
  generalize hv : ({ s with port := s.port.asksClaim k t, store := _ } : State) = v
  have hctx : v.takeCtx k = some { t with pending := some ⟨.claim, s.port.stamp⟩ } := by
    rw [← hv]
    simp [State.takeCtx, Port.asksClaim]
  obtain ⟨x, hx⟩ := v.refreshTenure_keeps
  refine ⟨x, by rw [hx, ← hv], fun hout => ?_⟩
  have htold := State.refreshTenure_told (s := v) (.inl (by rw [← hv]; exact hout))
  have hwait := State.waiting_ne_nil_of_take (s := v.refreshTenure) (k := k) (by rw [hx]; exact hctx)
    (Option.some_ne_none _)
  rwa [Told, if_neg hwait, hx] at htold

/-- The tests under which an OFFER is claimed: a line for it, a FREE take context, a record beyond the pledges and room
under the floor of its class (R100, R101). -/
theorem State.claimDecision_of_claim {s : State} {tag : Tag} {cls : Precedence} {station : StationCode}
    {length : Option Nat} {cpm attempt : Nat} {n : Line} {k : CtxIx} (hheld : s.takeOf tag = none)
    (hline : s.claimLine station attempt = some n) (hctx : s.freeTakeCtx = some k)
    (hrec : s.store.recordAvailable = true) (hroom : s.store.admits cls (s.neededBlocks length) = true) :
    s.claimDecision tag cls station length cpm attempt =
      s.claim k (Take.claiming tag cls station length cpm attempt n) := by
  simp only [State.claimDecision, hheld, hline, hctx, hrec, hroom, Bool.and_self, if_true]

theorem State.claimDecision_of_decline {s : State} {tag : Tag} {cls : Precedence} {station : StationCode}
    {length : Option Nat} {cpm attempt : Nat} (h : s.claimLine station attempt = none ∨ s.freeTakeCtx = none ∨
      s.store.recordAvailable = false ∨ s.store.admits cls (s.neededBlocks length) = false) :
    s.claimDecision tag cls station length cpm attempt = s := by
  unfold State.claimDecision
  split
  · next hl hc =>
    rw [if_neg]
    rcases h with h | h | h | h
    · rw [h] at hl; cases hl
    · rw [h] at hc; cases hc
    · simp [h]
    · simp [h]
  · rfl

theorem State.claimDecision_sup (s : State) (tag : Tag) (cls : Precedence) (station : StationCode)
    (length : Option Nat) (cpm attempt : Nat) : (s.claimDecision tag cls station length cpm attempt).sup = s.sup := by
  unfold State.claimDecision
  split
  · split
    · obtain ⟨x, e, -⟩ := s.claim_eq _ _
      rw [e]
    · rfl
  · rfl

/-- An OFFER of a tag that no take context holds leaves the ended-take list, and the claim is decided (R88, R99). -/
theorem exec_offerReceived_unheld {s : State} {bytes : List Byte} {tag : Tag} {cls : Precedence}
    {station : StationCode} {length : Option Nat} {cpm attempt : Nat} (htakes : TakesFrames s)
    (hslot : tag.slot ≠ s.boot.slot) (hp : parseFrame bytes = some (.offer tag cls station length cpm attempt))
    (hheld : s.takeOf tag = none) : exec (.offerReceived bytes) s =
      .next ((s.dropEnded tag).claimDecision tag cls station length cpm attempt) := by
  have hw : Instr.wellFormed (.offerReceived bytes) = true := kindFits_of_parse hp
  have hweigh : s.weighOffer tag cls station length cpm attempt =
      (s.dropEnded tag).claimDecision tag cls station length cpm attempt := by
    simp only [State.weighOffer, State.weighLost, hheld]
    exact State.tellPlaces_of_sup (State.claimDecision_sup ..)
  show execOfferReceived bytes s = _
  simp only [execOfferReceived, hw, State.heard_of_takes htakes, hp, State.owns_of_ne hslot, hweigh]
  rfl

/-- Settles O42: the lines by the equations of the three tests, the claim by its one decision. -/
theorem offerIsClaimedOrDeclined : Obligations.OfferIsClaimedOrDeclined := by
  refine ⟨fun s station attempt => ?_, fun s bytes tag cls station length cpm attempt htakes hslot hp hno => ?_⟩
  · simp only [State.claimLine_eq_some, State.localLine_eq_some, State.interceptAt_eq_some, ne_eq,
      State.stationLine_eq_some, State.canSend_iff, implies_true, and_self]
  · have hheld := State.takeOf_of_none hno
    have hexec := exec_offerReceived_unheld htakes hslot hp hheld
    generalize hu : s.dropEnded tag = u at hexec
    have hue : u = { s with port := { s.port with ended := s.port.ended.filter fun e => e.tag ≠ tag } } := hu.symm
    have hadmits : u.store.admits cls (u.neededBlocks length) = true ↔
        s.store.reservationCount + (length.getD s.boot.cfg.lcut + 63) / 64 + floorOf cls ≤ s.store.freeList.length := by
      rw [hue, Store.admits, decide_eq_true_iff]
      rfl
    have havailable : u.store.recordAvailable = true ↔ s.store.pledges < s.store.freeRecords := by
      rw [hue, Store.recordAvailable, decide_eq_true_iff]
    refine ⟨fun n k hline hk hlow hrec hroom => ?_, fun hno => ?_⟩
    · rw [State.claimDecision_of_claim (n := n) (k := k) (by rw [hue]; exact hheld) (by rw [hue]; exact hline)
        (State.freeTakeCtx_of_lowest (by rw [hue]; exact hk) (by rw [hue]; exact hlow)) (havailable.mpr hrec)
        (hadmits.mpr hroom)] at hexec
      obtain ⟨x, e, htenure⟩ := u.claim_eq k (Take.claiming tag cls station length cpm attempt n)
      rw [e] at hexec
      rw [hue] at hexec htenure
      refine ⟨_, hexec, ?_, fun j hj => ?_, rfl, rfl, rfl, htenure, rfl, rfl, rfl, rfl, rfl⟩
      · simp [State.takeCtx, Port.asksClaim, Take.claiming]
      · exact Vector.getElem_set_ne k.isLt j.isLt fun h => hj (Fin.ext h.symm)
    · rw [State.claimDecision_of_decline, hue] at hexec
      · exact hexec
      · rcases hno with h | h | h | h
        · exact .inl (by rw [hue]; exact h)
        · exact .inr (.inl (State.freeTakeCtx_of_full (by rw [hue]; exact h)))
        · exact .inr (.inr (.inl (Bool.eq_false_iff.mpr fun ha => (havailable.mp ha).not_ge h)))
        · exact .inr (.inr (.inr (Bool.eq_false_iff.mpr fun ha => h (hadmits.mp ha))))

end Sys2Proof.Machine
end

section
namespace Sys2Proof.Machine

/-! ### The hand-over of dead copies, counted (R75, R157, R160) -/

/-- A copy that is as it was is there still. -/
theorem CopiesKept.copyIs {s t : State} (h : CopiesKept s t) {ref : CopyRef} {x : Copy}
    (hsame : t.copy ref = s.copy ref) (hx : CopyIs s ref x) : CopyIs t ref x := by
  obtain ⟨y, hy⟩ := (CopyIs.of_kept h).mpr ⟨x, hx⟩
  rwa [← State.copyIs_copy hx, ← hsame, State.copyIs_copy hy]

/-- The items that dead copies take on the supervisor queue (R75). -/
def deadItems (s : State) (refs : List CopyRef) : List Item :=
  refs.map fun ref => .dead ref (s.record ref.record).gen

theorem deadItems_congr {s t : State} (h : CopiesKept s t) (refs : List CopyRef) : deadItems t refs = deadItems s refs :=
  List.map_congr_left fun ref _ => by
    obtain ⟨_, e, -⟩ := h ref.record
    rw [e]

/-- How many dead copies find a place that is free on the supervisor queue (R160). -/
def State.deadRoom (s : State) : Nat := min s.router.deadList.length s.sup.places

theorem State.deadRoom_eq_zero {s : State} : s.deadRoom = 0 ↔ DeadCopiesServed s := by
  rw [State.deadRoom, Nat.min_eq_zero_iff, List.length_eq_zero_iff]
  exact or_congr_right (Nat.sub_eq_zero_iff_le (m := s.sup.queue.length) (n := 16))

theorem State.deadRoom_le (s : State) : s.deadRoom ≤ Config.supervisorPlaces :=
  (Nat.min_le_right ..).trans (Nat.sub_le ..)

/-- The first `j` copies of the dead wait list have taken places at the end of the supervisor queue, and nothing else has
moved but what the unit prints (R75, R160). -/
structure HandedOver (j : Nat) (s t : State) : Prop where
  card : ∃ c d u rs, t = { s with
    choices := c, router := { s.router with deadList := d }, sup := u, store := { s.store with records := rs } }
  queue : t.sup.queue = s.sup.queue ++ deadItems s (s.router.deadList.take j)
  lost : t.sup.lost = s.sup.lost
  deadList : t.router.deadList = s.router.deadList.drop j
  kept : CopiesKept s t
  copies : ∀ ref ∈ s.router.deadList.take j, ∀ x, CopyIs s ref x → x.state ≠ .settled →
    CopyIs t ref { x with state := .deadQueued }
  others : ∀ ref, ref ∉ s.router.deadList.take j → t.copy ref = s.copy ref

theorem OnlySup.handedOver {s t : State} (h : OnlySup s t) (ha : t.sup.account = s.sup.account) : HandedOver 0 s t := by
  obtain ⟨hq, hl⟩ := Prod.mk.inj ha
  rw [OnlySup] at h
  exact ⟨⟨_, _, _, _, h⟩, by rw [hq]; simp [deadItems], hl, by rw [h]; rfl, .of_records fun r => by rw [h]; rfl, nofun,
    fun ref _ => by rw [h]; rfl⟩

theorem PrintsOnly.handedOver {s t : State} (h : PrintsOnly s t) : HandedOver 0 s t := h.card.handedOver h.account

theorem HandedOver.refl (s : State) : HandedOver 0 s s := (PrintsOnly.refl s).handedOver

theorem State.chosen_handedOver (s : State) : HandedOver 0 s s.chosen :=
  ⟨⟨_, _, _, _, rfl⟩, by simp [deadItems, State.chosen], rfl, rfl, .of_records fun _ => rfl, nofun, fun _ _ => rfl⟩

theorem HandedOver.trans {i j : Nat} {s t u : State} (h₁ : HandedOver i s t) (h₂ : HandedOver j t u) :
    HandedOver (i + j) s u := by
  have htake : s.router.deadList.take (i + j) = s.router.deadList.take i ++ t.router.deadList.take j := by
    rw [h₁.deadList, List.take_add]
  refine ⟨?_, ?_, h₂.lost.trans h₁.lost, ?_, h₁.kept.trans h₂.kept, fun ref href x hx hs => ?_, fun ref href => ?_⟩
  · obtain ⟨_, _, _, _, e₁⟩ := h₁.card
    obtain ⟨c, d, v, rs, e₂⟩ := h₂.card
    exact ⟨c, d, v, rs, by rw [e₂, e₁]⟩
  · rw [h₂.queue, h₁.queue, deadItems_congr h₁.kept, htake, List.append_assoc, deadItems, deadItems, deadItems,
      List.map_append]
  · rw [h₂.deadList, h₁.deadList, List.drop_drop]
  · by_cases hfirst : ref ∈ s.router.deadList.take i
    · have ht := h₁.copies ref hfirst x hx hs
      by_cases hsecond : ref ∈ t.router.deadList.take j
      · exact h₂.copies ref hsecond { x with state := .deadQueued } ht nofun
      · exact h₂.kept.copyIs (h₂.others ref hsecond) ht
    · refine h₂.copies ref ?_ x (h₁.kept.copyIs (h₁.others ref hfirst) hx) hs
      exact (List.mem_append.mp (htake ▸ href)).resolve_left hfirst
  · rw [htake, List.mem_append, not_or] at href
    exact (h₂.others ref href.2).trans (h₁.others ref href.1)

/-- With each copy handed over a place is taken. -/
theorem HandedOver.deadRoom {j : Nat} {s t : State} (h : HandedOver j s t) (hj : j ≤ s.deadRoom) :
    t.deadRoom = s.deadRoom - j := by
  have hlen : j ≤ s.router.deadList.length := hj.trans (Nat.min_le_left ..)
  simp only [State.deadRoom, Supervisor.places, h.deadList, h.queue, List.length_drop, List.length_append, deadItems,
    List.length_map, List.length_take, Nat.min_eq_left hlen]
  omega

/-- The head of the dead wait list takes a place (R75). -/
theorem State.handOverOne_handedOver {s : State} {ref : CopyRef} {rest : List CopyRef}
    (hdead : s.router.deadList = ref :: rest) :
    HandedOver 1 s (((s.modRouter fun r => { r with deadList := rest }).setCopyState ref .deadQueued).modSup fun u =>
      { u with queue := u.queue ++ [.dead ref (s.record ref.record).gen] }) where
  card := ⟨_, _, _, _, rfl⟩
  queue := by rw [hdead]; rfl
  lost := rfl
  deadList := by rw [hdead]; rfl
  kept := (State.handOverOne_moves hdead _).kept
  copies x hx c hc hs := by
    rw [hdead, List.take_succ_cons, List.take_zero, List.mem_singleton] at hx
    subst hx
    exact CopyIs.setCopyState (s := s.modRouter fun r => { r with deadList := rest }) hc hs .deadQueued
  others x hx := by
    rw [hdead, List.take_succ_cons, List.take_zero, List.mem_singleton] at hx
    exact State.modCopy_copy_ne (s.modRouter fun r => { r with deadList := rest }) ref x _ hx

theorem State.handOverMany_handedOver (s : State) (fuel : Nat) :
    HandedOver (min fuel s.deadRoom) s (s.handOverMany fuel) := by
  induction fuel generalizing s with
  | zero =>
    rw [Nat.zero_min]
    exact .refl s
  | succ fuel ih =>
    by_cases hserved : DeadCopiesServed s
    · rw [s.handOverMany_of_served hserved, State.deadRoom_eq_zero.mpr hserved, Nat.min_zero]
      exact .refl s
    · have hroom : 1 ≤ s.deadRoom := Nat.pos_of_ne_zero fun h => hserved (State.deadRoom_eq_zero.mp h)
      obtain ⟨ref, rest, hdead⟩ := List.exists_cons_of_ne_nil fun h => hserved (.inl h)
      have hplaces : s.sup.places ≠ 0 := fun h => hserved (State.deadRoom_eq_zero.mp (by rw [State.deadRoom, h, Nat.min_zero]))
      have hone := (State.handOverOne_handedOver hdead).trans (State.beginPrint_printsOnly _).handedOver
      have hmany := ih (((s.modRouter fun r => { r with deadList := rest }).setCopyState ref .deadQueued).modSup fun u =>
        { u with queue := u.queue ++ [.dead ref (s.record ref.record).gen] }).beginPrint
      rw [hone.deadRoom hroom] at hmany
      have hsum : 1 + 0 + min fuel (s.deadRoom - (1 + 0)) = min (fuel + 1) s.deadRoom := by omega
      rw [State.handOverMany, hdead, ← hsum]
      simp only [if_neg hplaces]
      exact hone.trans hmany

theorem State.handOver_handedOver (s : State) : HandedOver s.deadRoom s s.handOver := by
  have h := s.handOverMany_handedOver Config.supervisorPlaces
  rwa [Nat.min_eq_right s.deadRoom_le] at h

theorem State.handOverMany_choices (s : State) (fuel : Nat) : (s.handOverMany fuel).choices = s.choices := by
  induction fuel generalizing s with
  | zero => rfl
  | succ fuel ih =>
    unfold State.handOverMany
    split
    · rfl
    · split
      · rfl
      · rw [ih, (State.beginPrint_printsOnly _).card]
        rfl

theorem State.handOverSought_some (s : State) (fuel : Nat) : ∃ k, HandedOver k s (s.handOverSought fuel) := by
  induction fuel generalizing s with
  | zero => exact ⟨0, .refl s⟩
  | succ fuel ih =>
    rcases s.handOverSought_cases fuel with ⟨-, e⟩ | ⟨-, -, e⟩ | ⟨-, -, e⟩
    · exact ⟨0, by rw [e]; exact .refl s⟩
    · exact ⟨0, by rw [e]; exact s.chosen_handedOver⟩
    · obtain ⟨k, hk⟩ := ih (s.chosen.handOverMany 1)
      exact ⟨_, by rw [e]; exact (s.chosen_handedOver.trans (State.handOverMany_handedOver _ 1)).trans hk⟩

/-- Where a notice seeks the places too, copies are handed over up to the first place that the choice gives to the notice
(R75, R160, log 31). -/
theorem State.handOverSought_handedOver {s : State} {fuel k : Nat} (hfuel : s.deadRoom ≤ fuel) (hk : k ≤ s.deadRoom)
    (hcopies : ∀ i, i < k → Config.noticeFirst (s.choices + i) = false)
    (hnotice : k = s.deadRoom ∨ Config.noticeFirst (s.choices + k) = true) : HandedOver k s (s.handOverSought fuel) := by
  induction fuel generalizing s k with
  | zero =>
    obtain rfl : k = 0 := by omega
    exact .refl s
  | succ fuel ih =>
    rcases s.handOverSought_cases fuel with ⟨hserved, e⟩ | ⟨-, hfirst, e⟩ | ⟨hwait, hfirst, e⟩
    · rw [State.deadRoom_eq_zero.mpr hserved] at hk
      obtain rfl : k = 0 := by omega
      rw [e]
      exact .refl s
    · obtain rfl : k = 0 := Nat.eq_zero_of_not_pos fun hpos => by
        rw [← Nat.add_zero s.choices, hcopies 0 hpos] at hfirst
        cases hfirst
      rw [e]
      exact s.chosen_handedOver
    · have hroom : 1 ≤ s.deadRoom := Nat.pos_of_ne_zero fun h => hwait (State.deadRoom_eq_zero.mp h)
      obtain ⟨k, rfl⟩ : ∃ l, k = l + 1 := Nat.exists_eq_succ_of_ne_zero fun h => by
        subst h
        rcases hnotice with h | h
        · omega
        · rw [Nat.add_zero, hfirst] at h
          cases h
      have hone := s.chosen_handedOver.trans (s.chosen.handOverMany_handedOver 1)
      have hchoices : (s.chosen.handOverMany 1).choices = s.choices + 1 := State.handOverMany_choices ..
      rw [show s.chosen.deadRoom = s.deadRoom from rfl, Nat.min_eq_left hroom] at hone
      have hleft := hone.deadRoom hroom
      have hshift : ∀ i, s.choices + 1 + i = s.choices + (i + 1) := fun i => by omega
      have hmany := ih (s := s.chosen.handOverMany 1) (k := k) (by omega) (by omega)
        (fun i hi => by rw [hchoices, hshift]; exact hcopies (i + 1) (by omega))
        (by rw [hchoices, hshift]; exact hnotice.imp_left (by omega))
      rw [e, show k + 1 = 0 + 1 + k by omega]
      exact hone.trans hmany

end Sys2Proof.Machine
end

section
namespace Sys2Proof.Machine

/-! ### An item begins (R157, R161, R162) -/

theorem PrintsOnly.queue {s t : State} (h : PrintsOnly s t) : t.sup.queue = s.sup.queue := congrArg Prod.fst h.account

theorem markLast_length (l : List Composed) : (markLast l).length = l.length := by
  simpa using congrArg List.length (markLast_code l)

/-- Every line ends with CR and LF (R177). -/
theorem State.itemLine_length (s : State) (item : Item) : 2 ≤ (s.itemLine item).length := by
  have hline : ∀ ws, 2 ≤ (printedLine ws).length := fun ws => by simp [printedLine, crLf]
  cases item with
  | notice n => simpa only [State.itemLine, markLast_length] using hline n.words
  | dead copy _ => exact hline _

/-- An item of the queue is in its LINE since the stop of the last item's last character; what was `held` at that stop
is held still, with two characters or more to come, or the first character is held already (R161, R164). -/
structure Supervisor.LineBegun (held : Option TxChar) (u : Supervisor) : Prop where
  phase : u.phase = .line
  queue : u.queue ≠ []
  loaded : held = none → u.tx.holding ≠ none
  waits : held ≠ none → u.tx.holding = held ∧ 2 ≤ u.composed.length

/-- The unit after the stop of an item's last character: IDLE with what was `held` at it, or an item has begun. -/
def Supervisor.BetweenItems (held : Option TxChar) (u : Supervisor) : Prop :=
  u.phase = .idle ∧ u.tx.holding = held ∨ u.LineBegun held

/-- Of a list of two characters or more one is loaded, and some is left (R161). -/
theorem loadComposed_of_two {l : List Composed} (h : 2 ≤ l.length) (ahead : Case) :
    ∃ c rest, loadComposed ahead l = some (c, rest) ∧ rest ≠ [] := by
  obtain ⟨a, rest, rfl⟩ := List.exists_cons_of_ne_nil (List.ne_nil_of_length_pos (Nat.zero_lt_of_lt h))
  have hrest : rest ≠ [] := List.ne_nil_of_length_pos (Nat.lt_of_succ_lt_succ h)
  unfold loadComposed
  simp only
  split
  · split
    · exact ⟨_, _, rfl, hrest⟩
    · exact ⟨_, _, rfl, List.cons_ne_nil _ _⟩
  · exact ⟨_, _, rfl, hrest⟩

/-- A request in LINE with two characters or more to come, and nothing held: one is held, and the LINE goes on (R161). -/
theorem State.supServe_goes_on {s : State} (hp : s.sup.phase = .line) (hh : s.sup.tx.holding = none)
    (hl : 2 ≤ s.sup.composed.length) : s.supServe.sup.phase = .line ∧ s.supServe.sup.tx.holding ≠ none := by
  obtain ⟨c, rest, hload, hrest⟩ := loadComposed_of_two hl s.sup.tx.caseAhead
  rw [State.supServe_of_line hh hp hload hrest]
  exact ⟨hp, Option.some_ne_none _⟩

theorem State.supServe_of_holding {s : State} (h : s.sup.tx.holding ≠ none) : s.supServe = s :=
  if_pos (Option.isSome_iff_ne_none.mpr h)

theorem State.supServe_of_idle {s : State} (h : s.sup.phase = .idle) : s.supServe = s := by
  unfold State.supServe
  split
  · rfl
  · rw [h]

/-- Printing begins where the unit is IDLE and has an item (R161). -/
theorem State.beginPrint_of_idle {s : State} {item : Item} {rest : List Item} (hp : s.sup.phase = .idle)
    (hq : s.sup.queue = item :: rest) : s.beginPrint = (s.modSup fun u =>
      { u with phase := .line, composed := s.itemLine item, nextIndex := 0, outstanding := false, midText := false,
               discarded := false }).supServe := by
  simp only [State.beginPrint, hp, hq]

theorem State.beginPrint_of_not_idle {s : State} (hp : s.sup.phase ≠ .idle) : s.beginPrint = s := by
  unfold State.beginPrint
  split
  · next h _ => exact absurd h hp
  · rfl

theorem State.beginPrint_of_empty {s : State} (hq : s.sup.queue = []) : s.beginPrint = s := by
  unfold State.beginPrint
  split
  · next _ h => rw [hq] at h; cases h
  · rfl

/-- After the look at the queue the unit is IDLE only with nothing to print (R161). -/
theorem Supervisor.BetweenItems.beginPrint {held : Option TxChar} {s : State} (h : s.sup.BetweenItems held) :
    s.sup.queue = [] ∧ s.beginPrint = s ∧ s.sup.phase = .idle ∧ s.sup.tx.holding = held ∨
      s.beginPrint.sup.LineBegun held := by
  rcases h with ⟨hp, hh⟩ | hline
  · cases hq : s.sup.queue with
    | nil => exact .inl ⟨rfl, State.beginPrint_of_empty hq, hp, hh⟩
    | cons item rest =>
      have hqueue : s.beginPrint.sup.queue ≠ [] := by
        rw [s.beginPrint_printsOnly.queue, hq]
        nofun
      rw [State.beginPrint_of_idle hp hq] at hqueue ⊢
      refine .inr ?_
      generalize hv : (s.modSup fun u => { u with
        phase := .line, composed := s.itemLine item, nextIndex := 0, outstanding := false, midText := false,
        discarded := false }) = v at hqueue ⊢
      have hphase : v.sup.phase = .line := by rw [← hv]; rfl
      have hlen : 2 ≤ v.sup.composed.length := by rw [← hv]; exact s.itemLine_length item
      have hhold : v.sup.tx.holding = held := by rw [← hv]; exact hh
      cases held with
      | none =>
        obtain ⟨hp', hh'⟩ := State.supServe_goes_on hphase hhold hlen
        exact ⟨hp', hqueue, fun _ => hh', fun h => absurd rfl h⟩
      | some c =>
        rw [State.supServe_of_holding (by rw [hhold]; nofun)] at hqueue ⊢
        exact ⟨hphase, hqueue, nofun, fun _ => ⟨hhold, hlen⟩⟩
  · rw [State.beginPrint_of_not_idle (by rw [hline.phase]; nofun)]
    exact .inr hline

theorem Supervisor.BetweenItems.looked {held : Option TxChar} {s : State} (h : s.sup.BetweenItems held) :
    s.beginPrint.sup.BetweenItems held := by
  rcases h.beginPrint with ⟨-, e, -⟩ | hline
  · rw [e]
    exact h
  · exact .inr hline

/-- Items that join the queue leave the unit as it prints. -/
theorem Supervisor.BetweenItems.queued {held : Option TxChar} {u : Supervisor} (h : u.BetweenItems held)
    (items : List Item) : Supervisor.BetweenItems held { u with queue := u.queue ++ items } :=
  h.imp id fun hline =>
    ⟨hline.phase, List.append_ne_nil_of_left_ne_nil hline.queue items, hline.loaded, hline.waits⟩

theorem Supervisor.BetweenItems.handOverMany {held : Option TxChar} {s : State} (h : s.sup.BetweenItems held) (fuel : Nat) :
    (s.handOverMany fuel).sup.BetweenItems held := by
  induction fuel generalizing s with
  | zero => exact h
  | succ fuel ih =>
    unfold State.handOverMany
    split
    · exact h
    · split
      · exact h
      · exact ih (Supervisor.BetweenItems.looked (h.queued _))

theorem Supervisor.BetweenItems.handOverSought {held : Option TxChar} {s : State} (h : s.sup.BetweenItems held) (fuel : Nat) :
    (s.handOverSought fuel).sup.BetweenItems held := by
  induction fuel generalizing s with
  | zero => exact h
  | succ fuel ih =>
    rcases s.handOverSought_cases fuel with ⟨-, e⟩ | ⟨-, -, e⟩ | ⟨-, -, e⟩
    · rw [e]; exact h
    · rw [e]; exact h
    · rw [e]; exact ih (Supervisor.BetweenItems.handOverMany (s := s.chosen) h 1)

theorem Supervisor.BetweenItems.placeFreed {held : Option TxChar} {s : State} (h : s.sup.BetweenItems held) (before : State)
    (sought : Bool) : (s.placeFreed before sought).sup.BetweenItems held := by
  rcases s.placeFreed_cases before sought with ⟨-, e⟩ | ⟨-, ⟨-, e⟩ | ⟨-, e⟩⟩
  · rw [e]; exact h
  · rw [e]; exact h.handOverSought _
  · rw [e]; exact h.handOverMany _

theorem State.supFollows_eq (s : State) (held : Option TxChar) :
    ∃ tx, s.supFollows held = { s with sup := { s.sup with tx := tx } } := by
  unfold State.supFollows
  split
  · split
    · exact ⟨_, rfl⟩
    · split
      · exact ⟨_, rfl⟩
      · exact ⟨_, rfl⟩
  · exact ⟨_, rfl⟩

/-- What was held at the stop follows, and the LINE goes on (R161, R164). -/
theorem Supervisor.LineBegun.follows {held : Option TxChar} {s : State} (h : s.sup.LineBegun held) :
    (s.supFollows held).supServe.sup.phase = .line := by
  cases held with
  | none =>
    have hloaded := h.loaded rfl
    have hnone : s.supFollows none = s := if_neg hloaded
    rw [hnone, State.supServe_of_holding hloaded, h.phase]
  | some c =>
    obtain ⟨hhold, hlen⟩ := h.waits nofun
    have hbegin : s.supFollows (some c) = s.modSupTx Tx.begin := by
      have := s.supFollows_held
      rwa [hhold] at this
    rw [hbegin]
    by_cases hheld : (s.modSupTx Tx.begin).sup.tx.holding = none
    · exact (State.supServe_goes_on (s := s.modSupTx Tx.begin) h.phase hheld hlen).1
    · rw [State.supServe_of_holding hheld]
      exact h.phase

/-- The look at the queue, what was held and the request that follow the stop of an item's last character: the next item
is in its LINE, or the unit is IDLE with nothing to print (R157, R161, R164). -/
theorem Supervisor.BetweenItems.follows {held : Option TxChar} {s : State} (h : s.sup.BetweenItems held) :
    let t := (s.beginPrint.supFollows held).supServe
    OnlySup s t ∧ t.sup.account = s.sup.account ∧ t.sup.phase = if s.sup.queue = [] then .idle else .line := by
  have hprint := s.beginPrint_printsOnly
  have hserve := (s.beginPrint.supFollows held).supServe_printsOnly
  obtain ⟨tx, e⟩ := s.beginPrint.supFollows_eq held
  refine ⟨hprint.card.trans (OnlySup.trans (by rw [e]; rfl) hserve.card),
    hserve.account.trans (Eq.trans (by rw [e]; rfl) hprint.account), ?_⟩
  rcases h.beginPrint with ⟨hq, e', hp, -⟩ | hline
  · rw [if_pos hq, State.supServe_of_idle (by rw [e, e']; exact hp), e, e']
    exact hp
  · rw [if_neg fun hq => hline.queue (hprint.queue.trans hq)]
    exact hline.follows

end Sys2Proof.Machine
end

section
namespace Sys2Proof.Machine

/-! ### Which commands post a notice does not rest on the supervisor unit (R158, log 31) -/

theorem State.drawBlock_isNone_modSup (s : State) (f : Supervisor → Supervisor) (r : RecIx) :
    ((s.modSup f).drawBlock r).isNone = (s.drawBlock r).isNone := by
  unfold State.drawBlock
  rw [State.modSup_store, State.modSup_record]
  split
  · rfl
  · split <;> rfl

theorem State.allocateBlock_isNone_modSup (s : State) (f : Supervisor → Supervisor) (r : RecIx) :
    ((s.modSup f).allocateBlock r).isNone = (s.allocateBlock r).isNone := by
  by_cases h : s.store.admits (s.record r).cls 1 = true
  · have h' : (s.modSup f).store.admits ((s.modSup f).record r).cls 1 = true := h
    rw [State.allocateBlock, State.allocateBlock, if_pos h, if_pos h', State.drawBlock_isNone_modSup]
  · have h' : ¬(s.modSup f).store.admits ((s.modSup f).record r).cls 1 = true := h
    rw [State.allocateBlock, State.allocateBlock, if_neg h, if_neg h']

theorem State.relayedBlock_isNone_modSup (s : State) (f : Supervisor → Supervisor) (k : CtxIx) (r : RecIx) :
    ((s.modSup f).relayedBlock k r).isNone = (s.relayedBlock k r).isNone := by
  by_cases h : 0 < s.store.reserved[k]
  · have h' : 0 < (s.modSup f).store.reserved[k] := h
    simp only [State.relayedBlock, if_pos h, if_pos h', Option.isNone_map, State.drawBlock_isNone_modSup]
  · have h' : ¬0 < (s.modSup f).store.reserved[k] := h
    simp only [State.relayedBlock, if_neg h, if_neg h', State.allocateBlock_isNone_modSup]

theorem State.textPosts_modSup (s : State) (f : Supervisor → Supervisor) (bytes : List Byte) :
    (s.modSup f).textPosts bytes = s.textPosts bytes := by
  unfold State.textPosts
  simp only [State.relayedBlock_isNone_modSup]
  rfl

theorem State.posts_modSup (s : State) (f : Supervisor → Supervisor) (c : Instr) :
    (s.modSup f).posts c = s.posts c := by
  cases c with
  | textReceived bytes => exact congrArg (_ && ·) (s.textPosts_modSup f bytes)
  | _ => rfl

/-- A notice seeks the places where the command that waits next posts one (log 31). -/
theorem State.noticeSeeks_modSup (s : State) (f : Supervisor → Supervisor) : (s.modSup f).noticeSeeks = true ↔
    ∃ c waiting, s.pending = c :: waiting ∧ s.posts c = true := by
  rw [State.noticeSeeks, State.modSup_pending]
  cases s.pending with
  | nil => simp
  | cons c rest => simp [State.posts_modSup]

/-! ### An item leaves the queue (R160, R161, R162) -/

/-- The unit as the item at its head leaves the queue (R161, R162). -/
def Supervisor.itemOff (u : Supervisor) : Supervisor :=
  { u with
    queue := u.queue.drop 1, phase := .idle, composed := [], nextIndex := 0, outstanding := false, midText := false,
    discarded := false, tx := { u.tx with textCase := none } }

/-- A notice goes without a trace (R161). -/
theorem State.itemEnded_of_notice {s : State} {n : Notice} {rest : List Item} (h : s.sup.queue = .notice n :: rest) :
    s.itemEnded = ((s.modSup Supervisor.itemOff).tellPlaces s).beginPrint := by
  have hprint : s.sup.printing = none := by simp [Supervisor.printing, h]
  simp only [State.itemEnded, hprint]
  rfl

/-- The stop of an item's last character (R161, R164). -/
theorem exec_supervisorCharacterSent_last {s : State} {x : TxChar} (hr : s.running = true)
    (hs : s.sup.tx.shift = some x) (hf : x.role ≠ .fill) (hl : x.last = true) :
    exec .supervisorCharacterSent s =
      .next ((((s.modSupTx fun t => t.finish x).itemEnded).supFollows s.sup.tx.holding).supServe) := by
  show Host.Outcome.next _ = _
  simp [hs, hr, hf, hl]

/-- The places that a posting leaves go to the dead wait list (R75, R158, R160). -/
theorem State.post_handedOver (s : State) (n : Notice) :
    HandedOver (s.modSup fun u => u.posted n).deadRoom (s.modSup fun u => u.posted n) (s.post n) := by
  have hprint := (State.beginPrint_printsOnly (s.modSup fun u => u.posted n)).handedOver
  have h := hprint.trans (State.handOver_handedOver _)
  rwa [hprint.deadRoom (Nat.zero_le _), Nat.sub_zero, Nat.zero_add] at h

/-- The card as character `x` stops and the notice whose last it was leaves the queue, its place not told of (R161). -/
def State.noticeOff (s : State) (x : TxChar) : State :=
  s.modSup fun u => Supervisor.itemOff { u with tx := u.tx.finish x }

section
variable {s : State} {x : TxChar} {n : Notice} {rest : List Item}

theorem State.noticeOff_queue (h : s.sup.queue = .notice n :: rest) : (s.noticeOff x).sup.queue = rest :=
  congrArg (List.drop 1) h

theorem State.noticeOff_deadRoom (h : s.sup.queue = .notice n :: rest) :
    (s.noticeOff x).deadRoom = min s.router.deadList.length (16 - rest.length) := by
  rw [State.deadRoom, Supervisor.places, State.noticeOff_queue h]
  rfl

/-- A notice's last character is sent: its place goes to the dead wait list, or is sought, and the unit goes on to what is
next (R75, R160, R161). -/
theorem exec_noticePrinted (hr : s.running = true) (hs : s.sup.tx.shift = some x) (hf : x.role ≠ .fill)
    (hl : x.last = true) (hq : s.sup.queue = .notice n :: rest) (hlen : rest.length ≤ 15) :
    ∃ w, w = (if (s.noticeOff x).noticeSeeks then (s.noticeOff x).handOverSought Config.supervisorPlaces
        else (s.noticeOff x).handOver) ∧
      w.sup.BetweenItems s.sup.tx.holding ∧
      exec .supervisorCharacterSent s = .next ((w.beginPrint.supFollows s.sup.tx.holding).supServe) := by
  have hbefore : (s.modSupTx fun t => t.finish x).sup.queue = .notice n :: rest := hq
  have hfreed : (s.modSupTx fun t => t.finish x).sup.places < (s.noticeOff x).sup.places := by
    simp only [Supervisor.places, Config.supervisorPlaces, State.noticeOff_queue hq, hbefore, List.length_cons]
    omega
  have hbetween : (s.noticeOff x).sup.BetweenItems s.sup.tx.holding := .inl ⟨rfl, rfl⟩
  have hexec := exec_supervisorCharacterSent_last hr hs hf hl
  rw [State.itemEnded_of_notice hbefore] at hexec
  refine ⟨_, ?_, hbetween.placeFreed (s.modSupTx fun t => t.finish x) (s.noticeOff x).noticeSeeks, hexec⟩
  rw [State.placeFreed, if_neg hfreed.not_ge]

end

/-- Settles O55: the dead wait list and the notice that waits share the places that fall free by the choices; the three
commands that post are read off; a posting leaves its places to the dead wait list. -/
theorem freePlacesGoToDeadCopiesOrNotices : Obligations.FreePlacesGoToDeadCopiesOrNotices := by
  unfold Obligations.FreePlacesGoToDeadCopiesOrNotices
  intro items handed
  refine ⟨fun s x n rest hr hs hf hl hq hlen hdead => ?_, fun s => ⟨?_, fun n pin => ?_, fun n pin => ?_⟩, fun s n => ?_⟩
  · intro room sought taken
    obtain ⟨w, hw, hbetween, hexec⟩ := exec_noticePrinted hr hs hf hl hq hlen
    have hroom : (s.noticeOff x).deadRoom = room := State.noticeOff_deadRoom hq
    have hseeks : (s.noticeOff x).noticeSeeks = true ↔ sought := s.noticeSeeks_modSup _
    obtain ⟨honly, hacc, hphase⟩ := hbetween.follows
    have hsame := honly.handedOver hacc
    generalize (w.beginPrint.supFollows s.sup.tx.holding).supServe = t at hexec hacc hphase hsame
    have htaken : ∀ k, HandedOver k (s.noticeOff x) w → taken t k := fun k hk => by
      have h := hk.trans hsame
      refine ⟨h.queue.trans (congrArg (· ++ _) (State.noticeOff_queue hq)), h.deadList, ⟨h.copies, h.others⟩, ?_⟩
      rw [hphase, hsame.queue]
      simp [deadItems]
    have hsome : ∃ k, HandedOver k (s.noticeOff x) w := by
      rw [hw]
      split
      · exact State.handOverSought_some _ _
      · exact ⟨_, State.handOver_handedOver _⟩
    obtain ⟨j, hj⟩ := hsome
    refine ⟨t, hexec, (hj.trans hsame).lost, fun hno => htaken room ?_, fun hyes k hk hcopies hnotice => htaken k ?_, ?_⟩
    · rw [hw, if_neg (hno ∘ hseeks.mp), ← hroom]
      exact State.handOver_handedOver _
    · rw [hw, if_pos (hseeks.mpr hyes)]
      exact State.handOverSought_handedOver (State.deadRoom_le _) (hroom ▸ hk) hcopies (hroom ▸ hnotice)
    · obtain ⟨_, _, _, _, e⟩ := (hj.trans hsame).card
      rw [e]
      exact ⟨rfl, rfl, rfl, rfl, rfl⟩
  · exact Bool.and_eq_true_iff
  · simp only [State.posts, State.keeps, Bool.and_eq_true, decide_eq_true_iff, Option.isSome_iff_ne_none, and_assoc]
    rfl
  · simp only [State.posts, State.keeps, Bool.and_eq_true, decide_eq_true_iff, Option.isSome_iff_ne_none, and_assoc]
    rfl
  · intro u refs
    have h := s.post_handedOver n
    have hroom : (s.modSup fun u => u.posted n).deadRoom = min s.router.deadList.length (16 - u.queue.length) := rfl
    have htake : s.router.deadList.take (s.modSup fun u => u.posted n).deadRoom = refs := by
      rw [hroom, List.take_eq_take_iff]
      omega
    have hdrop : s.router.deadList.drop (s.modSup fun u => u.posted n).deadRoom =
        s.router.deadList.drop (16 - u.queue.length) := by
      have := List.take_append_drop (s.modSup fun u => u.posted n).deadRoom s.router.deadList
      rw [htake] at this
      exact List.append_cancel_left (this.trans (List.take_append_drop ..).symm)
    obtain ⟨_, _, _, _, e⟩ := h.card
    refine ⟨h.queue.trans ?_, h.lost, h.deadList.trans hdrop, ⟨fun ref href => h.copies ref (htake.symm ▸ href),
      fun ref href => h.others ref (htake.symm ▸ href)⟩, ?_⟩
    · exact congrArg (fun l => u.queue ++ deadItems s l) htake
    · rw [e]
      exact ⟨rfl, rfl, rfl, rfl⟩

end Sys2Proof.Machine
end

section
namespace Sys2Proof.Machine

/-! ### A send context and its copy (R69, R73, R74, R83) -/

/-- Only send context `k`, copy `ref` and what the port drives and holds differ. -/
structure ContextOnly (k : CtxIx) (ref : CopyRef) (s t : State) : Prop where
  card : ∃ p rs, t = { s with port := p, store := { s.store with records := rs } }
  sends : ∀ j, j ≠ k → t.sendCtx j = s.sendCtx j
  take : t.port.take = s.port.take
  holdOff : t.port.holdOff = s.port.holdOff
  kept : CopiesKept s t
  others : ∀ other, other ≠ ref → t.copy other = s.copy other

section
variable {k : CtxIx} {ref : CopyRef} {s t u : State}

theorem ContextOnly.trans (h₁ : ContextOnly k ref s t) (h₂ : ContextOnly k ref t u) : ContextOnly k ref s u where
  card := by
    obtain ⟨_, _, e₁⟩ := h₁.card
    obtain ⟨p, rs, e₂⟩ := h₂.card
    exact ⟨p, rs, by rw [e₂, e₁]⟩
  sends j hj := (h₂.sends j hj).trans (h₁.sends j hj)
  take := h₂.take.trans h₁.take
  holdOff := h₂.holdOff.trans h₁.holdOff
  kept := h₁.kept.trans h₂.kept
  others other ho := (h₂.others other ho).trans (h₁.others other ho)

theorem ContextOnly.boot (h : ContextOnly k ref s t) : t.boot = s.boot := by obtain ⟨_, _, e⟩ := h.card; rw [e]
theorem ContextOnly.lines (h : ContextOnly k ref s t) : t.lines = s.lines := by obtain ⟨_, _, e⟩ := h.card; rw [e]
theorem ContextOnly.router (h : ContextOnly k ref s t) : t.router = s.router := by obtain ⟨_, _, e⟩ := h.card; rw [e]
theorem ContextOnly.sup (h : ContextOnly k ref s t) : t.sup = s.sup := by obtain ⟨_, _, e⟩ := h.card; rw [e]
theorem ContextOnly.freeList (h : ContextOnly k ref s t) : t.store.freeList = s.store.freeList := by
  obtain ⟨_, _, e⟩ := h.card; rw [e]

theorem ContextOnly.offersAgain (h : ContextOnly k ref s t) {x : Copy} (ho : OffersCopy t k ref)
    (hx : CopyIs t ref { x with state := .backoff }) : OffersAgain s t k ref x :=
  ⟨ho, hx, h.others, h.sends, h.take, h.lines, h.router, h.sup, h.freeList⟩

/-- A change of the port that leaves all but send context `k`, what is driven and the tenure. -/
theorem ContextOnly.of_port {p : Port} (hsend : ∀ j : CtxIx, j ≠ k → p.send[j] = s.port.send[j])
    (htake : p.take = s.port.take) (hhold : p.holdOff = s.port.holdOff) : ContextOnly k ref s { s with port := p } :=
  ⟨⟨_, _, rfl⟩, hsend, htake, hhold, .of_records fun _ => rfl, fun _ _ => rfl⟩

theorem State.setSend_contextOnly (s : State) (c : Option Send) : ContextOnly k ref s (s.setSend k c) :=
  .of_port (fun j hj => s.setSend_sendCtx_ne k j c hj) rfl rfl

theorem State.deaden_contextOnly (s : State) (source : FrameSource) : ContextOnly k ref s (s.deaden source) :=
  .of_port (fun _ _ => rfl) rfl rfl

theorem State.refreshTenure_contextOnly (s : State) : ContextOnly k ref s s.refreshTenure := by
  obtain ⟨x, e⟩ := s.refreshTenure_keeps
  rw [e]
  exact .of_port (fun _ _ => rfl) rfl rfl

theorem State.closeWindow_keeps (s : State) (k : CtxIx) :
    ∃ x b, s.closeWindow k = { s with port := { s.port with tenure := x, burst := b } } := by
  unfold State.closeWindow
  split
  · obtain ⟨x, e⟩ := s.endTenure_keeps
    exact ⟨x, 0, e⟩
  · obtain ⟨x, e⟩ := s.refreshTenure_keeps
    exact ⟨x, s.port.burst, e⟩

theorem State.closeWindow_contextOnly (s : State) (j : CtxIx) : ContextOnly k ref s (s.closeWindow j) := by
  obtain ⟨x, b, e⟩ := s.closeWindow_keeps j
  rw [e]
  exact .of_port (fun _ _ => rfl) rfl rfl

theorem State.closeWindow_sendCtx (s : State) (j i : CtxIx) : (s.closeWindow j).sendCtx i = s.sendCtx i := by
  obtain ⟨x, b, e⟩ := s.closeWindow_keeps j
  rw [e]
  rfl

theorem State.modCopy_contextOnly (s : State) {f : Copy → Copy}
    (hf : ∀ c, (f c).station = c.station ∧ (c.state ≠ .settled → (f c).state ≠ .settled)) :
    ContextOnly k ref s (s.modCopy ref f) :=
  ⟨⟨_, _, rfl⟩, fun _ _ => rfl, rfl, rfl, s.modCopy_copiesKept ref hf, fun other ho => s.modCopy_copy_ne ref other f ho⟩

theorem State.setCopyState_contextOnly (s : State) {st : CopyState} (h : st ≠ .settled) :
    ContextOnly k ref s (s.setCopyState ref st) :=
  s.modCopy_contextOnly fun c => ⟨rfl, fun hc => by simpa [hc] using h⟩

/-- A send context that becomes FREE (R83, R87). -/
theorem State.freeSend_spec (s : State) (k : CtxIx) (ref : CopyRef) :
    ContextOnly k ref s (s.freeSend k) ∧ (s.freeSend k).sendCtx k = none ∧ ∀ r, (s.freeSend k).record r = s.record r := by
  have h : ContextOnly k ref s (s.freeSend k) := (s.deaden_contextOnly _).trans <|
    (State.setSend_contextOnly _ none).trans (State.closeWindow_contextOnly _ k)
  refine ⟨h, (State.closeWindow_sendCtx _ k k).trans (State.setSend_sendCtx_same _ k none), fun r => ?_⟩
  obtain ⟨x, b, e⟩ := State.closeWindow_keeps ((s.deaden (.send k)).setSend k none) k
  rw [State.freeSend, e]
  rfl

/-- A send context given to a copy (R69, R96). -/
theorem State.giveSend_contextOnly (s : State) (k : CtxIx) (ref : CopyRef) : ContextOnly k ref s (s.giveSend k ref) := by
  rw [State.giveSend_asks]
  refine ContextOnly.trans ?_ (State.refreshTenure_contextOnly _)
  exact (s.setCopyState_contextOnly (by decide)).trans (.of_port
    (fun j hj => Vector.getElem_set_ne k.isLt j.isLt fun e => hj (Fin.ext e.symm)) rfl rfl)

theorem State.giveSend_offers (s : State) (k : CtxIx) (ref : CopyRef) : OffersCopy (s.giveSend k ref) k ref := by
  obtain ⟨p, x, e, -, hsend⟩ := s.giveSend_eq k ref
  refine ⟨x, ?_⟩
  rw [e, State.sendCtx, hsend]
  simp [Send.begun]

theorem State.giveSend_copyIs {x : Copy} (hx : CopyIs s ref x) (hs : x.state ≠ .settled) (k : CtxIx) :
    CopyIs (s.giveSend k ref) ref { x with state := .backoff } := by
  obtain ⟨p, _, e, -⟩ := s.giveSend_eq k ref
  rw [e]
  exact hx.setCopyState hs .backoff

/-- A context that holds a copy and asks for its OFFER is as one that is given the copy (R69, R96). -/
theorem State.askOffer_of_held {c : Send} (h : s.sendCtx k = some c) : s.askOffer k = s.giveSend k c.copy := by
  have htwice : ∀ a b, (s.setSend k a).setSend k b = s.setSend k b := fun a b => by
    simp [State.setSend, State.modPort]
  simp only [State.giveSend, State.askOffer, h, State.setSend_sendCtx_same, Send.begun, htwice]

end

/-! ### A re-offer where no line serves the copy (R64, R65, R74) -/

section
variable {s t : State}

theorem State.canSend_of_lines (hb : t.boot = s.boot) (hl : t.lines = s.lines) (n : Line) : t.canSend n = s.canSend n :=
  State.canSend_congr hb (by rw [State.line_of_lines hl]) (by rw [State.line_of_lines hl])

theorem State.localLine_congr (hb : t.boot = s.boot) (hc : ∀ n, t.canSend n = s.canSend n) (code : StationCode) :
    t.localLine code = s.localLine code := by
  simp only [State.localLine, hb, hc]

theorem State.interceptAt_congr (hb : t.boot = s.boot) (hc : ∀ n, t.canSend n = s.canSend n) (next : Nat) :
    t.interceptAt next = s.interceptAt next := by
  simp only [State.interceptAt, State.interceptLine, hb, hc]

variable {k : CtxIx} {c : Send} {ref : CopyRef} {x : Copy} {next : Nat}

/-- Where no line serves the copy its OFFER is asked for at the next attempt (R74, R96). -/
theorem State.reoffer_offersAgain (hc : s.sendCtx k = some c) (href : c.copy = ref) (hx : CopyIs s ref x)
    (hs : x.state ≠ .settled) (hlocal : s.localLine x.station = none) (hint : s.interceptAt next = none) :
    OffersAgain s (s.reoffer k ref next) k ref { x with attempt := next } := by
  subst href
  have hcount : ContextOnly k c.copy s (s.modCopy c.copy fun y => { y with attempt := next }) :=
    s.modCopy_contextOnly (by exact fun _ => ⟨rfl, id⟩)
  have hnext := hx.modCopy fun y => { y with attempt := next }
  have hreoffer : s.reoffer k c.copy next = (s.modCopy c.copy fun y => { y with attempt := next }).askOffer k := by
    rw [State.reoffer, State.copyIs_copy hx, hlocal, hint]
  have hheld : (s.modCopy c.copy fun y => { y with attempt := next }).sendCtx k = some c := hc
  rw [hreoffer]
  generalize s.modCopy c.copy (fun y => { y with attempt := next }) = v at *
  rw [State.askOffer_of_held hheld]
  exact (hcount.trans (v.giveSend_contextOnly k _)).offersAgain (v.giveSend_offers k _) (State.giveSend_copyIs hnext hs k)

/-- What came before the re-offer moved this copy and its context alone. -/
theorem OffersAgain.after {u : State} (h : OffersAgain t u k ref x) (hb : ContextOnly k ref s t) :
    OffersAgain s u k ref x := by
  obtain ⟨ho, hcopy, hothers, hsends, htake, hlines, hrouter, hsup, hfree⟩ := h
  exact ⟨ho, hcopy, fun other hne => (hothers other hne).trans (hb.others other hne),
    fun j hj => (hsends j hj).trans (hb.sends j hj), htake.trans hb.take, hlines.trans hb.lines, hrouter.trans hb.router,
    hsup.trans hb.sup, hfree.trans hb.freeList⟩

/-! ### A copy goes dead (R75, R160) -/

theorem State.serveWaitList_of_empty (h : s.router.waitList = []) : s.serveWaitList = s := by
  rw [State.serveWaitList, h]
  rfl

/-- The card with a copy dead and waiting for a place, its send context FREE (R75). -/
def State.deadened (s : State) (k : CtxIx) (ref : CopyRef) : State :=
  ((s.setCopyState ref .deadWaiting).freeSend k).modRouter fun r =>
    { r with deadList := if r.deadList.contains ref then r.deadList else r.deadList ++ [ref] }

theorem State.die_of_no_wait (hw : s.router.waitList = []) (k : CtxIx) (ref : CopyRef) :
    s.die k ref = (s.deadened k ref).handOver := by
  obtain ⟨h, -⟩ := (s.setCopyState ref .deadWaiting).freeSend_spec k ref
  refine State.serveWaitList_of_empty ?_
  show ((s.deadened k ref).handOverMany _).router.waitList = []
  rw [(State.handOverMany_moves (s.deadened k ref) _).waitList]
  show ((s.setCopyState ref .deadWaiting).freeSend k).router.waitList = []
  rw [h.router]
  exact hw

theorem State.deadened_spec (hx : CopyIs s ref x) (hs : x.state ≠ .settled) (k : CtxIx) :
    (s.deadened k ref).sendCtx k = none ∧ CopyIs (s.deadened k ref) ref { x with state := .deadWaiting } ∧
    CopiesKept s (s.deadened k ref) ∧ (s.deadened k ref).sup = s.sup ∧
    (s.deadened k ref).router =
      { s.router with
        deadList := if s.router.deadList.contains ref then s.router.deadList else s.router.deadList ++ [ref] } := by
  have hdead := hx.setCopyState hs .deadWaiting
  have hstate : ContextOnly k ref s (s.setCopyState ref .deadWaiting) := s.setCopyState_contextOnly (by decide)
  rw [State.deadened]
  generalize s.setCopyState ref .deadWaiting = v at *
  obtain ⟨hfree, hnone, hrec⟩ := v.freeSend_spec k ref
  have h := hstate.trans hfree
  refine ⟨hnone, ?_, h.kept.trans (.of_records fun _ => rfl), h.sup, ?_⟩
  · rw [CopyIs, State.modRouter_record, hrec]
    exact hdead
  · rw [State.modRouter_router, h.router]

/-- With no copy waiting for a context, a copy that dies frees its context and goes to the supervisor unit, or waits for a
place there (R75, R160). -/
theorem State.die_goesDead (hx : CopyIs s ref x) (hs : x.state ≠ .settled) (hw : s.router.waitList = [])
    (k : CtxIx) : GoesDead s (s.die k ref) k ref ∧ ((s.die k ref).copy ref).attempt = x.attempt ∧
      ((s.die k ref).copy ref).spoil = x.spoil := by
  obtain ⟨hnone, hdead, hkept, hsup, hrouter⟩ := State.deadened_spec hx hs k
  rw [State.die_of_no_wait hw]
  generalize s.deadened k ref = v at *
  have hover := v.handOver_handedOver
  have hcounts : (v.handOver.copy ref).attempt = x.attempt ∧ (v.handOver.copy ref).spoil = x.spoil := by
    by_cases hin : ref ∈ v.router.deadList.take v.deadRoom
    · rw [State.copyIs_copy (hover.copies ref hin _ hdead nofun)]
      exact ⟨rfl, rfl⟩
    · rw [hover.others ref hin, State.copyIs_copy hdead]
      exact ⟨rfl, rfl⟩
  refine ⟨⟨?_, fun hplace hempty => ?_, fun hfull hnew => ?_⟩, hcounts⟩
  · obtain ⟨_, _, _, _, e⟩ := hover.card
    rw [e]
    exact hnone
  · have hlist : v.router.deadList = [ref] := by rw [hrouter, hempty]; rfl
    have hroom : v.deadRoom = 1 := by
      rw [State.deadRoom, hlist, Supervisor.places, hsup, Config.supervisorPlaces, List.length_singleton]
      omega
    rw [hroom] at hover
    have hqueue := hover.queue
    have hempty' := hover.deadList
    have hcopy := hover.copies ref (by rw [hlist]; exact List.mem_singleton_self _) _ hdead nofun
    rw [hlist] at hqueue hempty'
    refine ⟨by rw [State.copyIs_copy hcopy], hempty', ?_⟩
    rw [hqueue, hsup, deadItems_congr hkept]
    rfl
  · have hserved : DeadCopiesServed v := .inr (by rw [hsup]; exact hfull)
    rw [v.handOver_of_served hserved]
    refine ⟨by rw [State.copyIs_copy hdead], ?_, hsup⟩
    rw [hrouter, if_neg (by simpa using hnew)]

theorem GoesDead.after {u : State} (h : GoesDead t u k ref) (hb : ContextOnly k ref s t) :
    GoesDead s u k ref := by
  obtain ⟨_, e, -⟩ := hb.kept ref.record
  simpa only [GoesDead, hb.sup, hb.router, e] using h

end

/-! ### A spoil (R72, R73, R114, R116) -/

/-- The card as a transfer that is spoiled ends: its context holds the copy with nothing begun, and the spoil is counted
(R73, R116). -/
def State.spoilCounted (s : State) (k : CtxIx) (ref : CopyRef) : State :=
  ((s.dropSend k).modSend k fun c => { c with receiptWait := none, blocksSent := 0, charsSent := 0 }).modCopy ref
    fun c => { c with spoil := min (c.spoil + 1) 2 }

section
variable {s : State} {k : CtxIx} {c : Send} {ref : CopyRef} {x : Copy}

theorem State.spoilCounted_spec (hc : s.sendCtx k = some c) (hx : CopyIs s ref x) :
    ContextOnly k ref s (s.spoilCounted k ref) ∧
    CopyIs (s.spoilCounted k ref) ref { x with spoil := min (x.spoil + 1) 2 } ∧
    ∃ c', (s.spoilCounted k ref).sendCtx k = some c' ∧ c'.copy = c.copy := by
  have hdrop : ContextOnly k ref s (s.dropSend k) := (s.deaden_contextOnly _).trans <|
    (State.setSend_contextOnly _ _).trans (State.closeWindow_contextOnly _ k)
  have hctx : (s.dropSend k).sendCtx k = some { c with pending := none } := by
    refine (State.closeWindow_sendCtx _ k k).trans ((State.setSend_sendCtx_same _ k _).trans ?_)
    rw [show (s.deaden (.send k)).sendCtx k = s.sendCtx k from rfl, hc]
    rfl
  have hrec : ∀ r, (s.dropSend k).record r = s.record r := fun r => by
    obtain ⟨a, b, e⟩ := State.closeWindow_keeps ((s.deaden (.send k)).modSend k fun c => { c with pending := none }) k
    rw [State.dropSend, e]
    rfl
  have hx' : CopyIs (s.dropSend k) ref x := by rw [CopyIs, hrec]; exact hx
  rw [State.spoilCounted]
  generalize s.dropSend k = v at *
  refine ⟨(hdrop.trans (v.setSend_contextOnly _)).trans (State.modCopy_contextOnly _ (by exact fun _ => ⟨rfl, id⟩)),
    CopyIs.modCopy (s := v.modSend k _) hx' _, { c with pending := none, receiptWait := none, blocksSent := 0, charsSent := 0 },
    ?_, rfl⟩
  exact (State.setSend_sendCtx_same v k _).trans (congrArg (Option.map _) hctx)

/-- By R73's table the copy is offered again where no line serves it. -/
theorem State.spoiled_offersAgain (hc : s.sendCtx k = some c) (href : c.copy = ref) (hx : CopyIs s ref x)
    (hs : x.state ≠ .settled) (hspoil : x.spoil < 2) {next : Nat}
    (hnext : next = if x.spoil = 0 then x.attempt + 1 else max (x.attempt + 1) s.boot.cfg.threshold) (hmax : next ≤ 15)
    (hlocal : s.localLine x.station = none) (hint : s.interceptAt next = none) :
    OffersAgain s (s.spoiled k ref) k ref { x with attempt := next, spoil := min (x.spoil + 1) 2 } := by
  obtain ⟨hb, hx', c', hc', hcopy⟩ := State.spoilCounted_spec hc hx
  have htable : nextAttempt s.boot.cfg.threshold x.spoil x.attempt = some next := by
    obtain h | h : x.spoil = 0 ∨ x.spoil = 1 := by omega
    · rw [hnext, if_pos h, h]; rfl
    · rw [hnext, if_neg (by omega), h]; rfl
  have hspoiled : s.spoiled k ref = (s.spoilCounted k ref).reoffer k ref next := by
    simp only [State.spoiled, State.copyIs_copy hx, htable]
    exact if_neg (Nat.not_lt.mpr hmax)
  have hsend := State.canSend_of_lines hb.boot hb.lines
  rw [hspoiled]
  exact (State.reoffer_offersAgain hc' (hcopy.trans href) hx' hs ((State.localLine_congr hb.boot hsend _).trans hlocal)
    ((State.interceptAt_congr hb.boot hsend _).trans hint)).after hb

/-- The third spoil, or one whose next attempt is above 15, makes the copy dead (R73). -/
theorem State.spoiled_goesDead (hc : s.sendCtx k = some c) (hx : CopyIs s ref x) (hs : x.state ≠ .settled)
    (hw : s.router.waitList = [])
    (hend : 2 ≤ x.spoil ∨ 15 < if x.spoil = 0 then x.attempt + 1 else max (x.attempt + 1) s.boot.cfg.threshold) :
    GoesDead s (s.spoiled k ref) k ref ∧ ((s.spoiled k ref).copy ref).attempt = x.attempt ∧
      ((s.spoiled k ref).copy ref).spoil = min (x.spoil + 1) 2 := by
  obtain ⟨hb, hx', -⟩ := State.spoilCounted_spec hc hx
  have hspoiled : s.spoiled k ref = (s.spoilCounted k ref).die k ref := by
    simp only [State.spoiled, State.copyIs_copy hx]
    obtain h | h | h : x.spoil = 0 ∨ x.spoil = 1 ∨ 2 ≤ x.spoil := by omega
    · rw [if_pos h] at hend
      rw [h]
      exact if_pos (hend.resolve_left (by omega))
    · rw [if_neg (by omega)] at hend
      rw [h]
      exact if_pos (hend.resolve_left (by omega))
    · obtain ⟨n, hn⟩ := Nat.exists_eq_add_of_le' h
      rw [hn]
      rfl
  rw [hspoiled]
  obtain ⟨hdead, hattempt, hcount⟩ := State.die_goesDead hx' hs (by rw [hb.router]; exact hw) k
  exact ⟨hdead.after hb, hattempt, hcount⟩

end

/-! ### What brings a spoil about (R105, R114, R116) -/

section
variable {s : State} {bytes : List Byte} {tag : Tag} {k : CtxIx} {c : Send}

theorem State.sendOf_of_holds {ref : CopyRef} (h : SendHolds s k ref c) : s.sendOf ref = some k := by
  obtain ⟨hc, hcopy, honly⟩ := h
  cases hf : s.sendOf ref with
  | none =>
    have := List.find?_eq_none.mp hf k (List.mem_finRange k)
    simp [hc, hcopy] at this
  | some j =>
    have hj := List.find?_some hf
    obtain ⟨c', hc', hcopy'⟩ := (Option.any_eq_true ..).mp hj
    rw [honly j c' hc' (of_decide_eq_true hcopy')]

theorem State.liveSend_of_holds (hslot : tag.slot = s.boot.slot) (hlive : s.tagLive tag = true)
    (h : SendHolds s k tag.copyRef c) : s.liveSend tag = some k := by
  simp [State.liveSend, State.owns, hslot, hlive, State.sendOf_of_holds h]

theorem exec_receiptReceived_spoiled (htakes : TakesFrames s) (hlive : s.liveSend tag = some k)
    (hp : parseFrame bytes = some (.receipt tag false)) (hstate : (s.copy tag.copyRef).state = .awaitReceipt) :
    exec (.receiptReceived bytes) s = .next (s.spoiled k tag.copyRef) := by
  have hw : Instr.wellFormed (.receiptReceived bytes) = true := kindFits_of_parse hp
  show execReceiptReceived bytes s = _
  simp only [execReceiptReceived, hw, State.heard_of_takes htakes, hp, hlive, hstate]
  rfl

theorem exec_receiptWaitExpiry (hr : s.running = true) (hc : s.sendCtx k = some c) (hwait : c.receiptWait ≠ none) :
    exec (.receiptWaitExpiry k) s = .next (s.spoiled k c.copy) := by
  show execReceiptWaitExpiry k s = _
  simp [execReceiptWaitExpiry, hc, hr, Option.isSome_iff_ne_none.mpr hwait]

/-- A reason that the taker gives has side 2 (R81). -/
theorem Reason.side_of_byTaker {why : Reason} (h : why.byOrigin = false) : why.bytes.head? = some 2 := by
  revert h
  cases why <;> decide

theorem sideFits_of_taker {why : Reason} (h : parseFrame bytes = some (.abandon tag why)) (ho : why.byOrigin = false) :
    sideFits 1 bytes = true := by
  obtain ⟨body, check, rfl, hbody⟩ := parseFrame_eq_some h
  obtain ⟨rest, rfl⟩ := parseBody_kind hbody
  rw [Frame.kind, parseBody_abandon] at hbody
  obtain ⟨s, r, x, side, reason, _, _, rfl, ⟨⟩, hbytes⟩ := parseAbandon_spec hbody
  have hside := Reason.side_of_byTaker ho
  rw [hbytes] at hside
  cases hside
  rfl

theorem exec_abandonTakerReceived_spoiled {why : Reason} (htakes : TakesFrames s) (hlive : s.liveSend tag = some k)
    (hwhy : why ∈ [Reason.order, .stall, .noTransfer]) (hp : parseFrame bytes = some (.abandon tag why))
    (hstate : (s.copy tag.copyRef).state = .streaming ∨ (s.copy tag.copyRef).state = .awaitReceipt) :
    exec (.abandonTakerReceived bytes) s = .next (s.spoiled k tag.copyRef) := by
  have hside : why.byOrigin = false := by
    revert hwhy
    cases why <;> decide
  have hw : Instr.wellFormed (.abandonTakerReceived bytes) = true := by
    rw [Instr.wellFormed, Bool.and_eq_true]
    exact ⟨kindFits_of_parse hp, sideFits_of_taker hp hside⟩
  have hspoil : s.takerAbandons k tag.copyRef = s.spoiled k tag.copyRef := if_pos hstate
  show execAbandonTakerReceived bytes s = _
  simp only [List.mem_cons, List.not_mem_nil, or_false] at hwhy
  rcases hwhy with rfl | rfl | rfl <;>
    simp only [execAbandonTakerReceived, hw, State.heard_of_takes htakes, hp, hlive, hspoil, if_true]

end

/-- Settles O49: the three ways to a spoil come to one operation, and R73's table says what it does. -/
theorem spoilOffersAgainOrKills : Obligations.SpoilOffersAgainOrKills := by
  intro s bytes k tag c x i htakes hslot hlive hholds hx hw hi spoil next
  have hsend := State.liveSend_of_holds hslot hlive hholds
  have hcopy := State.copyIs_copy hx
  obtain ⟨hc, hheld, -⟩ := hholds
  have hspoil : exec i s = .next (s.spoiled k tag.copyRef) ∧ x.state ≠ .settled := by
    rcases hi with ⟨rfl, hp, hstate⟩ | ⟨rfl, hwait, hstate⟩ | ⟨why, rfl, hwhy, hp, hstate⟩
    · exact ⟨exec_receiptReceived_spoiled htakes hsend hp (by rw [hcopy, hstate]), by rw [hstate]; nofun⟩
    · exact ⟨hheld ▸ exec_receiptWaitExpiry htakes.1 hc hwait, by rw [hstate]; nofun⟩
    · refine ⟨exec_abandonTakerReceived_spoiled htakes hsend hwhy hp (by rw [hcopy]; exact hstate), ?_⟩
      rcases hstate with h | h <;> rw [h] <;> nofun
  obtain ⟨hexec, hs⟩ := hspoil
  refine ⟨fun hlt hmax hlocal hint => ⟨_, hexec, ?_⟩, fun hend => ⟨_, hexec, State.spoiled_goesDead hc hx hs hw hend⟩⟩
  refine State.spoiled_offersAgain hc hheld hx hs hlt rfl hmax hlocal ?_
  rw [State.interceptAt]
  split
  · next h => exact hint h
  · rfl

end Sys2Proof.Machine
end

section
namespace Sys2Proof.Machine

/-! ### Local binding: joined, or on the line (R56, R67) -/

section
variable {s t : State} {n : Line} {ref : CopyRef} {x : Copy} {i : CopyIx}

/-- A change of one copy leaves the others where they are. -/
theorem CopyIs.modCopy_ne {other : CopyRef} (h : other ≠ ref) (f : Copy → Copy) (y : Copy) :
    CopyIs (s.modCopy ref f) other y ↔ CopyIs s other y := by
  have hkept : (s.modCopy ref f).copy other = s.copy other := s.modCopy_copy_ne ref other f h
  have hlen : ((s.modCopy ref f).record other.record).copies.length = (s.record other.record).copies.length := by
    rw [State.modCopy_record]
    split
    · exact List.length_modify ..
    · rfl
  constructor <;> intro hy
  · obtain ⟨z, hz⟩ := CopyIs.of_length.mpr (hlen ▸ CopyIs.of_length.mp ⟨y, hy⟩)
    rwa [← State.copyIs_copy hy, hkept, State.copyIs_copy hz]
  · obtain ⟨z, hz⟩ := CopyIs.of_length.mpr (hlen ▸ CopyIs.of_length.mp ⟨y, hy⟩)
    rwa [← State.copyIs_copy hy, ← hkept, State.copyIs_copy hz]

/-- What a copy can join rests on the other copies of its record (R56, R67). -/
theorem BoundThere.modCopy_iff (f : Copy → Copy) : BoundThere (s.modCopy ref f) n ref i ↔ BoundThere s n ref i :=
  and_congr_right fun hi => exists_congr fun y =>
    and_congr_left fun _ => CopyIs.modCopy_ne (fun e => hi (congrArg CopyRef.ix e)) f y

/-- A copy is bound by a join with the lowest-numbered copy of its record that is bound there (R56, R67). -/
theorem State.bindLocal_joins (h : BoundThere s n ref i) (hlow : ∀ j, j < i → ¬BoundThere s n ref j) :
    s.bindLocal n ref =
      s.modCopy ref fun c => { c with line := some n, joinedWith := some i, state := .unrouted } := by
  have hpartner : s.partner n ref = some i := finRange_find?_eq_some.mpr
    ⟨(boundThere_iff s n ref i).mp h, fun j hj =>
      Bool.eq_false_iff.mpr fun hb => hlow j hj ((boundThere_iff s n ref j).mpr hb)⟩
  rw [State.bindLocal, hpartner]

/-- A copy that is bound with none of its record there stands on the line (R67, R126). -/
theorem State.bindLocal_stands (hx : CopyIs s ref x) (hs : x.state ≠ .settled) (hnone : ∀ i, ¬BoundThere s n ref i) :
    StandsOn (s.bindLocal n ref) n ref ∧ Schedules n s (s.bindLocal n ref) ∧
    ∃ st resume channel, CopyIs (s.bindLocal n ref) ref
      { x with line := some n, state := st, resume := resume, channel := channel } := by
  have hbind : s.bindLocal n ref = (s.modCopy ref fun c => { c with line := some n }).enqueue n ref := by
    rw [State.bindLocal, State.partner_eq_none.mpr hnone]
  have hline := hx.modCopy fun c => { c with line := some n }
  obtain ⟨hstands, hcopy⟩ := State.enqueue_stands (n := n) hline hs
  rw [hbind]
  refine ⟨hstands, (s.modCopy_sendsOnly n ref _).toSchedules.trans (State.enqueue_schedules _ n ref), ?_⟩
  rcases hcopy with hq | ⟨resume, -, hsending⟩
  · exact ⟨_, _, _, hq⟩
  · exact ⟨_, _, _, hsending⟩

end

/-! ### A new series (R69, R71) -/

section
variable {s : State} {ref : CopyRef} {x : Copy} {k : CtxIx}

/-- The attempt a series starts at: the first, or the threshold for an intercept copy (R71). -/
def State.firstFor (s : State) (c : StationCode) : Nat := if c = [0, 0, 0, 0] then s.boot.cfg.threshold else 1

theorem State.firstAttempt_of_copyIs (hx : CopyIs s ref x) : s.firstAttempt ref = s.firstFor x.station := by
  simp only [State.firstAttempt, State.isIntercept, State.copyIs_copy hx, decide_eq_true_eq]
  rfl

/-- A copy takes a send context and its first OFFER is asked for (R69, R71). -/
theorem State.startSeries_spec (hx : CopyIs s ref x) (hs : x.state ≠ .settled) (k : CtxIx) :
    ContextOnly k ref s (s.startSeries k ref) ∧ OffersCopy (s.startSeries k ref) k ref ∧
    CopyIs (s.startSeries k ref) ref { x with state := .backoff, attempt := s.firstFor x.station } := by
  have hfirst : ContextOnly k ref s (s.modCopy ref fun c => { c with attempt := s.firstAttempt ref }) :=
    s.modCopy_contextOnly (by exact fun _ => ⟨rfl, id⟩)
  have hcopy := hx.modCopy fun c => { c with attempt := s.firstAttempt ref }
  refine ⟨hfirst.trans (State.giveSend_contextOnly _ k ref), State.giveSend_offers _ k ref, ?_⟩
  rw [← State.firstAttempt_of_copyIs hx]
  exact State.giveSend_copyIs hcopy hs k

theorem State.freeSendCtx_of_lowest (hk : s.sendCtx k = none) (hlow : ∀ j, j < k → s.sendCtx j ≠ none) :
    s.freeSendCtx = some k :=
  finRange_find?_eq_some.mpr ⟨by rw [hk]; rfl, fun j hj =>
    Bool.eq_false_iff.mpr fun h => hlow j hj (Option.isNone_iff_eq_none.mp h)⟩

/-- A copy starts its series where a context is FREE, no other copy waits and no hold-off runs (R69). -/
theorem State.offerCopy_of_free (hk : s.freeSendCtx = some k) (hw : s.router.waitList = [])
    (hhold : s.port.holdOff = none) : s.offerCopy ref = s.startSeries k ref := by
  simp [State.offerCopy, hk, hw, hhold]

/-- A copy waits for a context where none is FREE, others wait or the hold-off runs (R69). -/
theorem State.offerCopy_of_barred
    (h : (∀ k, s.sendCtx k ≠ none) ∨ s.router.waitList ≠ [] ∨ s.port.holdOff ≠ none) :
    s.offerCopy ref = s.waitForContext ref := by
  unfold State.offerCopy
  split
  · next k hk =>
    have hfree : s.sendCtx k = none := Option.isNone_iff_eq_none.mp (finRange_find?_eq_some.mp hk).1
    have hbarred := h.resolve_left fun hall => hall k hfree
    exact if_neg fun hopen => by
      simp only [Bool.and_eq_true, List.isEmpty_iff, Option.isNone_iff_eq_none] at hopen
      exact hbarred.elim (· hopen.1) (· hopen.2)
  · rfl

/-- A copy that waits for a context stands at the tail of the wait list (R69). -/
theorem State.waitForContext_spec (hx : CopyIs s ref x) (hs : x.state ≠ .settled) (hnew : ref ∉ s.router.waitList) :
    CopyIs (s.waitForContext ref) ref { x with state := .backoff } ∧
    (s.waitForContext ref).router = { s.router with waitList := s.router.waitList ++ [ref] } ∧
    (s.waitForContext ref).port = s.port ∧ (s.waitForContext ref).lines = s.lines ∧
    (s.waitForContext ref).sup = s.sup := by
  refine ⟨hx.setCopyState hs .backoff, ?_, rfl, rfl, rfl⟩
  rw [State.waitForContext, State.modRouter_router, show (s.setCopyState ref .backoff).router = s.router from rfl,
    if_neg (by simpa using hnew)]

end

/-! ### A copy is dispatched (R66) -/

section
variable {s : State} {ref : CopyRef} {x : Copy}

theorem State.startCounts_copyIs (hx : CopyIs s ref x) :
    CopyIs (s.startCounts ref) ref { x with attempt := 0, spoil := 0 } :=
  hx.modCopy _

theorem State.startCounts_dispatchLine (hx : CopyIs s ref x) :
    (s.startCounts ref).dispatchLine ref = s.serving x.station :=
  State.dispatchLine_of_copyIs (c := { x with attempt := 0, spoil := 0 }) (State.startCounts_copyIs hx)

theorem BoundThere.startCounts_iff {n : Line} {i : CopyIx} :
    BoundThere (s.startCounts ref) n ref i ↔ BoundThere s n ref i :=
  BoundThere.modCopy_iff _

theorem State.dispatchCopy_of_served {n : Line} (hx : CopyIs s ref x) (h : s.serving x.station = some n) :
    s.dispatchCopy ref = (s.startCounts ref).bindLocal n ref := by
  simp only [State.dispatchCopy, State.startCounts_dispatchLine hx, h]

theorem State.dispatchCopy_of_unserved (hx : CopyIs s ref x) (h : s.serving x.station = none) :
    s.dispatchCopy ref = (s.startCounts ref).offerCopy ref := by
  simp only [State.dispatchCopy, State.startCounts_dispatchLine hx, h]

end

end Sys2Proof.Machine
end

section
namespace Sys2Proof.Machine

/-! ### The three ways of a dispatched copy (R66) -/

section
variable {s : State} {ref : CopyRef} {x : Copy}

/-- Where a copy of its record is bound to its line already the copy joins it (R56, R67). -/
theorem State.dispatchCopy_joined {n : Line} {i : CopyIx} (hx : CopyIs s ref x)
    (hserve : s.serving x.station = some n) (hi : BoundThere s n ref i) (hlow : ∀ j, j < i → ¬BoundThere s n ref j) :
    let t := s.dispatchCopy ref
    CopyIs t ref { x with attempt := 0, spoil := 0, line := some n, joinedWith := some i, state := .unrouted } ∧
    t.copyState ref = s.copyState ⟨ref.record, i⟩ ∧ t.lines = s.lines ∧ t.router = s.router ∧ t.port = s.port ∧
    t.sup = s.sup := by
  simp only [State.dispatchCopy_of_served hx hserve]
  rw [State.bindLocal_joins (BoundThere.startCounts_iff.mpr hi) fun j hj h => hlow j hj (BoundThere.startCounts_iff.mp h)]
  have hjoined := (State.startCounts_copyIs hx).modCopy fun c =>
    { c with line := some n, joinedWith := some i, state := .unrouted }
  obtain ⟨hne, y, hy, -, hjoin, -⟩ := hi
  have hne' : (⟨ref.record, i⟩ : CopyRef) ≠ ref := fun e => hne (congrArg CopyRef.ix e)
  refine ⟨hjoined, ?_, rfl, rfl, rfl, rfl⟩
  simp only [State.copyState, State.copyIs_copy hjoined, State.copyIs_copy hy, hjoin]
  rw [State.modCopy_copy_ne _ _ _ _ hne', State.startCounts, State.modCopy_copy_ne _ _ _ _ hne', State.copyIs_copy hy]

/-- Where none is, the copy stands on its line (R66, R67, R126). -/
theorem State.dispatchCopy_stands {n : Line} (hx : CopyIs s ref x) (hs : x.state ≠ .settled)
    (hserve : s.serving x.station = some n) (hnone : ∀ i, ¬BoundThere s n ref i) :
    StandsOn (s.dispatchCopy ref) n ref ∧ Schedules n s (s.dispatchCopy ref) ∧
    ∃ st resume channel, CopyIs (s.dispatchCopy ref) ref
      { x with attempt := 0, spoil := 0, line := some n, state := st, resume := resume, channel := channel } := by
  rw [State.dispatchCopy_of_served hx hserve]
  obtain ⟨hstands, hsched, hcopy⟩ := State.bindLocal_stands (State.startCounts_copyIs hx) hs
    fun i h => hnone i (BoundThere.startCounts_iff.mp h)
  exact ⟨hstands, (s.modCopy_sendsOnly n ref _).toSchedules.trans hsched, hcopy⟩

/-- A copy that no line serves takes the lowest FREE send context (R69, R71). -/
theorem State.dispatchCopy_takesContext {k : CtxIx} (hx : CopyIs s ref x) (hs : x.state ≠ .settled)
    (hserve : s.serving x.station = none) (hk : s.sendCtx k = none) (hlow : ∀ j, j < k → s.sendCtx j ≠ none)
    (hw : s.router.waitList = []) (hhold : s.port.holdOff = none) :
    ContextOnly k ref s (s.dispatchCopy ref) ∧ OffersCopy (s.dispatchCopy ref) k ref ∧
    CopyIs (s.dispatchCopy ref) ref { x with state := .backoff, attempt := s.firstFor x.station, spoil := 0 } := by
  have hcounts : ContextOnly k ref s (s.startCounts ref) := s.modCopy_contextOnly (by exact fun _ => ⟨rfl, id⟩)
  obtain ⟨hctx, hoffer, hcopy⟩ := State.startSeries_spec (State.startCounts_copyIs hx) hs k
  rw [State.dispatchCopy_of_unserved hx hserve,
    State.offerCopy_of_free (s := s.startCounts ref) (State.freeSendCtx_of_lowest hk hlow) hw hhold]
  exact ⟨hcounts.trans hctx, hoffer, hcopy⟩

/-- A copy that no line serves and no context is left for waits for one (R69). -/
theorem State.dispatchCopy_waitsLast (hx : CopyIs s ref x) (hs : x.state ≠ .settled)
    (hserve : s.serving x.station = none)
    (hbarred : (∀ k, s.sendCtx k ≠ none) ∨ s.router.waitList ≠ [] ∨ s.port.holdOff ≠ none)
    (hnew : ref ∉ s.router.waitList) :
    CopyIs (s.dispatchCopy ref) ref { x with state := .backoff, attempt := 0, spoil := 0 } ∧
    (s.dispatchCopy ref).router = { s.router with waitList := s.router.waitList ++ [ref] } ∧
    (s.dispatchCopy ref).port = s.port := by
  rw [State.dispatchCopy_of_unserved hx hserve, State.offerCopy_of_barred (s := s.startCounts ref) hbarred]
  obtain ⟨hcopy, hrouter, hport, -, -⟩ :=
    State.waitForContext_spec (s := s.startCounts ref) (State.startCounts_copyIs hx) hs hnew
  exact ⟨hcopy, hrouter, hport⟩

/-- A copy to be offered touches no line, no supervisor unit and no take context (R69). -/
theorem State.dispatchCopy_offered (hx : CopyIs s ref x) (hserve : s.serving x.station = none) :
    (s.dispatchCopy ref).lines = s.lines ∧ (s.dispatchCopy ref).sup = s.sup ∧
    (s.dispatchCopy ref).port.take = s.port.take := by
  rw [State.dispatchCopy_of_unserved hx hserve]
  unfold State.offerCopy
  split
  · split
    · next k _ _ =>
      have h : ContextOnly k ref (s.startCounts ref) ((s.startCounts ref).startSeries k ref) :=
        (State.modCopy_contextOnly _ (by exact fun _ => ⟨rfl, id⟩)).trans (State.giveSend_contextOnly _ k ref)
      exact ⟨h.lines, h.sup, h.take⟩
    · exact ⟨rfl, rfl, rfl⟩
  · exact ⟨rfl, rfl, rfl⟩

end

/-! ### A message is closed and its table dispatched (R35, R40) -/

/-- With none of its copies on a queue the text of a record that grows changes no record. -/
theorem State.linesLook_record {s : State} {r : RecIx} (hq : ∀ m, ∀ e ∈ (s.line m).sched.queue, e.copy.record ≠ r)
    (oldCount : Nat) (oldComplete : Bool) (ns : List Line) (q : RecIx) :
    (s.linesLook r oldCount oldComplete ns).record q = s.record q := by
  induction ns generalizing s with
  | nil => rfl
  | cons n ns ih =>
    have hanswer := (s.answerText_loadsOnly n r).onlyLine
    have hqueue : ∀ m, ((s.answerText n r).line m).sched.queue = (s.line m).sched.queue := fun m => by
      by_cases hm : m = n
      · exact hm ▸ congrArg Prod.fst (s.answerText_holds n r)
      · rw [hanswer.2 m hm]
    have hready : ((s.answerText n r).line n).sched.queue.any ((s.answerText n r).newlyReady r oldCount oldComplete) =
        false := by
      rw [hqueue]
      exact List.any_eq_false.mpr fun e he => by simp [State.newlyReady, hq n e he]
    rw [State.linesLook, State.lineTextChanged_eq, hready, if_neg Bool.false_ne_true,
      ih fun m e he => hq m e (hqueue m ▸ he), hanswer.record]

theorem State.textChanged_record {s : State} {r : RecIx} (hq : ∀ m, ∀ e ∈ (s.line m).sched.queue, e.copy.record ≠ r)
    (oldCount : Nat) (oldComplete : Bool) (q : RecIx) : (s.textChanged r oldCount oldComplete).record q = s.record q := by
  have hask : ∀ (u : State) k kind, (u.askSend k kind).record q = u.record q := fun u k kind => by
    obtain ⟨p, e, -⟩ := u.askSend_port k kind
    rw [e]
    rfl
  have hlook : ∀ (u : State) k, (u.lookNext k).record q = u.record q := fun u k => by
    unfold State.lookNext
    split
    · simp only
      split
      · rfl
      · split
        · exact hask u k _
        · split
          · exact hask u k _
          · rfl
    · rfl
  have hsends : ∀ (u : State) ks, (u.sendsLook r ks).record q = u.record q := fun u ks => by
    induction ks generalizing u with
    | nil => rfl
    | cons k ks ih =>
      rw [State.sendsLook, ih]
      split
      · exact hlook u k
      · rfl
  rw [State.textChanged, (State.supTextChanged_printsOnly _ r).card.record, hsends, State.linesLook_record hq]

/-- A record that closes with an unsettled copy and none of its copies on a queue: its readers are told, and no other
record nor its copies change (R35, R60). -/
theorem State.completeRecord_of_unqueued {s : State} {r : RecIx} (hu : Unsettled (s.record r).copies)
    (hq : ∀ m, ∀ e ∈ (s.line m).sched.queue, e.copy.record ≠ r) :
    s.completeRecord r false = (s.modRecord r (Record.closedAs false)).textChanged r (s.record r).count false ∧
    ∀ q, (s.completeRecord r false).record q = (s.modRecord r (Record.closedAs false)).record q := by
  have hrec := State.textChanged_record (s := s.modRecord r (Record.closedAs false)) hq (s.record r).count false
  have hcomplete : s.completeRecord r false =
      (s.modRecord r (Record.closedAs false)).textChanged r (s.record r).count false := by
    unfold State.completeRecord State.tryFree
    refine if_neg fun hfree => ?_
    change (((s.modRecord r (Record.closedAs false)).textChanged r (s.record r).count false).record r).mayFree = true at hfree
    rw [hrec, State.modRecord_record_same] at hfree
    obtain ⟨c, hc, hs⟩ := hu
    simp only [Record.mayFree, Record.allSettled, Bool.and_eq_true, List.all_eq_true, decide_eq_true_eq] at hfree
    exact hs (hfree.2 c hc)
  exact ⟨hcomplete, fun q => by rw [hcomplete, hrec]⟩

section
variable {n m : Line} {framing : Bool} {s u v : State} {r : RecIx} {codes : List StationCode}

/-- The state in which the table of a message that has closed is dispatched. -/
structure TableClosed (n : Line) (r : RecIx) (codes : List StationCode) (m : Line) (s v : State) : Prop where
  boot : v.boot = s.boot
  router : v.router = s.router
  account : v.sup.account = s.sup.account
  table : TableIs v r codes fun _ c => newCopy c
  cls : ∀ q, (v.record q).cls = (s.record q).cls
  sendCond : ∀ p, v.sendCond p = s.sendCond p
  sched : (v.line m).sched = (s.line m).sched

theorem CharMet.closes (hu : CharMet n r framing s u) (hcopies : (s.record r).copies = codes.map newCopy)
    (hpos : 1 ≤ codes.length) (hcur : (s.line m).sched.current = none)
    (hq : ∀ q, ∀ e ∈ (s.line q).sched.queue, e.copy.record ≠ r) :
    TableClosed n r codes m s (u.completeRecord r false) := by
  have hqueue : ∀ q, ∀ e ∈ (u.line q).sched.queue, e.copy.record ≠ r := fun q => by rw [hu.sched]; exact hq q
  have htable : (u.record r).copies = codes.map newCopy := by rw [hu.record]; exact hcopies
  have hunsettled : Unsettled (u.record r).copies := by
    obtain ⟨c, hc⟩ := List.exists_mem_of_length_pos hpos
    exact ⟨newCopy c, htable ▸ List.mem_map_of_mem hc, newCopy_unsettled c⟩
  obtain ⟨hcomplete, hrec⟩ := State.completeRecord_of_unqueued hunsettled hqueue
  have hheeds := State.completeRecord_heeds hunsettled false
  have hboot : (u.completeRecord r false).boot = s.boot := hheeds.boot.trans hu.boot
  refine ⟨hboot, hheeds.router.trans hu.router, hheeds.account.trans (congrArg Supervisor.account hu.sup), ?_, fun q => ?_,
    fun p => ?_, ?_⟩
  · rw [TableIs, hrec, State.modRecord_record_same]
    show (u.record r).copies = _
    rw [htable]
    exact List.ext_getElem? fun i => by rw [List.getElem?_map, List.getElem?_mapIdx]
  · obtain ⟨_, e⟩ := hu.records q
    rw [hrec, State.modRecord_record, e]
    split <;> rfl
  · have hline := hheeds.lines p
    exact State.sendCond_congr hboot (by rw [hline.condIn]; exact hu.condIn p)
      (by rw [hline.condSense]; exact congrArg _ (hu.condSense p))
  · rw [hcomplete, State.textChanged_idle (s := u.modRecord r (Record.closedAs false))
      ((congrArg Sched.current (hu.sched m)).trans hcur) (hqueue m)]
    exact hu.sched m

theorem State.returnToHunt_sched (s : State) (n m : Line) : ((s.returnToHunt n).line m).sched = (s.line m).sched := by
  by_cases hm : m = n
  · obtain ⟨_, hl, -⟩ := s.returnToHunt_turn n
    rw [hm, hl]
  · rw [(s.returnToHunt_onlyLine n).2 m hm]

/-- All stations on one held line: one queue entry at the close, which every other copy joins (R35, R66, R67). -/
theorem TableClosed.binds (h : TableClosed n r codes m s v) (hpos : 1 ≤ codes.length) (hmax : codes.length ≤ 6)
    (hserve : ∀ c ∈ codes, s.serving c = some m) (hcond : s.sendCond m = some .open)
    (hcur : (s.line m).sched.current = none) (hord : ClassOrdered s (s.line m).sched.queue) :
    let t := ((v.dispatchRecord r).returnToHunt n).restartSilence n
    TableIs t r codes (boundCopy m codes.length) ∧
    (∃ lead, (t.line m).sched.queue = queuePlaced s ⟨⟨r, 0⟩, lead⟩ (s.line m).sched.queue) ∧
    t.router = s.router ∧ t.sup.account = s.sup.account := by
  have hserving : ∀ c, v.serving c = s.serving c :=
    State.serving_congr h.boot fun p => by rw [State.canSend, State.canSend, h.sendCond]
  obtain ⟨htable, hrouter, lead, hput⟩ := State.dispatchAll_binds h.table hmax (fun c hc => (hserving c).trans (hserve c hc))
    ((h.sendCond m).trans hcond) (by rw [h.sched]; exact hcur) hpos le_rfl
  rw [← State.dispatchRecord_of_table h.table hmax] at htable hrouter hput
  have hsup := (v.dispatchRecord_dispatches r).sup
  have hone := (v.dispatchRecord r).returnToHunt_onlyLine n
  refine ⟨?_, ⟨lead, ?_⟩, ?_, ?_⟩
  · rw [TableIs, State.restartSilence_record, hone.record]
    exact htable
  · rw [State.restartSilence_sched, State.returnToHunt_sched, hput, h.sched,
      State.insertEntry_congr (State.entryClass_congr h.cls), State.insertEntry_eq_queuePlaced _ _ _ hord]
  · exact hone.router.trans (hrouter.trans h.router)
  · show ((v.dispatchRecord r).returnToHunt n).sup.account = _
    rw [hone.sup, hsup, h.account]

/-- Each copy of a table that is bound to one line is QUEUED, the first as itself and the others by their join (R57). -/
theorem TableIs.copyState_bound {t : State} (h : TableIs t r codes (boundCopy m codes.length)) {i : CopyIx}
    (hi : i.val < codes.length) : t.copyState ⟨r, i⟩ = .queued := by
  have hfirst := State.copyIs_copy
    (h.copyIs (i := 0) (List.getElem?_eq_getElem (Nat.zero_lt_of_lt hi)))
  have hcopy := State.copyIs_copy (h.copyIs (List.getElem?_eq_getElem hi))
  rw [show boundCopy m codes.length (0 : CopyIx).val codes[0] = { newCopy codes[0] with line := some m, state := .queued } from
    if_pos (Nat.zero_lt_of_lt hi)] at hfirst
  rw [boundCopy, if_pos hi] at hcopy
  simp only [State.copyState, hcopy]
  by_cases h0 : i.val = 0
  · rw [if_pos h0]
    rfl
  · rw [if_neg h0]
    simp only [hfirst]

/-- The fourth closing code in TEXT closes the record and hands its table to the router (R35, R40). -/
theorem exec_closeDispatches (hmid : MidCharacter s n) (ha : (s.line n).asm.state = .text)
    (hr : (s.line n).asm.record = some r) (hcount : (s.line n).asm.closingCount = 3)
    (hcase : caseAfter s.boot.cfg.codes.closing (s.line n).rx.case = .letters) (hlate : DispatchedAtClose s r)
    (hcopies : (s.record r).copies = codes.map newCopy) (hpos : 1 ≤ codes.length)
    (hcur : (s.line m).sched.current = none) (hq : ∀ q, ∀ e ∈ (s.line q).sched.queue, e.copy.record ≠ r) :
    ∃ v, TableClosed n r codes m s v ∧ exec (.characterReceived n s.boot.cfg.codes.closing framing) s =
      .next (((v.dispatchRecord r).returnToHunt n).restartSilence n) := by
  obtain ⟨u, hu, hexec⟩ := exec_closingCode (framing := framing) hmid (.inl ha) hr hcase
  have hclosed := hu.closes hcopies hpos hcur hq
  have htext : ¬(u.line n).asm.state = .heading := by rw [hu.asm, ha]; nofun
  have hdispatch : (u.completeRecord r false).dispatchAtClose r false = (u.completeRecord r false).dispatchRecord r :=
    if_pos (by rw [State.dispatchedEarly_congr hclosed.boot, hclosed.cls, hlate.not_early]; rfl)
  have hclose : u.closeByRun n r = ((u.completeRecord r false).dispatchRecord r).returnToHunt n := by
    rw [u.closeByRun_eq r (by rw [hu.asm]; exact Assembler.designatorTaken_of_text ha), State.closing, if_neg htext,
      decide_eq_false htext, hdispatch]
  rw [if_neg (by rw [hcount]; decide), hclose] at hexec
  exact ⟨_, hclosed, hexec⟩

end

/-- Settles O34: the three ways of a dispatched copy, and a table that is dispatched at its close. -/
theorem routerDispatchesEachCopy : Obligations.RouterDispatchesEachCopy := by
  unfold Obligations.RouterDispatchesEachCopy
  refine ⟨fun s ref x hx hu hj hl => ?_, fun n m framing s r codes hmid ha hr hcount hcase hlate hcopies hpos hmax hcodes
    hcond hcur hentries hord => ?_⟩
  · have hs : x.state ≠ .settled := by rw [hu]; nofun
    intro t intercept serves first
    have hserve : ∀ n, serves n ↔ s.serving x.station = some n := fun n => (serving_iff s x.station n).symm
    simp only [hserve]
    refine ⟨fun n i hn hi hlow => by simpa only [← hu] using State.dispatchCopy_joined hx hn hi hlow, fun n hn hnone => ?_, fun hno => ?_⟩
    · obtain ⟨hstands, hsched, st, resume, channel, hcopy⟩ := State.dispatchCopy_stands hx hs hn hnone
      have hc := State.copyIs_copy hcopy
      exact ⟨hstands, by rw [hc], by rw [hc]; exact hj, by rw [hc], by rw [hc], hsched.others, hsched.router, hsched.port,
        hsched.sup⟩
    · have hnone := Option.eq_none_iff_forall_ne_some.mpr hno
      obtain ⟨hlines, hsup, htake⟩ := State.dispatchCopy_offered hx hnone
      refine ⟨hlines, hsup, htake, fun k hk hlow hw hhold => ?_, fun hbarred hnew =>
        State.dispatchCopy_waitsLast hx hs hnone hbarred hnew⟩
      obtain ⟨hctx, hoffer, hcopy⟩ := State.dispatchCopy_takesContext hx hs hnone hk hlow hw hhold
      exact ⟨hoffer, hcopy, hctx.sends, hctx.router⟩
  · obtain ⟨v, hclosed, hexec⟩ := exec_closeDispatches (framing := framing) hmid ha hr hcount hcase hlate hcopies hpos hcur
      fun q e he => hentries q e (List.mem_append_left _ he)
    obtain ⟨htable, ⟨lead, hqueue⟩, hrouter, hacc⟩ := hclosed.binds hpos hmax
      (fun c hc => (serving_iff s c m).mpr (.inr (hcodes c hc))) hcond hcur hord
    exact ⟨_, lead, hexec, htable.congr fun i c hc => if_pos (List.getElem?_eq_some_iff.mp hc).1, hqueue,
      fun i hi => htable.copyState_bound hi, hrouter, hacc⟩

end Sys2Proof.Machine
end

section
namespace Sys2Proof.Machine

/-! ### The end of the backoff wait (R72, R74) -/

section
variable {s t : State} {k : CtxIx} {c : Send} {n : Line} {ref : CopyRef} {x : Copy} {i : CopyIx} {next : Nat}

theorem exec_backoffWaitExpiry (hr : s.running = true) (hc : s.sendCtx k = some c) (hb : c.backoff ≠ none)
    (hx : CopyIs s c.copy x) : exec (.backoffWaitExpiry k) s =
      .next ((s.setSend k (some { c with backoff := none })).reoffer k c.copy (x.attempt + 1)) := by
  show execBackoffWaitExpiry k s = _
  simp only [execBackoffWaitExpiry, hc, hr, Option.isSome_iff_ne_none.mpr hb, Bool.and_self, if_true,
    State.copyIs_copy hx]

theorem BoundThere.congr (h : ∀ r, t.record r = s.record r) : BoundThere t n ref i ↔ BoundThere s n ref i := by
  simp only [BoundThere, CopyIs, h]

/-- At the end of the wait a copy that no line serves is offered again at the next attempt (R72, R74, R96). -/
theorem State.backoff_offersAgain (hx : CopyIs s c.copy x) (hs : x.state ≠ .settled)
    (hlocal : s.localLine x.station = none)
    (hint : s.boot.cfg.threshold ≤ x.attempt + 1 → s.interceptLine = none) :
    OffersAgain s ((s.setSend k (some { c with backoff := none })).reoffer k c.copy (x.attempt + 1)) k c.copy
      { x with attempt := x.attempt + 1 } := by
  have hnone : s.interceptAt (x.attempt + 1) = none := by
    rw [State.interceptAt]
    split
    · next h => exact hint h
    · rfl
  exact (State.reoffer_offersAgain (s := s.setSend k (some { c with backoff := none }))
    (State.setSend_sendCtx_same s k _) rfl hx hs hlocal hnone).after (s.setSend_contextOnly _)

/-- In place of a re-offer the copy is bound to the line of its station, and its context is FREE (R74). -/
theorem State.reoffer_of_local (hx : CopyIs s ref x) (hlocal : s.localLine x.station = some n) :
    s.reoffer k ref next = ((s.freeSend k).bindLocal n ref).serveWaitList := by
  rw [State.reoffer, State.copyIs_copy hx, hlocal]
  rfl

/-- It stands on the line where none of its record is bound there (R67, R74). -/
theorem State.reoffer_stands (hx : CopyIs s ref x) (hs : x.state ≠ .settled) (hlocal : s.localLine x.station = some n)
    (hw : s.router.waitList = []) (hnone : ∀ i, ¬BoundThere s n ref i) :
    (s.reoffer k ref next).sendCtx k = none ∧ ((s.reoffer k ref next).copy ref).line = some n ∧
    ((s.reoffer k ref next).copy ref).attempt = x.attempt ∧ StandsOn (s.reoffer k ref next) n ref := by
  obtain ⟨hctx, hfree, hrec⟩ := s.freeSend_spec k ref
  have hx' : CopyIs (s.freeSend k) ref x := by rw [CopyIs, hrec]; exact hx
  obtain ⟨hstands, hsched, st, resume, channel, hcopy⟩ :=
    State.bindLocal_stands hx' hs fun i h => hnone i ((BoundThere.congr hrec).mp h)
  rw [State.reoffer_of_local hx hlocal,
    State.serveWaitList_of_empty (by rw [hsched.router, hctx.router]; exact hw), State.copyIs_copy hcopy]
  refine ⟨?_, rfl, rfl, hstands⟩
  rw [State.sendCtx, hsched.port]
  exact hfree

/-- It joins the lowest copy of its record that is bound there (R56, R67, R74). -/
theorem State.reoffer_joins (hx : CopyIs s ref x) (hlocal : s.localLine x.station = some n)
    (hw : s.router.waitList = []) (hi : BoundThere s n ref i) (hlow : ∀ j, j < i → ¬BoundThere s n ref j) :
    let t := s.reoffer k ref next
    ContextOnly k ref s t ∧ t.sendCtx k = none ∧ (t.copy ref).line = some n ∧ (t.copy ref).joinedWith = some i ∧
    (t.copy ref).attempt = x.attempt ∧ t.copyState ref = (s.copy ⟨ref.record, i⟩).state := by
  obtain ⟨hctx, hfree, hrec⟩ := s.freeSend_spec k ref
  have hx' : CopyIs (s.freeSend k) ref x := by rw [CopyIs, hrec]; exact hx
  have hjoin : ContextOnly k ref (s.freeSend k) ((s.freeSend k).modCopy ref fun c =>
      { c with line := some n, joinedWith := some i, state := .unrouted }) :=
    State.modCopy_contextOnly _ (by exact fun _ => ⟨rfl, nofun⟩)
  have hcopy := State.copyIs_copy (hx'.modCopy fun c => { c with line := some n, joinedWith := some i, state := .unrouted })
  have hne : (⟨ref.record, i⟩ : CopyRef) ≠ ref := fun e => hi.1 (congrArg CopyRef.ix e)
  simp only [State.reoffer_of_local hx hlocal]
  rw [State.bindLocal_joins ((BoundThere.congr hrec).mpr hi) fun j hj h => hlow j hj ((BoundThere.congr hrec).mp h),
    State.serveWaitList_of_empty (by rw [hjoin.router, hctx.router]; exact hw), State.copyState, hcopy]
  exact ⟨hctx.trans hjoin, hfree, rfl, rfl, rfl, congrArg Copy.state ((hctx.trans hjoin).others _ hne)⟩

end

/-! ### The wait list is served (R70, R71) -/

/-- The copies `refs` at the head of the wait list have begun their series in the FREE contexts `free`, one each, and the
others wait on (R70, R71). -/
structure SeriesBegun (refs : List CopyRef) (free : List CtxIx) (s t : State) : Prop where
  card : ∃ p rs, t = { s with
    port := p, store := { s.store with records := rs }, router := { s.router with waitList := refs.drop free.length } }
  kept : CopiesKept s t
  offers : ∀ ref k, (ref, k) ∈ refs.zip free → OffersCopy t k ref
  copies : ∀ ref ∈ refs.take free.length, ∀ x, CopyIs s ref x →
    CopyIs t ref { x with state := .backoff, attempt := s.firstFor x.station }
  others : ∀ ref, ref ∉ refs.take free.length → t.copy ref = s.copy ref
  sends : ∀ k, k ∉ free.take refs.length → t.sendCtx k = s.sendCtx k

/-- A copy to which the wait list can give a context: not SETTLED, and its station has no line here (R70). -/
def Offerable (s : State) (ref : CopyRef) : Prop :=
  ∃ x, CopyIs s ref x ∧ x.state ≠ .settled ∧ s.localLine x.station = none

section
variable {s t u : State} {refs : List CopyRef} {free : List CtxIx} {ref : CopyRef} {k : CtxIx}

theorem SeriesBegun.lines (h : SeriesBegun refs free s t) : t.lines = s.lines := by
  obtain ⟨_, _, e⟩ := h.card
  rw [e]

theorem SeriesBegun.router (h : SeriesBegun refs free s t) :
    t.router = { s.router with waitList := refs.drop free.length } := by
  obtain ⟨_, _, e⟩ := h.card
  rw [e]

/-- With none on the list, or no context FREE, nothing starts (R70). -/
theorem SeriesBegun.refl (hw : s.router.waitList = refs) (h : refs = [] ∨ free = []) : SeriesBegun refs free s s := by
  have hdrop : refs.drop free.length = s.router.waitList := by rcases h with rfl | rfl <;> simp [hw]
  have hnone : refs.take free.length = [] ∧ refs.zip free = [] := by rcases h with rfl | rfl <;> simp
  obtain ⟨htake, hzip⟩ := hnone
  exact ⟨⟨s.port, s.store.records, by rw [hdrop]⟩, .refl s, fun _ _ hm => absurd (hzip ▸ hm) List.not_mem_nil,
    fun _ hm => absurd (htake ▸ hm) List.not_mem_nil, fun _ _ => rfl, fun _ _ => rfl⟩

/-- The head of the list takes the lowest FREE context, and the rest of the list goes on (R70, R71). -/
theorem SeriesBegun.cons {rest : List CopyRef} {ks : List CtxIx} {x : Copy}
    (hstep : ContextOnly k ref (s.modRouter fun r => { r with waitList := rest }) u) (hoffer : OffersCopy u k ref)
    (hx : CopyIs s ref x) (hcopy : CopyIs u ref { x with state := .backoff, attempt := s.firstFor x.station })
    (h : SeriesBegun rest ks u t) (href : ref ∉ rest) (hk : k ∉ ks) : SeriesBegun (ref :: rest) (k :: ks) s t where
  card := by
    obtain ⟨_, _, e₁⟩ := hstep.card
    obtain ⟨p, rs, e₂⟩ := h.card
    exact ⟨p, rs, by rw [e₂, e₁]; rfl⟩
  kept := (CopiesKept.of_records fun _ => rfl).trans (hstep.kept.trans h.kept)
  offers r j hr := by
    rcases List.mem_cons.mp hr with e | hr
    · cases e
      obtain ⟨stamp, ho⟩ := hoffer
      exact ⟨stamp, (h.sends k fun hm => hk (List.mem_of_mem_take hm)).trans ho⟩
    · exact h.offers r j hr
  copies r hr y hy := by
    rw [List.length_cons, List.take_succ_cons] at hr
    rcases List.mem_cons.mp hr with rfl | hr
    · cases hx.symm.trans hy
      exact h.kept.copyIs (h.others r fun hm => href (List.mem_of_mem_take hm)) hcopy
    · have hne : r ≠ ref := fun e => href (e ▸ List.mem_of_mem_take hr)
      have hfirst : u.firstFor y.station = s.firstFor y.station := by
        rw [State.firstFor, State.firstFor, hstep.boot]
        rfl
      rw [← hfirst]
      exact h.copies r hr y (hstep.kept.copyIs (hstep.others r hne) hy)
  others r hr := by
    rw [List.length_cons, List.take_succ_cons] at hr
    obtain ⟨hne, hr⟩ := not_or.mp (mt List.mem_cons.mpr hr)
    exact (h.others r hr).trans (hstep.others r hne)
  sends j hj := by
    rw [List.length_cons, List.take_succ_cons] at hj
    obtain ⟨hne, hj⟩ := not_or.mp (mt List.mem_cons.mpr hj)
    exact (h.sends j hj).trans (hstep.sends j hne)

/-- The copies of the wait list take the FREE send contexts, lowest first (R70, R71). -/
theorem State.serveWaitMany_begins (hw : s.router.waitList = refs) (hhold : s.port.holdOff = none) (hnodup : refs.Nodup)
    (hrefs : ∀ ref ∈ refs, Offerable s ref) : SeriesBegun refs (freeSends s) s (s.serveWaitMany refs.length) := by
  induction refs generalizing s with
  | nil => exact .refl hw (.inl rfl)
  | cons ref rest ih =>
    obtain ⟨href, hrest⟩ := List.nodup_cons.mp hnodup
    obtain ⟨x, hx, hs, hlocal⟩ := hrefs ref (List.mem_cons_self ..)
    cases hfree : freeSends s with
    | nil =>
      have hserve : s.serveWaitMany (ref :: rest).length = s := by
        rw [List.length_cons, State.serveWaitMany, hw, State.freeSendCtx_eq, hfree]
        rfl
      rw [hserve]
      exact .refl hw (.inr rfl)
    | cons k ks =>
      have hserve : s.serveWaitMany (ref :: rest).length =
          ((s.modRouter fun r => { r with waitList := rest }).startSeries k ref).serveWaitMany rest.length := by
        rw [List.length_cons, State.serveWaitMany, hw, State.freeSendCtx_eq, hfree]
        simp only [List.head?_cons, hhold, State.copyIs_copy hx, hlocal, Option.isNone_none, if_true]
      obtain ⟨hstep, hoffer, hcopy⟩ :=
        State.startSeries_spec (s := s.modRouter fun r => { r with waitList := rest }) hx hs k
      have htaken : freeSends ((s.modRouter fun r => { r with waitList := rest }).startSeries k ref) = ks := by
        obtain ⟨_, ho⟩ := hoffer
        exact freeSends_of_taken hfree (by rw [ho]; rfl) hstep.sends
      have hk : k ∉ ks := (List.nodup_cons.mp (hfree ▸ freeSends_nodup s)).1
      have hlines := State.localLine_congr (s := s) hstep.boot
        (State.canSend_of_lines (s := s) hstep.boot hstep.lines)
      rw [hserve]
      refine .cons hstep hoffer hx hcopy (htaken ▸ ih (by rw [hstep.router]; rfl) (hstep.holdOff.trans hhold) hrest
        fun r hr => ?_) href hk
      obtain ⟨y, hy, hsy, hly⟩ := hrefs r (List.mem_cons_of_mem _ hr)
      exact ⟨y, hstep.kept.copyIs (hstep.others r fun e => href (e ▸ hr)) hy, hsy, (hlines _).trans hly⟩

end

end Sys2Proof.Machine
end

section
namespace Sys2Proof.Machine

/-! ### The end of the hold-off: what is gathered takes the FREE contexts (R70, R77) -/

section
variable {s t w : State} {refs gathered : List CopyRef} {ref : CopyRef} {x : Copy}

theorem exec_holdOffExpiry (hr : s.running = true) (hhold : s.port.holdOff ≠ none) :
    exec .holdOffExpiry s = .next s.holdOffEnds := by
  show execHoldOffExpiry s = _
  rw [execHoldOffExpiry, hr, Option.isSome_iff_ne_none.mpr hhold]
  rfl

/-- What the hold-off's end leaves and empties, whatever stood on the lists (R77). -/
theorem State.holdOffEnds_common (s : State) : s.holdOffEnds.port.holdOff = none ∧ s.holdOffEnds.router.restartList = [] ∧
    s.holdOffEnds.sup = s.sup ∧ s.holdOffEnds.port.take = s.port.take := by
  have h := s.holdOffEnds_reopens
  exact ⟨h.holdOff, h.restartList, h.sup, h.serves.take⟩

theorem State.serving_of_unserved {c : StationCode} (hlocal : s.localLine c = none)
    (hint : c = [0, 0, 0, 0] → s.interceptLine = none) : s.serving c = none := by
  rw [State.serving]
  split
  · next h => exact hint h
  · exact hlocal

/-- The copies gathered from the restart list go ahead of those that wait already, and the FREE contexts are given out
(R70, R77). -/
theorem State.holdOffEnds_begins (hd : s.restartListTaken.dispatchRestart s.router.restartList = (w, gathered))
    (hw : ∃ ls rs, w = { s.restartListTaken with lines := ls, store := { s.store with records := rs } })
    (hnodup : (gathered ++ s.router.waitList).Nodup)
    (hrefs : ∀ ref ∈ gathered ++ s.router.waitList, Offerable w ref) :
    SeriesBegun (gathered ++ s.router.waitList) (freeSends s)
      (w.modRouter fun r => { r with waitList := gathered ++ r.waitList }) s.holdOffEnds := by
  obtain ⟨ls, rs, hw⟩ := hw
  have hlist : (w.modRouter fun r => { r with waitList := gathered ++ r.waitList }).router.waitList =
      gathered ++ s.router.waitList := by rw [hw]; rfl
  have hends : s.holdOffEnds = (w.modRouter fun r => { r with waitList := gathered ++ r.waitList }).serveWaitMany
      (gathered ++ s.router.waitList).length := by
    rw [State.holdOffEnds_eq, hd, ← hlist]
    rfl
  have hfree : freeSends (w.modRouter fun r => { r with waitList := gathered ++ r.waitList }) = freeSends s := by
    rw [hw]
    rfl
  rw [hends, ← hfree]
  exact State.serveWaitMany_begins hlist (by rw [hw]; rfl) hnodup hrefs

/-- As the hold-off ends the first of the copies `refs` ask for their OFFERs in the contexts that were FREE, lowest first,
and the others make up the wait list (R69, R70, R77). -/
structure GoesOut (refs : List CopyRef) (s t : State) : Prop where
  waitList : t.router.waitList = refs.drop (freeSends s).length
  deadList : t.router.deadList = s.router.deadList
  offers : ∀ ref k, (ref, k) ∈ refs.zip (freeSends s) → OffersCopy t k ref
  sends : ∀ k, k ∉ (freeSends s).take refs.length → t.sendCtx k = s.sendCtx k

theorem SeriesBegun.goesOut (hb : SeriesBegun refs (freeSends s)
      (w.modRouter fun r => { r with waitList := gathered ++ r.waitList }) t)
    (hw : ∃ ls rs, w = { s.restartListTaken with lines := ls, store := { s.store with records := rs } }) :
    GoesOut refs s t where
  waitList := by rw [hb.router]
  deadList := by
    obtain ⟨_, _, e⟩ := hw
    rw [hb.router, e]
    rfl
  offers := hb.offers
  sends k hk := by
    obtain ⟨_, _, e⟩ := hw
    have h := hb.sends k hk
    rwa [e] at h

/-- A copy with a context to take is one of the first on the list. -/
theorem mem_take_of_mem_zip {α β : Type} {xs : List α} {ys : List β} {a : α} {b : β} (h : (a, b) ∈ xs.zip ys) :
    a ∈ xs.take ys.length := by
  obtain ⟨i, hi⟩ := List.getElem?_of_mem h
  obtain ⟨ha, hb⟩ := List.getElem?_zip_eq_some.mp hi
  refine List.mem_of_getElem? (i := i) ?_
  rw [List.getElem?_take, if_pos (List.getElem?_eq_some_iff.mp hb).1, ha]

/-! ### A restart list that no line serves (R77) -/

/-- The copies `refs` have been gathered for the wait list, with both counts 0 (R66, R77). -/
structure Gathered (refs : List CopyRef) (s t : State) : Prop where
  card : ∃ rs, t = { s with store := { s.store with records := rs } }
  kept : CopiesKept s t
  copies : ∀ ref ∈ refs, ∀ x, CopyIs s ref x → x.state ≠ .settled →
    CopyIs t ref { x with state := .backoff, attempt := 0, spoil := 0 }
  others : ∀ ref, ref ∉ refs → t.copy ref = s.copy ref

/-- A copy gathered for the wait list (R66, R77). -/
def State.gather (s : State) (ref : CopyRef) : State := (s.startCounts ref).setCopyState ref .backoff

theorem State.gather_copiesKept (s : State) (ref : CopyRef) : CopiesKept s (s.gather ref) :=
  (s.modCopy_copiesKept ref (by exact fun _ => ⟨rfl, id⟩)).trans
    (State.modCopy_copiesKept _ ref fun c => ⟨rfl, fun hc => by simp [hc]⟩)

theorem State.gather_copyIs (hx : CopyIs s ref x) (hs : x.state ≠ .settled) :
    CopyIs (s.gather ref) ref { x with state := .backoff, attempt := 0, spoil := 0 } :=
  (State.startCounts_copyIs hx).setCopyState hs .backoff

theorem State.gather_copy_ne (s : State) {ref other : CopyRef} (h : other ≠ ref) :
    (s.gather ref).copy other = s.copy other :=
  (State.modCopy_copy_ne _ ref other _ h).trans (s.modCopy_copy_ne ref other _ h)

/-- A copy that no line serves is gathered, and the list goes on (R77). -/
theorem State.dispatchRestart_of_unserved (hx : CopyIs s ref x) (h : s.serving x.station = none) :
    s.dispatchRestart (ref :: refs) =
      (((s.gather ref).dispatchRestart refs).1, ref :: ((s.gather ref).dispatchRestart refs).2) := by
  simp only [State.dispatchRestart, State.startCounts_dispatchLine hx, h]
  rfl

/-- A copy that a line serves is dispatched there (R66, R77). -/
theorem State.dispatchRestart_of_served {n : Line} (hx : CopyIs s ref x) (h : s.serving x.station = some n) :
    s.dispatchRestart (ref :: refs) = (s.dispatchCopy ref).dispatchRestart refs := by
  simp only [State.dispatchRestart, State.startCounts_dispatchLine hx, h, State.dispatchCopy_of_served hx h]

theorem State.dispatchRestart_gathers (hnodup : refs.Nodup)
    (hrefs : ∀ ref ∈ refs, ∃ x, CopyIs s ref x ∧ s.serving x.station = none) :
    ∃ t, s.dispatchRestart refs = (t, refs) ∧ Gathered refs s t := by
  induction refs generalizing s with
  | nil => exact ⟨s, rfl, ⟨_, rfl⟩, .refl s, fun _ h => absurd h List.not_mem_nil, fun _ _ => rfl⟩
  | cons ref rest ih =>
    obtain ⟨href, hrest⟩ := List.nodup_cons.mp hnodup
    obtain ⟨x, hx, hserve⟩ := hrefs ref (List.mem_cons_self ..)
    have hkept := s.gather_copiesKept ref
    have hsame : ∀ r, r ≠ ref → ∀ y, CopyIs s r y → CopyIs (s.gather ref) r y := fun r hne y hy =>
      hkept.copyIs (s.gather_copy_ne hne) hy
    obtain ⟨t, ht, hg⟩ := ih hrest fun r hr => by
      obtain ⟨y, hy, hsy⟩ := hrefs r (List.mem_cons_of_mem _ hr)
      exact ⟨y, hsame r (fun e => href (e ▸ hr)) y hy, hsy⟩
    refine ⟨t, by rw [State.dispatchRestart_of_unserved hx hserve, ht], ?_, hkept.trans hg.kept, fun r hr y hy hs => ?_,
      fun r hr => ?_⟩
    · obtain ⟨rs, e⟩ := hg.card
      exact ⟨rs, by rw [e]; rfl⟩
    · rcases List.mem_cons.mp hr with rfl | hr
      · exact hg.kept.copyIs (hg.others r href) (State.gather_copyIs hy hs)
      · exact hg.copies r hr y (hsame r (fun e => href (e ▸ hr)) y hy) hs
    · obtain ⟨hne, hr⟩ := not_or.mp (mt List.mem_cons.mpr hr)
      exact (hg.others r hr).trans (s.gather_copy_ne hne)

/-- The hold-off ends with nothing to do (R77). -/
theorem State.holdOffEnds_of_nothing (hr : s.router.restartList = []) (hw : s.router.waitList = []) :
    s.holdOffEnds = { s with port := { s.port with holdOff := none } } := by
  rw [State.holdOffEnds_eq, hr, State.serveWaitList_of_empty (by exact hw)]
  simp only [State.dispatchRestart, State.restartListTaken, State.modRouter, State.modPort, List.nil_append]
  rw [← hr]

/-- The hold-off ends with a list that no line serves: the first copies take the FREE contexts with their first attempt,
and the others wait with none (R69, R70, R71, R77). -/
theorem State.holdOffEnds_unserved (hw : s.router.waitList = []) (hnodup : s.router.restartList.Nodup)
    (hrefs : ∀ ref ∈ s.router.restartList, ∃ x, CopyIs s ref x ∧ x.state ≠ .settled ∧ s.localLine x.station = none ∧
      (x.station = [0, 0, 0, 0] → s.interceptLine = none)) :
    GoesOut s.router.restartList s s.holdOffEnds ∧ s.holdOffEnds.lines = s.lines ∧
    (∀ ref ∈ s.router.restartList.take (freeSends s).length, ∀ x, CopyIs s ref x →
      CopyIs s.holdOffEnds ref { x with state := .backoff, spoil := 0, attempt := s.firstFor x.station }) ∧
    ∀ ref ∈ s.router.restartList.drop (freeSends s).length, ∀ x, CopyIs s ref x →
      CopyIs s.holdOffEnds ref { x with state := .backoff, spoil := 0, attempt := 0 } := by
  obtain ⟨w, hd, hg⟩ := State.dispatchRestart_gathers (s := s.restartListTaken) hnodup fun ref href => by
    obtain ⟨x, hx, -, hlocal, hint⟩ := hrefs ref href
    exact ⟨x, hx, State.serving_of_unserved (s := s.restartListTaken) hlocal hint⟩
  obtain ⟨rs, hcard⟩ := hg.card
  have hgathered : ∀ ref ∈ s.router.restartList, ∀ x, CopyIs s ref x →
      CopyIs w ref { x with state := .backoff, attempt := 0, spoil := 0 } := fun ref href x hx => by
    obtain ⟨y, hy, hs, -⟩ := hrefs ref href
    exact hg.copies ref href x hx (by rwa [← State.copyIs_copy hx, State.copyIs_copy hy])
  have hoffer : ∀ ref ∈ s.router.restartList, Offerable w ref := fun ref href => by
    obtain ⟨x, hx, -, hlocal, -⟩ := hrefs ref href
    refine ⟨_, hgathered ref href x hx, nofun, ?_⟩
    rw [hcard]
    exact hlocal
  have hb := State.holdOffEnds_begins hd ⟨s.lines, rs, hcard⟩ (by rwa [hw, List.append_nil])
    (by rwa [hw, List.append_nil])
  rw [hw, List.append_nil] at hb
  refine ⟨hb.goesOut ⟨s.lines, rs, hcard⟩, by rw [hb.lines, hcard]; rfl, fun ref hm x hx => ?_, fun ref hm x hx => ?_⟩
  · have h := hb.copies ref hm _ (hgathered ref (List.mem_of_mem_take hm) x hx)
    rwa [hcard] at h
  · have hnot : ref ∉ s.router.restartList.take (freeSends s).length := fun h =>
      List.disjoint_take_drop hnodup le_rfl h hm
    exact hb.kept.copyIs (hb.others ref hnot) (hgathered ref (List.mem_of_mem_drop hm) x hx)

/-- A single copy that a line serves stands there as the hold-off ends (R66, R67, R77). -/
theorem State.holdOffEnds_stands {n : Line} (hr : s.router.restartList = [ref]) (hw : s.router.waitList = [])
    (hx : CopyIs s ref x) (hs : x.state ≠ .settled) (hserve : s.serving x.station = some n)
    (hnone : ∀ i, ¬BoundThere s n ref i) :
    StandsOn s.holdOffEnds n ref ∧ s.holdOffEnds.router.waitList = [] ∧ s.holdOffEnds.port.send = s.port.send ∧
    (s.holdOffEnds.copy ref).line = some n ∧ (s.holdOffEnds.copy ref).attempt = 0 ∧
    (s.holdOffEnds.copy ref).spoil = 0 := by
  obtain ⟨hstands, hsched, st, resume, channel, hcopy⟩ := State.dispatchCopy_stands (s := s.restartListTaken) hx hs hserve
    fun i h => hnone i ((BoundThere.congr fun _ => rfl).mp h)
  have hlist : (s.restartListTaken.dispatchCopy ref).router.waitList = [] := by rw [hsched.router]; exact hw
  have hends : s.holdOffEnds = (s.restartListTaken.dispatchCopy ref).modRouter fun r =>
      { r with waitList := [] ++ r.waitList } := by
    rw [State.holdOffEnds_eq, hr, State.dispatchRestart_of_served (s := s.restartListTaken) hx hserve]
    exact State.serveWaitList_of_empty hlist
  have hc : s.holdOffEnds.copy ref = _ := (congrArg (State.copy · ref) hends).trans (State.copyIs_copy hcopy)
  rw [hc, hends]
  refine ⟨hstands, hlist, ?_, rfl, rfl, rfl⟩
  show (s.restartListTaken.dispatchCopy ref).port.send = _
  rw [hsched.port]
  rfl

end

end Sys2Proof.Machine
end

section
namespace Sys2Proof.Machine

/-! ### What a dispatch to a line does to the other copies (R126, R129, R130) -/

/-- A copy that differs in its state, its resumption point and its channel number alone, SETTLED or not as it was. -/
def Copy.Moved (c c' : Copy) : Prop :=
  ∃ st resume channel, c' = { c with state := st, resume := resume, channel := channel } ∧
    (st = .settled ↔ c.state = .settled)

section
variable {c c' c'' : Copy}

theorem Copy.Moved.refl (c : Copy) : c.Moved c := ⟨_, _, _, rfl, .rfl⟩

theorem Copy.Moved.of_eq (h : c' = c) : c.Moved c' := h ▸ .refl c

theorem Copy.Moved.trans (h₁ : c.Moved c') (h₂ : c'.Moved c'') : c.Moved c'' := by
  obtain ⟨_, _, _, rfl, hs₁⟩ := h₁
  obtain ⟨_, _, _, rfl, hs₂⟩ := h₂
  exact ⟨_, _, _, rfl, hs₂.trans hs₁⟩

theorem Copy.Moved.line (h : c.Moved c') : c'.line = c.line := by obtain ⟨_, _, _, rfl, -⟩ := h; rfl
theorem Copy.Moved.joinedWith (h : c.Moved c') : c'.joinedWith = c.joinedWith := by obtain ⟨_, _, _, rfl, -⟩ := h; rfl
theorem Copy.Moved.attempt (h : c.Moved c') : c'.attempt = c.attempt := by obtain ⟨_, _, _, rfl, -⟩ := h; rfl
theorem Copy.Moved.spoil (h : c.Moved c') : c'.spoil = c.spoil := by obtain ⟨_, _, _, rfl, -⟩ := h; rfl
theorem Copy.Moved.settled (h : c.Moved c') : c'.state = .settled ↔ c.state = .settled := by
  obtain ⟨_, _, _, rfl, h⟩ := h
  exact h

/-- A copy that has moved can be joined where it could be before (R67). -/
theorem Copy.Moved.joinable (h : c.Moved c') (n : Line) : joinable n c' = joinable n c := by
  simp only [Machine.joinable, h.line, h.joinedWith, h.settled, ne_eq]

end

/-- Of the copies with an entry on line `n` one at most has started, and none has come to the line. -/
structure Starts (n : Line) (s t : State) : Prop where
  has : ∀ o, (t.line n).sched.Has o → (s.line n).sched.Has o
  moved : ∀ o, (s.copy o).Moved (t.copy o)
  still : ∀ o, ¬(s.line n).sched.Has o → t.copy o = s.copy o

section
variable {n : Line} {e : QEntry} {s t w : State}

theorem Started.copy_moved (h : Started n e w t) (o : CopyRef) : (w.copy o).Moved (t.copy o) := by
  by_cases ho : o = e.copy
  · subst ho
    by_cases hx : ∃ x, CopyIs w e.copy x
    · obtain ⟨x, hx⟩ := hx
      obtain ⟨resume, -, ht⟩ := h.copy x hx
      rw [State.copyIs_copy hx, State.copyIs_copy ht]
      refine ⟨_, _, _, rfl, ?_⟩
      split
      · next hs => simp [hs]
      · next hs => simp [hs]
    · have hgone : ¬∃ x, CopyIs t e.copy x := fun ht => hx ((CopyIs.of_kept h.kept).mp ht)
      exact .of_eq ((State.copy_of_missing hgone).trans (State.copy_of_missing hx).symm)
  · exact .of_eq (h.others o ho)

/-- An entry of the line, taken off its queue or stack, starts (R130). -/
theorem Started.starts (h : Started n e w t) (hw : OnlyLine n s w)
    (hsub : ∀ o, (w.line n).sched.Has o → (s.line n).sched.Has o) (he : (s.line n).sched.Has e.copy) : Starts n s t where
  has o := by
    rintro ⟨x, hx, rfl⟩
    rw [h.queue, h.stack, h.current] at hx
    rcases hx with hx | hx
    · exact hsub _ ⟨x, .inl hx, rfl⟩
    · cases hx
      exact he
  moved o := hw.copy o ▸ h.copy_moved o
  still o ho := (h.others o fun e' => ho (e' ▸ he)).trans (hw.copy o)

/-- The choice of R129 starts a copy of its line at most. -/
theorem State.choose_starts (s : State) (n : Line) : Starts n s (s.choose n) := by
  rcases s.choose_cases n with he | ⟨e, hmem, hst⟩ | ⟨e, rest, hstack, hst⟩
  · rw [he]
    exact ⟨fun _ => id, fun _ => .refl _, fun _ _ => rfl⟩
  · refine hst.starts (s.modSched_onlyLine n _) (fun o => ?_) ⟨e, .inl (List.mem_append_left _ hmem), rfl⟩
    rw [State.modSched_line_same]
    rintro ⟨x, hx | hx, rfl⟩
    · refine ⟨x, .inl ?_, rfl⟩
      rw [List.mem_append] at hx ⊢
      exact hx.imp_left List.mem_of_mem_erase
    · exact ⟨x, .inr hx, rfl⟩
  · refine hst.starts (s.modSched_onlyLine n _) (fun o => ?_)
      ⟨e, .inl (List.mem_append_right _ (hstack ▸ List.mem_cons_self ..)), rfl⟩
    rw [State.modSched_line_same]
    rintro ⟨x, hx | hx, rfl⟩
    · refine ⟨x, .inl ?_, rfl⟩
      rw [List.mem_append] at hx ⊢
      exact hx.imp_right fun hr => hstack ▸ List.mem_cons_of_mem e hr
    · exact ⟨x, .inr hx, rfl⟩

end

/-- Copy `ref` is dispatched, to line `dest` where one serves it: of the other copies those on a line may start there. -/
structure Routes (ref : CopyRef) (dest : Option Line) (s t : State) : Prop where
  card : ∃ ls rs, t = { s with lines := ls, store := { s.store with records := rs } }
  canSend : ∀ m, t.canSend m = s.canSend m
  kept : CopiesKept s t
  moved : ∀ o, o ≠ ref → (s.copy o).Moved (t.copy o)
  still : ∀ o, o ≠ ref → (∀ m, ¬(s.line m).sched.Has o) → t.copy o = s.copy o
  has : ∀ o m, (t.line m).sched.Has o → (s.line m).sched.Has o ∨ o = ref ∧ dest = some m
  stands : ∀ o m, o ≠ ref → (∀ p, p ≠ m → ¬(s.line p).sched.Has o) → StandsOn s m o → StandsOn t m o

section
variable {s t u : State} {ref : CopyRef} {dest : Option Line} {n : Line} {x : Copy}

theorem Routes.boot (h : Routes ref dest s t) : t.boot = s.boot := by obtain ⟨_, _, e⟩ := h.card; rw [e]

theorem Routes.trans (h₁ : Routes ref dest s t) (h₂ : Routes ref dest t u) : Routes ref dest s u where
  card := by
    obtain ⟨_, _, e₁⟩ := h₁.card
    obtain ⟨ls, rs, e₂⟩ := h₂.card
    exact ⟨ls, rs, by rw [e₂, e₁]⟩
  canSend m := (h₂.canSend m).trans (h₁.canSend m)
  kept := h₁.kept.trans h₂.kept
  moved o ho := (h₁.moved o ho).trans (h₂.moved o ho)
  still o ho hs := (h₂.still o ho fun m hm => (h₁.has o m hm).elim (hs m) fun h => ho h.1).trans (h₁.still o ho hs)
  has o m hm := (h₂.has o m hm).elim (h₁.has o m) .inr
  stands o m ho hapart hs := h₂.stands o m ho (fun p hp hm => (h₁.has o p hm).elim (hapart p hp) fun h => ho h.1)
    (h₁.stands o m ho hapart hs)

theorem StandsOn.congr {o : CopyRef} (hc : t.copy o = s.copy o) (hl : (t.line n).sched = (s.line n).sched)
    (h : StandsOn s n o) : StandsOn t n o := by
  rwa [StandsOn, hc, hl]

theorem State.modCopy_routes (s : State) (ref : CopyRef) (dest : Option Line) {f : Copy → Copy}
    (hf : ∀ c, (f c).station = c.station ∧ (c.state ≠ .settled → (f c).state ≠ .settled)) :
    Routes ref dest s (s.modCopy ref f) where
  card := ⟨_, _, rfl⟩
  canSend _ := rfl
  kept := s.modCopy_copiesKept ref hf
  moved o ho := .of_eq (s.modCopy_copy_ne ref o f ho)
  still o ho _ := s.modCopy_copy_ne ref o f ho
  has _ _ := .inl
  stands o _ ho _ := StandsOn.congr (s.modCopy_copy_ne ref o f ho) rfl

theorem StandsOn.copyIs {o : CopyRef} (h : StandsOn s n o) : ∃ x, CopyIs s o x := by
  by_contra hx
  rw [StandsOn, State.copy_of_missing hx] at h
  rcases h with ⟨h, -⟩ | ⟨h, -⟩ <;> cases h

/-- A copy that is enqueued leaves every other copy where it stands (R126, R129). -/
theorem State.enqueue_routes (s : State) (n : Line) (ref : CopyRef) : Routes ref (some n) s (s.enqueue n ref) := by
  have hsched := s.enqueue_schedules n ref
  have hkept := s.enqueue_copiesKept n ref
  obtain ⟨v, henq, hrec, hholds⟩ := s.enqueue_eq_choose n ref
  have hstarts := v.choose_starts n
  have hcopy : ∀ o, o ≠ ref → v.copy o = s.copy o := fun o ho => by
    rw [State.copy, hrec]
    exact s.modCopy_copy_ne ref o _ ho
  have hhas : ∀ o, (v.line n).sched.Has o → (s.line n).sched.Has o ∨ o = ref := fun o ho => by
    obtain ⟨y, hy, rfl⟩ := (Sched.has_congr (b := { (s.line n).sched with
      queue := s.insertEntry ⟨ref, s.lead n ref⟩ (s.line n).sched.queue }) hholds o).mp ho
    simp only [List.mem_append, (s.insertEntry_perm _ _).mem_iff, List.mem_cons] at hy
    rcases hy with ((rfl | hy) | hy) | hy
    · exact .inr rfl
    · exact .inl ⟨y, .inl (List.mem_append_left _ hy), rfl⟩
    · exact .inl ⟨y, .inl (List.mem_append_right _ hy), rfl⟩
    · exact .inl ⟨y, .inr hy, rfl⟩
  simp only [Sched.holds, Prod.mk.injEq] at hholds
  obtain ⟨hqueue, -, hcurrent, -⟩ := hholds
  refine ⟨hsched.card, fun m => ?_, hkept, fun o ho => ?_, fun o ho hs => ?_, fun o m hm => ?_, fun o m ho hapart hs => ?_⟩
  · exact State.canSend_congr hsched.boot (hsched.lines m).condIn (hsched.lines m).condSense
  · rw [henq, ← hcopy o ho]
    exact hstarts.moved o
  · rw [henq, hstarts.still o fun h => (hhas o h).elim (hs n) ho, hcopy o ho]
  · by_cases hn : m = n
    · subst hn
      rw [henq] at hm
      exact (hhas o (hstarts.has o hm)).imp_right fun h => ⟨h, rfl⟩
    · rw [hsched.others m hn] at hm
      exact .inl hm
  · by_cases hn : m = n
    · subst hn
      obtain ⟨x, hx⟩ := hs.copyIs
      have hv : CopyIs v o x := by
        obtain ⟨y, hy⟩ : ∃ y, CopyIs v o y := by
          refine CopyIs.of_length.mpr ?_
          rw [hrec, ← CopyIs.of_length]
          exact ⟨x, (CopyIs.modCopy_ne ho _ x).mpr hx⟩
        rwa [← State.copyIs_copy hx, ← hcopy o ho, State.copyIs_copy hy]
      rw [henq]
      rcases hs with ⟨hq, ⟨c, lead⟩, hmem, rfl⟩ | ⟨hsend, e, hc, rfl⟩
      · refine (State.choose_of_queued hv (by rw [← State.copyIs_copy hx, hq]) (lead := lead) ?_).1
        rw [hqueue, (s.insertEntry_perm _ _).mem_iff]
        exact List.mem_cons_of_mem _ hmem
      · have hcur : (v.line m).sched.current = some e := hcurrent.trans hc
        rw [v.choose_of_current m (by rw [hcur]; rfl)]
        exact .inr ⟨by rw [hcopy _ ho, hsend], e, hcur, rfl⟩
    · refine hs.congr ?_ (by rw [hsched.others m hn])
      rw [henq, hstarts.still o fun h => (hhas o h).elim (hapart n fun e => hn e.symm) ho, hcopy o ho]

theorem State.startCounts_routes (s : State) (ref : CopyRef) (dest : Option Line) : Routes ref dest s (s.startCounts ref) :=
  s.modCopy_routes ref dest (by exact fun _ => ⟨rfl, id⟩)

theorem State.bindLocal_routes (s : State) (n : Line) (ref : CopyRef) : Routes ref (some n) s (s.bindLocal n ref) := by
  unfold State.bindLocal
  split
  · exact s.modCopy_routes ref _ (by exact fun _ => ⟨rfl, nofun⟩)
  · have hline : Routes ref (some n) s (s.modCopy ref fun c => { c with line := some n }) :=
      s.modCopy_routes ref _ (by exact fun _ => ⟨rfl, id⟩)
    exact hline.trans (State.enqueue_routes _ n ref)

theorem State.dispatchCopy_routes (hx : CopyIs s ref x) (hserve : s.serving x.station = some n) :
    Routes ref (some n) s (s.dispatchCopy ref) := by
  rw [State.dispatchCopy_of_served hx hserve]
  exact (s.startCounts_routes ref _).trans (State.bindLocal_routes _ n ref)

theorem State.gather_routes (s : State) (ref : CopyRef) : Routes ref none s (s.gather ref) :=
  (s.startCounts_routes ref none).trans
    (State.modCopy_routes _ ref none fun _ => ⟨rfl, fun hc => by simp [hc]⟩)

end

end Sys2Proof.Machine
end

section
namespace Sys2Proof.Machine

/-! ### A restart list of both kinds (R56, R67, R77) -/

/-- A copy on the restart or the wait list: not SETTLED, bound to no line, joined with none, and on no scheduler. -/
def AwaitsRestart (s : State) (ref : CopyRef) : Prop :=
  ∃ x, CopyIs s ref x ∧ x.state ≠ .settled ∧ x.joinedWith = none ∧ x.line = none ∧ ∀ m, ¬(s.line m).sched.Has ref

/-- The line that serves a copy (R64, R65). -/
def State.servingCopy (s : State) (ref : CopyRef) : Option Line := s.serving (s.copy ref).station

/-- In state `w` copy `i` of the record stands on line `n`, bound there in state `s` or since then from the list
`before` (R56, R67). -/
def BoundSince (s w : State) (before : List CopyRef) (n : Line) (ref : CopyRef) (i : CopyIx) : Prop :=
  BoundThere s n ref i ∨ (⟨ref.record, i⟩ : CopyRef) ∈ before ∧ s.servingCopy ⟨ref.record, i⟩ = some n ∧
    (w.copy ⟨ref.record, i⟩).joinedWith = none

/-- A copy that line `n` serves, once it has been dispatched behind the copies `before` (R66, R67). -/
structure ServedAfter (s w : State) (before : List CopyRef) (n : Line) (ref : CopyRef) : Prop where
  line : (w.copy ref).line = some n
  attempt : (w.copy ref).attempt = 0
  spoil : (w.copy ref).spoil = 0
  unsettled : (w.copy ref).state ≠ .settled
  stands : (∀ i, ¬BoundSince s w before n ref i) → StandsOn w n ref ∧ (w.copy ref).joinedWith = none
  joins : ∀ i, BoundSince s w before n ref i → (∀ j, j < i → ¬BoundSince s w before n ref j) →
    (w.copy ref).joinedWith = some i

/-- The copies `before` of a restart list have been dispatched, from state `s` (R66, R77). -/
structure Restarted (before : List CopyRef) (s w : State) : Prop where
  card : ∃ ls rs, w = { s with lines := ls, store := { s.store with records := rs } }
  canSend : ∀ m, w.canSend m = s.canSend m
  kept : CopiesKept s w
  moved : ∀ o, o ∉ before → (s.copy o).Moved (w.copy o)
  still : ∀ o, o ∉ before → (∀ m, ¬(s.line m).sched.Has o) → w.copy o = s.copy o
  has : ∀ o m, (w.line m).sched.Has o → (s.line m).sched.Has o ∨ o ∈ before ∧ s.servingCopy o = some m
  waits : ∀ o ∈ before, s.servingCopy o = none →
    w.copy o = { s.copy o with state := .backoff, attempt := 0, spoil := 0 }
  served : ∀ b ref n, b ++ [ref] <+: before → s.servingCopy ref = some n → ServedAfter s w b n ref

section
variable {s w u : State} {before : List CopyRef} {ref : CopyRef} {n : Line} {i : CopyIx} {x : Copy}

theorem AwaitsRestart.copyIs (h : AwaitsRestart s ref) : CopyIs s ref (s.copy ref) := by
  obtain ⟨x, hx, -⟩ := h
  rwa [State.copyIs_copy hx]

theorem AwaitsRestart.not_has (h : AwaitsRestart s ref) (m : Line) : ¬(s.line m).sched.Has ref := by
  obtain ⟨x, -, -, -, -, h⟩ := h
  exact h m

theorem AwaitsRestart.unsettled (h : AwaitsRestart s ref) : (s.copy ref).state ≠ .settled := by
  obtain ⟨x, hx, hs, -⟩ := h
  rwa [State.copyIs_copy hx]

theorem AwaitsRestart.joinedWith (h : AwaitsRestart s ref) : (s.copy ref).joinedWith = none := by
  obtain ⟨x, hx, -, hj, -⟩ := h
  rwa [State.copyIs_copy hx]

theorem AwaitsRestart.line (h : AwaitsRestart s ref) : (s.copy ref).line = none := by
  obtain ⟨x, hx, -, -, hl, -⟩ := h
  rwa [State.copyIs_copy hx]

theorem Restarted.refl (s : State) : Restarted [] s s :=
  ⟨⟨_, _, rfl⟩, fun _ => rfl, .refl s, fun _ _ => .refl _, fun _ _ _ => rfl, fun _ _ => .inl,
    fun _ h => absurd h List.not_mem_nil, fun b ref _ h => absurd (List.prefix_nil.mp h) (by simp)⟩

theorem Restarted.serving (h : Restarted before s w) (c : StationCode) : w.serving c = s.serving c := by
  obtain ⟨_, _, e⟩ := h.card
  exact State.serving_congr (by rw [e]) h.canSend c

/-- What a copy can join is what was bound there, and what the list has brought there (R56, R67). -/
theorem Restarted.boundThere_iff (h : Restarted before s w) (hbefore : ∀ o ∈ before, AwaitsRestart s o)
    (href : ref ∉ before) : BoundThere w n ref i ↔ BoundSince s w before n ref i := by
  have hlen : ((w.record ref.record).copies).length = (s.record ref.record).copies.length := by
    obtain ⟨cs, e, hstations, -⟩ := h.kept ref.record
    rw [e]
    simpa using congrArg List.length hstations
  by_cases hin : (⟨ref.record, i⟩ : CopyRef) ∈ before
  · have hne : i ≠ ref.ix := fun e => href (by rwa [e] at hin)
    have hawaits := hbefore _ hin
    have hlt := CopyIs.of_length.mp ⟨_, hawaits.copyIs⟩
    have hnot : ¬BoundThere s n ref i := fun ⟨_, y, hy, hl, _⟩ => by
      rw [← State.copyIs_copy hy, hawaits.line] at hl
      cases hl
    simp only [BoundSince, hnot, hin, true_and, false_or]
    have hbound : BoundThere w n ref i ↔ joinable n (w.copy ⟨ref.record, i⟩) = true := by
      rw [Machine.boundThere_iff, hlen]
      simp [hne, hlt]
    rw [hbound]
    cases hserve : s.servingCopy ⟨ref.record, i⟩ with
    | none => simp [joinable, h.waits _ hin hserve, hawaits.line]
    | some m =>
      obtain ⟨b, a, hsplit⟩ := List.append_of_mem hin
      have hs := h.served b _ m ⟨a, by rw [hsplit]; simp⟩ hserve
      simp [joinable, hs.line, hs.unsettled]
  · have hcopy : joinable n (w.copy ⟨ref.record, i⟩) = joinable n (s.copy ⟨ref.record, i⟩) := (h.moved _ hin).joinable n
    simp only [BoundSince, hin, false_and, or_false, Machine.boundThere_iff, hlen, hcopy]

/-- A copy that has been dispatched stays as it is while others are dispatched. -/
theorem ServedAfter.routes {dest : Option Line} {r : CopyRef} (h : ServedAfter s w before n r) (hr : Routes ref dest w u)
    (hne : r ≠ ref) (hbefore : ref ∉ before) (hapart : ∀ p, p ≠ n → ¬(w.line p).sched.Has r) :
    ServedAfter s u before n r := by
  have hmoved := hr.moved r hne
  have hbound : ∀ i, BoundSince s u before n r i ↔ BoundSince s w before n r i := fun i =>
    or_congr_right <| and_congr_right fun hin => and_congr_right fun _ => by
      rw [(hr.moved _ fun e => hbefore (e ▸ hin)).joinedWith]
  refine ⟨hmoved.line.trans h.line, hmoved.attempt.trans h.attempt, hmoved.spoil.trans h.spoil,
    fun hs => h.unsettled (hmoved.settled.mp hs), fun hnone => ?_, fun i hi hlow => ?_⟩
  · obtain ⟨hstands, hjoin⟩ := h.stands fun i hi => hnone i ((hbound i).mpr hi)
    exact ⟨hr.stands r n hne hapart hstands, hmoved.joinedWith.trans hjoin⟩
  · exact hmoved.joinedWith.trans (h.joins i ((hbound i).mp hi) fun j hj hb => hlow j hj ((hbound j).mpr hb))

/-- The next copy of the list is dispatched. -/
theorem Restarted.step (h : Restarted before s w) (hbefore : ∀ o ∈ before, AwaitsRestart s o) (href : ref ∉ before)
    (hr : Routes ref (s.servingCopy ref) w u)
    (hwaits : s.servingCopy ref = none → u.copy ref = { s.copy ref with state := .backoff, attempt := 0, spoil := 0 })
    (hserved : ∀ n, s.servingCopy ref = some n → ServedAfter s u before n ref) : Restarted (before ++ [ref]) s u where
  card := by
    obtain ⟨_, _, e₁⟩ := h.card
    obtain ⟨ls, rs, e₂⟩ := hr.card
    exact ⟨ls, rs, by rw [e₂, e₁]⟩
  canSend m := (hr.canSend m).trans (h.canSend m)
  kept := h.kept.trans hr.kept
  moved o ho := by
    rw [List.mem_append, List.mem_singleton, not_or] at ho
    exact (h.moved o ho.1).trans (hr.moved o ho.2)
  still o ho hs := by
    rw [List.mem_append, List.mem_singleton, not_or] at ho
    exact (hr.still o ho.2 fun m hm => (h.has o m hm).elim (hs m) fun hb => ho.1 hb.1).trans (h.still o ho.1 hs)
  has o m hm := by
    rcases hr.has o m hm with hm | ⟨rfl, hdest⟩
    · exact (h.has o m hm).imp_right fun hb => ⟨List.mem_append_left _ hb.1, hb.2⟩
    · exact .inr ⟨List.mem_append_right _ (List.mem_singleton_self _), hdest⟩
  waits o ho hnone := by
    rcases List.mem_append.mp ho with ho | ho
    · have hoff : ∀ m, ¬(w.line m).sched.Has o := fun m hm => by
        refine (h.has o m hm).elim ((hbefore o ho).not_has m) fun ⟨_, hs⟩ => ?_
        rw [hnone] at hs
        cases hs
      rw [hr.still o (fun e => href (e ▸ ho)) hoff, h.waits o ho hnone]
    · obtain rfl := List.mem_singleton.mp ho
      exact hwaits hnone
  served b r n hb hserve := by
    rcases List.prefix_concat_iff.mp hb with e | hb
    · obtain ⟨rfl, hlast⟩ := List.append_inj' e rfl
      obtain rfl := List.singleton_inj.mp hlast
      exact hserved n hserve
    · have hr' : r ∈ before := hb.subset (List.mem_append_right _ (List.mem_singleton_self _))
      refine (h.served b r n hb hserve).routes hr (fun e => href (e ▸ hr'))
        (fun hm => href (hb.subset (List.mem_append_left _ hm))) fun p hp hm => ?_
      refine (h.has r p hm).elim ((hbefore r hr').not_has p) fun hs => hp ?_
      exact Option.some.inj (hs.2.symm.trans hserve)

/-- A copy that no line serves is gathered. -/
theorem Restarted.gathers (h : Restarted before s w) (hbefore : ∀ o ∈ before, AwaitsRestart s o) (href : ref ∉ before)
    (hawaits : AwaitsRestart s ref) (hserve : s.servingCopy ref = none) : Restarted (before ++ [ref]) s (w.gather ref) := by
  have hx : CopyIs w ref (s.copy ref) := h.kept.copyIs (h.still ref href hawaits.not_has) hawaits.copyIs
  refine h.step hbefore href (hserve ▸ w.gather_routes ref)
    (fun _ => State.copyIs_copy (State.gather_copyIs hx hawaits.unsettled)) fun n hn => ?_
  rw [hserve] at hn
  cases hn

/-- A copy that a line serves is bound there. -/
theorem Restarted.serves (h : Restarted before s w) (hbefore : ∀ o ∈ before, AwaitsRestart s o) (href : ref ∉ before)
    (hawaits : AwaitsRestart s ref) (hserve : s.servingCopy ref = some n) :
    Restarted (before ++ [ref]) s (w.dispatchCopy ref) := by
  have hx : CopyIs w ref (s.copy ref) := h.kept.copyIs (h.still ref href hawaits.not_has) hawaits.copyIs
  have hline : w.serving (s.copy ref).station = some n := (h.serving _).trans hserve
  have hr := State.dispatchCopy_routes hx hline
  have hbound : ∀ i, BoundSince s (w.dispatchCopy ref) before n ref i ↔ BoundThere w n ref i := fun i => by
    rw [h.boundThere_iff hbefore href]
    refine or_congr_right <| and_congr_right fun hin => and_congr_right fun _ => ?_
    rw [(hr.moved _ fun e => href (e ▸ hin)).joinedWith]
  have hjoins : ∀ i, BoundThere w n ref i → (∀ j, j < i → ¬BoundThere w n ref j) → (w.dispatchCopy ref).copy ref =
      { s.copy ref with attempt := 0, spoil := 0, line := some n, joinedWith := some i, state := .unrouted } :=
    fun i hi hlow => State.copyIs_copy (State.dispatchCopy_joined hx hline hi hlow).1
  refine h.step hbefore href (hserve ▸ hr) (fun hnone => by rw [hserve] at hnone; cases hnone) fun m hm => ?_
  obtain rfl : n = m := Option.some.inj (hserve.symm.trans hm)
  have hjoins' : ∀ i, BoundSince s (w.dispatchCopy ref) before n ref i →
      (∀ j, j < i → ¬BoundSince s (w.dispatchCopy ref) before n ref j) →
      ((w.dispatchCopy ref).copy ref).joinedWith = some i := fun i hi hlow => by
    rw [hjoins i ((hbound i).mp hi) fun j hj hb => hlow j hj ((hbound j).mpr hb)]
  cases hp : w.partner n ref with
  | some i =>
    obtain ⟨hi, hlow⟩ := State.partner_eq_some hp
    have hc := hjoins i hi hlow
    exact ⟨by rw [hc], by rw [hc], by rw [hc], by rw [hc]; nofun, fun hnone => absurd ((hbound i).mpr hi) (hnone i), hjoins'⟩
  | none =>
    obtain ⟨hstands, -, st, resume, channel, hcopy⟩ :=
      State.dispatchCopy_stands hx hawaits.unsettled hline (State.partner_eq_none.mp hp)
    have hc := State.copyIs_copy hcopy
    refine ⟨by rw [hc], by rw [hc], by rw [hc], fun hs => ?_, fun _ => ⟨hstands, by rw [hc]; exact hawaits.joinedWith⟩,
      hjoins'⟩
    rcases hstands with ⟨h, -⟩ | ⟨h, -⟩ <;> rw [hs] at h <;> cases h

/-- A restart list is dispatched in its order, and the copies that no line serves are gathered (R66, R77). -/
theorem Restarted.all {refs : List CopyRef} (h : Restarted before s w) (hnodup : (before ++ refs).Nodup)
    (hawaits : ∀ o ∈ before ++ refs, AwaitsRestart s o) :
    ∃ u, w.dispatchRestart refs = (u, refs.filter fun ref => (s.servingCopy ref).isNone) ∧
      Restarted (before ++ refs) s u := by
  induction refs generalizing before w with
  | nil => exact ⟨w, rfl, by rwa [List.append_nil]⟩
  | cons ref refs ih =>
    have hassoc : before ++ ref :: refs = (before ++ [ref]) ++ refs := by simp
    rw [hassoc] at hnodup hawaits ⊢
    have href : ref ∉ before := fun hm =>
      List.disjoint_of_nodup_append (List.nodup_append.mp hnodup).1 hm (List.mem_singleton_self _)
    have hbefore : ∀ o ∈ before, AwaitsRestart s o := fun o ho =>
      hawaits o (List.mem_append_left _ (List.mem_append_left _ ho))
    have hnew : AwaitsRestart s ref :=
      hawaits ref (List.mem_append_left _ (List.mem_append_right _ (List.mem_singleton_self _)))
    have hx : CopyIs w ref (s.copy ref) := h.kept.copyIs (h.still ref href hnew.not_has) hnew.copyIs
    cases hserve : s.servingCopy ref with
    | none =>
      obtain ⟨u, hu, hall⟩ := ih (h.gathers hbefore href hnew hserve) hnodup hawaits
      refine ⟨u, ?_, hall⟩
      rw [State.dispatchRestart_of_unserved hx ((h.serving _).trans hserve), hu,
        List.filter_cons_of_pos (by rw [hserve]; rfl)]
    | some n =>
      obtain ⟨u, hu, hall⟩ := ih (h.serves hbefore href hnew hserve) hnodup hawaits
      refine ⟨u, ?_, hall⟩
      rw [State.dispatchRestart_of_served hx ((h.serving _).trans hserve), hu,
        List.filter_cons_of_neg (by rw [hserve]; nofun)]

end

end Sys2Proof.Machine
end

section
namespace Sys2Proof.Machine

/-! ### The hold-off ends with copies of both kinds (R69, R70, R77) -/

section
variable {s t w : State} {refs before : List CopyRef} {free : List CtxIx} {ref : CopyRef} {n : Line}
  {f : Router → Router}

theorem State.localLine_of_unserved {c : StationCode} (hint : s.localLine [0, 0, 0, 0] = none) (h : s.serving c = none) :
    s.localLine c = none := by
  by_cases hc : c = [0, 0, 0, 0]
  · rw [hc, hint]
  · exact (show s.serving c = s.localLine c from if_neg hc).symm.trans h

/-- The copies that go to the wait list when the hold-off ends, in their order (R77). -/
def State.goingOut (s : State) : List CopyRef :=
  s.router.restartList.filter (fun ref => (s.servingCopy ref).isNone) ++ s.router.waitList

/-- A copy that stands on its line stays there while the wait list is served. -/
theorem ServedAfter.begun (h : ServedAfter s w before n ref) (hb : SeriesBegun refs free (w.modRouter f) t) (href : ref ∉ refs)
    (hbefore : ∀ o ∈ before, s.servingCopy o = some n → o ∉ refs) : ServedAfter s t before n ref := by
  have hsame : ∀ o, o ∉ refs → t.copy o = w.copy o := fun o ho => hb.others o fun hm => ho (List.mem_of_mem_take hm)
  have hbound : ∀ i, BoundSince s t before n ref i ↔ BoundSince s w before n ref i := fun i =>
    or_congr_right <| and_congr_right fun hin => and_congr_right fun hs => by rw [hsame _ (hbefore _ hin hs)]
  have hc := hsame ref href
  refine ⟨hc ▸ h.line, hc ▸ h.attempt, hc ▸ h.spoil, hc ▸ h.unsettled, fun hnone => ?_, fun i hi hlow => ?_⟩
  · obtain ⟨hstands, hjoin⟩ := h.stands fun i hi => hnone i ((hbound i).mpr hi)
    exact ⟨hstands.congr hc (by rw [State.line_of_lines hb.lines]; rfl), hc ▸ hjoin⟩
  · exact hc ▸ h.joins i ((hbound i).mp hi) fun j hj hs => hlow j hj ((hbound j).mpr hs)

/-- What the hold-off's end does with a restart list and a wait list (R77). -/
theorem State.holdOffEnds_restarts (hint : s.localLine [0, 0, 0, 0] = none)
    (hnodup : (s.router.restartList ++ s.router.waitList).Nodup)
    (hawaits : ∀ ref ∈ s.router.restartList ++ s.router.waitList, AwaitsRestart s ref)
    (hwait : ∀ ref ∈ s.router.waitList, s.localLine (s.copy ref).station = none) :
    ∃ w, Restarted s.router.restartList s.restartListTaken w ∧
      SeriesBegun s.goingOut (freeSends s)
        (w.modRouter fun r =>
          { r with waitList := s.router.restartList.filter (fun ref => (s.servingCopy ref).isNone) ++ r.waitList })
        s.holdOffEnds := by
  obtain ⟨w, hd, hw⟩ := (Restarted.refl s.restartListTaken).all (refs := s.router.restartList)
    (List.nodup_append.mp hnodup).1 fun o ho => hawaits o (List.mem_append_left _ ho)
  rw [List.nil_append] at hw
  obtain ⟨ls, rs, hcard⟩ := hw.card
  have hlocal : ∀ c, w.localLine c = s.localLine c := State.localLine_congr (by rw [hcard]; rfl) hw.canSend
  have hoffer : ∀ ref ∈ s.goingOut, Offerable w ref := fun ref hm => by
    rcases List.mem_append.mp hm with hm | hm
    · obtain ⟨hin, hnone⟩ := List.mem_filter.mp hm
      have ha := hawaits ref (List.mem_append_left _ hin)
      have hserve : s.servingCopy ref = none := Option.isNone_iff_eq_none.mp hnone
      obtain ⟨y, hy⟩ := (CopyIs.of_kept hw.kept).mpr ⟨_, ha.copyIs⟩
      have hcopy := (State.copyIs_copy hy).symm.trans (hw.waits ref hin hserve)
      refine ⟨y, hy, by rw [hcopy]; nofun, ?_⟩
      rw [hlocal, hcopy]
      exact State.localLine_of_unserved hint hserve
    · have ha := hawaits ref (List.mem_append_right _ hm)
      have hnot : ref ∉ s.router.restartList := fun h => List.disjoint_of_nodup_append hnodup h hm
      exact ⟨_, hw.kept.copyIs (hw.still ref hnot ha.not_has) ha.copyIs, ha.unsettled, (hlocal _).trans (hwait ref hm)⟩
  refine ⟨w, hw, State.holdOffEnds_begins hd ⟨ls, rs, hcard⟩ ?_ hoffer⟩
  exact hnodup.sublist (List.filter_sublist.append_right _)

/-- The copies that go out take their first attempts, whether they were gathered or waited already (R71). -/
theorem Restarted.firstAttempts (hw : Restarted s.router.restartList s.restartListTaken w)
    (hb : SeriesBegun s.goingOut free (w.modRouter f) t) (hnodup : (s.router.restartList ++ s.router.waitList).Nodup)
    (hawaits : ∀ ref ∈ s.router.restartList ++ s.router.waitList, AwaitsRestart s ref)
    (hm : ref ∈ s.goingOut.take free.length) : (t.copy ref).attempt = s.firstFor (s.copy ref).station := by
  have hboot : (w.modRouter f).boot = s.boot := by
    obtain ⟨_, _, e⟩ := hw.card
    rw [e]
    rfl
  have hstation : (w.copy ref).station = (s.copy ref).station ∧ ∃ y, CopyIs w ref y := by
    rcases List.mem_append.mp (List.mem_of_mem_take hm) with hin | hin
    · obtain ⟨hin, hnone⟩ := List.mem_filter.mp hin
      have ha := hawaits ref (List.mem_append_left _ hin)
      rw [hw.waits ref hin (Option.isNone_iff_eq_none.mp hnone)]
      exact ⟨rfl, (CopyIs.of_kept hw.kept).mpr ⟨_, ha.copyIs⟩⟩
    · have ha := hawaits ref (List.mem_append_right _ hin)
      rw [hw.still ref (fun h => List.disjoint_of_nodup_append hnodup h hin) ha.not_has]
      exact ⟨rfl, (CopyIs.of_kept hw.kept).mpr ⟨_, ha.copyIs⟩⟩
  obtain ⟨hstation, y, hy⟩ := hstation
  rw [State.copyIs_copy hy] at hstation
  rw [State.copyIs_copy (hb.copies ref hm y hy), ← hstation, State.firstFor, State.firstFor, hboot]

/-- With copies of both kinds on the list the hold-off's end sends those that no line serves out, ahead of those that wait
already, each at its first attempt; those that a line serves are bound there (R56, R67, R70, R71, R77). -/
theorem State.holdOffEnds_both (hint : s.localLine [0, 0, 0, 0] = none)
    (hnodup : (s.router.restartList ++ s.router.waitList).Nodup)
    (hawaits : ∀ ref ∈ s.router.restartList ++ s.router.waitList, AwaitsRestart s ref)
    (hwait : ∀ ref ∈ s.router.waitList, s.localLine (s.copy ref).station = none) :
    GoesOut s.goingOut s s.holdOffEnds ∧
    (∀ ref ∈ s.goingOut.take (freeSends s).length,
      (s.holdOffEnds.copy ref).attempt = s.firstFor (s.copy ref).station) ∧
    ∀ before ref after n, s.router.restartList = before ++ ref :: after → s.servingCopy ref = some n →
      ServedAfter s s.holdOffEnds before n ref := by
  obtain ⟨w, hw, hb⟩ := State.holdOffEnds_restarts hint hnodup hawaits hwait
  refine ⟨hb.goesOut hw.card, fun ref hm => hw.firstAttempts hb hnodup hawaits hm, fun before ref after n href hserve => ?_⟩
  have hstays : ∀ o ∈ s.router.restartList, s.servingCopy o = some n → o ∉ s.goingOut := fun o ho hs hm => by
    rcases List.mem_append.mp hm with hm | hm
    · have hnone := (List.mem_filter.mp hm).2
      rw [hs] at hnone
      cases hnone
    · exact List.disjoint_of_nodup_append hnodup ho hm
  have hbefore : before ++ [ref] <+: s.router.restartList := ⟨after, by rw [href]; simp⟩
  have h := (hw.served before ref n hbefore hserve).begun hb
    (hstays ref (hbefore.subset (List.mem_append_right _ (List.mem_singleton_self _))) hserve)
    fun o ho hs => hstays o (hbefore.subset (List.mem_append_left _ ho)) hs
  exact ⟨h.line, h.attempt, h.spoil, h.unsettled, h.stands, h.joins⟩

end

/-- Settles O51: the end of the backoff wait by the line of the copy; the hold-off's end by what the restart list holds,
nothing, copies to be offered, one copy that a line serves, or both kinds. -/
theorem waitsEndInOffers : Obligations.WaitsEndInOffers := by
  unfold Obligations.WaitsEndInOffers
  refine ⟨fun s k c x hr hc hb hx hs => ⟨fun hlocal hint => ?_, fun n hlocal hw => ⟨fun hnone => ?_, fun i hi hlow => ?_⟩⟩,
    fun s hr hhold hw => ?_, fun s hr hhold hint => ?_⟩
  · exact ⟨_, exec_backoffWaitExpiry hr hc hb hx, State.backoff_offersAgain hx hs hlocal hint⟩
  · exact ⟨_, exec_backoffWaitExpiry hr hc hb hx, State.reoffer_stands (s := s.setSend k _) hx hs hlocal hw
      fun i h => hnone i ((BoundThere.congr fun _ => rfl).mp h)⟩
  · have hbound : ∀ j, BoundThere (s.setSend k (some { c with backoff := none })) n c.copy j ↔ BoundThere s n c.copy j :=
      fun j => BoundThere.congr fun _ => rfl
    obtain ⟨hctx, hfree, hline, hjoin, hattempt, hstate⟩ := State.reoffer_joins
      (s := s.setSend k (some { c with backoff := none })) (k := k) (next := x.attempt + 1) hx hlocal hw
      ((hbound i).mpr hi) fun j hj h => hlow j hj ((hbound j).mp h)
    have h := (s.setSend_contextOnly (k := k) (ref := c.copy) (some { c with backoff := none })).trans hctx
    exact ⟨_, exec_backoffWaitExpiry hr hc hb hx, hfree, h.sends, hline, hjoin, hattempt, hstate, h.lines, h.router, h.sup⟩
  · obtain ⟨hnohold, hlist, hsup, htake⟩ := s.holdOffEnds_common
    have hexec := exec_holdOffExpiry hr hhold
    refine ⟨fun hnil => ?_, fun hnodup hrefs => ?_, fun ref x n href hx hs _ hserve hnone => ?_⟩
    · rw [hexec, State.holdOffEnds_of_nothing hnil hw]
    · obtain ⟨hout, hlines, hfirst, hlast⟩ := State.holdOffEnds_unserved hw hnodup hrefs
      exact ⟨_, hexec, hnohold, hlist, hout.waitList, hout.deadList, hlines, hsup, htake,
        fun ref k x hmem hx => ⟨hout.offers ref k hmem, hfirst ref (mem_take_of_mem_zip hmem) x hx⟩,
        fun ref x hmem hx => hlast ref hmem x hx, hout.sends⟩
    · obtain ⟨hstands, hwait, hsend, hline, hattempt, hspoil⟩ := State.holdOffEnds_stands href hw hx hs
        ((serving_iff s x.station n).mpr hserve) hnone
      exact ⟨_, hexec, hnohold, hlist, hwait, hstands, hline, hattempt, hspoil, hsend, hsup⟩
  · intro refs free serving waiting hnodup hawaits hwait
    have hall : ∀ ref ∈ s.router.restartList ++ s.router.waitList, AwaitsRestart s ref := fun ref href => by
      obtain ⟨x, hx, hs, hj, hl, hoff⟩ := hawaits ref href
      exact ⟨x, hx, hs, hj, hl, fun m ⟨e, he, heq⟩ => hoff m e he heq⟩
    obtain ⟨hnohold, hlist, hsup, htake⟩ := s.holdOffEnds_common
    obtain ⟨hout, hfirst, hserved⟩ := State.holdOffEnds_both hint hnodup hall hwait
    refine ⟨_, exec_holdOffExpiry hr hhold, hnohold, hlist, hout.waitList, hout.deadList, hsup, htake,
      fun ref k hmem => ⟨hout.offers ref k hmem, hfirst ref (mem_take_of_mem_zip hmem)⟩, hout.sends,
      fun before ref after n href hserve => ?_⟩
    obtain ⟨hline, hattempt, hspoil, -, hstands, hjoins⟩ := hserved before ref after n href hserve
    exact ⟨hline, hattempt, hspoil, hstands, hjoins⟩

end Sys2Proof.Machine
end

section
namespace Sys2Proof.Machine

/-! ### The turnaround of a line (R148, R149) -/

/-- The turnaround invariant as one line shows it. -/
def TurnTimed (s : State) (n : Line) : Prop :=
  ∀ w, (s.line n).turn = some w →
    s.running = true ∧ s.mode n = .half ∧ (w.timer.isSome = true ↔ w.waiting = true ∧ s.turnMayRun n = true)

theorem turnaroundTimed_iff (s : State) : TurnaroundTimed s ↔ ∀ n, TurnTimed s n := by
  refine forall_congr' fun n => ?_
  unfold TurnTimed
  cases (s.line n).turn with
  | none => simp
  | some w => simp

/-- What the timer of line `n` is told by: its turnaround, and whether the three conditions of R149 hold. -/
def State.turnView (s : State) (n : Line) : Option Turnaround × Bool := ((s.line n).turn, s.turnMayRun n)

theorem State.boot_of_frame {s t : State} (h : t.frame = s.frame) : t.boot = s.boot := congrArg Prod.fst h

theorem State.turnView_of_inputs {s t : State} {n : Line} (h : t.inputs n = s.inputs n) : t.turnView n = s.turnView n := by
  simp only [State.inputs, Prod.mk.injEq] at h
  obtain ⟨hloop, -, -, hcond, -, hturn, hasm⟩ := h
  simp only [State.turnView, State.turnMayRun, hloop, hcond, hturn, hasm]

section
variable {s t : State} {n : Line}

theorem TurnTimed.congr (h : TurnTimed s n) (hb : t.boot = s.boot) (hv : t.turnView n = s.turnView n) : TurnTimed t n := by
  obtain ⟨hturn, hrun⟩ := Prod.mk.injEq .. ▸ hv
  simp only [TurnTimed, State.running, State.mode, State.lineCfg, hb, hturn, hrun]
  exact h

theorem TurnTimed.of_inputs (h : TurnTimed s n) (hf : t.frame = s.frame) (hi : t.inputs n = s.inputs n) : TurnTimed t n :=
  h.congr (State.boot_of_frame hf) (State.turnView_of_inputs hi)

/-- A line without a turnaround has nothing to time. -/
theorem TurnTimed.of_none (h : (s.line n).turn = none) : TurnTimed s n := fun _ hw => by rw [h] at hw; cases hw

/-- Only a HALF line of a RUNNING card has a turnaround (R156). -/
theorem TurnTimed.fits (h : TurnTimed s n) (hw : (s.line n).turn ≠ none) : s.running = true ∧ s.mode n = .half := by
  obtain ⟨w, hw⟩ := Option.ne_none_iff_exists'.mp hw
  obtain ⟨hr, hm, -⟩ := h w hw
  exact ⟨hr, hm⟩

theorem TurnTimed.turn_eq_none (h : TurnTimed s n) (hno : ¬(s.running = true ∧ s.mode n = .half)) : (s.line n).turn = none := by
  by_contra hw
  exact hno (h.fits hw)

/-- A turnaround whose timer is stopped, on a HALF line where it may not run. -/
theorem TurnTimed.of_stopped (hfits : (s.line n).turn ≠ none → s.running = true ∧ s.mode n = .half)
    (hstop : ∀ w, (s.line n).turn = some w → w.timer = none) (hrun : s.turnMayRun n = false) : TurnTimed s n := by
  intro w hw
  obtain ⟨hr, hm⟩ := hfits (by rw [hw]; nofun)
  exact ⟨hr, hm, by simp [hstop w hw, hrun]⟩

theorem State.turnMayRun_of_open (h : (s.line n).condIn.value ≠ .closed) : s.turnMayRun n = false :=
  Bool.eq_false_iff.mpr fun hr => h ((s.turnMayRun_iff n).mp hr).1

theorem State.turnMayRun_of_apart (h : (s.line n).asm.state ≠ .hunt) : s.turnMayRun n = false :=
  Bool.eq_false_iff.mpr fun hr => h ((s.turnMayRun_iff n).mp hr).2.1

/-- Looking at the turnaround starts, keeps or stops its timer as it must be (R149). -/
theorem State.turnReview_turnTimed (hfits : (s.line n).turn ≠ none → s.running = true ∧ s.mode n = .half) :
    TurnTimed (s.turnReview n) n := by
  have hline := s.turnReview_line_same n
  intro w hw
  rw [hline] at hw
  obtain ⟨v, hv, rfl⟩ := Option.map_eq_some_iff.mp hw
  have hrun : (s.turnReview n).turnMayRun n = s.turnMayRun n := by simp only [State.turnMayRun, hline]
  obtain ⟨hr, hm⟩ := hfits (by rw [hv]; nofun)
  refine ⟨hr, hm, ?_⟩
  rw [hrun, Turnaround.review_eq]
  by_cases hboth : v.waiting = true ∧ s.turnMayRun n = true
  · simp [hboth]
  · simp only [if_neg hboth, Option.isSome_none, Bool.false_eq_true, false_iff]
    exact hboth

/-- A turnaround that waits stops its timer, where the timer may not run (R148). -/
theorem State.turnWait_turnTimed (hfits : (s.line n).turn ≠ none → s.running = true ∧ s.mode n = .half)
    (hrun : s.turnMayRun n = false) : TurnTimed (s.turnWait n) n := by
  have hline := s.turnWait_line_same n
  refine .of_stopped (fun hw => hfits fun h => hw ?_) (fun w hw => ?_) ?_
  · rw [hline, h]; rfl
  · rw [hline] at hw
    obtain ⟨_, -, rfl⟩ := Option.map_eq_some_iff.mp hw
    rfl
  · exact (by simp only [State.turnMayRun, hline] : (s.turnWait n).turnMayRun n = s.turnMayRun n).trans hrun

/-- The start-up unit and the receiving side of every line but `n` are as they were. -/
structure Aside (n : Line) (s t : State) : Prop where
  frame : t.frame = s.frame
  others : ∀ m, m ≠ n → t.inputs m = s.inputs m

theorem Aside.refl (n : Line) (s : State) : Aside n s s := ⟨rfl, fun _ _ => rfl⟩

theorem Aside.trans {u : State} (h₁ : Aside n s t) (h₂ : Aside n t u) : Aside n s u :=
  ⟨h₂.frame.trans h₁.frame, fun m hm => (h₂.others m hm).trans (h₁.others m hm)⟩

theorem Aside.of_inputs (hf : t.frame = s.frame) (hi : ∀ m, t.inputs m = s.inputs m) : Aside n s t := ⟨hf, fun m _ => hi m⟩

theorem OnlyLine.aside (h : OnlyLine n s t) : Aside n s t :=
  ⟨by rw [h.1]; rfl, fun m hm => by rw [State.inputs, h.2 m hm]; rfl⟩

/-- Aside from line `n` nothing moves, and line `n` stays timed. -/
structure KeepsTurns (n : Line) (s t : State) : Prop extends Aside n s t where
  timed : TurnTimed s n → TurnTimed t n

theorem KeepsTurns.refl (n : Line) (s : State) : KeepsTurns n s s := ⟨.refl n s, id⟩

theorem KeepsTurns.trans {u : State} (h₁ : KeepsTurns n s t) (h₂ : KeepsTurns n t u) : KeepsTurns n s u :=
  ⟨h₁.toAside.trans h₂.toAside, h₂.timed ∘ h₁.timed⟩

theorem KeepsTurns.ite {u : State} {p : Prop} [Decidable p] (ht : KeepsTurns n s t) (hu : KeepsTurns n s u) :
    KeepsTurns n s (if p then t else u) := by
  split
  · exact ht
  · exact hu

theorem KeepsTurns.of_inputs (hf : t.frame = s.frame) (hi : ∀ m, t.inputs m = s.inputs m) : KeepsTurns n s t :=
  ⟨.of_inputs hf hi, fun h => h.of_inputs hf (hi n)⟩

/-- Only line `n` differs, and not in what its turnaround is told by. -/
theorem KeepsTurns.of_onlyLine (h : OnlyLine n s t) (hv : t.turnView n = s.turnView n) : KeepsTurns n s t :=
  ⟨h.aside, fun ht => ht.congr h.boot hv⟩

theorem KeepsTurns.keeps (h : KeepsTurns n s t) (ht : TurnaroundTimed s) : TurnaroundTimed t := by
  rw [turnaroundTimed_iff] at *
  intro m
  by_cases hm : m = n
  · exact hm ▸ h.timed (ht n)
  · exact (ht m).of_inputs h.frame (h.others m hm)

end

/-! ### The turnaround while a message is read (R41, R148, R150) -/

section
variable {s t : State} {n : Line}

theorem State.modAsm_turnTimed (h : TurnTimed s n) {f : Assembler → Assembler}
    (hf : (f (s.line n).asm).state = (s.line n).asm.state) : TurnTimed (s.modAsm n f) n :=
  h.congr rfl (by simp only [State.turnView, State.turnMayRun, State.modAsm_line_same, hf])

/-- The assembler of line `n` is in the middle of a message, and the line's turnaround is timed. -/
def InMessage (s : State) (n : Line) : Prop := (s.line n).asm.state ≠ .hunt ∧ TurnTimed s n

theorem InMessage.of_inputs (h : InMessage s n) (hf : t.frame = s.frame) (hi : t.inputs n = s.inputs n) : InMessage t n := by
  obtain ⟨ha, ht⟩ := h
  have hasm : (t.line n).asm = (s.line n).asm := congrArg (·.2.2.2.2.2.2) hi
  exact ⟨by rw [hasm]; exact ha, ht.of_inputs hf hi⟩

theorem InMessage.modAsm (h : InMessage s n) {f : Assembler → Assembler} (hf : (f (s.line n).asm).state ≠ .hunt) :
    InMessage (s.modAsm n f) n := by
  obtain ⟨ha, ht⟩ := h
  have ha' : ((s.modAsm n f).line n).asm.state ≠ .hunt := by rw [State.modAsm_line_same]; exact hf
  refine ⟨ha', ht.congr rfl ?_⟩
  rw [State.turnView, State.turnView, State.turnMayRun_of_apart ha', State.turnMayRun_of_apart ha, State.modAsm_line_same]

theorem InMessage.modRecord (h : InMessage s n) (r : RecIx) (f : Record → Record) : InMessage (s.modRecord r f) n :=
  h.of_inputs (by simp) (by simp)

theorem InMessage.post (h : InMessage s n) (x : Notice) : InMessage (s.post x) n := h.of_inputs (by simp) (by simp)

theorem InMessage.appendChar (h : InMessage s n) (r : RecIx) (c : Code) : InMessage (s.appendChar r c) n :=
  h.of_inputs (by simp [State.appendChar]) (by simp [State.appendChar])

theorem InMessage.storeChar (h : InMessage s n) (r : RecIx) (c : Code) : InMessage (s.storeChar n r c) n := by
  unfold State.storeChar
  split
  · exact h
  · split
    · split
      · rename_i u hu
        exact (h.of_inputs (State.allocateBlock_frame _ _ _ hu) (State.allocateBlock_inputs _ _ _ _ hu)).appendChar r c
      · exact ((h.modAsm (f := fun a => { a with overrun := true }) h.1).modRecord r _).post _
    · exact h.appendChar r c

theorem InMessage.fillTable (h : InMessage s n) (r : RecIx) (stations : List StationCode) :
    InMessage (s.fillTable n r stations) n := (h.modRecord r _).modAsm nofun

theorem InMessage.headingEnds (h : InMessage s n) (r : RecIx) (stations : List StationCode) :
    InMessage (s.headingEnds n r stations) n := by
  unfold State.headingEnds
  simp only
  split
  · exact (h.fillTable r stations).of_inputs (by simp) (by simp)
  · exact h.fillTable r stations

theorem Assembler.codeDone_state (a : Assembler) : a.codeDone.1.state = a.state := by
  unfold Assembler.codeDone
  split <;> rfl

/-- A heading character that the parse goes on from leaves the receive state (R31). -/
theorem Assembler.parse_state {a b : Assembler} {h : Handed} {d : Bool} (hp : a.parse h = .going b d) : b.state = a.state := by
  unfold Assembler.parse at hp
  split at hp
  · cases hp; rfl
  · split at hp
    · split_ifs at hp
      cases hp
      rfl
    · split_ifs at hp
      all_goals cases hp
      · rfl
      · exact a.codeDone_state
      · exact a.codeDone_state
    · split_ifs at hp
      cases hp
      rfl
    all_goals cases hp; rfl

theorem Assembler.parseLimited_state {a b : Assembler} {h : Handed} {d : Bool} (hp : a.parseLimited h = .going b d) :
    b.state = a.state := by
  unfold Assembler.parseLimited at hp
  split at hp
  · rename_i hparse
    split_ifs at hp
    cases hp
    exact Assembler.parse_state hparse
  all_goals cases hp

theorem InMessage.takeHeading (h : InMessage s n) (r : RecIx) (c : Handed) : InMessage (s.takeHeading n r c) n := by
  have hstored : InMessage ((s.storeChar n r c.code).modAsm n fun a => { a with headingChars := a.headingChars + 1 }) n :=
    (h.storeChar r c.code).modAsm (h.storeChar r c.code).1
  unfold State.takeHeading
  simp only
  split
  · rename_i b d hp
    have hgoing := hstored.modAsm (f := fun _ => b) (by rw [Assembler.parseLimited_state hp]; exact hstored.1)
    split
    · exact hgoing.modRecord r _
    · exact hgoing
  · split
    · exact (hstored.modRecord r _).headingEnds r _
    · exact hstored.headingEnds r _
  · exact hstored.headingEnds r _

theorem InMessage.takeDesignator (h : InMessage s n) (r : RecIx) (c : Handed) : InMessage (s.takeDesignator n r c) n := by
  unfold State.takeDesignator
  split
  · exact ((h.modRecord r _).storeChar r _).modAsm ((h.modRecord r _).storeChar r _).1
  · exact ((h.modRecord r _).storeChar r _).modAsm ((h.modRecord r _).storeChar r _).1

theorem InMessage.checkChannel (h : InMessage s n) (r : RecIx) (received : Nat) : InMessage (s.checkChannel n r received) n := by
  have hnext := (h.modRecord r fun rec => { rec with inbound := some received }).modAsm
    (f := fun a => { a with expectation := some (nextChannel received) }) h.1
  unfold State.checkChannel
  simp only
  split
  · exact hnext
  · split
    · exact hnext
    · exact (hnext.modRecord r _).post _

theorem InMessage.takeGroup (h : InMessage s n) (r : RecIx) (c : Handed) : InMessage (s.takeGroup n r c) n := by
  unfold State.takeGroup
  simp only
  split
  · exact ((h.modRecord r _).modAsm (f := fun a => { a with step := .designator }) h.1).takeDesignator r c
  · split
    · exact h.modAsm h.1
    · have hread := h.modAsm (f := fun a => { a with group := (s.line n).asm.group ++ [c], step := .designator }) h.1
      split
      · exact hread.checkChannel r _
      · exact hread.modRecord r _

theorem InMessage.takeOrdinary (h : InMessage s n) (r : RecIx) (c : Handed) : InMessage (s.takeOrdinary n r c) n := by
  unfold State.takeOrdinary
  split
  · split
    · exact h.takeGroup r c
    · exact h.takeDesignator r c
    all_goals exact h.takeHeading r c
  · exact h.storeChar r c.code
  all_goals exact h

theorem InMessage.takeAll (h : InMessage s n) (r : RecIx) (cs : List Handed) : InMessage (s.takeAll n r cs) n := by
  induction cs generalizing s with
  | nil => exact h
  | cons c cs ih => exact ih (h.takeOrdinary r c)

theorem InMessage.malformedAtClose (h : InMessage s n) (r : RecIx) : InMessage (s.malformedAtClose n r) n := by
  unfold State.malformedAtClose
  split
  · exact h.fillTable r _
  · exact h

theorem InMessage.completeRecord (h : InMessage s n) (r : RecIx) (truncated : Bool) :
    InMessage (s.completeRecord r truncated) n :=
  h.of_inputs (by simp [State.completeRecord]) (by simp [State.completeRecord])

theorem InMessage.dispatchAtClose (h : InMessage s n) (r : RecIx) (filled : Bool) : InMessage (s.dispatchAtClose r filled) n := by
  unfold State.dispatchAtClose
  split
  · exact h.of_inputs (by simp) (by simp)
  · exact h

/-- The assembler returns to HUNT, and its line's turnaround is looked at (R41, R149). -/
theorem State.returnToHunt_turnTimed (h : TurnTimed s n) : TurnTimed (s.returnToHunt n) n := by
  refine State.turnReview_turnTimed fun hw => ?_
  rw [State.modAsm_line_same] at hw
  exact h.fits hw

theorem InMessage.closeByRun (h : InMessage s n) (r : RecIx) : TurnTimed (s.closeByRun n r) n := by
  unfold State.closeByRun
  simp only
  split
  · exact State.returnToHunt_turnTimed (((h.malformedAtClose r).completeRecord r _).dispatchAtClose r _).2
  · exact State.returnToHunt_turnTimed (h.of_inputs (by simp) (by simp)).2

theorem InMessage.closeTruncated (h : InMessage s n) (r : RecIx) (cause : TruncateCause) :
    TurnTimed (s.closeTruncated n r cause) n := by
  have hzero := h.modAsm (f := fun a => { a with closingCount := 0 }) h.1
  unfold State.closeTruncated
  simp only
  split
  · exact State.returnToHunt_turnTimed ((((hzero.malformedAtClose r).completeRecord r _).post _).dispatchAtClose r _).2
  · exact State.returnToHunt_turnTimed (h.of_inputs (by simp) (by simp)).2

theorem InMessage.messageChar (h : InMessage s n) (r : RecIx) (c : Handed) : TurnTimed (s.messageChar n r c) n := by
  unfold State.messageChar
  simp only
  split
  · exact (h.takeGroup r c).2
  · split
    · split
      · exact (h.modAsm h.1).2
      · exact h.closeByRun r
    · exact ((h.modAsm (f := fun a => { a with closingCount := 0 }) h.1).takeAll r _).2

/-- The shift stage may take its character, and the receiver be suspended, without the turnaround (R8, R150). -/
theorem InMessage.takeOrWithdraw (h : InMessage s n) : InMessage (s.takeOrWithdraw n) n := by
  obtain ⟨ha, ht⟩ := h
  rcases s.takeOrWithdraw_cases n with ⟨-, e⟩ | ⟨-, -, e⟩ | ⟨-, -, e⟩ <;> rw [e]
  · exact ⟨ha, ht⟩
  · exact ⟨ha, ht⟩
  · have hline := s.chosen.beginHeld_line_same n
    exact ⟨by rw [hline]; exact ha, ht.congr (s.chosen.beginHeld_onlyLine n).boot
      (by simp only [State.turnView, State.turnMayRun, hline, State.chosen_line])⟩

/-- An assembler that has left HUNT stops the turnaround's timer (R41, R148). -/
theorem State.leftHunt_turnTimed (ha : (s.line n).asm.state ≠ .hunt)
    (hfits : (s.line n).turn ≠ none → s.running = true ∧ s.mode n = .half) : TurnTimed (s.leftHunt n) n := by
  have hwait := State.turnWait_turnTimed hfits (State.turnMayRun_of_apart ha)
  unfold State.leftHunt
  split
  · simp only
    split
    · have hmessage : InMessage (s.turnWait n) n := ⟨by rw [s.turnWait_line_same]; exact ha, hwait⟩
      exact (hmessage.takeOrWithdraw.of_inputs (by simp [State.takenOff]) (by simp [State.takenOff])).2
    · exact hwait
  · rename_i hm
    refine .of_none ?_
    by_contra hw
    exact hm (hfits hw).2

theorem State.openMessage_turnTimed (h : TurnTimed s n) (r : RecIx) : TurnTimed (s.openMessage n r) n := by
  refine State.leftHunt_turnTimed (by rw [State.modAsm_line_same]; nofun) fun hw => ?_
  rw [State.modAsm_line_same] at hw
  exact h.fits hw

theorem State.loseMessage_turnTimed (h : TurnTimed s n) : TurnTimed (s.loseMessage n) n := by
  refine State.leftHunt_turnTimed (by rw [State.modAsm_line_same]; nofun) fun hw => ?_
  rw [State.modAsm_line_same] at hw
  exact (h.of_inputs (s.post_frame (.messageLost n)) (s.post_inputs _ n)).fits hw

theorem State.huntChar_turnTimed (h : TurnTimed s n) (c : Handed) : TurnTimed (s.huntChar n c) n := by
  unfold State.huntChar State.openingRunDone
  split
  · split
    · exact State.modAsm_turnTimed h rfl
    · split
      · split
        · exact State.openMessage_turnTimed h _
        · exact State.loseMessage_turnTimed h
      · exact State.loseMessage_turnTimed h
  · exact State.modAsm_turnTimed h rfl

theorem State.discardChar_turnTimed (h : TurnTimed s n) (c : Handed) : TurnTimed (s.discardChar n c) n := by
  unfold State.discardChar
  split
  · split
    · exact State.modAsm_turnTimed h rfl
    · exact State.returnToHunt_turnTimed h
  · exact State.modAsm_turnTimed h rfl

theorem InMessage.read (h : InMessage s n) (r : RecIx) (c : Handed) (framing : Bool) :
    TurnTimed (((s.countFraming r framing).messageChar n r c).restartSilence n) n :=
  State.modAsm_turnTimed (InMessage.messageChar (h.of_inputs (by simp) (by unfold State.countFraming; split <;> simp)) r c) rfl

theorem State.handOverChar_turnTimed (h : TurnTimed s n) (c : Handed) (framing : Bool) :
    TurnTimed (s.handOverChar n c framing) n := by
  unfold State.handOverChar
  split
  · exact State.huntChar_turnTimed h c
  · exact State.discardChar_turnTimed h c
  · rename_i ha _
    exact InMessage.read ⟨by rw [ha]; nofun, h⟩ _ c framing
  · rename_i ha _
    exact InMessage.read ⟨by rw [ha]; nofun, h⟩ _ c framing
  all_goals exact h

theorem State.asmLineOpen_turnTimed (h : TurnTimed s n) : TurnTimed (s.asmLineOpen n) n := by
  unfold State.asmLineOpen
  split
  · exact State.modAsm_turnTimed h rfl
  · exact State.returnToHunt_turnTimed h
  · rename_i ha _
    exact InMessage.closeTruncated ⟨by rw [ha]; nofun, h⟩ _ _
  · rename_i ha _
    exact InMessage.closeTruncated ⟨by rw [ha]; nofun, h⟩ _ _
  all_goals exact h

theorem State.silenceEnds_turnTimed (h : TurnTimed s n) : TurnTimed (s.silenceEnds n) n := by
  unfold State.silenceEnds
  split
  · rename_i ha _
    exact InMessage.closeTruncated ⟨by rw [ha]; nofun, h⟩ _ _
  · rename_i ha _
    exact InMessage.closeTruncated ⟨by rw [ha]; nofun, h⟩ _ _
  · exact h

end

/-! ### The other lines, whatever the assembler of one line does -/

theorem State.closeTruncated_assemblesOnly (s : State) (n : Line) (r : RecIx) (cause : TruncateCause) :
    AssemblesOnly n s (s.closeTruncated n r cause) := by
  unfold State.closeTruncated
  simp only
  split
  · exact (s.modAsm_assemblesOnly n _).trans <| (State.malformedAtClose_assemblesOnly _ n r).trans <|
      (State.completeRecord_assemblesOnly _ n r _).trans <| (State.post_assemblesOnly _ n _).trans <|
        (AssemblesOnly.of_dispatches (State.dispatchAtClose_dispatches _ r _)).trans (State.returnToHunt_assemblesOnly _ n)
  · exact (AssemblesOnly.of_lines (s := s) (t := s.freeRecord r) rfl).trans (State.returnToHunt_assemblesOnly _ n)

/-- The withdrawal and the put-back of a HALF line are no other line's (R150). -/
theorem State.leftHunt_others (s : State) {n m : Line} (hm : m ≠ n) : (s.leftHunt n).inputs m = s.inputs m := by
  have hwait : (s.turnWait n).inputs m = s.inputs m := (s.turnWait_onlyLine n).aside.others m hm
  have htaken : ((s.turnWait n).takeOrWithdraw n).inputs m = s.inputs m := by
    rcases (s.turnWait n).takeOrWithdraw_cases n with ⟨-, e⟩ | ⟨-, -, e⟩ | ⟨-, -, e⟩ <;> rw [e]
    · exact hwait
    · exact hwait
    · exact ((State.beginHeld_onlyLine _ n).aside.others m hm).trans hwait
  unfold State.leftHunt
  split
  · simp only
    split
    · simp [State.takenOff, htaken]
    · exact hwait
  · rfl

theorem State.huntChar_others (s : State) {n m : Line} (hm : m ≠ n) (c : Handed) :
    (s.huntChar n c).inputs m = s.inputs m := by
  have hlose : (s.loseMessage n).inputs m = s.inputs m := by
    rw [State.loseMessage, State.leftHunt_others _ hm, (State.modAsm_onlyLine _ n _).aside.others m hm, State.post_inputs]
  unfold State.huntChar State.openingRunDone
  split
  · split
    · exact (s.modAsm_onlyLine n _).aside.others m hm
    · split
      · split
        · rw [State.openMessage, State.leftHunt_others _ hm, (State.modAsm_onlyLine _ n _).aside.others m hm, State.modRecord_inputs]
        · exact hlose
      · exact hlose
  · exact (s.modAsm_onlyLine n _).aside.others m hm

theorem State.handOverChar_others (s : State) {n m : Line} (hm : m ≠ n) (c : Handed) (framing : Bool) :
    (s.handOverChar n c framing).inputs m = s.inputs m := by
  have hread : ∀ r, (((s.countFraming r framing).messageChar n r c).restartSilence n).inputs m = s.inputs m := fun r =>
    ((s.countFraming_assemblesOnly n r framing).trans <| (State.messageChar_assemblesOnly _ n r c).trans
      (State.modAsm_assemblesOnly _ n _)).others m hm
  unfold State.handOverChar
  split
  · exact s.huntChar_others hm c
  · exact (s.discardChar_assemblesOnly n c).others m hm
  · exact hread _
  · exact hread _
  all_goals rfl

theorem State.asmLineOpen_assemblesOnly (s : State) (n : Line) : AssemblesOnly n s (s.asmLineOpen n) := by
  unfold State.asmLineOpen
  split
  · exact s.modAsm_assemblesOnly n _
  · exact s.returnToHunt_assemblesOnly n
  · exact s.closeTruncated_assemblesOnly n _ _
  · exact s.closeTruncated_assemblesOnly n _ _
  all_goals exact .refl n s

theorem State.silenceEnds_assemblesOnly (s : State) (n : Line) : AssemblesOnly n s (s.silenceEnds n) := by
  unfold State.silenceEnds
  split
  · exact s.closeTruncated_assemblesOnly n _ _
  · exact s.closeTruncated_assemblesOnly n _ _
  · exact .refl n s


theorem State.handOverChar_keepsTurns (s : State) (n : Line) (c : Handed) (framing : Bool) :
    KeepsTurns n s (s.handOverChar n c framing) :=
  ⟨⟨State.handOverChar_frame .., fun _ hm => s.handOverChar_others hm c framing⟩,
    fun h => State.handOverChar_turnTimed h c framing⟩

theorem State.asmLineOpen_keepsTurns (s : State) (n : Line) : KeepsTurns n s (s.asmLineOpen n) :=
  ⟨⟨State.asmLineOpen_frame .., (s.asmLineOpen_assemblesOnly n).others⟩, State.asmLineOpen_turnTimed⟩

theorem State.silenceEnds_keepsTurns (s : State) (n : Line) : KeepsTurns n s (s.silenceEnds n) :=
  ⟨⟨State.silenceEnds_frame .., (s.silenceEnds_assemblesOnly n).others⟩, State.silenceEnds_turnTimed⟩

/-! ### Readings and conditions (R9, R149) -/

/-- A reading starts or stops the timer with the level of LOOPn_IN (R149). -/
theorem State.readPin_keepsTurns (s : State) (n : Line) (pin : LoopPin) (level : Level) :
    KeepsTurns n s (s.readPin n pin level) := by
  refine ⟨(s.readPin_onlyLine n pin level).aside, fun h => ?_⟩
  by_cases hl : (s.line n).level pin = level
  · rw [s.readPin_of_level n pin level hl]
    exact h
  · by_cases hk : s.keeps n pin = true
    · rw [s.readPin_of_kept n pin level hl hk]
      refine State.turnReview_turnTimed fun hw => h.fits ?_
      cases pin <;> simpa using hw
    · have hread : s.readPin n pin level = s.setPin n pin level :=
        (if_neg hl).trans (if_neg (show ¬(s.setPin n pin level).keeps n pin = true from hk))
      rw [hread]
      cases pin with
      | loopIn =>
        refine .of_none ?_
        rw [State.setPin_line_loopIn]
        refine h.turn_eq_none fun ⟨hr, hm⟩ => hk ?_
        simp [State.keeps, hr, hm, keepsCond]
      | sense => exact h.congr rfl (by simp [State.turnView, State.turnMayRun])

/-- A condition may come to CLOSED or leave it where no turnaround reads it. -/
theorem State.modCond_keepsTurns (s : State) (n : Line) (pin : LoopPin) (f : Cond → Cond)
    (hf : pin = .loopIn → s.mode n = .half →
      ((f (s.line n).condIn).value = .closed ↔ (s.line n).condIn.value = .closed)) : KeepsTurns n s (s.modCond n pin f) := by
  refine ⟨(s.modCond_onlyLine n pin f).aside, fun h => ?_⟩
  cases pin with
  | loopIn =>
    by_cases hm : s.mode n = .half
    · exact h.congr rfl (by simp [State.turnView, State.turnMayRun, hf rfl hm])
    · refine .of_none ?_
      rw [State.modCond_line_loopIn]
      exact h.turn_eq_none fun hno => hm hno.2
  | sense => exact h.congr rfl (by simp [State.turnView, State.turnMayRun])

theorem State.setRx_keepsTurns (s : State) (n : Line) (st : RxState) : KeepsTurns n s (s.setRx n st) :=
  .of_onlyLine (s.setRx_onlyLine n st) (by simp [State.turnView, State.turnMayRun])

theorem State.receiveLost_keepsTurns (s : State) (n : Line) : KeepsTurns n s (s.receiveLost n) :=
  (s.setRx_keepsTurns n .waitMark).trans (State.asmLineOpen_keepsTurns _ n)

theorem State.receiveLost_condIn (s : State) (n : Line) : ((s.receiveLost n).line n).condIn = (s.line n).condIn := by
  have h : ((s.receiveLost n).line n).condIn = ((s.setRx n .waitMark).line n).condIn :=
    congrArg (·.2.2.2.1) (State.asmLineOpen_loops _ n n)
  rw [h, State.setRx_line_same]

theorem State.sendLost_keepsTurns (s : State) (n : Line) : KeepsTurns n s (s.sendLost n) := by
  obtain ⟨hothers, hboot, -⟩ := s.sendLost_others n
  obtain ⟨rx, mo, sc, k, hl, -⟩ := s.sendLost_line n
  exact ⟨⟨s.sendLost_frame n, fun m hm => by rw [State.inputs, hothers m hm]; rfl⟩,
    fun h => h.congr hboot (by simp only [State.turnView, State.turnMayRun, hl])⟩

theorem State.post_keepsTurns (s : State) (n : Line) (x : Notice) : KeepsTurns n s (s.post x) :=
  .of_inputs (s.post_frame x) (s.post_inputs x)

theorem State.turnWait_aside (s : State) (n : Line) : Aside n s (s.turnWait n) := (s.turnWait_onlyLine n).aside

/-- A condition as it opens (R9). -/
def Cond.opened (c : Cond) : Cond := { c with value := .open, openTimer := some Config.openTime }

/-- A condition as it closes (R9). -/
def Cond.closing (c : Cond) : Cond := { c with value := .closed, markingTimer := none, openTimer := none }

/-- A kept condition that leaves CLOSED makes a HALF line wait (R9, R148). -/
theorem State.condOpens_keepsTurns {s : State} {n : Line} {pin : LoopPin} (hk : s.keeps n pin = true) :
    KeepsTurns n s (s.condOpens n pin) := by
  obtain ⟨hr, hkeep⟩ := Bool.and_eq_true_iff.mp hk
  by_cases hm : s.mode n = .half
  · have hpin : pin = .loopIn := by
      cases pin with
      | loopIn => rfl
      | sense => rw [hm] at hkeep; cases hkeep
    subst hpin
    have hside : sendSide (s.mode n) .loopIn = true := by rw [hm]; rfl
    have heq : s.condOpens n .loopIn = (((s.modCond n .loopIn Cond.opened).receiveLost n).sendLost n).turnWait n := by
      simp only [State.condOpens, receiveSide, if_true, if_pos hside, if_pos hm]
      rfl
    have hlost := ((s.modCond n .loopIn Cond.opened).receiveLost_keepsTurns n).trans (State.sendLost_keepsTurns _ n)
    obtain ⟨rx, mo, sc, k, hl, -⟩ := ((s.modCond n .loopIn Cond.opened).receiveLost n).sendLost_line n
    have hcond := (s.modCond n .loopIn Cond.opened).receiveLost_condIn n
    rw [State.modCond_line_loopIn] at hcond
    have haside := (s.modCond_onlyLine n .loopIn Cond.opened).aside.trans hlost.toAside
    rw [heq]
    generalize ((s.modCond n .loopIn Cond.opened).receiveLost n).sendLost n = v at *
    refine ⟨haside.trans (v.turnWait_aside n), fun _ => State.turnWait_turnTimed (fun _ => ?_) (State.turnMayRun_of_open ?_)⟩
    · simp only [State.running, State.mode, State.lineCfg, State.boot_of_frame haside.frame]
      exact ⟨hr, hm⟩
    · rw [hl]
      show ¬(State.line _ n).condIn.value = .closed
      rw [hcond]
      nofun
  · have hcond : KeepsTurns n s (s.modCond n pin Cond.opened) := s.modCond_keepsTurns n pin Cond.opened fun _ h => absurd h hm
    have hrecv := KeepsTurns.ite (p := receiveSide pin = true) (hcond.trans (State.receiveLost_keepsTurns _ n)) hcond
    simp only [State.condOpens, if_neg hm]
    exact .ite (hrecv.trans (State.sendLost_keepsTurns _ n)) hrecv

theorem State.lineFails_inputs (s : State) (n : Line) (pin : LoopPin) (m : Line) :
    (s.lineFails n pin).inputs m = s.inputs m := by
  have h : ∀ u : State, (u.releaseAll (s.collected n)).inputs m = u.inputs m := fun u =>
    ((u.releaseAll_dispatches _).line m).1.inputs
  simp [State.lineFails, h]

/-- A condition that is OPEN and fails leaves the turnaround stopped (R9, R149). -/
theorem State.condFails_keepsTurns {s : State} {n : Line} {pin : LoopPin} (hv : (s.cond n pin).value = .open) :
    KeepsTurns n s (s.condFails n pin) := by
  have hcond : KeepsTurns n s (s.modCond n pin fun c => { c with value := .failed, openTimer := none }) := by
    refine s.modCond_keepsTurns n pin _ fun hp _ => ?_
    subst hp
    have hopen : (s.line n).condIn.value = .open := hv
    simp [hopen]
  have hrecv := KeepsTurns.ite (p := receiveSide pin = true) (hcond.trans (State.receiveLost_keepsTurns _ n)) hcond
  exact .ite (hrecv.trans <| (State.sendLost_keepsTurns _ n).trans (.of_inputs (by simp) fun m => State.lineFails_inputs _ n pin m))
    (hrecv.trans (State.post_keepsTurns _ n _))

/-- The receiver and the notice, once a condition is CLOSED, are nothing to the turnaround. -/
theorem State.closed_keepsTurns (s : State) (n : Line) (pin : LoopPin) :
    KeepsTurns n (s.modCond n pin Cond.closing) (s.closed n pin) := by
  have hrx := KeepsTurns.ite (p := receiveSide pin = true) ((s.modCond n pin Cond.closing).setRx_keepsTurns n .waitMark)
    (.refl n _)
  exact .ite (hrx.trans (State.post_keepsTurns _ n _)) hrx

theorem State.turnReview_keepsTurns (s : State) (n : Line) : KeepsTurns n s (s.turnReview n) :=
  ⟨(s.turnReview_onlyLine n).aside, fun h => State.turnReview_turnTimed h.fits⟩

theorem State.choose_keepsTurns (s : State) (n : Line) : KeepsTurns n s (s.choose n) :=
  .of_inputs (by simp) fun m => by simp

/-- A kept condition that becomes CLOSED may let the turnaround's timer run (R9, R149). -/
theorem State.condCloses_keepsTurns {s : State} {n : Line} {pin : LoopPin} (hk : s.keeps n pin = true) :
    KeepsTurns n s (s.condCloses n pin) := by
  obtain ⟨hr, hkeep⟩ := Bool.and_eq_true_iff.mp hk
  have haside := (s.modCond_onlyLine n pin Cond.closing).aside.trans (s.closed_keepsTurns n pin).toAside
  rw [State.condCloses_eq]
  by_cases hm : s.mode n = .half
  · have hside : sendSide (s.mode n) pin = true := by
      cases pin with
      | loopIn => rw [hm]; rfl
      | sense => rw [hm] at hkeep; cases hkeep
    have hboot := State.boot_of_frame haside.frame
    rw [if_pos hside]
    generalize s.closed n pin = u at *
    refine ⟨haside.trans ((u.turnReview_onlyLine n).aside.trans (State.choose_keepsTurns _ n).toAside), fun _ =>
      (State.choose_keepsTurns _ n).timed (State.turnReview_turnTimed fun _ => ?_)⟩
    simp only [State.running, State.mode, State.lineCfg, hboot]
    exact ⟨hr, hm⟩
  · have hclosed := (s.modCond_keepsTurns n pin Cond.closing fun _ h => absurd h hm).trans (s.closed_keepsTurns n pin)
    exact .ite (hclosed.trans ((State.turnReview_keepsTurns _ n).trans (State.choose_keepsTurns _ n))) hclosed

/-! ### Characters received and sent -/

theorem State.setRxCase_keepsTurns (s : State) (n : Line) (c : Case) : KeepsTurns n s (s.setRxCase n c) :=
  .of_onlyLine (s.setRxCase_onlyLine n c) (by simp [State.turnView, State.turnMayRun])

theorem State.endChar_keepsTurns (s : State) (n : Line) (code : Code) (framing : Bool) :
    KeepsTurns n s (s.endChar n code framing) :=
  (s.readPin_keepsTurns n .loopIn _).trans <| (State.setRxCase_keepsTurns _ n _).trans <|
    (State.setRx_keepsTurns _ n _).trans (State.handOverChar_keepsTurns _ n _ framing)

theorem State.resumeRx_keepsTurns (s : State) (n : Line) : KeepsTurns n s (s.resumeRx n) :=
  .of_onlyLine (s.resumeRx_onlyLine n) (by simp [State.turnView, State.turnMayRun, State.resumeRx_line_same])

end Sys2Proof.Machine
end

section
namespace Sys2Proof.Machine

/-! ### Bounds, turnarounds and receivers are kept by every command (R8, R9, R29, R88, R89, R131, R148, R149, R157, R158) -/

/-- The four invariants hold in `t` if they hold in `s`. -/
structure BoundsKept (s t : State) : Prop where
  lists : ListsBounded s → ListsBounded t
  channels : ChannelsBounded s → ChannelsBounded t
  turns : TurnaroundTimed s → TurnaroundTimed t
  rests : ReceiverRests s → ReceiverRests t

section
variable {s t : State} {n : Line}

theorem BoundsKept.refl (s : State) : BoundsKept s s := ⟨id, id, id, id⟩

theorem BoundsKept.trans {u : State} (h₁ : BoundsKept s t) (h₂ : BoundsKept t u) : BoundsKept s u :=
  ⟨h₂.lists ∘ h₁.lists, h₂.channels ∘ h₁.channels, h₂.turns ∘ h₁.turns, h₂.rests ∘ h₁.rests⟩

theorem BoundsKept.ite {u : State} {p : Prop} [Decidable p] (ht : BoundsKept s t) (hu : BoundsKept s u) :
    BoundsKept s (if p then t else u) := by
  split
  · exact ht
  · exact hu

/-- A command's change under a condition; else the card is as it was (log 1). -/
theorem BoundsKept.guarded {p : Prop} [Decidable p] (ht : p → BoundsKept s t) : BoundsKept s (if p then t else s) := by
  split
  · next h => exact ht h
  · exact .refl s

theorem ReceiverRests.of_inputs (h : ReceiverRests s) (hi : ∀ m, t.inputs m = s.inputs m) : ReceiverRests t :=
  h.of_loops fun m => congrArg (fun i => (i.1, i.2.1, i.2.2.1, i.2.2.2.1, i.2.2.2.2.1)) (hi m)

/-- What leaves the receiving sides keeps turnarounds and receivers with them. -/
theorem BoundsKept.of_inputs (hl : ListsBounded s → ListsBounded t) (hc : ChannelsBounded s → ChannelsBounded t)
    (hf : t.frame = s.frame := by simp) (hi : ∀ m, t.inputs m = s.inputs m := by simp) : BoundsKept s t :=
  ⟨hl, hc, fun h => (KeepsTurns.of_inputs (n := 0) hf hi).keeps h, fun h => h.of_inputs hi⟩

theorem BoundsKept.of_line (hl : ListsBounded s → ListsBounded t) (hc : ChannelsBounded s → ChannelsBounded t)
    (ht : KeepsTurns n s t) (hr : ReceiverRests s → ReceiverRests t) : BoundsKept s t := ⟨hl, hc, ht.keeps, hr⟩

/-- Only the start-up unit's slot, key or lamp differs. -/
theorem BoundsKept.of_boot {b : Boot} (hr : b.card = .running ↔ s.boot.card = .running) (hm : b.cfg = s.boot.cfg) :
    BoundsKept s { s with boot := b } := by
  refine ⟨id, id, fun h n => ?_, id⟩
  have hn := h n
  have hrun : State.running { s with boot := b } = s.running := by simp [State.running, hr]
  have hmode : State.mode { s with boot := b } n = s.mode n := by simp [State.mode, State.lineCfg, hm]
  have hline : State.line { s with boot := b } n = s.line n := rfl
  have hmay : State.turnMayRun { s with boot := b } n = s.turnMayRun n := rfl
  rwa [hrun, hmode, hline, hmay]

end

/-! The operations that commands are made of. -/

section
variable (s : State) (n : Line)

theorem State.readPin_boundsKept (pin : LoopPin) (level : Level) : BoundsKept s (s.readPin n pin level) :=
  .of_line (s.readPin_ListsBounded n pin level) (s.readPin_ChannelsBounded n pin level) (s.readPin_keepsTurns n pin level)
    (s.readPin_ReceiverRests n pin level)

theorem State.setRx_boundsKept (st : RxState) (h : (s.line n).condIn.value = .closed) : BoundsKept s (s.setRx n st) :=
  .of_line (s.setRx_ListsBounded n st) (s.setRx_ChannelsBounded n st) (s.setRx_keepsTurns n st)
    fun hr => s.setRx_ReceiverRests n st hr (.inl h)

theorem State.modTx_boundsKept (f : Tx → Tx) : BoundsKept s (s.modTx n f) :=
  .of_inputs (s.modTx_ListsBounded n f) (s.modTx_ChannelsBounded n f)

theorem State.suspendRx_boundsKept : BoundsKept s (s.suspendRx n) :=
  .of_line (s.suspendRx_ListsBounded n) (s.suspendRx_ChannelsBounded n) (.ite (s.setRx_keepsTurns n _) (.refl n s))
    (s.suspendRx_ReceiverRests n)

theorem State.resumeRx_boundsKept : BoundsKept s (s.resumeRx n) :=
  .of_line (s.resumeRx_ListsBounded n) (s.resumeRx_ChannelsBounded n) (s.resumeRx_keepsTurns n) (s.resumeRx_ReceiverRests n)

theorem State.beginHeld_boundsKept : BoundsKept s (s.beginHeld n) :=
  (s.modTx_boundsKept n _).trans (State.suspendRx_boundsKept _ n)

theorem State.beginFill_boundsKept : BoundsKept s (s.beginFill n) :=
  (s.modTx_boundsKept n _).trans (State.suspendRx_boundsKept _ n)

theorem State.finishChar_boundsKept (c : TxChar) : BoundsKept s (s.finishChar n c) :=
  (s.modTx_boundsKept n _).trans (State.resumeRx_boundsKept _ n)

theorem State.shiftTakes_boundsKept : BoundsKept s (s.shiftTakes n) :=
  .ite (.guarded fun _ => s.beginHeld_boundsKept n) (.guarded fun _ => s.beginFill_boundsKept n)

theorem State.shiftFollows_boundsKept (held : Option TxChar) : BoundsKept s (s.shiftFollows n held) :=
  .ite (.refl s) (.guarded fun _ => s.shiftTakes_boundsKept n)

theorem State.serveLine_boundsKept : BoundsKept s (s.serveLine n) :=
  .of_inputs (s.serveLine_ListsBounded n) (s.serveLine_ChannelsBounded n)

theorem State.choose_boundsKept : BoundsKept s (s.choose n) :=
  .of_inputs (s.choose_ListsBounded n) (s.choose_ChannelsBounded n)

theorem State.modMotor_boundsKept (f : Motor → Motor) : BoundsKept s (s.modMotor n f) :=
  .of_inputs (s.modMotor_ListsBounded n f) (s.modMotor_ChannelsBounded n f)

theorem State.condOpens_boundsKept {s : State} {n : Line} {pin : LoopPin} (h : s.keeps n pin = true) :
    BoundsKept s (s.condOpens n pin) :=
  .of_line (s.condOpens_ListsBounded n pin) (s.condOpens_ChannelsBounded n pin) (State.condOpens_keepsTurns h)
    (s.condOpens_ReceiverRests n pin)

theorem State.endTenure_boundsKept : BoundsKept s s.endTenure :=
  .of_inputs s.endTenure_ListsBounded s.endTenure_ChannelsBounded

theorem State.modPort_boundsKept {f : Port → Port} (ha : (f s.port).answers = s.port.answers)
    (he : (f s.port).ended = s.port.ended) : BoundsKept s (s.modPort f) :=
  .of_inputs (fun h => s.modPort_ListsBounded f h ha he) (s.modPort_ChannelsBounded f)

theorem State.undrive_boundsKept : BoundsKept s s.undrive := s.modPort_boundsKept rfl rfl

theorem State.setSend_boundsKept (k : CtxIx) (c : Option Send) : BoundsKept s (s.setSend k c) :=
  s.modPort_boundsKept rfl rfl

theorem State.spoiled_boundsKept (k : CtxIx) (ref : CopyRef) : BoundsKept s (s.spoiled k ref) :=
  .of_inputs (s.spoiled_ListsBounded k ref) (s.spoiled_ChannelsBounded k ref)

theorem State.modSupTx_boundsKept (f : Tx → Tx) : BoundsKept s (s.modSupTx f) :=
  .of_inputs (s.modSupTx_ListsBounded f) (s.modSupTx_ChannelsBounded f)

theorem State.supServe_boundsKept : BoundsKept s s.supServe :=
  .of_inputs s.supServe_ListsBounded s.supServe_ChannelsBounded

theorem State.supFollows_boundsKept (held : Option TxChar) : BoundsKept s (s.supFollows held) :=
  .of_inputs (s.supFollows_ListsBounded held) (s.supFollows_ChannelsBounded held)

end


/-- A frame that is reported sent and ends the tenure (R86). -/
theorem State.endTenure_boundsKept_after {s t : State} (h : BoundsKept s.undrive t) : BoundsKept s t.endTenure :=
  s.undrive_boundsKept.trans (h.trans t.endTenure_boundsKept)

/-- What a command answers keeps the four invariants. -/
def KeepsBounds (s : State) (o : Host.Outcome State Fault Refusal) : Prop := ∀ t, o = .next t → BoundsKept s t

theorem keepsBounds_next {s t : State} (h : BoundsKept s t) : KeepsBounds s (.next t) := by
  rintro _ ⟨⟩
  exact h

/-- A command that is refused when it is ill-formed (log 18). -/
theorem keepsBounds_wellFormed {s t : State} {p : Prop} [Decidable p] (h : BoundsKept s t) :
    KeepsBounds s (if p then .next t else .refused .illFormed) := by
  split
  · exact keepsBounds_next h
  · rintro _ ⟨⟩

/-! The start-up unit's commands. -/

/-- A condition that enters RUNNING is OPEN (R22). -/
theorem Cond.entering_value (kept : Bool) (level : Level) : (Cond.entering kept level).value = .open := by
  unfold Cond.entering
  split
  · cases level <;> rfl
  · rfl

theorem State.enterRunning_line (s : State) (cfg : Cfg) (busy : Bool) (n : Line) :
    (s.enterRunning cfg busy).line n = LineUnit.entering cfg.lines[n] (s.line n) := by
  simp [State.line, State.enterRunning]

theorem State.enterRunning_turnaroundTimed (s : State) (cfg : Cfg) (busy : Bool) :
    TurnaroundTimed (s.enterRunning cfg busy) := by
  refine (turnaroundTimed_iff _).mpr fun n => ?_
  have hline := s.enterRunning_line cfg busy n
  have hturn : ((s.enterRunning cfg busy).line n).turn =
      if (s.enterRunning cfg busy).mode n = .half then some { waiting := true, timer := none } else none := by
    rw [hline]; rfl
  refine .of_stopped (fun hw => ⟨rfl, ?_⟩) (fun w hw => ?_) (State.turnMayRun_of_open ?_)
  · by_contra hm
    exact hw (hturn.trans (if_neg hm))
  · rw [hturn] at hw
    split at hw
    · cases hw; rfl
    · cases hw
  · rw [hline]
    show ¬(Cond.entering _ _).value = .closed
    rw [Cond.entering_value]
    nofun

theorem State.enterRunning_receiverRests (s : State) (cfg : Cfg) (busy : Bool) : ReceiverRests (s.enterRunning cfg busy) := by
  intro n
  rw [s.enterRunning_line cfg busy n]
  refine ⟨fun _ => rfl, fun pin _ => ?_⟩
  cases pin <;> exact Cond.entering_value _ _

theorem State.enterRunning_boundsKept (s : State) (cfg : Cfg) (busy : Bool) : BoundsKept s (s.enterRunning cfg busy) :=
  ⟨fun _ => s.enterRunning_ListsBounded cfg busy, fun _ => s.enterRunning_ChannelsBounded cfg busy,
    fun _ => s.enterRunning_turnaroundTimed cfg busy, fun _ => s.enterRunning_receiverRests cfg busy⟩

theorem execResetAsserted_keepsBounds (s : State) : KeepsBounds s (execResetAsserted s) := by
  rintro t ⟨⟩
  have hline : ∀ n : Line, (s.lines.map fun l => LineUnit.held l.loopIn l.sense)[n] =
      LineUnit.held (s.line n).loopIn (s.line n).sense := fun n => by simp [State.line]
  obtain ⟨-, -, hlists, -⟩ := resetMeetsTheInvariants
  refine ⟨fun _ => hlists, fun _ n => ?_, fun _ n => ?_, fun _ n => ?_⟩ <;>
    simp only [State.line, hline]
  · exact ⟨⟨Nat.le_refl 1, Nat.le_of_ble_eq_true rfl⟩, nofun⟩
  · trivial
  · exact ⟨fun _ => rfl, fun pin h => by cases pin <;> cases h⟩

theorem execImageReadComplete_keepsBounds (image : List Byte) (busy : Bool) (s : State) :
    KeepsBounds s (execImageReadComplete image busy s) := by
  refine keepsBounds_wellFormed (.guarded fun h => .ite ?_ ?_)
  · exact (BoundsKept.of_boot (b := { s.boot with image := image }) .rfl rfl).trans <|
      (State.enterRunning_boundsKept _ _ busy).trans
        (.of_inputs (State.postAll_ListsBounded _ _) (State.postAll_ChannelsBounded _ _))
  · exact .of_boot (b := { s.boot with image := image, card := .unconfigured, lamp := true })
      ⟨nofun, fun hr => by rw [h.1] at hr; cases hr⟩ rfl

theorem State.ownRestart_boundsKept (s : State) : BoundsKept s s.ownRestart := by
  refine .of_inputs s.ownRestart_ListsBounded s.ownRestart_ChannelsBounded (by simp) fun m => ?_
  simp [State.ownRestart]

theorem execRestartKeyPress_keepsBounds (s : State) : KeepsBounds s (execRestartKeyPress s) :=
  have h : BoundsKept s s.keyUsed := .of_boot .rfl rfl
  keepsBounds_next (.ite (h.trans (State.ownRestart_boundsKept _)) h)

/-! Receivers and line conditions. -/

/-- A receiver that runs has its condition CLOSED (R8). -/
theorem State.condIn_of_receiving {s : State} {n : Line} (h : s.receiving n = true) : (s.line n).condIn.value = .closed := by
  have hc : s.recvCond n = some .closed := by
    simp only [State.receiving, Bool.and_eq_true] at h
    exact of_decide_eq_true h.1.2
  unfold State.recvCond at hc
  split at hc
  · exact Option.some_inj.mp hc
  · exact Option.some_inj.mp hc
  · exact Option.some_inj.mp hc
  · cases hc

theorem State.readPin_condIn (s : State) (n : Line) (level : Level) :
    ((s.readPin n .loopIn level).line n).condIn.value = (s.line n).condIn.value := by
  obtain ⟨c, w, hl, hc, -⟩ := s.readPin_loopIn_line n level
  rw [hl]
  exact hc

/-- A receiver that runs reads its loop and enters another state (R5). -/
theorem State.receiverReads_boundsKept {s : State} {n : Line} {p : Prop} [Decidable p] (level : Level) (st : RxState)
    (h : p → s.receiving n = true) :
    BoundsKept s (if p then (s.readPin n .loopIn level).setRx n st else s) :=
  .guarded fun hp => (s.readPin_boundsKept n .loopIn level).trans
    (State.setRx_boundsKept _ n st ((s.readPin_condIn n level).trans (State.condIn_of_receiving (h hp))))

theorem execCharacterReceived_keepsBounds (n : Line) (code : Code) (framing : Bool) (s : State) :
    KeepsBounds s (execCharacterReceived n code framing s) := by
  refine keepsBounds_next (.guarded fun h => ?_)
  simp only [Bool.and_eq_true] at h
  refine .of_line (s.endChar_ListsBounded n code framing) (s.endChar_ChannelsBounded n code framing)
    (s.endChar_keepsTurns n code framing) fun hr => ?_
  refine State.handOverChar_ReceiverRests _ n _ framing (State.setRx_ReceiverRests _ n _ (State.setRxCase_ReceiverRests _ n _
    (s.readPin_ReceiverRests n _ _ hr)) (.inl ?_))
  rw [State.setRxCase_line_same]
  exact (s.readPin_condIn n _).trans (State.condIn_of_receiving h.1)

theorem execSilenceTimerExpiry_keepsBounds (n : Line) (s : State) : KeepsBounds s (execSilenceTimerExpiry n s) := by
  refine keepsBounds_next (.guarded fun _ => .of_line (s.silenceEnds_ListsBounded n) (s.silenceEnds_ChannelsBounded n)
    (s.silenceEnds_keepsTurns n) fun h => h.of_loops fun m => ?_)
  unfold State.silenceEnds
  split <;> simp

theorem execSpacingTimerExpiry_keepsBounds (n : Line) (pin : LoopPin) (s : State) :
    KeepsBounds s (execSpacingTimerExpiry n pin s) := by
  have h : BoundsKept s (s.spacingEnds n pin) := .of_line (s.spacingEnds_ListsBounded n pin)
    (s.spacingEnds_ChannelsBounded n pin) (s.modCond_keepsTurns n pin _ fun _ _ => .rfl) (s.spacingEnds_ReceiverRests n pin)
  refine keepsBounds_next (.guarded fun hg => .ite (h.trans (State.condOpens_boundsKept ?_)) h)
  exact (Bool.and_eq_true_iff.mp hg).1

theorem execMarkingTimerExpiry_keepsBounds (n : Line) (pin : LoopPin) (s : State) :
    KeepsBounds s (execMarkingTimerExpiry n pin s) := by
  refine keepsBounds_next (.guarded fun hg => .ite ?_ ?_)
  · exact .of_line (s.modCond_ListsBounded n pin _) (s.modCond_ChannelsBounded n pin _)
      (s.modCond_keepsTurns n pin _ fun _ _ => .rfl) fun h => s.modCond_ReceiverRests n pin _ h (.inl rfl) ((h n).2 pin)
  · exact .of_line (s.condCloses_ListsBounded n pin) (s.condCloses_ChannelsBounded n pin)
      (State.condCloses_keepsTurns (Bool.and_eq_true_iff.mp hg).1) (s.condCloses_ReceiverRests n pin)

theorem execOpenTimerExpiry_keepsBounds (n : Line) (pin : LoopPin) (s : State) :
    KeepsBounds s (execOpenTimerExpiry n pin s) := by
  refine keepsBounds_next (.guarded fun hg => ?_)
  simp only [Bool.and_eq_true, decide_eq_true_iff] at hg
  exact .of_line (s.condFails_ListsBounded n pin) (s.condFails_ChannelsBounded n pin)
    (State.condFails_keepsTurns hg.2) (s.condFails_ReceiverRests n pin)

theorem execBreakHeard_keepsBounds (n : Line) (unit : Fin 6) (s : State) : KeepsBounds s (execBreakHeard n unit s) := by
  refine keepsBounds_next (.guarded fun hg => (s.readPin_boundsKept n _ _).trans (State.condOpens_boundsKept ?_))
  simp only [State.comparesEcho, Bool.and_eq_true, decide_eq_true_iff] at hg
  obtain ⟨⟨⟨hr, hm⟩, -⟩, -⟩ := hg
  have hboot := (s.readPin_onlyLine n .loopIn .spacing).boot
  simp only [State.keeps, State.running, State.mode, State.lineCfg, hboot] at hm ⊢
  rw [hm, Bool.and_eq_true]
  exact ⟨hr, rfl⟩

/-! Line transmitters and the supervisor transmitter. -/

theorem execShiftStageBegin_keepsBounds (n : Line) (s : State) : KeepsBounds s (execShiftStageBegin n s) :=
  keepsBounds_next (.guarded fun _ => (s.beginHeld_boundsKept n).trans (State.serveLine_boundsKept _ n))

theorem execCharacterSent_keepsBounds (n : Line) (shiftFirst : Bool) (s : State) :
    KeepsBounds s (execCharacterSent n shiftFirst s) := by
  refine keepsBounds_next ?_
  split
  · exact .refl s
  · rename_i c _
    have hfinish := s.finishChar_boundsKept n c
    have htaken := BoundsKept.ite (p := shiftFirst = true) (hfinish.trans (State.shiftTakes_boundsKept _ n)) hfinish
    exact .guarded fun _ => htaken.trans <|
      (BoundsKept.of_inputs (State.reportSent_ListsBounded _ n c) (State.reportSent_ChannelsBounded _ n c)).trans <|
        (State.shiftFollows_boundsKept _ n _).trans (State.serveLine_boundsKept _ n)

theorem State.reportFill_boundsKept (s : State) (n : Line) : BoundsKept s (s.reportFill n) := by
  refine .of_inputs (s.reportFill_ListsBounded n) (s.reportFill_ChannelsBounded n) (by simp) fun m => ?_
  unfold State.reportFill
  split <;> simp

theorem execFillSent_keepsBounds (n : Line) (s : State) : KeepsBounds s (execFillSent n s) := by
  refine keepsBounds_next ?_
  split
  · exact .refl s
  · exact .guarded fun _ => (s.finishChar_boundsKept n _).trans <| (State.reportFill_boundsKept _ n).trans <|
      (State.shiftTakes_boundsKept _ n).trans (State.serveLine_boundsKept _ n)

theorem execRunUpTimerExpiry_keepsBounds (n : Line) (s : State) : KeepsBounds s (execRunUpTimerExpiry n s) :=
  keepsBounds_next <| .guarded fun _ => (s.modMotor_boundsKept n _).trans <| (State.choose_boundsKept _ n).trans
    (.of_inputs (State.motorEmpty_ListsBounded _ n) (State.motorEmpty_ChannelsBounded _ n))

/-- The turnaround of a line as it ends: CLEAR, its timer stopped (R148, R149). -/
theorem State.turnClear_boundsKept (s : State) (n : Line) :
    BoundsKept s (s.modLine n fun l => { l with turn := l.turn.map fun _ => { waiting := false, timer := none } }) := by
  generalize ht : s.modLine n _ = t
  have hone : OnlyLine n s t := ht ▸ s.modLine_onlyLine n _
  have hline : t.line n = { s.line n with turn := (s.line n).turn.map fun _ => { waiting := false, timer := none } } := by
    rw [← ht, State.modLine_line_same]
  refine .of_line (fun h => ht ▸ s.modLine_ListsBounded n _ h)
    (fun h => ht ▸ s.modLine_ChannelsBounded n _ h (fun _ => rfl) fun _ => rfl) ⟨hone.aside, fun h w hw => ?_⟩
    fun h m => ?_
  · have hsome : (s.line n).turn ≠ none := fun hnone => by rw [hline, hnone] at hw; cases hw
    obtain ⟨hr, hm⟩ := h.fits hsome
    rw [hline] at hw
    obtain ⟨_, -, rfl⟩ := Option.map_eq_some_iff.mp hw
    simp only [State.running, State.mode, State.lineCfg, hone.boot]
    exact ⟨hr, hm, by simp⟩
  · by_cases hmn : m = n
    · subst hmn
      rw [hline]
      exact h m
    · rw [hone.2 m hmn]
      exact h m

theorem execTurnaroundTimerExpiry_keepsBounds (n : Line) (s : State) : KeepsBounds s (execTurnaroundTimerExpiry n s) :=
  keepsBounds_next (.guarded fun _ => (s.turnClear_boundsKept n).trans (State.choose_boundsKept _ n))

theorem execSupervisorCharacterSent_keepsBounds (s : State) : KeepsBounds s (execSupervisorCharacterSent s) := by
  refine keepsBounds_next ?_
  split
  · exact .refl s
  · rename_i c _
    have hfinish := s.modSupTx_boundsKept fun t => t.finish c
    have hended := BoundsKept.ite (p := c.last = true)
      (hfinish.trans (.of_inputs (State.itemEnded_ListsBounded _) (State.itemEnded_ChannelsBounded _))) hfinish
    exact .guarded fun _ => hended.trans ((State.supFollows_boundsKept _ _).trans (State.supServe_boundsKept _))

theorem execSupervisorFillSent_keepsBounds (s : State) : KeepsBounds s (execSupervisorFillSent s) := by
  refine keepsBounds_next ?_
  split
  · exact .refl s
  · exact .guarded fun _ => (s.modSupTx_boundsKept _).trans <|
      (BoundsKept.of_inputs (State.supCountFill_ListsBounded _) (State.supCountFill_ChannelsBounded _)).trans <|
        (State.supFollows_boundsKept _ _).trans (State.supServe_boundsKept _)

/-! The highway port drives. -/

theorem execArbitrationRound_keepsBounds (rivals : List Nat) (s : State) :
    KeepsBounds s (execArbitrationRound rivals s) :=
  keepsBounds_wellFormed <| .guarded fun _ => (s.modPort_boundsKept rfl rfl).trans
    (.of_inputs (State.round_ListsBounded _ rivals) (State.round_ChannelsBounded _ rivals))

theorem execOfferSent_keepsBounds (s : State) : KeepsBounds s (execOfferSent s) := by
  refine keepsBounds_next ?_
  split
  · split
    · exact State.endTenure_boundsKept_after
        (.of_inputs (State.offerReported_ListsBounded _ _) (State.offerReported_ChannelsBounded _ _))
    · exact State.endTenure_boundsKept_after (.refl _)
  · exact .refl s

theorem execClaimSent_keepsBounds (s : State) : KeepsBounds s (execClaimSent s) := by
  refine keepsBounds_next ?_
  split
  · split
    · exact State.endTenure_boundsKept_after
        (.of_inputs (State.claimReported_ListsBounded _ _) (State.claimReported_ChannelsBounded _ _))
    · exact State.endTenure_boundsKept_after (.refl _)
  · exact .refl s

theorem execTextSent_keepsBounds (s : State) : KeepsBounds s (execTextSent s) := by
  refine keepsBounds_next ?_
  split
  · split
    · exact s.undrive_boundsKept.trans
        (.of_inputs (State.textReported_ListsBounded _ _ _) (State.textReported_ChannelsBounded _ _ _))
    · exact State.endTenure_boundsKept_after (.refl _)
  · exact .refl s

theorem execCloseSent_keepsBounds (s : State) : KeepsBounds s (execCloseSent s) := by
  refine keepsBounds_next ?_
  split
  · split
    · exact State.endTenure_boundsKept_after
        (.of_inputs (State.closeReported_ListsBounded _ _) (State.closeReported_ChannelsBounded _ _))
    · exact State.endTenure_boundsKept_after (.refl _)
  · exact .refl s

theorem execTakerAnswerSent_keepsBounds (s : State) : KeepsBounds s (execTakerAnswerSent s) := by
  refine keepsBounds_next ?_
  split
  · split
    · exact State.endTenure_boundsKept_after
        (.of_inputs (State.answerReported_ListsBounded _ _) (State.answerReported_ChannelsBounded _ _))
    · exact State.endTenure_boundsKept_after (.refl _)
    · exact .refl s
  · exact .refl s

theorem execAnswerSent_keepsBounds (s : State) : KeepsBounds s (execAnswerSent s) := by
  refine keepsBounds_next ?_
  split
  · split
    · exact State.endTenure_boundsKept_after
        (.of_inputs (State.dropAnswer_ListsBounded _ _ _) (State.dropAnswer_ChannelsBounded _ _ _))
    · exact State.endTenure_boundsKept_after (.refl _)
    · exact .refl s
  · exact .refl s

theorem execRestartSent_keepsBounds (s : State) : KeepsBounds s (execRestartSent s) := by
  refine keepsBounds_next ?_
  split
  · exact .ite (State.endTenure_boundsKept_after (State.modPort_boundsKept _ rfl rfl))
      (State.endTenure_boundsKept_after (.refl _))
  · exact .refl s

/-! The highway port hears a frame. -/

theorem execOfferReceived_keepsBounds (bytes : List Byte) (s : State) : KeepsBounds s (execOfferReceived bytes s) := by
  refine keepsBounds_wellFormed ?_
  split
  · exact .ite (.refl s) (.of_inputs (s.weighOffer_ListsBounded _ _ _ _ _ _) (s.weighOffer_ChannelsBounded _ _ _ _ _ _))
  · exact .refl s

theorem execClaimReceived_keepsBounds (bytes : List Byte) (s : State) : KeepsBounds s (execClaimReceived bytes s) := by
  refine keepsBounds_wellFormed ?_
  split
  · exact .ite (.guarded fun _ => .of_inputs (s.judgeClaim_ListsBounded _ _) (s.judgeClaim_ChannelsBounded _ _))
      (.of_inputs (s.hearRival_ListsBounded _) (s.hearRival_ChannelsBounded _))
  · exact .refl s

theorem execTextReceived_keepsBounds (bytes : List Byte) (s : State) : KeepsBounds s (execTextReceived bytes s) := by
  refine keepsBounds_wellFormed ?_
  split
  · exact .ite (.refl s) (.of_inputs (s.hearText_ListsBounded _ _ _) (s.hearText_ChannelsBounded _ _ _))
  · exact .refl s

theorem execCloseReceived_keepsBounds (bytes : List Byte) (s : State) : KeepsBounds s (execCloseReceived bytes s) := by
  refine keepsBounds_wellFormed ?_
  split
  · refine .ite (.refl s) ?_
    split
    · exact .refl s
    · split
      · exact .of_inputs (s.takeClose_ListsBounded _ _ _ _ _ _ _) (s.takeClose_ChannelsBounded _ _ _ _ _ _ _)
      · exact .refl s
  · exact .refl s

theorem execReceiptReceived_keepsBounds (bytes : List Byte) (s : State) : KeepsBounds s (execReceiptReceived bytes s) := by
  refine keepsBounds_wellFormed ?_
  split
  · split
    · exact .refl s
    · exact .guarded fun _ => .ite (.of_inputs (s.handed_ListsBounded _ _) (s.handed_ChannelsBounded _ _))
        (s.spoiled_boundsKept _ _)
  · exact .refl s

theorem State.takerAbandons_boundsKept (s : State) (k : CtxIx) (ref : CopyRef) : BoundsKept s (s.takerAbandons k ref) :=
  .guarded fun _ => s.spoiled_boundsKept k ref

theorem execAbandonTakerReceived_keepsBounds (bytes : List Byte) (s : State) :
    KeepsBounds s (execAbandonTakerReceived bytes s) := by
  refine keepsBounds_wellFormed ?_
  split
  · split
    · exact .refl s
    · exact s.setSend_boundsKept _ _
    · exact s.takerAbandons_boundsKept _ _
    · exact s.takerAbandons_boundsKept _ _
    · exact s.takerAbandons_boundsKept _ _
    · exact .refl s
    · exact .refl s
  · exact .refl s

theorem execAbandonOriginReceived_keepsBounds (bytes : List Byte) (s : State) :
    KeepsBounds s (execAbandonOriginReceived bytes s) := by
  refine keepsBounds_wellFormed ?_
  split
  · exact .guarded fun _ => .of_inputs (s.originAbandons_ListsBounded _) (s.originAbandons_ChannelsBounded _)
  · exact .refl s

theorem execRestartReceived_keepsBounds (bytes : List Byte) (s : State) : KeepsBounds s (execRestartReceived bytes s) := by
  refine keepsBounds_wellFormed ?_
  split
  · exact .of_inputs (s.warmRestart_ListsBounded _ _) (s.warmRestart_ChannelsBounded _ _)
  · exact .refl s

/-! The highway port's timers. -/

theorem execContinuationWindowExpiry_keepsBounds (s : State) : KeepsBounds s (execContinuationWindowExpiry s) := by
  refine keepsBounds_next ?_
  split
  · exact .guarded fun _ => s.endTenure_boundsKept
  all_goals exact .refl s

theorem execClaimWindowExpiry_keepsBounds (k : CtxIx) (s : State) : KeepsBounds s (execClaimWindowExpiry k s) := by
  refine keepsBounds_next ?_
  split
  · have h := s.setSend_boundsKept k
    exact .guarded fun _ => .ite
      ((h _).trans (.of_inputs (State.unclaimed_ListsBounded _ _ _) (State.unclaimed_ChannelsBounded _ _ _))) (h _)
  · exact .refl s

theorem execBackoffWaitExpiry_keepsBounds (k : CtxIx) (s : State) : KeepsBounds s (execBackoffWaitExpiry k s) := by
  refine keepsBounds_next ?_
  split
  · exact .guarded fun _ => (s.setSend_boundsKept k _).trans
      (.of_inputs (State.reoffer_ListsBounded _ _ _ _) (State.reoffer_ChannelsBounded _ _ _ _))
  · exact .refl s

theorem execReceiptWaitExpiry_keepsBounds (k : CtxIx) (s : State) : KeepsBounds s (execReceiptWaitExpiry k s) := by
  refine keepsBounds_next ?_
  split
  · exact .guarded fun _ => s.spoiled_boundsKept k _
  · exact .refl s

theorem execStallTimerExpiry_keepsBounds (k : CtxIx) (s : State) : KeepsBounds s (execStallTimerExpiry k s) := by
  refine keepsBounds_next ?_
  split
  · exact .guarded fun _ => .of_inputs (s.abandonTake_ListsBounded _ _ _) (s.abandonTake_ChannelsBounded _ _ _)
  · exact .refl s

/-- Every command keeps the bounds of lists and channels, timed turnarounds, and receivers by their conditions. -/
theorem exec_keepsBounds (c : Instr) (s : State) : KeepsBounds s (exec c s) := by
  cases c with
  | resetAsserted => exact execResetAsserted_keepsBounds s
  | resetReleased straps =>
    exact keepsBounds_next (.guarded fun _ =>
      .of_boot (b := { s.boot with resetLow := false, slot := straps.toFin }) .rfl rfl)
  | imageReadComplete image busy => exact execImageReadComplete_keepsBounds image busy s
  | restartKeyPress => exact execRestartKeyPress_keepsBounds s
  | restartKeyReleased => exact keepsBounds_next (.of_boot (b := { s.boot with keyArmed := true }) .rfl rfl)
  | lampFlashToggle =>
    exact keepsBounds_next (.guarded fun _ => .of_boot (b := { s.boot with lamp := !s.boot.lamp }) .rfl rfl)
  | receiverMarkReading n =>
    exact keepsBounds_next (State.receiverReads_boundsKept _ _ fun h => (Bool.and_eq_true_iff.mp h).1)
  | startTransition n =>
    exact keepsBounds_next (State.receiverReads_boundsKept _ _ fun h => (Bool.and_eq_true_iff.mp h).1)
  | falseStart n =>
    exact keepsBounds_next (State.receiverReads_boundsKept _ _ fun h => (Bool.and_eq_true_iff.mp h).1)
  | characterReceived n code framing => exact execCharacterReceived_keepsBounds n code framing s
  | silenceTimerExpiry n => exact execSilenceTimerExpiry_keepsBounds n s
  | loopTransition n pin level => exact keepsBounds_next (s.readPin_boundsKept n pin level)
  | spacingTimerExpiry n pin => exact execSpacingTimerExpiry_keepsBounds n pin s
  | markingTimerExpiry n pin => exact execMarkingTimerExpiry_keepsBounds n pin s
  | openTimerExpiry n pin => exact execOpenTimerExpiry_keepsBounds n pin s
  | breakHeard n unit => exact execBreakHeard_keepsBounds n unit s
  | shiftStageBegin n => exact execShiftStageBegin_keepsBounds n s
  | characterSent n shiftFirst => exact execCharacterSent_keepsBounds n shiftFirst s
  | fillSent n => exact execFillSent_keepsBounds n s
  | runUpTimerExpiry n => exact execRunUpTimerExpiry_keepsBounds n s
  | idleStopExpiry n => exact keepsBounds_next (.guarded fun _ => s.modMotor_boundsKept n _)
  | turnaroundTimerExpiry n => exact execTurnaroundTimerExpiry_keepsBounds n s
  | supervisorShiftBegin =>
    exact keepsBounds_next (.guarded fun _ => (s.modSupTx_boundsKept _).trans (State.supServe_boundsKept _))
  | supervisorCharacterSent => exact execSupervisorCharacterSent_keepsBounds s
  | supervisorFillSent => exact execSupervisorFillSent_keepsBounds s
  | arbitrationRound rivals => exact execArbitrationRound_keepsBounds rivals s
  | offerSent => exact execOfferSent_keepsBounds s
  | claimSent => exact execClaimSent_keepsBounds s
  | textSent => exact execTextSent_keepsBounds s
  | closeSent => exact execCloseSent_keepsBounds s
  | takerAnswerSent => exact execTakerAnswerSent_keepsBounds s
  | answerSent => exact execAnswerSent_keepsBounds s
  | restartSent => exact execRestartSent_keepsBounds s
  | offerReceived bytes => exact execOfferReceived_keepsBounds bytes s
  | claimReceived bytes => exact execClaimReceived_keepsBounds bytes s
  | textReceived bytes => exact execTextReceived_keepsBounds bytes s
  | closeReceived bytes => exact execCloseReceived_keepsBounds bytes s
  | receiptReceived bytes => exact execReceiptReceived_keepsBounds bytes s
  | abandonTakerReceived bytes => exact execAbandonTakerReceived_keepsBounds bytes s
  | abandonOriginReceived bytes => exact execAbandonOriginReceived_keepsBounds bytes s
  | restartReceived bytes => exact execRestartReceived_keepsBounds bytes s
  | continuationWindowExpiry => exact execContinuationWindowExpiry_keepsBounds s
  | claimWindowExpiry k => exact execClaimWindowExpiry_keepsBounds k s
  | backoffWaitExpiry k => exact execBackoffWaitExpiry_keepsBounds k s
  | receiptWaitExpiry k => exact execReceiptWaitExpiry_keepsBounds k s
  | stallTimerExpiry k => exact execStallTimerExpiry_keepsBounds k s
  | holdOffExpiry =>
    exact keepsBounds_next (.guarded fun _ => .of_inputs s.holdOffEnds_ListsBounded s.holdOffEnds_ChannelsBounded)

theorem step_boundsKept {s t : State} (h : step s = .next t) : BoundsKept s t := by
  unfold step at h
  split at h
  · cases h
    exact .refl s
  · rename_i c rest _
    have hqueue : BoundsKept s { s with pending := rest } := ⟨id, id, id, id⟩
    exact hqueue.trans (exec_keepsBounds c _ t h)

/-- Settles O60: each command is a chain of operations that keep all four, or sets the card up anew. -/
theorem everyCommandKeepsBoundsAndTimes : Obligations.EveryCommandKeepsBoundsAndTimes :=
  ⟨⟨fun _ _ h e => (step_boundsKept e).lists h, fun _ _ h e => (step_boundsKept e).channels h⟩,
    fun _ _ h e => (step_boundsKept e).turns h, fun _ _ h e => (step_boundsKept e).rests h⟩

end Sys2Proof.Machine
end

section
namespace Sys2Proof.Machine

/-! ### The greatest frame of a card (R84) -/

/-- Class and kind rank as one number, by which a card compares its own frames. -/
def Waiting.weight (w : Waiting) : Nat := w.cls.value * 8 + w.rank

/-- Frame `w` is at least as great as `v`: of one weight the one asked for first (R84). -/
def Waiting.AtMost (v w : Waiting) : Prop := v.weight < w.weight ∨ v.weight = w.weight ∧ w.stamp ≤ v.stamp

theorem Waiting.AtMost.refl (w : Waiting) : w.AtMost w := .inr ⟨rfl, Nat.le_refl _⟩

theorem Waiting.AtMost.trans {u v w : Waiting} (h₁ : u.AtMost v) (h₂ : v.AtMost w) : u.AtMost w := by
  unfold Waiting.AtMost at *
  omega

theorem Waiting.above_iff (a b : Waiting) : a.above b = true ↔
    b.weight < a.weight ∨ a.weight = b.weight ∧ a.stamp < b.stamp := by
  simp [Waiting.above, Waiting.weight]

theorem Waiting.atMost_of_above {a b : Waiting} (h : a.above b = true) : b.AtMost a := by
  have := (Waiting.above_iff a b).mp h
  unfold Waiting.AtMost
  omega

theorem Waiting.atMost_of_not_above {a b : Waiting} (h : ¬a.above b = true) : a.AtMost b := by
  have := mt (Waiting.above_iff a b).mpr h
  unfold Waiting.AtMost
  omega

theorem greatestOf_eq_none_iff (ws : List Waiting) : greatestOf ws = none ↔ ws = [] := by
  cases ws with
  | nil => exact ⟨fun _ => rfl, fun _ => rfl⟩
  | cons w ws =>
    simp only [greatestOf, reduceCtorEq, iff_false]
    split
    · nofun
    · split <;> nofun

theorem greatestOf_spec {ws : List Waiting} {w : Waiting} (h : greatestOf ws = some w) :
    w ∈ ws ∧ ∀ v ∈ ws, v.AtMost w := by
  induction ws generalizing w with
  | nil => cases h
  | cons x xs ih =>
    simp only [greatestOf] at h
    split at h
    · rename_i hnone
      rw [(greatestOf_eq_none_iff xs).mp hnone]
      cases h
      exact ⟨List.mem_singleton_self _, fun v hv => List.mem_singleton.mp hv ▸ .refl _⟩
    · rename_i y hy
      obtain ⟨hmem, hmax⟩ := ih hy
      split at h
      · rename_i habove
        cases h
        exact ⟨List.mem_cons_of_mem _ hmem, List.forall_mem_cons.mpr ⟨Waiting.atMost_of_above habove, hmax⟩⟩
      · rename_i hnot
        cases h
        exact ⟨List.mem_cons_self .., List.forall_mem_cons.mpr ⟨.refl _, fun v hv =>
          (hmax v hv).trans (Waiting.atMost_of_not_above hnot)⟩⟩

/-- What a pending frame of the card is: of a send context, a take context, the answer list or its RESTART (R83). -/
inductive Waiting.Asked (s : State) : Waiting → Prop
  | send {k : CtxIx} {c : Send} {p : SendPending} (hc : s.sendCtx k = some c) (hp : c.pending = some p) :
    Asked s ⟨.send k, s.classOf c.copy, p.kind.rank, p.stamp⟩
  | take {k : CtxIx} {t : Take} {p : TakePending} (ht : s.takeCtx k = some t) (hp : t.pending = some p) :
    Asked s ⟨.take k, t.cls, p.kind.rank, p.stamp⟩
  | answer {a : Answer} (ha : a ∈ s.port.answers) : Asked s a.waiting
  | restart (hr : s.port.restartPending = true) : Asked s ⟨.restart, .order, 7, 0⟩

theorem State.asked_of_waiting {s : State} {w : Waiting} (h : w ∈ s.waiting) : w.Asked s := by
  simp only [State.waiting, List.mem_append, List.mem_flatMap, List.mem_map] at h
  obtain ((⟨k, -, h⟩ | ⟨k, -, h⟩) | ⟨a, ha, rfl⟩) | h := h
  · unfold State.sendWaiting at h
    split at h
    · rename_i hc
      rw [List.mem_singleton.mp h]
      exact .send hc rfl
    · cases h
  · unfold State.takeWaiting at h
    split at h
    · rename_i ht
      rw [List.mem_singleton.mp h]
      exact .take ht rfl
    · cases h
  · exact .answer ha
  · split at h
    · rename_i hr
      rw [List.mem_singleton.mp h]
      exact .restart hr
    · cases h

theorem SendKind.rank_le (k : SendKind) : k.rank ≤ 7 := by
  cases k <;> decide

theorem TakeKind.rank_le (k : TakeKind) : k.rank ≤ 7 := by
  rcases k with _ | _ | _ | reason
  · exact Nat.le_succ_of_le (by decide)
  · decide
  · decide
  · exact Nat.le_succ 6

/-- The frame of a pending request has the request's kind rank, and that is at most 7 (R84). -/
theorem Waiting.Asked.compose {s : State} {w : Waiting} (h : w.Asked s) :
    ∃ f, s.compose w.source = some f ∧ f.rank = w.rank ∧ w.rank ≤ 7 := by
  cases h with
  | @send k c p hc hp =>
    refine ⟨s.composeSend c p.kind, by simp only [State.compose, hc, hp, Option.map_some], ?_⟩
    exact ⟨by cases p.kind <;> rfl, p.kind.rank_le⟩
  | @take k t p ht hp =>
    refine ⟨s.composeTake t p.kind, by simp only [State.compose, ht, hp, Option.map_some], ?_⟩
    exact ⟨by cases p.kind <;> rfl, p.kind.rank_le⟩
  | answer ha => exact ⟨_, rfl, rfl, Nat.le_succ 6⟩
  | restart hr => exact ⟨_, rfl, rfl, Nat.le_refl 7⟩

/-- Weights of kind ranks up to 7 compare class first, then rank (R84). -/
theorem Waiting.AtMost.lex {v w : Waiting} (h : v.AtMost w) (hv : v.rank ≤ 7) (hw : w.rank ≤ 7) :
    v.cls.value < w.cls.value ∨
      v.cls.value = w.cls.value ∧ (v.rank < w.rank ∨ v.rank = w.rank ∧ w.stamp ≤ v.stamp) := by
  unfold Waiting.AtMost Waiting.weight at h
  omega

/-! ### A round (R79, R84, R85) -/

section
variable {s : State} {w : Waiting} {rivals : List Nat}

/-- The card as a round finds it: it has seen the highway IDLE (R79, log 16). -/
def State.seenIdle (s : State) : State := s.modPort fun p => { p with awaitIdle := false }

theorem State.round_won {f : Frame} (hg : s.greatest = some w) (hf : s.compose w.source = some f)
    (hwin : ∀ k ∈ rivals, k ≤ s.keyOf w) :
    s.round rivals = s.modPort fun p => { p with tenure := .sending, driven := some ⟨w.source, f, true, true⟩ } := by
  have hwins : s.winsAgainst w rivals = true := List.all_eq_true.mpr fun k hk => decide_eq_true (hwin k hk)
  simp only [State.round, hg, hwins, if_true, State.drive, hf]

theorem State.round_lost (hg : s.greatest = some w) (hlose : ∃ k ∈ rivals, s.keyOf w < k) : s.round rivals = s := by
  obtain ⟨k, hk, hlt⟩ := hlose
  have hwins : ¬s.winsAgainst w rivals = true := fun h =>
    Nat.not_le.mpr hlt (of_decide_eq_true (List.all_eq_true.mp h k hk))
  simp only [State.round, hg, if_neg hwins]

theorem exec_arbitrationRound (hlen : rivals.length ≤ 15) (hkeys : ∀ k ∈ rivals, 32 ≤ k ∧ k ≤ 511)
    (hr : s.running = true) (hd : s.port.driven = none) (ht : s.port.tenure = .out ∨ s.port.tenure = .contending) :
    exec (.arbitrationRound rivals) s = .next (s.seenIdle.round rivals) := by
  have hw : Instr.wellFormed (.arbitrationRound rivals) = true := by
    simpa [Instr.wellFormed, keyInRange, hlen] using hkeys
  have houtside : s.outsideTenure = true := by simpa [State.outsideTenure, hd] using ht
  show execArbitrationRound rivals s = _
  simp only [execArbitrationRound, hw, hr, houtside, Bool.and_self, if_true, State.seenIdle]

/-- A card that meets no rival drives its greatest frame, composed from what stands (R83, R84). -/
theorem exec_round_unopposed {f : Frame} (hr : s.running = true) (hd : s.port.driven = none)
    (ht : s.port.tenure = .out ∨ s.port.tenure = .contending) (hg : s.greatest = some w)
    (hf : s.compose w.source = some f) : ∃ t, exec (.arbitrationRound []) s = .next t ∧ OnlyPort s t ∧
      t.port.driven = some ⟨w.source, f, true, true⟩ := by
  refine ⟨_, exec_arbitrationRound (Nat.zero_le _) (List.forall_mem_nil _) hr hd ht, ?_⟩
  rw [State.round_won (s := s.seenIdle) hg hf (List.forall_mem_nil _)]
  exact ⟨rfl, rfl⟩

end

/-- The characters of the block that a TEXT of a send context carries (R97, R110). -/
theorem State.block_chars (s : State) (r : RecIx) (start n : Nat) : (s.textRun r start n).length = n ∧
    ∀ i, i < (s.textRun r start n).length → (s.textRun r start n)[i]? = some (s.charAt r (start + i)) := by
  have hlen : (s.textRun r start n).length = n := by simp [State.textRun]
  refine ⟨hlen, fun i hi => ?_⟩
  rw [hlen] at hi
  simp [State.textRun, hi]

/-- Settles O36: the greatest frame by induction on the list of waiting frames, the round by whether a rival's key
is above the card's own, and the frame driven by composing it for each kind of request. -/
theorem roundIsWonOrLost : Obligations.RoundIsWonOrLost := by
  refine ⟨fun s => ⟨fun w hw => ?_, greatestOf_eq_none_iff _⟩, fun rivals s w hlen hkeys hr hd ht hg => ?_,
    fun s w hr hd ht hg => ?_, fun s w k c p hr hd ht hg hsource hc hp => ?_⟩
  · obtain ⟨hmem, hmax⟩ := greatestOf_spec hw
    have hrank : ∀ v ∈ s.waiting, v.rank ≤ 7 := fun v hv => by
      obtain ⟨_, -, -, h⟩ := (State.asked_of_waiting hv).compose
      exact h
    exact ⟨hmem, fun v hv => (hmax v hv).lex (hrank v hv) (hrank w hmem)⟩
  · obtain ⟨f, hf, hrank, -⟩ := (State.asked_of_waiting (greatestOf_spec hg).1).compose
    refine ⟨_, exec_arbitrationRound hlen hkeys hr hd ht, ?_⟩
    by_cases hwin : ∀ k ∈ rivals, k ≤ s.keyOf w
    · rw [State.round_won (s := s.seenIdle) hg hf hwin]
      refine ⟨rfl, fun _ => ⟨f, hrank, rfl, ?_⟩, fun ⟨k, hk, hlt⟩ => absurd (hwin k hk) (Nat.not_le.mpr hlt)⟩
      exact if_pos hr
    · have hlose : ∃ k ∈ rivals, s.keyOf w < k := by simpa using hwin
      rw [State.round_lost (s := s.seenIdle) hg hlose]
      exact ⟨rfl, fun h => absurd h hwin, fun _ => rfl⟩
  · have hdrives : ∀ f, s.compose w.source = some f → _ := fun f hf => exec_round_unopposed (f := f) hr hd ht hg hf
    refine ⟨fun k c p hsource hc hp => ?_, fun tag reason hsource => ?_, fun hsource => ?_⟩
    · have hcompose : s.compose w.source = some (s.composeTake c p.kind) := by
        simp only [hsource, State.compose, hc, hp, Option.map_some]
      exact ⟨fun h => hdrives _ (by rw [hcompose, h]; rfl), fun h => hdrives _ (by rw [hcompose, h]; rfl),
        fun h => hdrives _ (by rw [hcompose, h]; rfl), fun _ h => hdrives _ (by rw [hcompose, h]; rfl)⟩
    · exact hdrives _ (by rw [hsource]; rfl)
    · exact hdrives _ (by rw [hsource]; rfl)
  · have hcompose : s.compose w.source = some (s.composeSend c p.kind) := by
      simp only [hsource, State.compose, hc, hp, Option.map_some]
    obtain ⟨t, hexec, honly, hdriven⟩ := exec_round_unopposed hr hd ht hg hcompose
    refine ⟨t, _, hexec, honly, hsource ▸ hdriven, fun h => by rw [h]; rfl, fun h => ?_, fun h => by rw [h]; rfl⟩
    rw [h]
    exact ⟨_, rfl, s.block_chars _ _ _⟩

end Sys2Proof.Machine
end

section
namespace Sys2Proof.Machine

/-! ### Fields as bytes and back (section 12.2, R175) -/

theorem byteOf_toNat (b : Byte) : byteOf b.toNat = b := BitVec.ofNat_toNat _ b

theorem toNat_byteOf {n : Nat} (h : n < 256) : (byteOf n).toNat = n := by
  rw [byteOf, BitVec.toNat_ofNat, Nat.mod_eq_of_lt h]

theorem wordBytes_wordOf (hi lo : Byte) : wordBytes (wordOf hi lo) = [hi, lo] := by
  have hhi : wordOf hi lo / 256 = hi.toNat := by unfold wordOf; omega
  have hlo : byteOf (wordOf hi lo) = lo := BitVec.eq_of_toNat_eq (by simpa [byteOf, wordOf] using lo.isLt)
  rw [wordBytes, hhi, hlo, byteOf_toNat]

theorem wordOf_wordBytes {n : Nat} (h : n < 65536) : wordOf (byteOf (n / 256)) (byteOf n) = n := by
  simp only [wordOf, byteOf, BitVec.toNat_ofNat]
  omega

theorem wordOf_lt (hi lo : Byte) : wordOf hi lo < 65536 := by
  unfold wordOf
  omega

theorem tagOf_bytes (t : Tag) :
    tagOf (byteOf t.slot.val) (byteOf t.record.val) (byteOf (t.gen.val * 8 + t.ix.val)) = some t := by
  have hslot : (byteOf t.slot.val).toNat = t.slot.val := toNat_byteOf (by omega)
  have hrecord : (byteOf t.record.val).toNat = t.record.val := toNat_byteOf (by omega)
  have hcopy : (byteOf (t.gen.val * 8 + t.ix.val)).toNat = t.gen.val * 8 + t.ix.val := toNat_byteOf (by omega)
  have hgen : (t.gen.val * 8 + t.ix.val) / 8 = t.gen.val := by omega
  have hix : (t.gen.val * 8 + t.ix.val) % 8 = t.ix.val := by omega
  simp [tagOf, hslot, hrecord, hcopy, hgen, hix]

theorem Tag.bytes_of_tagOf {a b c : Byte} {t : Tag} (h : tagOf a b c = some t) : t.bytes = [a, b, c] := by
  obtain ⟨_, ⟨⟩⟩ := Option.dite_none_right_eq_some.mp h
  simp only [Tag.bytes, byteOf_toNat, Nat.div_add_mod']

theorem codesOf_codeBytes (cs : List Code) : codesOf (codeBytes cs) = some cs := by
  induction cs with
  | nil => rfl
  | cons c cs ih =>
    have hc : (c.setWidth 8).toNat < 32 := by simp; omega
    have hback : (c.setWidth 8).setWidth 5 = c := by simp
    simp only [codeBytes] at ih
    simp only [codeBytes, List.map_cons, codesOf, if_pos hc, ih, Option.map_some, hback]

theorem codeBytes_of_codesOf {l : List Byte} {cs : List Code} (h : codesOf l = some cs) : codeBytes cs = l := by
  induction l generalizing cs with
  | nil => cases h; rfl
  | cons b l ih =>
    unfold codesOf at h
    split at h
    · rename_i hb
      obtain ⟨ds, hd, rfl⟩ := Option.map_eq_some_iff.mp h
      have hback : (b.setWidth 5).setWidth 8 = b := by bv_omega
      rw [codeBytes, List.map_cons, hback]
      exact congrArg (b :: ·) (ih hd)
    · cases h

theorem length_codeBytes (cs : List Code) : (codeBytes cs).length = cs.length := List.length_map _

theorem precedenceOf_byteOf_value (cls : Precedence) : precedenceOf (byteOf cls.value).toNat = some cls := by
  cases cls <;> rfl

theorem value_of_precedenceOf {n : Nat} {cls : Precedence} (h : precedenceOf n = some cls) : cls.value = n := by
  unfold precedenceOf at h
  split at h <;> cases h <;> rfl

theorem reasonOf_bytes (why : Reason) : ∃ side reason, why.bytes = [side, reason] ∧ reasonOf side reason = some why := by
  cases why <;> exact ⟨_, _, rfl, by decide⟩

theorem Reason.bytes_of_reasonOf {side reason : Byte} {why : Reason} (h : reasonOf side reason = some why) :
    why.bytes = [side, reason] := by
  simpa using List.find?_some h

theorem flagsByte_bits {f : Byte} (h : f.toNat ≤ 3) : flagsByte (f.getLsbD 0) (f.getLsbD 1) = f := by
  rw [← byteOf_toNat f]
  generalize f.toNat = n at h
  interval_cases n <;> decide

theorem bits_flagsByte (o t : Bool) : (flagsByte o t).toNat ≤ 3 ∧ (flagsByte o t)[0] = o ∧
    (flagsByte o t)[1] = t := by
  cases o <;> cases t <;> decide

/-! ### Each kind of frame and its body (section 12.2) -/

section
variable {l : List Byte} {f : Frame}

theorem body_of_parseOffer (h : parseOffer l = some f) : f.inRange = true ∧ f.body = 1 :: l := by
  unfold parseOffer at h
  split at h
  · rename_i s r x c a b d e lh ll ch cl att
    simp only [Option.bind_eq_bind, Option.bind_eq_some_iff, Option.ite_none_right_eq_some] at h
    obtain ⟨tag, htag, cls, hcls, station, hstation, ⟨hlength, hcpm, hmin, hmax⟩, ⟨⟩⟩ := h
    have hfour : station.length = 4 := codesOf_length hstation
    refine ⟨?_, ?_⟩
    · have hrange : (if wordOf lh ll = 65535 then none else some (wordOf lh ll)).getD 0 ≤ 12288 := by
        split <;> simp only [Option.getD_none, Option.getD_some] <;> omega
      simp [Frame.inRange, hfour, hrange, hcpm, hmin, hmax]
    · have hback : (if wordOf lh ll = 65535 then none else some (wordOf lh ll)).getD 65535 = wordOf lh ll := by
        split <;> simp [*]
      simp only [Frame.body, Tag.bytes_of_tagOf htag, value_of_precedenceOf hcls, codeBytes_of_codesOf hstation, hback,
        wordBytes_wordOf, byteOf_toNat]
      rfl
  · cases h

theorem body_of_parseClaim (h : parseClaim l = some f) : f.inRange = true ∧ f.body = 2 :: l := by
  unfold parseClaim at h
  split at h
  · simp only [Option.bind_eq_bind, Option.bind_eq_some_iff, Option.dite_none_right_eq_some] at h
    obtain ⟨tag, htag, _, ⟨⟩⟩ := h
    refine ⟨rfl, ?_⟩
    simp only [Frame.body, Tag.bytes_of_tagOf htag, byteOf_toNat]
    rfl
  · cases h

theorem body_of_parseText (h : parseText l = some f) : f.inRange = true ∧ f.body = 3 :: l := by
  unfold parseText at h
  split at h
  · simp only [Option.bind_eq_bind, Option.bind_eq_some_iff, Option.ite_none_right_eq_some] at h
    obtain ⟨tag, htag, cs, hcs, ⟨hseq, hmin, hmax, hcount⟩, ⟨⟩⟩ := h
    have hlen := codesOf_length hcs
    rw [hcount] at hlen
    refine ⟨by simp [Frame.inRange, hlen, hseq, hmin, hmax], ?_⟩
    simp only [Frame.body, Tag.bytes_of_tagOf htag, codeBytes_of_codesOf hcs, hlen, byteOf_toNat]
    rfl
  · cases h

theorem body_of_parseClose (h : parseClose l = some f) : f.inRange = true ∧ f.body = 4 :: l := by
  unfold parseClose at h
  split at h
  · rename_i s r x th tl ch cl flags m
    simp only [Option.bind_eq_bind, Option.bind_eq_some_iff, Option.ite_none_right_eq_some] at h
    obtain ⟨tag, htag, ⟨htotal, hflags⟩, ⟨⟩⟩ := h
    have hm : m.toNat ≤ 255 := by omega
    refine ⟨by simp [Frame.inRange, htotal, wordOf_lt, hm], ?_⟩
    simp only [Frame.body, Tag.bytes_of_tagOf htag, wordBytes_wordOf, flagsByte_bits hflags, byteOf_toNat]
    rfl
  · cases h

theorem body_of_parseReceipt (h : parseReceipt l = some f) : f.inRange = true ∧ f.body = 5 :: l := by
  unfold parseReceipt at h
  split at h
  · simp only [Option.bind_eq_bind, Option.bind_eq_some_iff] at h
    obtain ⟨tag, htag, h⟩ := h
    split_ifs at h with h1 h2
    · cases h
      exact ⟨rfl, by rw [Frame.body, Tag.bytes_of_tagOf htag, h1]; rfl⟩
    · cases h
      exact ⟨rfl, by rw [Frame.body, Tag.bytes_of_tagOf htag, h2]; rfl⟩
  · cases h

theorem body_of_parseAbandon (h : parseAbandon l = some f) : f.inRange = true ∧ f.body = 6 :: l := by
  unfold parseAbandon at h
  split at h
  · simp only [Option.bind_eq_bind, Option.bind_eq_some_iff] at h
    obtain ⟨tag, htag, why, hwhy, ⟨⟩⟩ := h
    exact ⟨rfl, by rw [Frame.body, Tag.bytes_of_tagOf htag, Reason.bytes_of_reasonOf hwhy]; rfl⟩
  · cases h

theorem body_of_parseRestart (h : parseRestart l = some f) : f.inRange = true ∧ f.body = 7 :: l := by
  unfold parseRestart at h
  split at h
  · obtain ⟨_, ⟨⟩⟩ := Option.dite_none_right_eq_some.mp h
    exact ⟨rfl, by rw [Frame.body, byteOf_toNat]; rfl⟩
  · cases h

/-- A body that is parsed is the body of the frame it gives, and that frame is in range. -/
theorem body_of_parseBody (h : parseBody l = some f) : f.inRange = true ∧ f.body = l := by
  cases l with
  | nil => cases h
  | cons kind rest =>
    simp only [parseBody] at h
    split_ifs at h with h1 h2 h3 h4 h5 h6 h7
    · exact h1 ▸ body_of_parseOffer h
    · exact h2 ▸ body_of_parseClaim h
    · exact h3 ▸ body_of_parseText h
    · exact h4 ▸ body_of_parseClose h
    · exact h5 ▸ body_of_parseReceipt h
    · exact h6 ▸ body_of_parseAbandon h
    · exact h7 ▸ body_of_parseRestart h

end

/-- The body of a frame in range gives that frame back. -/
theorem parseBody_body {f : Frame} (h : f.inRange = true) : parseBody f.body = some f := by
  cases f with
  | offer tag cls station length cpm attempt =>
    simp only [Frame.inRange, Bool.and_eq_true, decide_eq_true_eq] at h
    obtain ⟨⟨⟨⟨hfour, hlength⟩, hcpm⟩, hmin⟩, hmax⟩ := h
    obtain ⟨a, b, d, e, rfl⟩ := List.length_eq_four.mp hfour
    have hrate : cpm < 65536 := by
      have hall : ∀ n ∈ cpmRates, n < 65536 := by decide
      exact hall cpm hcpm
    have hatt : (byteOf attempt).toNat = attempt := toNat_byteOf (by omega)
    have hcodes := codesOf_codeBytes [a, b, d, e]
    simp only [codeBytes, List.map_cons, List.map_nil] at hcodes
    show parseOffer [_, _, _, _, _, _, _, _, _, _, _, _, _] = _
    cases length with
    | none =>
      have hopen : wordOf (byteOf 255) (byteOf 65535) = 65535 := by decide
      simp [parseOffer, tagOf_bytes, precedenceOf_byteOf_value, hcodes, wordOf_wordBytes hrate, hopen, hcpm, hatt, hmin,
        hmax]
    | some n =>
      have hn : n ≤ 12288 := hlength
      have hword : wordOf (byteOf (n / 256)) (byteOf n) = n := wordOf_wordBytes (by omega)
      have hopen : ¬n = 65535 := by omega
      simp [parseOffer, tagOf_bytes, precedenceOf_byteOf_value, hcodes, wordOf_wordBytes hrate, hword, hopen, hn, hcpm,
        hatt, hmin, hmax]
  | claim tag claimant =>
    have hslot : (byteOf claimant.val).toNat = claimant.val := toNat_byteOf (by omega)
    show parseClaim [_, _, _, _] = _
    simp [parseClaim, tagOf_bytes, hslot]
  | text tag sequence chars =>
    simp only [Frame.inRange, Bool.and_eq_true, decide_eq_true_eq] at h
    obtain ⟨⟨hseq, hmin⟩, hmax⟩ := h
    have hq : (byteOf sequence).toNat = sequence := toNat_byteOf (by omega)
    have hn : (byteOf chars.length).toNat = chars.length := toNat_byteOf (by omega)
    show parseText (_ :: _ :: _ :: _ :: _ :: codeBytes chars) = _
    simp [parseText, tagOf_bytes, codesOf_codeBytes, length_codeBytes, hq, hn, hseq, hmin, hmax]
  | close tag total check overrun truncated mutilated =>
    simp only [Frame.inRange, Bool.and_eq_true, decide_eq_true_eq] at h
    obtain ⟨⟨htotal, hcheck⟩, hmut⟩ := h
    have hword : wordOf (byteOf (total / 256)) (byteOf total) = total := wordOf_wordBytes (by omega)
    have hm : (byteOf mutilated).toNat = mutilated := toNat_byteOf (by omega)
    obtain ⟨hflags, ho, ht⟩ := bits_flagsByte overrun truncated
    show parseClose [_, _, _, _, _, _, _, flagsByte overrun truncated, _] = _
    simp [parseClose, tagOf_bytes, wordOf_wordBytes hcheck, hword, htotal, hflags, ho, ht, hm]
  | receipt tag accepted =>
    show parseReceipt [_, _, _, _] = _
    cases accepted <;> simp [parseReceipt, tagOf_bytes]
  | abandon tag reason =>
    obtain ⟨side, why, hbytes, hreason⟩ := reasonOf_bytes reason
    rw [Frame.body, hbytes]
    show parseAbandon [_, _, _, side, why] = _
    simp [parseAbandon, tagOf_bytes, hreason]
  | restart sender =>
    have hslot : (byteOf sender.val).toNat = sender.val := toNat_byteOf (by omega)
    show parseRestart [_] = _
    simp [parseRestart, hslot]

/-- Bytes that give a frame are a body with its check (R80, R175). -/
theorem body_of_parseFrame {bytes : List Byte} {f : Frame} (h : parseFrame bytes = some f) :
    ∃ body, bytes = body ++ checkBytes (crc16 body) ∧ parseBody body = some f := by
  unfold parseFrame at h
  obtain ⟨hcheck, h⟩ := Option.ite_none_right_eq_some.mp h
  exact ⟨_, by rw [← hcheck, List.take_append_drop], h⟩

/-- Settles O40: a parsed body is its frame's body kind by kind, and the body of a frame in range gives the frame
back; the check takes the last two bytes off. -/
theorem framesSurviveTheHighway : Obligations.FramesSurviveTheHighway := by
  refine fun bytes f => ⟨fun h => ?_, fun ⟨hrange, hbytes⟩ => ?_⟩
  · obtain ⟨body, rfl, hbody⟩ := body_of_parseFrame h
    obtain ⟨hrange, rfl⟩ := body_of_parseBody hbody
    exact ⟨hrange, rfl⟩
  · rw [hbytes, parseFrame_encode, parseBody_body hrange]

end Sys2Proof.Machine
end

section
namespace Sys2Proof.Machine

/-! ### Frames that the card does not answer (R79, R80, R90, R95) -/

/-- What a card takes from the highway and lets be: nothing at all, or a frame of its own as origin (R90). -/
inductive State.LetsBe (s : State) : Option Frame → Prop
  | nothing : LetsBe s none
  | offer {tag : Tag} {cls station length cpm attempt} (h : s.owns tag = true) :
    LetsBe s (some (.offer tag cls station length cpm attempt))
  | text {tag : Tag} {seq chars} (h : s.owns tag = true) : LetsBe s (some (.text tag seq chars))
  | close {tag : Tag} {total check o t m} (h : s.owns tag = true) : LetsBe s (some (.close tag total check o t m))
  | abandon {tag : Tag} {reason : Reason} (h : s.owns tag = true) (ho : reason.byOrigin = true) :
    LetsBe s (some (.abandon tag reason))

section
variable {s : State} {bytes : List Byte}

theorem State.heard_of_not_hears (h : s.running = false ∨ s.port.awaitIdle = true) : s.heard bytes = none := by
  obtain h | h := h <;> simp [State.heard, State.hears, h]

/-- What the parse would let be the card lets be, whether it takes frames or not. -/
theorem State.LetsBe.heard (h : s.LetsBe (parseFrame bytes)) : s.LetsBe (s.heard bytes) := by
  unfold State.heard
  split
  · exact h
  · exact .nothing

theorem exec_offerReceived_letsBe (hw : Instr.wellFormed (.offerReceived bytes) = true) (h : s.LetsBe (s.heard bytes)) :
    exec (.offerReceived bytes) s = .next s := by
  show execOfferReceived bytes s = _
  rw [execOfferReceived, if_pos hw]
  generalize s.heard bytes = heard at h
  cases h with
  | offer h => exact congrArg _ (if_pos h)
  | _ => rfl

theorem exec_claimReceived_letsBe (hw : Instr.wellFormed (.claimReceived bytes) = true) (h : s.LetsBe (s.heard bytes)) :
    exec (.claimReceived bytes) s = .next s := by
  show execClaimReceived bytes s = _
  rw [execClaimReceived, if_pos hw]
  generalize s.heard bytes = heard at h
  cases h <;> rfl

theorem exec_textReceived_letsBe (hw : Instr.wellFormed (.textReceived bytes) = true) (h : s.LetsBe (s.heard bytes)) :
    exec (.textReceived bytes) s = .next s := by
  show execTextReceived bytes s = _
  rw [execTextReceived, if_pos hw]
  generalize s.heard bytes = heard at h
  cases h with
  | text h => exact congrArg _ (if_pos h)
  | _ => rfl

theorem exec_closeReceived_letsBe (hw : Instr.wellFormed (.closeReceived bytes) = true) (h : s.LetsBe (s.heard bytes)) :
    exec (.closeReceived bytes) s = .next s := by
  show execCloseReceived bytes s = _
  rw [execCloseReceived, if_pos hw]
  generalize s.heard bytes = heard at h
  cases h with
  | close h => exact congrArg _ (if_pos h)
  | _ => rfl

theorem exec_receiptReceived_letsBe (hw : Instr.wellFormed (.receiptReceived bytes) = true)
    (h : s.LetsBe (s.heard bytes)) : exec (.receiptReceived bytes) s = .next s := by
  show execReceiptReceived bytes s = _
  rw [execReceiptReceived, if_pos hw]
  generalize s.heard bytes = heard at h
  cases h <;> rfl

theorem exec_abandonTakerReceived_letsBe (hw : Instr.wellFormed (.abandonTakerReceived bytes) = true)
    (h : s.LetsBe (s.heard bytes)) : exec (.abandonTakerReceived bytes) s = .next s := by
  show execAbandonTakerReceived bytes s = _
  rw [execAbandonTakerReceived, if_pos hw]
  generalize s.heard bytes = heard at h
  cases h with
  | @abandon tag reason _ ho =>
    dsimp only
    cases s.liveSend tag with
    | none => rfl
    | some k =>
      cases reason with
      | late => rfl
      | claimedElsewhere => rfl
      | _ => cases ho
  | _ => rfl

theorem exec_abandonOriginReceived_letsBe (hw : Instr.wellFormed (.abandonOriginReceived bytes) = true)
    (h : s.LetsBe (s.heard bytes)) : exec (.abandonOriginReceived bytes) s = .next s := by
  show execAbandonOriginReceived bytes s = _
  rw [execAbandonOriginReceived, if_pos hw]
  generalize s.heard bytes = heard at h
  cases h with
  | abandon h _ => simp only [h, Bool.not_true, Bool.and_false, Bool.false_eq_true, if_false]
  | _ => rfl

theorem exec_restartReceived_letsBe (hw : Instr.wellFormed (.restartReceived bytes) = true)
    (h : s.LetsBe (s.heard bytes)) : exec (.restartReceived bytes) s = .next s := by
  show execRestartReceived bytes s = _
  rw [execRestartReceived, if_pos hw]
  generalize s.heard bytes = heard at h
  cases h <;> rfl

end

/-- Settles O41, by what the port takes and each of the eight commands doing nothing with it. -/
theorem ignoredFramesChangeNothing : Obligations.IgnoredFramesChangeNothing := by
  intro s bytes c hc hw hcase
  have h : s.LetsBe (s.heard bytes) := by
    rcases hcase with hp | hr | hi | ⟨tag, _, _, _, _, _, hown, hp⟩ | ⟨tag, _, _, hown, hp⟩ | ⟨tag, _, _, _, _, _, hown, hp⟩ |
      ⟨tag, _, hown, ho, hp⟩
    · exact State.LetsBe.heard (hp ▸ .nothing)
    · exact State.heard_of_not_hears (.inl hr) ▸ .nothing
    · exact State.heard_of_not_hears (.inr hi) ▸ .nothing
    · exact State.LetsBe.heard (hp ▸ .offer (decide_eq_true hown))
    · exact State.LetsBe.heard (hp ▸ .text (decide_eq_true hown))
    · exact State.LetsBe.heard (hp ▸ .close (decide_eq_true hown))
    · exact State.LetsBe.heard (hp ▸ .abandon (decide_eq_true hown) ho)
  simp only [List.mem_cons, List.not_mem_nil, or_false] at hc
  obtain rfl | rfl | rfl | rfl | rfl | rfl | rfl | rfl := hc
  · exact exec_offerReceived_letsBe hw h
  · exact exec_claimReceived_letsBe hw h
  · exact exec_textReceived_letsBe hw h
  · exact exec_closeReceived_letsBe hw h
  · exact exec_receiptReceived_letsBe hw h
  · exact exec_abandonTakerReceived_letsBe hw h
  · exact exec_abandonOriginReceived_letsBe hw h
  · exact exec_restartReceived_letsBe hw h

end Sys2Proof.Machine
end

section
namespace Sys2Proof.Machine

/-! ### The ends of the windows (R72, R86, R87, R104) -/

theorem State.endTenure_told (s : State) : Told s.endTenure :=
  State.refreshTenure_told (s := s.modPort fun p => { p with tenure := .out, burst := 0 }) (.inl rfl)

section
variable {s : State} {k : CtxIx} {c : Send} {ref : CopyRef} {x : Copy}

theorem exec_continuationWindowExpiry (hr : s.running = true) (ht : s.port.tenure = .window k) :
    exec .continuationWindowExpiry s = .next s.endTenure := by
  show execContinuationWindowExpiry s = _
  simp only [execContinuationWindowExpiry, ht, hr, if_true]

/-- The card with the claim window of send context `k` stopped (R104). -/
def State.windowStopped (s : State) (k : CtxIx) (c : Send) : State := s.setSend k (some { c with window := none })

theorem exec_claimWindowExpiry (hr : s.running = true) (hc : s.sendCtx k = some c) (hw : c.window ≠ none) :
    exec (.claimWindowExpiry k) s = .next
      (if c.taken.isNone then (s.windowStopped k c).unclaimed k c.copy else s.windowStopped k c) := by
  show execClaimWindowExpiry k s = _
  simp only [execClaimWindowExpiry, hc, hr, Option.isSome_iff_ne_none.mpr hw, Bool.and_self, if_true,
    State.windowStopped]

theorem exec_claimWindowExpiry_unclaimed (hr : s.running = true) (hc : s.sendCtx k = some c) (hw : c.window ≠ none)
    (ht : c.taken = none) : exec (.claimWindowExpiry k) s = .next ((s.windowStopped k c).unclaimed k c.copy) := by
  rw [exec_claimWindowExpiry hr hc hw, ht]
  rfl

/-- Below attempt 15 an unclaimed copy waits in its context (R72). -/
theorem State.unclaimed_waits (hc : s.sendCtx k = some c) (hx : CopyIs s ref x) (hs : x.state ≠ .settled)
    (ha : x.attempt ≠ 15) : ContextOnly k ref s (s.unclaimed k ref) ∧
      (s.unclaimed k ref).sendCtx k = some { c with backoff := some (backoffMs x.attempt) } ∧
      CopyIs (s.unclaimed k ref) ref { x with state := .backoff } := by
  have hwaits : s.unclaimed k ref =
      (s.setCopyState ref .backoff).setSend k (some { c with backoff := some (backoffMs x.attempt) }) := by
    have hheld : (s.setCopyState ref .backoff).sendCtx k = some c := hc
    simp only [State.unclaimed, State.copyIs_copy hx, Config.attemptMax, if_neg ha, State.modSend, hheld, Option.map_some]
  rw [hwaits]
  exact ⟨(s.setCopyState_contextOnly (by decide)).trans (State.setSend_contextOnly _ _), State.setSend_sendCtx_same ..,
    hx.setCopyState hs .backoff⟩

/-- At attempt 15 it is dead (R72). -/
theorem State.unclaimed_dies (hx : CopyIs s ref x) (ha : x.attempt = 15) : s.unclaimed k ref = s.die k ref := by
  simp only [State.unclaimed, State.copyIs_copy hx, Config.attemptMax, if_pos ha]

end

/-- Settles O50: the tenure ends as for every tenure, and the unclaimed copy by its attempt. -/
theorem windowsExpire : Obligations.WindowsExpire := by
  refine ⟨fun s k hr ht => ?_, fun s k c hr hc hw => ⟨fun ht => ?_, fun x ht hx hs => ?_⟩⟩
  · have htold := s.endTenure_told
    refine ⟨_, exec_continuationWindowExpiry hr ht, ?_⟩
    obtain ⟨_, e⟩ := s.endTenure_keeps
    rw [e] at htold ⊢
    exact ⟨rfl, rfl, htold, rfl, rfl, rfl, rfl⟩
  · refine ⟨_, exec_claimWindowExpiry hr hc hw, ?_⟩
    rw [if_neg (by simpa using ht)]
    exact ⟨rfl, rfl⟩
  · have hstop : ContextOnly k c.copy s (s.windowStopped k c) := s.setSend_contextOnly _
    have hheld : (s.windowStopped k c).sendCtx k = _ := State.setSend_sendCtx_same s k _
    have hx' : CopyIs (s.windowStopped k c) c.copy x := hx
    refine ⟨fun ha => ⟨_, exec_claimWindowExpiry_unclaimed hr hc hw ht, ?_⟩, fun ha hempty =>
      ⟨_, exec_claimWindowExpiry_unclaimed hr hc hw ht, ?_⟩⟩
    · obtain ⟨honly, hctx, hcopy⟩ := State.unclaimed_waits hheld hx' hs ha
      have h := hstop.trans honly
      exact ⟨hctx, hcopy, h.others, h.sends, h.take, h.lines, h.router, h.sup⟩
    · rw [State.unclaimed_dies hx' ha]
      obtain ⟨hdead, -⟩ := State.die_goesDead hx' hs (by rw [hstop.router]; exact hempty) k
      exact hdead.after hstop

end Sys2Proof.Machine
end

section
namespace Sys2Proof.Machine

/-! ### A frame driven to its end (R79, R86) -/

section
variable {s : State} {d : Driven} {k : CtxIx}

theorem State.driving_of_drives {kind : Frame → Bool} (hd : Drives s d) (hf : kind d.frame = true) :
    s.driving kind = some d := by
  obtain ⟨hrun, hdriven⟩ := hd
  simp [State.driving, hdriven, hrun, hf]

theorem State.endTenure_contextOnly (s : State) (k : CtxIx) (ref : CopyRef) : ContextOnly k ref s s.endTenure := by
  obtain ⟨_, e⟩ := s.endTenure_keeps
  rw [e]
  exact .of_port (fun _ _ => rfl) rfl rfl

/-! ### The reports to a send context (R98, R112) -/

/-- The card as a send context is told of its frame: the context as `c`, its copy in `st`, and the tenure at its end. -/
def State.toldSend (s : State) (k : CtxIx) (c : Send) (st : CopyState) : State :=
  ((s.undrive.setSend k (some c)).setCopyState c.copy st).endTenure

theorem exec_offerSent {c : Send} (hd : Drives s d) (hf : d.frame.isOffer = true) (hs : d.source = .send k)
    (hl : d.live = true) (hc : s.sendCtx k = some c) : exec .offerSent s =
      .next (s.toldSend k { c with pending := none, window := some 20, taken := none } .offered) := by
  have hheld : s.undrive.sendCtx k = some c := hc
  show execOfferSent s = _
  simp only [execOfferSent, State.driving_of_drives hd hf, hs, hl, State.offerReported, hheld]
  rfl

theorem exec_closeSent {c : Send} (hd : Drives s d) (hf : d.frame.isClose = true) (hs : d.source = .send k)
    (hl : d.live = true) (hc : s.sendCtx k = some c) : exec .closeSent s =
      .next (s.toldSend k { c with pending := none, receiptWait := some 500 } .awaitReceipt) := by
  have hheld : s.undrive.sendCtx k = some c := hc
  show execCloseSent s = _
  simp only [execCloseSent, State.driving_of_drives hd hf, hs, hl, State.closeReported, hheld]
  rfl

/-- Send context `k` stands as `c`, its copy `ref` in `st`, the highway is let go, and the rest is as before. -/
structure SendTold (s t : State) (k : CtxIx) (c : Send) (ref : CopyRef) (st : CopyState) : Prop where
  letsGo : LetsGo t
  only : ContextOnly k ref s t
  ctx : t.sendCtx k = some c
  answers : t.port.answers = s.port.answers
  ended : t.port.ended = s.port.ended
  pool : t.store.pool = s.store.pool
  copyIs : ∀ x, CopyIs s ref x → x.state ≠ .settled → CopyIs t ref { x with state := st }

theorem State.toldSend_told (s : State) (k : CtxIx) {c : Send} {ref : CopyRef} (href : c.copy = ref) {st : CopyState}
    (hst : st ≠ .settled) : SendTold s (s.toldSend k c st) k c ref st := by
  subst href
  have hsends : ContextOnly k c.copy s (s.undrive.setSend k (some c)) :=
    .of_port (fun j hj => s.undrive.setSend_sendCtx_ne k j _ hj) rfl rfl
  have hctx : (s.undrive.setSend k (some c)).sendCtx k = some c := State.setSend_sendCtx_same ..
  have hcopy : ∀ x, CopyIs s c.copy x → CopyIs (s.undrive.setSend k (some c)) c.copy x := fun _ h => h
  have honly := hsends.trans ((State.setCopyState_contextOnly _ hst).trans (State.endTenure_contextOnly _ _ _))
  have hgo := State.endTenure_letsGo (s := (s.undrive.setSend k (some c)).setCopyState c.copy st) rfl
  obtain ⟨_, e⟩ := ((s.undrive.setSend k (some c)).setCopyState c.copy st).endTenure_keeps
  rw [State.toldSend]
  rw [e] at honly hgo ⊢
  exact ⟨hgo, honly, hctx, rfl, rfl, rfl, fun x hx hs => (hcopy x hx).setCopyState hs st⟩

/-! ### The other reports (R88, R89, R92, R123) -/

theorem exec_takerAnswerSent {c : Take} (hd : Drives s d) (hf : d.frame.isAnswer = true) (hs : d.source = .take k)
    (hl : d.live = true) (hc : s.takeCtx k = some c) :
    exec .takerAnswerSent s = .next ((s.undrive.freeTake k).addEnded c.tag c.cls).endTenure := by
  have hheld : s.undrive.takeCtx k = some c := hc
  show execTakerAnswerSent s = _
  simp only [execTakerAnswerSent, State.driving_of_drives hd hf, hs, hl, State.answerReported, hheld]

theorem exec_answerSent {tag : Tag} {reason : Reason} (hd : Drives s d) (hf : d.frame.isAnswer = true)
    (hs : d.source = .answer tag reason) (hl : d.live = true) :
    exec .answerSent s = .next (s.undrive.dropAnswer tag reason).endTenure := by
  show execAnswerSent s = _
  simp only [execAnswerSent, State.driving_of_drives hd hf, hs, hl]

theorem exec_restartSent (hd : Drives s d) (hf : d.frame.isRestart = true) (hl : d.live = true) :
    exec .restartSent s = .next (s.undrive.modPort fun p => { p with restartPending := false }).endTenure := by
  show execRestartSent s = _
  simp only [execRestartSent, State.driving_of_drives hd hf, hl, if_true]

/-- What a take context that becomes FREE leaves of the card (R83). -/
theorem State.freeTake_keeps (s : State) (k : CtxIx) : ∃ x d,
    s.freeTake k = { s with port := { s.port with tenure := x, driven := d, take := s.port.take.set k none } } ∧
    (s.port.driven = none → d = none) := by
  obtain ⟨x, e⟩ := ((s.deaden (.take k)).setTake k none).refreshTenure_keeps
  refine ⟨x, _, e, fun h => ?_⟩
  show s.port.driven.map _ = none
  rw [h]
  rfl

/-- A take context that has answered is FREE, its tag on the ended-take list (R88, R123). -/
theorem State.answered_spec (s : State) (k : CtxIx) (tag : Tag) (cls : Precedence) :
    let t := ((s.undrive.freeTake k).addEnded tag cls).endTenure
    LetsGo t ∧ OnlyPort s t ∧ t.takeCtx k = none ∧ (∀ j, j ≠ k → t.takeCtx j = s.takeCtx j) ∧
    t.port.send = s.port.send ∧ t.port.answers = s.port.answers ∧ EndedAdded s t tag cls := by
  obtain ⟨hnone, hne⟩ := s.undrive.freeTake_takeCtx k
  have hended := (s.undrive.freeTake k).addEnded_spec tag cls
  obtain ⟨l, hl⟩ := (s.undrive.freeTake k).addEnded_rest tag cls
  obtain ⟨x, d, hfree, hdriven⟩ := s.undrive.freeTake_keeps k
  rw [hfree] at hl hended hnone hne ⊢
  generalize State.addEnded _ tag cls = u at *
  have hgo : LetsGo u.endTenure := State.endTenure_letsGo (by rw [hl]; exact hdriven rfl)
  obtain ⟨_, e⟩ := u.endTenure_keeps
  refine ⟨hgo, ?_⟩
  simp only [e]
  subst hl
  exact ⟨rfl, hnone, hne, rfl, rfl, hended⟩

/-! ### A frame that its source has dropped (R79, log 12) -/

/-- The report of a dropped frame ends the tenure and nothing more. -/
theorem exec_sent_dropped {c : Instr} (hd : Drives s d) (hl : d.live = false)
    (h : c = .offerSent ∧ d.frame.isOffer = true ∨ c = .claimSent ∧ d.frame.isClaim = true ∨
      c = .textSent ∧ d.frame.isText = true ∨ c = .closeSent ∧ d.frame.isClose = true ∨
      c = .takerAnswerSent ∧ d.frame.isAnswer = true ∧ d.source.isTake = true ∨
      c = .answerSent ∧ d.frame.isAnswer = true ∧ d.source.isAnswer = true ∨
      c = .restartSent ∧ d.frame.isRestart = true) : exec c s = .next s.undrive.endTenure := by
  obtain ⟨source, frame, byRound, live⟩ := d
  cases hl
  rcases h with ⟨rfl, hf⟩ | ⟨rfl, hf⟩ | ⟨rfl, hf⟩ | ⟨rfl, hf⟩ | ⟨rfl, hf, hsource⟩ | ⟨rfl, hf, hsource⟩ | ⟨rfl, hf⟩
  · show execOfferSent s = _
    rw [execOfferSent, State.driving_of_drives hd hf]
    cases source <;> rfl
  · show execClaimSent s = _
    rw [execClaimSent, State.driving_of_drives hd hf]
    cases source <;> rfl
  · show execTextSent s = _
    rw [execTextSent, State.driving_of_drives hd hf]
    cases source <;> rfl
  · show execCloseSent s = _
    rw [execCloseSent, State.driving_of_drives hd hf]
    cases source <;> rfl
  · show execTakerAnswerSent s = _
    rw [execTakerAnswerSent, State.driving_of_drives hd hf]
    cases source with
    | take j => rfl
    | _ => cases hsource
  · show execAnswerSent s = _
    rw [execAnswerSent, State.driving_of_drives hd hf]
    cases source with
    | answer tag reason => rfl
    | _ => cases hsource
  · show execRestartSent s = _
    rw [execRestartSent, State.driving_of_drives hd hf]
    rfl

end

/-- Settles O37: a send context told of its frame, the other reports one by one, and a dropped frame's report. -/
theorem sentFramesEndTheTenure : Obligations.SentFramesEndTheTenure := by
  refine ⟨fun s d k c hd hf hs hl hc => ?_, ⟨fun s d k c hd hf hs hl hc => ?_, fun s d k c hd hf hs hl hc => ?_,
    fun s d tag reason hd hf hs hl => ?_, fun s d hd hf hl => ?_⟩, fun s d c hd hl h => ?_⟩
  · have h := s.toldSend_told k (c := { c with pending := none, window := some 20, taken := none }) rfl
      (st := .offered) nofun
    exact ⟨_, exec_offerSent hd hf hs hl hc, h.letsGo, h.ctx, h.only.sends, h.only.take, h.answers, h.ended, h.copyIs,
      h.only.others, h.only.lines, h.only.router, h.only.sup, h.only.freeList, h.pool⟩
  · have h := s.toldSend_told k (c := { c with pending := none, receiptWait := some 500 }) rfl
      (st := .awaitReceipt) nofun
    exact ⟨_, exec_closeSent hd hf hs hl hc, h.letsGo, h.ctx, h.only.sends, h.only.take, h.copyIs, h.only.others,
      h.only.lines, h.only.router, h.only.sup⟩
  · exact ⟨_, exec_takerAnswerSent hd hf hs hl hc, s.answered_spec k c.tag c.cls⟩
  · refine ⟨_, exec_answerSent hd hf hs hl, State.endTenure_letsGo rfl, ?_⟩
    obtain ⟨_, e⟩ := (s.undrive.dropAnswer tag reason).endTenure_keeps
    rw [e]
    refine ⟨rfl, List.filter_congr fun a _ => ?_, rfl, rfl, rfl⟩
    simp
  · refine ⟨_, exec_restartSent hd hf hl, State.endTenure_letsGo rfl, ?_⟩
    obtain ⟨_, e⟩ := (s.undrive.modPort fun p => { p with restartPending := false }).endTenure_keeps
    rw [e]
    exact ⟨rfl, rfl, rfl, rfl, rfl, rfl⟩
  · refine ⟨_, exec_sent_dropped hd hl h, State.endTenure_letsGo rfl, ?_⟩
    obtain ⟨_, e⟩ := s.undrive.endTenure_keeps
    rw [e]
    exact ⟨rfl, rfl, rfl, rfl, rfl, rfl⟩

end Sys2Proof.Machine
end

section
namespace Sys2Proof.Machine

/-! ### A frame asked for in the context's own window (R83, R87, R110) -/

section
variable {s : State} {k : CtxIx} {c : Send}

/-- The card with a frame of kind `kind` pending in send context `k`, which holds `c` (R83). -/
def State.asking (s : State) (k : CtxIx) (c : Send) (kind : SendKind) : State :=
  { s with port := { s.port with
      send := s.port.send.set k (some { c with pending := some ⟨kind, s.port.stamp⟩ }), stamp := s.port.stamp + 1 } }

theorem State.asking_sendCtx (kind : SendKind) :
    (s.asking k c kind).sendCtx k = some { c with pending := some ⟨kind, s.port.stamp⟩ } :=
  s.setSend_sendCtx_same k _

theorem State.asking_sendCtx_ne {j : CtxIx} (h : j ≠ k) (kind : SendKind) :
    (s.asking k c kind).sendCtx j = s.sendCtx j :=
  s.setSend_sendCtx_ne k j _ h

theorem State.deaden_of_idle (h : s.port.driven = none) (source : FrameSource) : s.deaden source = s := by
  have hport : { s.port with driven := none } = s.port := by rw [← h]
  simp only [State.deaden, State.modPort, h, Option.map_none, hport]

/-- In its own window a context's frame goes at once where the window allows it (R87). -/
theorem State.askSend_of_window (hd : s.port.driven = none) (ht : s.port.tenure = .window k) (hc : s.sendCtx k = some c)
    (kind : SendKind) : s.askSend k kind =
      if s.windowAllows kind then (s.asking k c kind).drive (.send k) false else s.asking k c kind := by
  have hasked : ((s.deaden (.send k)).modSend k fun c =>
      { c with pending := some ⟨kind, s.port.stamp⟩ }).nextStamp = s.asking k c kind := by
    rw [State.deaden_of_idle hd, State.modSend, hc]
    rfl
  have hin : (s.asking k c kind).inWindow k = true := decide_eq_true ht
  have hrefresh : (s.asking k c kind).refreshTenure = s.asking k c kind := by
    have htenure : (s.asking k c kind).port.tenure = .window k := ht
    simp [State.refreshTenure, htenure]
  have hallows : (s.asking k c kind).windowAllows kind = s.windowAllows kind := by cases kind <;> rfl
  simp only [State.askSend, hasked, hrefresh, hin, hallows, Bool.true_and]

theorem State.asking_drive (kind : SendKind) : (s.asking k c kind).drive (.send k) false =
    (s.asking k c kind).modPort fun p =>
      { p with tenure := .sending, driven := some ⟨.send k, s.composeSend c kind, false, true⟩ } := by
  have hcompose : (s.asking k c kind).compose (.send k) = some (s.composeSend c kind) := by
    rw [State.compose, State.asking_sendCtx]
    cases kind <;> rfl
  simp only [State.drive, hcompose]

/-- What a context looks for (R110): the next TEXT, the CLOSE, or nothing yet. -/
theorem State.lookNext_of_streaming (hc : s.sendCtx k = some c) (hp : c.pending = none)
    (hs : (s.copy c.copy).state = .streaming) : s.lookNext k =
      if blockReady (s.record c.copy.record) c.blocksSent then s.askSend k .text
      else if (s.record c.copy.record).complete && (s.record c.copy.record).count = c.charsSent then s.askSend k .close
      else s := by
  simp [State.lookNext, hc, hp, hs]

theorem blockReady_iff (r : Record) (n : Nat) :
    blockReady r n = true ↔ 64 * n + 64 ≤ r.count ∨ r.complete = true ∧ 64 * n < r.count := by
  rw [blockReady, Bool.or_eq_true, Bool.and_eq_true, decide_eq_true_iff, decide_eq_true_iff]
  rfl

end

/-! ### A TEXT driven to its end (R86, R87, R111) -/

/-- A send context after a TEXT of `n` characters (R111). -/
def Send.afterText (c : Send) (n : Nat) : Send :=
  { c with pending := none, blocksSent := c.blocksSent + 1, charsSent := c.charsSent + n }

/-- The card with the window of send context `k` open and nothing driven (R87, R111). -/
def State.windowOpened (s : State) (k : CtxIx) (c : Send) (burst : Nat) : State :=
  { s with port := { s.port with driven := none, send := s.port.send.set k (some c), tenure := .window k, burst := burst } }

/-- Only the port differs, in send context `k` and what it drives and holds, its burst count `burst`. -/
structure WindowOnly (k : CtxIx) (burst : Nat) (s t : State) : Prop where
  only : OnlyPort s t
  burst : t.port.burst = burst
  sends : ∀ j, j ≠ k → t.sendCtx j = s.sendCtx j
  take : t.port.take = s.port.take
  answers : t.port.answers = s.port.answers
  ended : t.port.ended = s.port.ended

section
variable {s : State} {d : Driven} {k : CtxIx} {c : Send} {burst : Nat}

theorem exec_textSent {tag : Tag} {seq : Nat} {chars : List Code} (hd : Drives s d) (hf : d.frame = .text tag seq chars)
    (hs : d.source = .send k) (hl : d.live = true) (hc : s.sendCtx k = some c) : exec .textSent s =
      .next ((s.windowOpened k (c.afterText chars.length) (if d.byRound then 1 else s.port.burst + 1)).lookNext k) := by
  have hdriving : s.driving Frame.isText = some d := State.driving_of_drives hd (by rw [hf]; rfl)
  have hheld : s.undrive.sendCtx k = some c := hc
  show execTextSent s = _
  simp only [execTextSent, hdriving, hs, hl, State.textReported, State.modSend, hheld, hf, Frame.carried,
    Option.map_some]
  rfl

theorem State.windowOpened_sendCtx : (s.windowOpened k c burst).sendCtx k = some c := s.setSend_sendCtx_same k _

theorem State.windowOpened_only : WindowOnly k burst s (s.windowOpened k c burst) :=
  ⟨rfl, rfl, fun j hj => s.setSend_sendCtx_ne k j _ hj, rfl, rfl, rfl⟩

theorem WindowOnly.asking {u : State} (h : WindowOnly k burst s u) (c : Send) (kind : SendKind) :
    WindowOnly k burst s (u.asking k c kind) :=
  ⟨by rw [OnlyPort, State.asking, h.only], h.burst, fun j hj => (State.asking_sendCtx_ne hj kind).trans (h.sends j hj),
    h.take, h.answers, h.ended⟩

theorem WindowOnly.drives {u : State} (h : WindowOnly k burst s u) (x : Tenure) (d : Option Driven) :
    WindowOnly k burst s (u.modPort fun p => { p with tenure := x, driven := d }) :=
  ⟨by rw [OnlyPort, State.modPort, h.only], h.burst, h.sends, h.take, h.answers, h.ended⟩

/-- The four ways a context goes on in its open window (R87, R110, R111). -/
theorem State.windowOpened_goesOn {u : State} (hu : u = s.windowOpened k c burst) (hp : c.pending = none)
    (hs : (s.copy c.copy).state = .streaming) :
    let r := s.record c.copy.record
    let done := r.complete = true ∧ r.count = c.charsSent
    (blockReady r c.blocksSent = true → burst < 8 →
      u.lookNext k = (u.asking k c .text).modPort fun p =>
        { p with tenure := .sending, driven := some ⟨.send k, s.composeSend c .text, false, true⟩ }) ∧
    (blockReady r c.blocksSent = true → 8 ≤ burst → u.lookNext k = u.asking k c .text) ∧
    (¬blockReady r c.blocksSent = true → done →
      u.lookNext k = (u.asking k c .close).modPort fun p =>
        { p with tenure := .sending, driven := some ⟨.send k, s.composeSend c .close, false, true⟩ }) ∧
    (¬blockReady r c.blocksSent = true → ¬done → u.lookNext k = u) := by
  have hc : u.sendCtx k = some c := by rw [hu]; exact State.windowOpened_sendCtx
  have hdriven : u.port.driven = none := by rw [hu]; rfl
  have htenure : u.port.tenure = .window k := by rw [hu]; rfl
  have hburst : u.windowAllows .text = decide (burst < 8) := by rw [hu]; rfl
  have hcopy : (u.copy c.copy).state = .streaming := by rw [hu]; exact hs
  have hrecord : u.record c.copy.record = s.record c.copy.record := by rw [hu]; rfl
  have hcompose : ∀ kind, u.composeSend c kind = s.composeSend c kind := fun kind => by rw [hu]; cases kind <;> rfl
  have hlook := State.lookNext_of_streaming hc hp hcopy
  have hask := State.askSend_of_window hdriven htenure hc
  rw [hrecord] at hlook
  refine ⟨fun hready hlow => ?_, fun hready hhigh => ?_, fun hready hdone => ?_, fun hready hdone => ?_⟩
  · rw [hlook, if_pos hready, hask, hburst, if_pos (decide_eq_true hlow), State.asking_drive, hcompose]
  · rw [hlook, if_pos hready, hask, hburst, if_neg (by simpa using hhigh)]
  · rw [hlook, if_neg hready, if_pos (by simpa using hdone), hask, State.asking_drive, hcompose]
    rfl
  · rw [hlook, if_neg hready, if_neg (by simpa using hdone)]

end

/-- Settles O39: the window opens, and the context goes on in it by whether a block is ready, the burst has room, or all
text is sent. -/
theorem textSentOpensTheContinuationWindow : Obligations.TextSentOpensTheContinuationWindow := by
  intro s d k c tag seq chars hd hf hsource hl hc hstreaming r burst next ready done after
  have hready : blockReady r next = true ↔ ready := blockReady_iff r next
  have hopen : WindowOnly k burst s (s.windowOpened k after burst) := State.windowOpened_only
  have hexec : exec .textSent s = .next ((s.windowOpened k after burst).lookNext k) := exec_textSent hd hf hsource hl hc
  obtain ⟨htext, hwaits, hclose, hstands⟩ :=
    State.windowOpened_goesOn (s := s) (k := k) (c := after) (burst := burst) rfl rfl hstreaming
  rw [hexec]
  refine ⟨_, rfl, ?_⟩
  by_cases hr : ready
  · by_cases hb : burst < 8
    · rw [htext (hready.mpr hr) hb]
      have h := (hopen.asking after .text).drives .sending (some ⟨.send k, s.composeSend after .text, false, true⟩)
      exact ⟨h.only, h.burst, h.sends, h.take, h.answers, h.ended,
        fun _ _ => ⟨rfl, State.asking_sendCtx .text, _, rfl, s.block_chars _ _ _⟩,
        fun _ hge => absurd hb (Nat.not_lt.mpr hge), fun hn => absurd hr hn, fun hn => absurd hr hn⟩
    · rw [hwaits (hready.mpr hr) (Nat.not_lt.mp hb)]
      have h := hopen.asking after .text
      exact ⟨h.only, h.burst, h.sends, h.take, h.answers, h.ended, fun _ hlt => absurd hlt hb,
        fun _ _ => ⟨rfl, rfl, State.asking_sendCtx .text⟩, fun hn => absurd hr hn, fun hn => absurd hr hn⟩
  · have hr' := mt hready.mp hr
    by_cases hdone : done
    · rw [hclose hr' hdone]
      have h := (hopen.asking after .close).drives .sending (some ⟨.send k, s.composeSend after .close, false, true⟩)
      exact ⟨h.only, h.burst, h.sends, h.take, h.answers, h.ended, fun h => absurd h hr, fun h => absurd h hr,
        fun _ _ => ⟨rfl, State.asking_sendCtx .close, rfl⟩, fun _ hn => absurd hdone hn⟩
    · rw [hstands hr' hdone]
      exact ⟨hopen.only, hopen.burst, hopen.sends, hopen.take, hopen.answers, hopen.ended, fun h => absurd h hr,
        fun h => absurd h hr, fun _ h => absurd h hdone, fun _ _ => ⟨rfl, rfl, State.windowOpened_sendCtx⟩⟩

end Sys2Proof.Machine
end
